-- ==== Sys2Proof/Word.lean ====
section
/-! DEFINITION. The byte and word types of the device (R9). -/
namespace Sys2Proof

/-- One byte. -/
abbrev Byte := BitVec 8

/-- A 64-bit word of a Nirah core (R380). -/
abbrev Word := BitVec 64

end Sys2Proof
end

