-- ==== Sys2Proof/Syntax.lean ====
section
/-! DEFINITION. The block's commands: one constructor per row of spec/opcode_table.json, in the table's order, with the
operands that say what the command brings with it (log entry 6: DESIGN CHOICE, safe). -/
namespace Sys2Proof
/-- A session of the Bureau (R68). -/
inductive Sess where
  /-- The admin queue of function n. -/
  | admin (n : Nat)
  /-- Xehibor association a, 0 to 15. -/
  | xeh (a : Nat)
  /-- The MCTP endpoint. -/
  | mctp
  deriving DecidableEq, Repr

/-- An object record of a request (R81): index × 256 + subindex, first instance, flags, count, VALUE_LENGTH and the value's
bytes as a little-endian number. -/
structure ObjRec where
  oid : Nat
  inst : Nat
  run : Bool
  staged : Bool
  desc : Bool
  count : Nat
  len : Nat
  value : Nat
  deriving DecidableEq, Repr

/-- A range of pages of 4,096 bytes that an ATS Invalidate Request names to a function (R239). -/
structure PageRange where
  fn : Nat
  page : Nat
  pages : Nat
  deriving DecidableEq, Repr

/-- What a Dataset Management command brings (R312): the SGL descriptors of its segments, and the ranges, as start and length in blocks. -/
structure DsmData where
  list : List Nat
  ranges : List (Nat × Nat)
  deriving DecidableEq, Repr

/-- A register of a function's configuration space (R227, R229, R234, R237 to R241, R248, R249). -/
inductive CfgReg where
  | vendorDevice | classCode | interruptPin | command | bar0 | bar2
  | devCtl | devCtl2 | devCtl3 | linkCtl | l1ssCtl | pmcsr | msixCtl | sriovCtl | totalVfs
  | aerUncorrectable | aerCorrectable | aerMask | aerSeverity | aerCorMask | aerControl | devStatus
  /-- A dword of the AER Header Log. -/
  | aerHeader (i : Nat)
  | atsCtl | atsCap | serialLow | serialHigh
  | ciLength | ciRomOffset | ciAddr | ciData | ciGeneration
  /-- The header of the capability, or of the extended capability, with an identifier: 0 where the function has none (R227). -/
  | capability (id : Nat) | extCapability (id : Nat)
  | devCap | devCap2 | linkCap | pmCap | l1ssCap | ariCap | rtrReset | rtrFlr
  | dvsecHeader1 | dvsecHeader2 | vfBar0 | supportedPages | systemPage | expansionRom
  deriving DecidableEq, Repr

/-- An operation on a backend, as its completion names it (R312 to R315, R318, R325): piece j of the command with fetch number m of
controller c and queue q, on its secondary or its primary side; a command's flush; the device's own intent write of block k of namespace
i; the read of that block; the copy of an extent; or the flush of a shutdown of controller c. -/
inductive BkOp where
  | piece (c q m j : Nat) (sec : Bool)
  | flush (c q m : Nat)
  | intent (i k : Nat)
  | bitmap (i k : Nat)
  | copy (slot : Nat)
  | shutdown (c : Nat)
  deriving DecidableEq, Repr


/-- The kind of trust anchor that validated a client certificate (R64, R421). -/
inductive Anchor where
  | owner | witness | debug
  deriving DecidableEq, Repr

/-- A mirror message (R430 to R433, R442): what the peer sends; queues are named by their function n and number Q on the receiver. -/
inductive MirrorMsg where
  /-- CREATE_QUEUE: the shadow queue's context in the layout of *Queue context*. -/
  | create (n Q ctx : Nat)
  | destroy (n Q : Nat)
  /-- A completion entry at index w - 1 of completion queue Q, and X of work queue k. -/
  | entry (n Q w word k x : Nat)
  | producer (n Q v : Nat)
  | release (n Q v : Nat)
  | intent (id ns slba blocks : Nat)
  | retire (id : Nat)
  | intentBits (i k : Nat) (sets clears : List Nat)
  /-- INSERT, DELETE or FLUSH_BY_PORT as a command record, a learn, a move, or a removal by the sweep. -/
  | command (rec : Nat)
  | learn (t key b : Nat)
  | move (t key b : Nat)
  | remove (t key : Nat) (aged : Bool)
  /-- Counters and policer counters: object, instance and value; a function's and a queue's are named by the receiver's number and key. -/
  | counters (vals : List (Nat × Nat × Nat))
  | stamp (t key stamp : Nat)
  /-- The bulk copy of an entry of table t, in its own format (R156). -/
  | item (t word : Nat)
  /-- The bulk copy's progress: bytes still to be copied. -/
  | bulk (remaining : Nat)
  deriving DecidableEq, Repr
/-- The commands. -/
inductive Instr where
  /-- TICK_EDGE (R24): The tick generator's edge opens a new tick and runs the edge work in the fixed order of steps 1 to 6. -/
  | tickEdge (stepwise : Bool)
  /-- SNAPSHOT (R22): At an edge where t mod SNAPSHOT_INTERVAL is 0, a copy of the device's counters and histograms is frozen. -/
  | snapshot
  /-- BUREAU_COMMIT_APPLY (R26): At the first edge after acceptance, each accepted transaction is applied whole, in acceptance order, with the commit-edge checks and clamp logging. -/
  | bureauCommitApply
  /-- RW_WRITE_APPLY (R63): An accepted RW object write is applied alone at the next edge, as a one-object commit. -/
  | rwWriteApply
  /-- TABLE_COMMIT_APPLY (R166): At step 2 of an edge, after the Bureau commits, up to 256 accepted exact-match inserts, deletes, flushes, learns and moves are applied in acceptance order. -/
  | tableCommitApply
  /-- SHAPER_CREDIT (R206): At step 4 of each edge, every shaped node gains INC credit up to its cap, and its eligibility is decided. -/
  | shaperCredit
  /-- CALENDAR_SLOT_OPEN (R208): Fine calendar slot T opens at edge T and makes the nodes entered in it eligible. -/
  | calendarSlotOpen
  /-- COARSE_SLOT_EMPTY (R208): At an edge with e mod 4,096 = 0, the coarse slot for the block is emptied into the fine wheel. -/
  | coarseSlotEmpty
  /-- POLICER_TOKENS (R214): At step 4 of each edge, every policer adds tokens to its buckets up to their sizes. -/
  | policerTokens
  /-- WORK_STEAL (R47): At step 5 of an edge, each idle in-service drawer steals up to STEAL_MAX stealable parcels from one victim. -/
  | workSteal
  /-- LATENCY_SAMPLE (R217): At step 6 of an edge, the sampler visits 512 leaves and updates their depth, sojourn and histogram statistics. -/
  | latencySample
  /-- LEASE_CHECK (R436): The lease check at step 3 of an edge finds the lease expired at edge d, and an active device then fences itself. -/
  | leaseCheck
  /-- DEVREF_LOSS (R16): When DEVREF stops or leaves tolerance, the device detects it within 10 µs, enters holdover and logs a clock fault. -/
  | devrefLoss
  /-- DEVREF_RELOCK (R16): When DEVREF returns within tolerance, the PLL relocks by changing frequency only, and the recovery is recorded. -/
  | devrefRelock (done : Bool)
  /-- SELFCHECK (R54): At every edge with t mod SELFCHECK_INTERVAL = 0, the engines, cores and crossbars run their self-checks. -/
  | selfcheck (drawers : List Nat) (cabinets : List Nat) (hub : Bool)
  /-- MONITOR_WATCHDOG (R54): The expiry of a drawer monitor watchdog causes the drawer to be fenced with cause 0x03. -/
  | monitorWatchdog (d : Nat)
  /-- DRAWER_FENCE (R55): At step 1 of the fencing edge, a drawer stops, its buckets are reassigned, its waiting parcels are moved and its in-flight parcels are reissued or dropped. -/
  | drawerFence (d : Nat) (storeError : Bool)
  /-- FRAME_WRITE_START (R187): Once its first 256 bytes or its whole frame have arrived, an Ethernet port allocates buffers and starts writing the frame. -/
  | frameWriteStart (p : Nat) (length : Nat) (head : List Nat) (cap : Nat)
  /-- FRAME_END (R187): The tail of a received frame arrives: unused reservations return, the FCS is checked and the frame is completed. -/
  | frameEnd (p : Nat) (tail : List Nat) (fcsOk : Bool)
  /-- PARCEL_CREATE (R39): A thread writes a 64-byte parcel to the parcel queue port, and the hub checks it and admits it to its home drawer's queue. -/
  | parcelCreate (h : Nat) (w : Nat)
  /-- ADMISSION_HOLD_RELEASE (R42): A parcel held at admission for drawer-queue room enters the queue when room appears. -/
  | admissionHoldRelease (d : Nat)
  /-- WINDOW_STALL_RELEASE (R50): A parcel held for its group's window is admitted in the tick in which retirement makes room. -/
  | windowStallRelease (g : Nat)
  /-- SORTER_TAKE (R41): A sorter context takes the next parcel of kind 0x01 or 0x02 and parses, classifies, looks up and applies its actions. -/
  | sorterTake (d : Nat) (k : Nat)
  /-- PARSE_EXTEND_RESUME (R120): A walker parked for header bytes 256 to 511 resumes once those bytes have arrived or the frame has ended. -/
  | parseExtendResume (d : Nat) (k : Nat) (more : List Nat)
  /-- GDDR6_LOOKUP_RETURN (R162): A lookup or probe parked on a GDDR6 read resumes when the data returns.
  `err`: a line read with an error (R449, R456): its kind (1 corrected, 3 MAC failure, else uncorrectable) and its address. -/
  | gddr6LookupReturn (d : Nat) (k : Nat) (err : Option (Nat × Nat))
  /-- LOOKUP_TIMEOUT (R43): A sorter lookup outstanding for 2,048 cycles ends the parcel as a drop with reason 0x02. -/
  | lookupTimeout (d : Nat) (k : Nat)
  /-- PATTERN_SCAN (R147): The drawer's pattern matcher scans the parcel's payload window with the named set and produces the pattern result. -/
  | patternScan (d : Nat) (k : Nat) (miss : Option Nat)
  /-- MATCHER_CACHE_MISS_RETURN (R148): A scan context parked on an automaton line missing from the cabinet cache resumes when the line arrives.
  `err`: a line read with an error (R449, R456): its kind (1 corrected, 3 MAC failure, else uncorrectable) and its address. -/
  | matcherCacheMissReturn (d : Nat) (k : Nat) (err : Option (Nat × Nat))
  /-- MATCHER_SUSPEND (R43): At an edge, the matcher stops at a byte boundary, saves its position and resumes the same parcel or a lower-class one. -/
  | matcherSuspend (d : Nat) (k : Nat) (n : Nat)
  /-- DMA_MOVER_RESUME (R43): A mover that moved 16 KiB in a tick takes, at the next edge, the waiting transfer of lowest class. -/
  | dmaMoverResume (d : Nat)
  /-- PARCEL_FINISH (R51): An engine finishes a parcel at the pigeonhole rack, which retires it in ticket order or holds it in a pigeonhole. -/
  | parcelFinish (e : Nat)
  /-- THREAD_OVERRUN_TRAP (R44): A thread still holding a parcel at edge t + 2 gets its OVERDUE bit set and the overrun interrupt. -/
  | threadOverrunTrap (h : Nat) (k : Nat)
  /-- OVERRUN_DROP (R44): A thread still holding the parcel at edge t + 3 has it retired as a drop with reason 0x03 and status 0x11. -/
  | overrunDrop (h : Nat) (k : Nat)
  /-- DEQUEUE (R202): The scheduler selects an eligible leaf through strict priority and deficit round robin, dequeues its head frame and charges the shapers. -/
  | dequeue (P : Nat)
  /-- TRANSMIT_COMPLETE (R190): After a frame's last byte leaves the port or is written to the host, the egress holder frees or detaches its chain. -/
  | transmitComplete (P : Nat) (cap : Nat)
  /-- ALLOC (R185): An owner asks for a buffer chain of a given length, and the manager serves it from the fitting shelf within the reserve floor or fails it. -/
  | alloc (owner : Nat) (length : Nat)
  /-- FREE (R191): The last owner frees a chain, which returns to free or becomes DEFERRED while shares remain. -/
  | freeChain (owner : Nat) (handle : Nat)
  /-- SHARE (R191): The last owner adds n shares to a chain. -/
  | shareChain (owner : Nat) (handle : Nat) (n : Nat)
  /-- DETACH (R191): An other owner gives up one share, returning a DEFERRED chain to free on the last share. -/
  | detach (owner : Nat) (handle : Nat)
  /-- HANDOVER (R191): The last owner passes last ownership of a chain to a named valid owner. -/
  | handover (owner : Nat) (handle : Nat) (newOwner : Nat)
  /-- TRAINING_COMPLETE (R97): A port's auto-negotiation and link training complete, and the port goes on to ALIGNING. -/
  | trainingComplete (p : Nat)
  /-- TRAINING_FAILURE (R96): Training fails or times out, and the port stays in TRAINING and notifies AN_FAILED once per run. -/
  | trainingFailure (p : Nat)
  /-- LINK_RETRY (R97): After LINK_RETRY the port retries training. -/
  | linkRetry (p : Nat)
  /-- ALIGN_LOCK (R97): Block, alignment-marker and FEC lock are found on every lane of the port. -/
  | alignLock (p : Nat) (order : List Nat)
  /-- LINK_UP (R97): Lock held for LINK_UP_HOLD brings the port to UP at an edge and notifies LINK_UP. -/
  | linkUp (p : Nat)
  /-- ALIGN_TIMEOUT (R97): With no lock on some lane within 98,304 ticks, the port notifies LANE_FAULT and returns to TRAINING or ALIGNING. -/
  | alignTimeout (p : Nat) (mask : Nat)
  /-- LOCK_LOSS (R97): Loss of lock, or a local or remote fault, is detected on an UP port. -/
  | lockLoss (p : Nat) (lanes : List Nat)
  /-- LINK_DOWN (R97): A loss lasting LINK_DOWN_HOLD takes the port out of UP at an edge and notifies LINK_DOWN. -/
  | linkDown (p : Nat)
  /-- POLARITY_RETRY (R99): After 4,096 ticks without block lock, a receive lane tries the inverted polarity. -/
  | polarityRetry (l : Nat)
  /-- FEC_DEGRADE (R94): Corrected codewords over an age-quantum window exceed FEC_DEGRADE_THRESHOLD, and the port notifies once per window. -/
  | fecDegrade (p : Nat) (corrected : Nat) (uncorrected : Nat)
  /-- PAUSE_RECEIVE (R104): A received pause or PFC frame stops new frames of the paused priorities and starts the pause timer. -/
  | pauseReceive (p : Nat) (mask : Nat) (quanta : List Nat)
  /-- PAUSE_EXPIRE (R104): A pause timer runs out, and the priority's class groups become selectable again from the next edge. -/
  | pauseExpire (p : Nat) (q : Nat)
  /-- XOFF_RESEND (R103): Each time half the quanta have elapsed while a cause holds, XOFF is sent again. -/
  | xoffResend (p : Nat) (q : Nat)
  /-- PFC_STORM (R105): A priority paused for PFC_WATCHDOG ticks enters storm state, and received pause on it is ignored. -/
  | pfcStorm (p : Nat) (q : Nat)
  /-- PFC_STORM_END (R105): With no pause received for PFC_WATCHDOG ticks, the port leaves storm state for the priority. -/
  | pfcStormEnd (p : Nat) (q : Nat)
  /-- MGMT_FRAME_RECEIVE (R108): The management port receives a frame and handles DTLS, ARP, neighbour discovery or echo, or drops the excess. -/
  | mgmtFrameReceive (data : List Nat)
  /-- VERIFY_DONE (R145): Within 2 ms the pattern-bank check ends, setting BANK_STATE to LOADED or BAD. -/
  | verifyDone (S : Nat) (b : Nat)
  /-- BANK_DRAIN_DONE (R146): A DRAINING pattern bank becomes LOADED once every scan begun on it has ended. -/
  | bankDrainDone (S : Nat) (b : Nat)
  /-- SEARCH (R166): An exact-match SEARCH reads the table as it stands and returns the entry found. -/
  | search (h : Nat) (rec : Nat)
  /-- INSERT (R167): An exact-match INSERT is accepted for the next edge, where it is written into a free or stale slot of a candidate bucket. -/
  | insert (h : Nat) (rec : Nat)
  /-- DELETE (R166): An exact-match DELETE is accepted for the next edge, where it removes the entry of the key. -/
  | delete (h : Nat) (rec : Nat)
  /-- NEXT (R168): NEXT walks up to 64 buckets from its cursor and returns valid, current entries and the next cursor. -/
  | nextEntry (h : Nat) (rec : Nat)
  /-- FLUSH_BY_PORT (R171): FLUSH_BY_PORT is accepted for the next edge, where it increments the bridge port's generations so that its entries stop matching. -/
  | flushByPort (h : Nat) (rec : Nat)
  /-- SWEEP (R174): Each tick the sweep visits at least 128 buckets, removing stale entries, refreshing stamps and ageing out entries. -/
  | sweep
  /-- XEHIBOR_HANDSHAKE (R83): A DTLS 1.3 handshake with a cookie exchange and mutual authentication opens an association with the principal of its trust anchor. -/
  | xehiborHandshake (a : Nat) (anchor : Anchor)
  /-- ASSOCIATION_CLOSE (R83): An association with no record for 60 s is closed, and its open transaction is discarded. -/
  | associationClose (a : Nat) (alert : Bool)
  /-- READ (R81): A Xehibor or MCTP READ returns values, staged values or descriptors for its records. -/
  | readReq (sess : Sess) (ver : Nat) (seq : Nat) (count : Nat) (body : List Nat)
  /-- WRITE (R74): A Xehibor or MCTP WRITE checks each record and stages it, clamps it or refuses it, opening a transaction if needed. -/
  | writeReq (sess : Sess) (ver : Nat) (seq : Nat) (count : Nat) (body : List Nat)
  /-- COMMIT (R70): A Xehibor or MCTP COMMIT names the open transaction, which is accepted for application at the next edge. -/
  | commitTxn (sess : Sess) (ver : Nat) (seq : Nat) (txn : Nat)
  /-- ABORT_TXN (R70): ABORT_TXN discards the named open transaction. -/
  | abortTxn (sess : Sess) (ver : Nat) (seq : Nat) (txn : Nat)
  /-- TXN_IDLE_TIMEOUT (R73): An open transaction with no WRITE or COMMIT for TXN_IDLE_TIMEOUT is discarded. -/
  | txnIdleTimeout (sess : Sess)
  /-- NOTIFY_ACK (R86): The receiver acknowledges a NOTIFY by its sequence, which removes it from the queue. -/
  | notifyAck (sess : Sess) (seq : Nat)
  /-- NOTIFY_RESEND (R86): An unacknowledged NOTIFY is resent every 10 ms, up to five times. -/
  | notifyResend (sess : Sess) (seq : Nat)
  /-- STORE_SAVE_DONE (R79): The save's seal is written last and STORE_STATE reads DONE. -/
  | storeSaveDone
  /-- PERST_ASSERT (R229): Assertion of PERSTh_N causes a host-link reset of the pair's upstream link. -/
  | perstAssert (h : Nat)
  /-- PERST_RELEASE (R229): Release of PERSTh_N with the reference present starts receiver detection and training. -/
  | perstRelease (h : Nat)
  /-- HOT_RESET (R229): Receipt of a hot reset causes a host-link reset. -/
  | hotReset (k : Nat)
  /-- DL_DOWN (R229): DL_Down on a link causes a host-link reset. -/
  | dlDown (k : Nat)
  /-- HOST_LINK_RESET (R229): At the first edge after the cause, every function of the link is reset, its egress port is flushed and its chains and transactions are released. -/
  | hostLinkReset (k : Nat)
  /-- DL_ACTIVE (R229): DL_Active moves the link to NOT_READY, where configuration requests get Request Retry Status. -/
  | dlActive (k : Nat) (status : Nat)
  /-- LINK_TRAINING_TIMEOUT (R229): With no DL_Active within 196,608 ticks, TRAIN_FAILS increments and training restarts. -/
  | linkTrainingTimeout (k : Nat)
  /-- FUNCTIONS_READY (R230): When the functions are ready, the link sends Device Readiness Status and enters ACTIVE. -/
  | functionsReady (k : Nat)
  /-- VF_READY (R230): Within 10 ms of VF Enable, the VFs are ready and send Function Readiness Status. -/
  | vfReady (n : Nat)
  /-- CONFIG_REQUEST (R230): A configuration request is served, or answered with Request Retry Status while the link or function is not ready. -/
  | configRequest (n : Nat) (reg : CfgReg) (wr : Option Nat)
  /-- BME_SET (R247): Setting Bus Master Enable moves a DISABLED function to ENABLED. -/
  | bmeSet (n : Nat)
  /-- BME_CLEAR (R245): Clearing Bus Master Enable stops the function's requests within 1 µs, discards pending writes, cancels reads and stops its queues. -/
  | bmeClear (n : Nat)
  /-- INITIATE_FLR (R246): Initiate FLR stops the function's requests within 1 µs and starts wiping its state. -/
  | initiateFlr (n : Nat)
  /-- FLR_COMPLETE (R246): Within 25 ms the function's wipe ends, and it leaves RESETTING for DISABLED. -/
  | flrComplete (n : Nat)
  /-- VF_ENABLE_SET (R230): Setting VF Enable brings the PF's VFs into being. -/
  | vfEnableSet (n : Nat)
  /-- VF_ENABLE_CLEAR (R290): Clearing VF Enable aborts unquiesced VFs, logs them, and makes every VF of the PF ABSENT within 5 ms. -/
  | vfEnableClear (n : Nat)
  /-- D_STATE_CHANGE (R248): A function enters D0, D3hot or D3cold, stopping or resuming its fetches and interrupts. -/
  | dStateChange (n : Nat) (d : Nat)
  /-- ATS_INVALIDATE (R239): An ATS invalidation request is honoured, and the Invalidation Completion is sent within 100 µs. -/
  | atsInvalidate (r : PageRange)
  /-- COMPLETION_TLP (R243): A completion arrives and is matched to its outstanding tag, discarded for a quarantined tag, or reported as unexpected. -/
  | completionTlp (k : Nat) (tag : Nat) (bytes : Nat) (status : Nat) (data : List Nat)
  /-- COMPLETION_TIMEOUT (R242): A request still lacking data at edge t + T is reported in AER, its job completes with 0x11 and its tag is quarantined. -/
  | completionTimeout (k : Nat) (tag : Nat)
  /-- TAG_QUARANTINE_END (R244): At edge 2T after the timeout or cancellation, a quarantined tag returns to the pool. -/
  | tagQuarantineEnd (k : Nat) (tag : Nat)
  /-- WAKE_EVENT (R250): An MCTP request or a matching management-port frame asserts WAKEh_N on the pairs selected in WAKE_PAIRS. -/
  | wakeEvent (frame : Option (List Nat))
  /-- CI_DATA_READ (R234): A read of CI_DATA returns four Card Index bytes at CI_ADDR and advances CI_ADDR by 4. -/
  | ciDataRead (n : Nat)
  /-- REGISTER_WRITE (R233): A write to a BAR register without behaviour of its own is applied, or discarded and counted in BAR_ERRORS. -/
  | registerWrite (n : Nat) (bar : Nat) (off : Nat) (size : Nat) (wr : Option Nat)
  /-- DOORBELL_VALUE (R258): A value doorbell sets a work queue's producer, or a completion queue's release value, or freezes the queue on an overrun. -/
  | doorbellValue (n : Nat) (page : Nat) (w : Nat)
  /-- DOORBELL_REFRESH (R260): A refresh doorbell reads SW_INDEX from the index block and applies it as a producer value. -/
  | doorbellRefresh (n : Nat) (page : Nat) (w : Nat)
  /-- DOORBELL_RELEASE_ARM (R267): A release-and-arm doorbell applies the release value and rearms the completion queue. -/
  | doorbellReleaseArm (n : Nat) (page : Nat) (w : Nat)
  /-- SEND_JOB (R262): A SEND descriptor becomes one parcel, or LSO segments, of kind 0x02 with the queue's class. -/
  | sendJob (n : Nat) (Q : Nat) (desc : Option Nat) (err : Nat) (frags : Option (List Nat))
  /-- RECEIVE_DESCRIPTOR (R264): A RECEIVE descriptor offers a buffer, which frames dequeued from the queue's leaf then fill. -/
  | receiveDescriptor (n : Nat) (Q : Nat) (desc : Option Nat) (err : Nat)
  /-- COMPLETION_POST (R266): A completion entry is written, in descriptor order once the completion queue has room, and any MSI-X follows. -/
  | completionPost (n : Nat) (Q : Nat)
  /-- HW_INDEX_WRITE (R259): At the first edge after C or W changes, the device writes HW_INDEX to the index block. -/
  | hwIndexWrite (n : Nat) (Q : Nat)
  /-- DIRTY_MARK (R296): After a tick's writes to a page, the page's mark byte is written to 0x01. -/
  | dirtyMark (n : Nat)
  /-- ADMIN_ENABLE (R269): A write of ENABLE = 1 brings the admin queues to READY at the next edge, or fails with ERROR. -/
  | adminEnable (n : Nat)
  /-- ADMIN_DISABLE (R269): A write of ENABLE = 0 makes both admin queues ABSENT. -/
  | adminDisable (n : Nat)
  /-- CREATE_QUEUE (R272): CREATE_QUEUE checks its fields and limits and creates the queue at the next edge. -/
  | createQueue (n : Nat) (desc : Nat)
  /-- DESTROY_QUEUE (R270): DESTROY_QUEUE stops fetching, finishes or aborts the queue's jobs and makes it ABSENT. -/
  | destroyQueue (n : Nat) (desc : Nat)
  /-- QUEUE_RESET (R270): QUEUE_RESET stops fetching, finishes or aborts the queue's jobs, zeroes its indices and makes it READY. -/
  | queueReset (n : Nat) (desc : Nat)
  /-- BUREAU_READ (R273): The admin command reads object records from its input buffer and writes responses to its output buffer. -/
  | bureauRead (n : Nat) (desc : Nat) (input : Option (List Nat))
  /-- BUREAU_WRITE (R273): The admin command stages the object records of its input buffer and reports each record's status. -/
  | bureauWrite (n : Nat) (desc : Nat) (input : Option (List Nat))
  /-- BUREAU_COMMIT (R273): The admin command commits, or with DISCARD discards, the session's open transaction. -/
  | bureauCommit (n : Nat) (desc : Nat)
  /-- FUNCTION_ABORT (R247): A Manager's FUNCTION_ABORT starts completing the target's jobs with 0x11, cancelling its reads and resetting its queues. -/
  | functionAbort (n : Nat) (desc : Nat)
  /-- FUNCTION_ABORT_DONE (R247): Within 5 ms the abort's work is done, and the command completes to its issuer. -/
  | functionAbortDone (n : Nat)
  /-- ADMIN_INVALID_OPCODE (R270): An admin command with an unlisted opcode completes with 0x01. -/
  | adminInvalidOpcode (n : Nat) (desc : Nat)
  /-- QUIESCE_FUNCTION (R285): QUIESCE_FUNCTION stops the VF's fetches and job starts and blocks its receive leaves. -/
  | quiesceFunction (n : Nat) (desc : Nat)
  /-- QUIESCE_COMPLETE (R285): At the edge after no parcel of the VF remains in flight, the VF and its READY queues enter QUIESCED. -/
  | quiesceComplete (n : Nat)
  /-- QUIESCE_BOUND (R286): At 3,907 ticks after acceptance, unfinished jobs complete with 0x11 and the quiesce completes. -/
  | quiesceBound (n : Nat)
  /-- RESUME_FUNCTION (R287): RESUME_FUNCTION makes the VF's QUIESCED queues READY and applies the recorded doorbells. -/
  | resumeFunction (n : Nat) (desc : Nat)
  /-- FREEZE_STATE (R291): FREEZE_STATE copies the QUIESCED VF's state into a snapshot image. -/
  | freezeState (n : Nat) (desc : Nat)
  /-- SAVE_STATE (R292): SAVE_STATE writes image bytes from an offset into the output buffer.
  `err`: a line read with an error (R449, R456): its kind (1 corrected, 3 MAC failure, else uncorrectable) and its address. -/
  | saveState (n : Nat) (desc : Nat) (input : Option (List Nat)) (err : Option (Nat × Nat))
  /-- RESTORE_STATE (R293): RESTORE_STATE takes image bytes in order and checks the image once LENGTH bytes are held. -/
  | restoreState (n : Nat) (desc : Nat) (input : Option (List Nat))
  /-- RESTORE_IMAGE_APPLY (R293): A good image is applied at the next edge: queues, descriptors, interrupts, records and counters, then keys as learns. -/
  | restoreImageApply (n : Nat)
  /-- THAW_STATE (R294): THAW_STATE makes a RESTORED VF's queues READY, applies doorbells and refreshes, and enables the VF. -/
  | thawState (n : Nat) (desc : Nat)
  /-- LB_SEND (R281): A Letterbox control write sends n messages from the sender's SENT onward and raises LETTERBOX in the receiver. -/
  | lbSend (n : Nat) (w : Nat)
  /-- LB_ACK (R281): A Letterbox control write acknowledges m messages of the other direction. -/
  | lbAck (n : Nat) (w : Nat)
  /-- LB_TOKEN_REFILL (R282): At each edge with t mod LB_INTERVAL = 0, a VF gains one Letterbox send token. -/
  | lbTokenRefill (n : Nat)
  /-- NVME_SQ_DOORBELL (R302): An NVMe submission queue doorbell announces commands, or is ignored and reported if its value is illegal. -/
  | nvmeSqDoorbell (c : Nat) (q : Nat) (v : Nat)
  /-- NVME_CQ_DOORBELL (R302): An NVMe completion queue doorbell releases entries, or is ignored and reported if its value is illegal. -/
  | nvmeCqDoorbell (c : Nat) (q : Nat) (v : Nat)
  /-- NVME_COMMAND_FETCH (R303): Once the queue and device limits allow, a command is fetched and becomes a kind 0x03 parcel. -/
  | nvmeCommandFetch (c : Nat) (q : Nat) (sqe : Nat)
  /-- CREATE_IO_SQ (R303): The NVMe admin command creates an I/O submission queue. -/
  | createIoSq (c : Nat) (cid : Nat)
  /-- DELETE_IO_SQ (R322): The NVMe admin command deletes an I/O submission queue, waiting as THAW_SQ does if it is frozen. -/
  | deleteIoSq (c : Nat) (cid : Nat)
  /-- CREATE_IO_CQ (R303): The NVMe admin command creates an I/O completion queue. -/
  | createIoCq (c : Nat) (cid : Nat)
  /-- DELETE_IO_CQ (R303): The NVMe admin command deletes an I/O completion queue. -/
  | deleteIoCq (c : Nat) (cid : Nat)
  /-- GET_LOG_PAGE (R323): Get Log Page returns a supported log, including the freeze log 0xC1 of an SQ. -/
  | getLogPage (c : Nat) (cid : Nat) (list : Option (List Nat))
  /-- IDENTIFY (R301): Identify returns controller, namespace and namespace list data. -/
  | identify (c : Nat) (cid : Nat) (list : Option (List Nat))
  /-- ABORT (R319): Abort names an SQID and a CID, and the target receives exactly one completion with the outcome of the abort table. -/
  | abortCmd (c : Nat) (cid : Nat)
  /-- SET_FEATURES (R303): Set Features sets a supported feature; Number of Queues grants I/O queues from the pool. -/
  | setFeatures (c : Nat) (cid : Nat)
  /-- GET_FEATURES (R303): Get Features returns a supported feature's value. -/
  | getFeatures (c : Nat) (cid : Nat)
  /-- ASYNC_EVENT_REQUEST (R321): An Asynchronous Event Request is held until an error, notice or vendor event completes it. -/
  | asyncEventRequest (c : Nat) (cid : Nat)
  /-- NAMESPACE_MANAGEMENT (R306): Namespace Management creates a namespace over the lowest free run of extent slots, or deletes one. -/
  | namespaceManagement (c : Nat) (cid : Nat) (data : List Nat)
  /-- NAMESPACE_ATTACHMENT (R307): Namespace Attachment attaches or detaches a namespace to controllers of the PF's tree. -/
  | namespaceAttachment (c : Nat) (cid : Nat) (cntlids : List Nat)
  /-- THAW_SQ (R324): THAW_SQ moves a FROZEN SQ to THAWING. -/
  | thawSq (c : Nat) (cid : Nat)
  /-- THAW_SQ_COMPLETE (R322): When every pre-freeze command has completed and every logged piece has settled, the log clears and the SQ is READY. -/
  | thawSqComplete (c : Nat) (q : Nat)
  /-- NVME_INVALID_OPCODE (R304): An unsupported NVMe opcode completes with Invalid Command Opcode. -/
  | nvmeInvalidOpcode (c : Nat) (q : Nat) (cid : Nat)
  /-- FLUSH (R318): An NVMe Flush is issued to every volatile-cache backend of the namespace after earlier completed writes. -/
  | flushCmd (c : Nat) (q : Nat) (cid : Nat)
  /-- NVM_WRITE (R317): An NVMe Write fetches its data, waits for overlapping earlier commands and issues its pieces to the backends. -/
  | nvmWrite (c : Nat) (q : Nat) (cid : Nat) (list : Option (List Nat))
  /-- NVM_READ (R317): An NVMe Read waits for overlapping earlier writes and reads from the primary or volatile extent. -/
  | nvmRead (c : Nat) (q : Nat) (cid : Nat) (list : Option (List Nat))
  /-- WRITE_ZEROES (R312): Write Zeroes is issued as a write-class command to the mapped extents. -/
  | writeZeroes (c : Nat) (q : Nat) (cid : Nat)
  /-- DATASET_MANAGEMENT (R312): Dataset Management deallocates ranges as a write-class command. -/
  | datasetManagement (c : Nat) (q : Nat) (cid : Nat) (x : DsmData)
  /-- BACKEND_COMPLETION (R312): A backend completion returns as a kind 0x04 parcel, and the command or mirror outcome is decided. -/
  | backendCompletion (b : Nat) (op : BkOp) (status : Nat) (data : List Nat)
  /-- BACKEND_PATH_LOSS (R311): A lost backend path sets BK_STATE to LOST, is logged, and the device reconnects. -/
  | backendPathLoss (b : Nat)
  /-- BACKEND_LIVE (R310): A backend connects and reaches LIVE, or is found INCAPABLE on first reaching it. -/
  | backendLive (b : Nat) (dataBytes : Nat) (metaBytes : Nat) (blocks : Nat) (cache : Bool) (atomicBytes : Nat) (boundary : Nat)
  /-- KEEP_ALIVE (R310): Every KATO ÷ 2 the device sends Keep Alive to each remote backend. -/
  | keepAlive (b : Nat) (answered : Bool)
  /-- BACKEND_CMD_TIMEOUT (R311): A backend command outstanding for CMD_TIMEOUT counts as a lost path. -/
  | backendCmdTimeout (b : Nat)
  /-- HELD_COMMAND_TIMEOUT (R311): A command held for a lost backend for CMD_TIMEOUT completes with Internal Path Error. -/
  | heldCommandTimeout (c : Nat) (q : Nat) (cid : Nat)
  /-- PIECE_SETTLE (R320): At edge S an unknown piece settles, and waiting intersecting commands are released. -/
  | pieceSettle
  /-- SQ_FREEZE (R321): At the first edge after an unknown outcome, the SQ freezes, completes its commands with C0h or C1h and raises an event. -/
  | sqFreeze (c : Nat) (q : Nat)
  /-- RESYNC_START (R313): A SEC_STALE extent with both sides LIVE and nothing unsettled starts copying primary to secondary. -/
  | resyncStart (x : Nat)
  /-- RESYNC_DONE (R313): The 1 MiB copy ends, and the extent becomes IN_SYNC. -/
  | resyncDone (x : Nat) (good : Bool)
  /-- INTENT_CLEAR (R314): An extent IN_SYNC with no write for INTENT_LINGER has its intent bit cleared on the bitmap backend. -/
  | intentClear (x : Nat)
  /-- NS_DELETE_FREE (R306): A deleted namespace's extent slots are freed once no command to it is outstanding. -/
  | nsDeleteFree (k : Nat)
  /-- CONTROLLER_ENABLE (R301): CC.EN set to 1 enables an NVMe controller. -/
  | controllerEnable (c : Nat)
  /-- CONTROLLER_DISABLE (R325): CC.EN going to 0 stops fetching on every queue of the controller. -/
  | controllerDisable (c : Nat)
  /-- CONTROLLER_SHUTDOWN (R325): A CC.SHN write stops fetching and flushes every volatile-cache backend. -/
  | controllerShutdown (c : Nat)
  /-- CONTROLLER_DISABLE_DONE (R325): Once started commands end and unknown pieces settle, CSTS.RDY clears or CSTS.SHST reports completion. -/
  | controllerDisableDone (c : Nat)
  /-- RUN (R338): A thread's cipher job record runs an algorithm in place on a buffer chain and posts its result. -/
  | runCipher (h : Nat) (rec : Nat) (fin : Bool)
  /-- RELEASE (R339): A cipher RELEASE frees a message context slot without completing its message. -/
  | release (h : Nat) (rec : Nat)
  /-- CIPHER_PARCEL_JOB (R336): The slice transforms a MACsec, ESP or other SA parcel, then the parcel continues. -/
  | cipherParcelJob (d : Nat) (k : Nat) (fin : Bool)
  /-- CIPHER_SUSPEND (R346): At an edge with a lower-class job waiting, the slice suspends the running job at a block boundary. -/
  | cipherSuspend (d : Nat)
  /-- KEY_CACHE_MISS_RETURN (R350): A job parked on a key-cache miss resumes once the key record is read and unwrapped.
  `err`: a line read with an error (R449, R456): its kind (1 corrected, 3 MAC failure, else uncorrectable) and its address. -/
  | keyCacheMissReturn (d : Nat) (k : Nat) (err : Option (Nat × Nat))
  /-- RNG_WAIT_TIMEOUT (R335): A job that has waited 2,048 ticks for randomness is ended with 0x41. -/
  | rngWaitTimeout (d : Nat) (k : Nat)
  /-- DRBG_RESEED (R334): Each DRBG is reseeded from its cabinet's entropy source at least every RESEED_INTERVAL ticks. -/
  | drbgReseed (d : Nat)
  /-- RNG_FAULT (R334): A health-test failure of an entropy source stops due reseeds and sets RNG_STATE to FAULT. -/
  | rngFault (c : Nat)
  /-- RNG_RECOVER (R334): A failed source passes its start-up test, reseeding resumes and RNG_STATE returns to OK. -/
  | rngRecover (c : Nat)
  /-- ALARM_TRIP (R351): A sensor trip erases every key and context and puts every slice into ALARMED. -/
  | alarmTrip (d : Nat) (sensor : Nat) (value : Nat)
  /-- KAT_DONE (R352): A slice's known-answer tests end, and the slice becomes READY or its drawer is fenced. -/
  | katDone (d : Nat) (pass : Bool)
  /-- SET (R360): A SET correction is applied at its edge or refused, and the time base enters FREQ_ONLY. -/
  | setTime (h : Nat) (rec : Nat)
  /-- ADJ_FREQ (R361): An ADJ_FREQ correction replaces FREQ, clamped to ±1,000,000 ppb. -/
  | adjFreq (h : Nat) (rec : Nat)
  /-- ADJ_PHASE (R362): An ADJ_PHASE correction adds to the remaining slew, or is refused beyond JUMP_THRESHOLD. -/
  | adjPhase (h : Nat) (rec : Nat)
  /-- PPS_OUT_PULSE (R374): PPS_OUT rises PPS_OUT_DELAY before the time base's whole second and stays high for PPS_OUT_WIDTH. -/
  | ppsOutPulse (agree : Bool)
  /-- PPS_IN_EDGE (R375): A rising edge on PPS_IN is stamped on all eight time bases. -/
  | ppsInEdge (cap : Nat)
  /-- PPS_IN_LOST (R375): An active PPS_IN with no edge for 2 s clears PPS_STATUS bit 0 and notifies PPS_IN_LOST. -/
  | ppsInLost
  /-- REF10M_WINDOW (R377): At the end of each 2^21-tick window, REF10M_PPB reports DEVREF's offset against REF10M_IN. -/
  | ref10mWindow (edges : Nat)
  /-- REF10M_LOST (R377): With no REF10M_IN edge for 1 ms, REF10M_STATE reads ABSENT and REF10M_LOST is notified. -/
  | ref10mLost
  /-- ISA_INSTRUCTION (R380): A thread issues a base-ISA instruction of RV64IMAC, Zicsr, Zifencei, Zba or Zbb. -/
  | isaInstruction (h : Nat) (fetchErr : Nat) (err : Nat)
  /-- WAITEV (R387): WAITEV takes pending events of its mask, or waits for one or for an enabled interrupt. -/
  | waitev (h : Nat)
  /-- SIGEV (R388): SIGEV raises an event bit in a target thread. -/
  | sigev (h : Nat)
  /-- SIGEV_ARRIVE (R388): After the delay for its distance, the event bit becomes pending in the target and may wake its WAITEV. -/
  | sigevArrive (h : Nat) (target : Nat)
  /-- CHBIND (R390): CHBIND sets the destination of a local channel end. -/
  | chbind (h : Nat)
  /-- CHPUT (R391): CHPUT sends one data word, opening a message if none is open. -/
  | chput (h : Nat)
  /-- CHEND (R391): CHEND sends END and closes the end's open message. -/
  | chend (h : Nat)
  /-- CHGET (R392): CHGET takes a data token from the receive buffer, or faults on END or POISON. -/
  | chget (h : Nat)
  /-- CHTOK (R392): CHTOK reports the kind of the head token and consumes END or POISON. -/
  | chtok (h : Nat)
  /-- CHANNEL_TOKEN_ACCEPT (R391): The destination end accepts the token into its buffer, and the blocked sender completes. -/
  | channelTokenAccept (e : Nat)
  /-- CHANNEL_TIMEOUT (R393): A thread blocked in a channel instruction for NCHTMO counting edges takes channel fault reason 4. -/
  | channelTimeout (h : Nat)
  /-- INTERRUPT_TAKE (R389): An enabled pending interrupt is taken before the thread's next instruction. -/
  | interruptTake (h : Nat)
  /-- CORE_STALL (R399): At an edge closing a tick in which the core was stalled, the monitor logs it and wakes the STALL_WAKE thread. -/
  | coreStall (n : Nat)
  /-- TAKE (R396): A read of TAKE gives the thread the oldest waiting parcel of the lowest class, in a free slot. -/
  | takeParcel (h : Nat)
  /-- RETIRE (R396): A write of RETIRE finishes the slot's parcel with a disposition and frees the slot. -/
  | retire (h : Nat) (slot : Nat) (disp : Nat)
  /-- YIELD (R45): A write of YIELD returns the slot's parcel to the tail of its class FIFO with YIELDED = 1. -/
  | yieldSlot (h : Nat) (slot : Nat)
  /-- DEBUG_HALT (R401): The debug module halts a thread, abandoning any WAITEV or unaccepted channel instruction. -/
  | debugHalt (h : Nat)
  /-- DEBUG_RESUME (R401): A halted thread resumes from dpc. -/
  | debugResume (h : Nat)
  /-- NCHPOISON (R401): A debug write of NCHPOISON closes the end's open message with POISON. -/
  | nchpoison (h : Nat) (e : Nat)
  /-- CORE_RELEASE (R384): At the release edge, every core of every in-service drawer leaves reset and its threads start at RESET_VECTOR. -/
  | coreRelease (failed : List Nat)
  /-- VAUX_GOOD (R463): VAUX holds within its window for 1 ms, and the whole device starts with a cold reset. -/
  | vauxGood (straps : Nat) (vauxHigh : Bool)
  /-- VAUX_LOSS (R463): VAUX leaves its window, the whole device is held in reset and the retained registers clear. -/
  | vauxLoss
  /-- MAIN_DOMAIN_GOOD (R462): All five main rails have been good for 1 ms, and the main domain starts with a cold reset. -/
  | mainDomainGood
  /-- MAIN_RAIL_LOSS (R462): A main rail out of range for 2 µs resets the whole main domain at once. -/
  | mainRailLoss
  /-- RESET_N_ASSERT (R466): RESET_N held low for 1 µs holds the main domain in reset. -/
  | resetNAssert
  /-- RESET_N_RELEASE (R466): When RESET_N is released, the warm reset proceeds. -/
  | resetNRelease
  /-- DCLK_LOCK (R470): DCLK locks after the main domain becomes good, and the tick counter starts at zero. -/
  | dclkLock
  /-- SRAM_WIPE_DONE (R470): The on-chip SRAM wipe ends, and READINESS becomes BOOTING. -/
  | sramWipeDone (puf : Bool)
  /-- EARLY_SET_APPLY (R471): The ROM reads the configuration store and applies the early set, after which GDDR6 training starts. -/
  | earlySetApply
  /-- MEM_TRAINING_DONE (R451): GDDR6 training ends, and the wipe starts, or MEM_STATE becomes FAULT. -/
  | memTrainingDone (density : Nat) (vddq : Nat) (good : Bool) (ch : Nat)
  /-- MEM_WIPE_DONE (R452): The GDDR6 wipe ends, and MEM_STATE becomes READY. -/
  | memWipeDone
  /-- IMAGE_CHECK_DONE (R410): A slot's copy and seal check complete, leading to hand-over, the next slot, or FAULT. -/
  | imageCheckDone
  /-- CONFIG_LOADING (R470): Stage 1 installs the trust anchors and enters CONFIG_LOADING, and the management port becomes active. -/
  | configLoading
  /-- FULL_LOAD_DONE (R470): The full configuration store is applied, READY is entered at the next edge, and queue fetching starts. -/
  | fullLoadDone
  /-- BOOT_WATCHDOG (R413): With READY not reached within 4 s of core release, the slot is marked failed and a warm reset starts. -/
  | bootWatchdog
  /-- IMG_ERASE_DONE (R416): The slot erase ends, and IMG_STATE reads RECEIVING. -/
  | imgEraseDone
  /-- IMG_PROGRAM_DONE (R416): The install buffer is programmed to flash, and IMG_STATE leaves PROGRAMMING. -/
  | imgProgramDone
  /-- IMG_CHECK_DONE (R417): Within 200 ms the check ends, writing SEQUENCE and STATE = PENDING or reporting REJECTED. -/
  | imgCheckDone
  /-- LC_TRANSITION (R424): At the cold reset, the ROM rechecks the token, blows the fuses, wipes and derives the new DUK. -/
  | lcTransition
  /-- AVS_UPDATE (R464): At most once per 2,048 ticks from READY, the device moves the VDD_CORE set point by PMBus VOUT_COMMAND. -/
  | avsUpdate (target : Nat) (ack : Bool)
  /-- THROTTLE_UPDATE (R473): At most once per 2,048 ticks, the throttle level rises or falls with temperature and power. -/
  | throttleUpdate (temps : List Int) (power : Nat)
  /-- THERMAL_TRIP (R474): Tj reaching 115 °C asserts THERMTRIP_N, idles every transmitter and holds the main domain in reset. -/
  | thermalTrip
  /-- MEM_TEMP_READ (R457): Every 2,048 ticks each controller reads its devices' temperatures and sets its refresh and throttle band. -/
  | memTempRead (c : Nat) (t0 : Int) (t1 : Int)
  /-- PATROL_SCRUB (R450): The patrol scrub reads each usable line once per SCRUB_PERIOD and rewrites corrected lines. -/
  | patrolScrub (addr : Nat) (found : Nat)
  /-- TWIN_LINK_UP (R428): The twin link comes up, and identity records are exchanged and compared. -/
  | twinLinkUp
  /-- TWIN_IDENTITY_RECORD (R428): An identity record from the peer reports its role and LEASE_SEQ, which may end a switch-over or fence a lower lease. -/
  | twinIdentityRecord (serial : Nat) (part : Nat) (pair : Nat) (role : Nat) (seq : Nat) (digest : Nat)
  /-- MIRROR_MESSAGE (R430): The standby receives a mirror message, applies it to its copy and acknowledges it. -/
  | mirrorMessage (m : MirrorMsg)
  /-- MIRROR_ACK (R427): The peer's acknowledgement of a synchronous mirror message releases the waiting operation on the active. -/
  | mirrorAck
  /-- TWIN_LINK_LOSS (R434): A twin link not UP for TWIN_LINK_TIMEOUT, or an acknowledgement late by MIRROR_ACK_LIMIT, stops mirroring. -/
  | twinLinkLoss (down : Nat)
  /-- TWIN_PERIOD_SYNC (R433): Every TWIN_PERIOD ticks, the active sends counters and age stamps to the peer. -/
  | twinPeriodSync
  /-- BULK_COPY_DONE (R442): A SYNCING device's bulk copy ends, and it enters STANDBY and sends HELLO with ELIGIBLE. -/
  | bulkCopyDone
  /-- LEASE_RENEW (R436): Every LEASE_RENEW ticks, the active sends RENEW with its LEASE_SEQ and tick. -/
  | leaseRenew
  /-- LEASE_HELLO (R436): Every LEASE_RENEW ticks, a non-active twinned device sends HELLO. -/
  | leaseHello
  /-- LEASE_GRANT (R436): An accepted GRANT answering a RENEW sets the lease deadline, or a first grant makes a SOLO device ACTIVE. -/
  | leaseGrant (sess : Sess) (t : Nat) (seq : Nat) (term : Nat) (pair : Nat)
  /-- LEASE_TAKEOVER_GRANT (R436): A TAKEOVER grant is accepted by an eligible device, or answered with REFUSE. -/
  | leaseTakeoverGrant (sess : Sess) (rs : Nat) (pair : Nat) (seq : Nat) (term : Nat)
  /-- TAKEOVER_START (R439): At edge E the new active drives PEER_FENCE_N low, sets its lease and sends RENEW. -/
  | takeoverStart
  /-- TAKEOVER_ACTIVATE (R439): At E + FENCE_GUARD the device enters ACTIVE, reloads credit, converts intents and restores mirrored queues. -/
  | takeoverActivate
  /-- IDENTITY_ANNOUNCE (R439): Gratuitous ARP and unsolicited NA for each identity are repeated 2,048 and 4,096 ticks after take-over. -/
  | identityAnnounce
  /-- FENCE_N_ASSERT (R438): FENCE_N going low puts a twinned device into FENCED within 1 µs. -/
  | fenceNAssert (stays : Bool)
  /-- LEASE_RELEASE (R443): With every acknowledgement in, the device sends RELEASE and suspends its lease check. -/
  | leaseRelease
  /-- OPEN_DRAIN_STUCK (R484): An open-drain output driven low that reads high for 10 µs is reported stuck. -/
  | openDrainStuck (b : Nat)
  /-- LED_TEST (R485): Every 256 ticks, and after an LED_MODE change, each LED output is tested and LED_STATUS updated. -/
  | ledTest (k : Nat) (level : Nat) (phase : Bool) (held : Bool)
  /-- BUS_STUCK (R486): A bus line held low for 30 ms is stuck, and the device releases its drive or runs recovery. -/
  | busStuck (pmb : Bool)
  /-- I3C_TARGET_RESET (R479): The I3C target reset pattern resets only the endpoint's bus interface. -/
  | i3cTargetReset
  /-- ETHREF_ABSENT (R489): ETHREF absent holds Ethernet and twin-link lanes untrained and raises REFCLK_LOST. -/
  | ethrefAbsent
  /-- ETHREF_RETURN (R489): ETHREF returns, and lane training resumes. -/
  | ethrefReturn
  /-- PCIE_REFCLK_ABSENT (R489): An absent PCIE_REFCLKh holds pair h in RESET. -/
  | pcieRefclkAbsent (h : Nat)
  /-- CABINET_FENCING (R497): At the fencing edge, a cabinet's drawers stop, its buckets are reassigned and its parcels are dropped or reissued. -/
  | cabinetFencing (c : Nat) (storeError : Bool)
  /-- DEVICE_FAULT (R500): At the declaring edge, admission and transmission stop, every queue freezes and every function reports an uncorrectable error. -/
  | deviceFault (cause : Nat)
  /-- PCIE_REFCLK_RETURN (R489): A PCIE_REFCLKh that was absent returns within tolerance, bit 14 + h of SIDEBAND_STATUS clears, and pair h may leave RESET. -/
  | pcieRefclkReturn (h : Nat)
  /-- HOT_PLUG_INSERTION (R224): A drive appears on a downstream root port, and the device enumerates it, keeping it if it is NVMe and otherwise leaving it disabled and logging kind 4. -/
  | hotPlugInsertion (r : Nat) (nvme : Bool)
  /-- PME_TURN_OFF (R249): A PME_Turn_Off message arrives from the host, and the link answers PME_TO_Ack and proceeds to L2 entry. -/
  | pmeTurnOff (k : Nat)
  /-- LINK_POWER_STATE_CHANGE (R249): An upstream link enters or leaves ASPM L1, L1.1 or L1.2 using CLKREQh_N, or changes its L0p width, within the stated exit latencies. -/
  | linkPowerStateChange (k : Nat) (power : Nat) (width : Nat)
  /-- PMB_ALERT (R477): The VDD_CORE regulator asserts PMB_ALERT_N, and the device reads the alert into RAIL_STATUS. -/
  | pmbAlert
  /-- STUCK_OUTPUT_CLEAR (R484): An open-drain output reported stuck high reads low while driven, and its SIDEBAND_STATUS bit clears. -/
  | stuckOutputClear (b : Nat)
  /-- BUS_STUCK_CLEAR (R486): Both lines of a stuck MCTP bus or PMBus have been high for 1 ms, and the bus's SIDEBAND_STATUS bit clears. -/
  | busStuckClear (pmb : Bool)
  /-- INTERRUPT_COALESCING_TIMER (R304): The aggregation time of the supported Interrupt Coalescing feature runs out for an NVMe completion queue, and the held interrupt is sent. -/
  | interruptCoalescingTimer (c : Nat) (q : Nat)
  deriving DecidableEq, Repr

end Sys2Proof
end

