-- ==== Sys2Proof/Config.lean ====
section
/-! DEFINITION. What an implementation fixes and the spec leaves open: opaque constants, of which nothing can be proved.
Each is named in the assumption log (entries 5 and 9). -/
namespace Sys2Proof.Config

/-- A fresh free value: the n-th value the spec leaves open (log entry 5: DESIGN CHOICE, safe). -/
opaque freeNat : Nat → Nat

/-- The device's serial number, 0x1000.05 (R88: unique per device). -/
opaque serial : Nat
/-- STEPPING, 0x1000.04 (R88). -/
opaque stepping : Nat
/-- ROM_VERSION, 0x1000.06 (R88: per stepping). -/
opaque romVersion : Nat
/-- SCHEMA_VERSION, 0x1000.08 (R88: the version of the object set in force). -/
opaque schemaVersion : Nat
/-- ENTERPRISE_NUMBER, 0x1000.09 (R88: Kerinagar's IANA number). -/
opaque enterpriseNumber : Nat
/-- The fused base of PORT_MAC (R109), as a 48-bit number. -/
opaque macBase : Nat
/-- MGMT_MAC (R109: fused), as the object's value. -/
opaque mgmtMac : Nat

/-- A pattern of an image (R144): its bytes, id and class, and its mark. -/
structure Pattern where
  bytes : List Nat
  id : Nat
  cls : Nat
  anchored : Bool
  deriving DecidableEq, Repr, Inhabited

/-- The patterns that an automaton image holds, by the image's 256-byte chunks: the image's inner format is not in the spec (R144, R145). -/
opaque patterns : List (Nat × Nat) → List Pattern

/-- Kerinagar's PCI Express Vendor ID (R227). -/
opaque vendorId : Nat

/-- The UUID of a namespace's identification descriptor (R304: not given). -/
opaque nsUuid : Nat → Nat
/-- The bits of the ATS capability above its Invalidate Queue Depth (R239: not given). -/
opaque atsFlags : Nat
/-- The 64-bit Device Serial Number of a function's capability (R227: the capability alone is named). -/
opaque deviceSerial : Nat
/-- The offset of a PF's Card Index in its expansion ROM (R234). -/
opaque ciRomOffset : Nat
/-- A byte of a PF's expansion ROM outside its Card Index (R234: its other contents are not given). -/
opaque romImage : Nat → Nat
/-- The NVMe version that a controller's VS register gives (R301: as the NVMe specification defines it). -/
opaque nvmeVersion : Nat

/-- AEAD encryption (R331; SP 800-38D, RFC 8439): algorithm code, key, nonce, AAD and plaintext give the ciphertext (log entry 9: DESIGN CHOICE, safe). -/
opaque aeadEnc (alg : Nat) (key nonce aad plain : List Nat) : List Nat
/-- AEAD decryption: the plaintext of a ciphertext. -/
opaque aeadDec (alg : Nat) (key nonce aad cipher : List Nat) : List Nat
/-- The AEAD tag over AAD and ciphertext. -/
opaque aeadTag (alg : Nat) (key nonce aad cipher : List Nat) : List Nat
/-- CMAC and HMAC (R331; SP 800-38B, FIPS 198-1): algorithm code, key and message give the full tag. -/
opaque macTag (alg : Nat) (key data : List Nat) : List Nat
/-- AES-XTS of one data unit under a key with a 128-bit tweak number (R331, R327; IEEE 1619). -/
opaque xtsEncrypt (key : List Nat) (tweak : Nat) (unit' : List Nat) : List Nat
/-- The inverse of `xtsEncrypt`. -/
opaque xtsDecrypt (key : List Nat) (tweak : Nat) (unit' : List Nat) : List Nat
/-- AES-KW unwrapping of a blob under a transport key (R349; RFC 3394); none where its integrity check fails. -/
opaque kwUnwrap (tk blob : List Nat) : Option (List Nat)
/-- The nonce of an XPN cipher suite (R106; IEEE 802.1AE): of an SA key handle, an SCI and a packet number. The salt and the SSCI come
with the key agreement, which the device does not perform and for which the spec gives no object. -/
opaque xpnNonce (handle sci pn : Nat) : List Nat
/-- SHA-384 of bytes (R404; log entry 9: DESIGN CHOICE, safe). -/
opaque sha384 : List Nat → List Nat
/-- Whether both signatures of a signed header verify: the 128 signed bytes, the two public keys and the two signatures (R408). -/
opaque sigsVerify (signed keys sigs : List Nat) : Bool
/-- Kerinagar's manufacturing key hash in ROM (R408). -/
opaque romHash : List Nat
/-- The hash of owner key slot 0 as provisioned (R422), as a number of 384 bits. -/
opaque ownerHash : Nat
/-- TK_IMPORT_PUB in the life-cycle state reached after a number of transition steps (R405, R420). -/
opaque importPub (steps : Nat) : Nat
/-- The transport key that a TK_INSTALL record carries, in the life-cycle state after a number of steps: the ECDH and the AES-KW unwrap
(R420); none where the point is not on the curve or the unwrap fails. -/
opaque tkUnwrap (steps : Nat) (record : List Nat) : Option (List Nat)

end Sys2Proof.Config
end

