-- ==== Sys2Proof/Machine/Bits.lean ====
section
/-! DEFINITION. Bit fields, sign extension, byte order (R9) and CRC-32C (R507). -/
namespace Sys2Proof.Machine

/-- Bits [hi:lo] of a number (Conventions: bit 0 is least significant). -/
def bits (v hi lo : Nat) : Nat := (v >>> lo) % 2 ^ (hi + 1 - lo)

/-- Bit i of a number, as a Boolean. -/
def bit (v i : Nat) : Bool := (v >>> i) % 2 == 1

/-- The number with its bit i set. -/
def setBit (v i : Nat) : Nat := if bit v i then v else v + 2 ^ i

/-- The number with its bit i cleared. -/
def clearBit (v i : Nat) : Nat := if bit v i then v - 2 ^ i else v

/-- The number with bits [hi:lo] replaced by the low bits of f. -/
def putBits (v hi lo f : Nat) : Nat :=
  v - bits v hi lo <<< lo + (f % 2 ^ (hi + 1 - lo)) <<< lo

/-- A Boolean as 0 or 1. -/
def ofBool (b : Bool) : Nat := if b then 1 else 0

/-- The first n bytes of a number, least significant first (R9). -/
def leBytes : Nat → Nat → List Nat
  | 0, _ => []
  | n + 1, v => (v % 256) :: leBytes n (v / 256)

/-- The number that bytes spell, least significant first (R9). -/
def ofLE : List Nat → Nat
  | [] => 0
  | b :: bs => b % 256 + 256 * ofLE bs

/-- The number that bytes spell, most significant first (network order). -/
def ofBE (bs : List Nat) : Nat := bs.foldl (fun a b => 256 * a + b % 256) 0

/-- A number as n bytes, most significant first. -/
def beBytes (n v : Nat) : List Nat := (leBytes n v).reverse

/-- The signed number that the low w bits spell in two's complement. -/
def toSigned (w v : Nat) : Int :=
  let u := v % 2 ^ w
  if 2 * u < 2 ^ w then (u : Int) else (u : Int) - (2 : Int) ^ w

/-- The w-bit two's complement pattern of a signed number, as a number. -/
def ofSigned (w : Nat) (i : Int) : Nat := (i % (2 : Int) ^ w).toNat

/-- The nearest value to v in the closed range [lo, hi]. -/
def clampInt (lo hi v : Int) : Int := if v < lo then lo else if hi < v then hi else v

/-- The nearest value to v in the closed range [lo, hi]. -/
def clampNat (lo hi v : Nat) : Nat := if v < lo then lo else if hi < v then hi else v

/-- The ceiling of a quotient. -/
def ceilDiv (a b : Nat) : Nat := (a + b - 1) / b

/-- ⌊log2 v⌋ for v > 0, and 0 for 0. -/
def log2 (v : Nat) : Nat := Nat.log2 v

/-- One bit step of the reflected CRC-32C register (R507). -/
def crcBit (r : Nat) : Nat := if r % 2 = 1 then (r / 2) ^^^ 0x82F63B78 else r / 2

/-- One byte into the reflected CRC-32C register: eight bit steps, least significant bit first (R507). -/
def crcByte (r b : Nat) : Nat :=
  let r0 := r ^^^ (b % 256)
  crcBit (crcBit (crcBit (crcBit (crcBit (crcBit (crcBit (crcBit r0)))))))

/-- CRC-32C seeded with S over bytes (R507). -/
def crc32c (seed : Nat) (bs : List Nat) : Nat :=
  (bs.foldl crcByte (seed ^^^ 0xFFFFFFFF)) ^^^ 0xFFFFFFFF

/-- The element of a list at an index, 0 beyond its end. -/
def nth (bs : List Nat) (i : Nat) : Nat := bs.getD i 0

/-- The bytes [off, off + n) of a list, as far as it reaches. -/
def slice (bs : List Nat) (off n : Nat) : List Nat := (bs.drop off).take n

/-- A list of n copies followed by nothing: zero padding to a multiple of m. -/
def padTo (m : Nat) (bs : List Nat) : List Nat :=
  bs ++ List.replicate ((m - bs.length % m) % m) 0

end Sys2Proof.Machine
end

