-- ==== Sys2Proof/Machine/Dictionary.lean ====
section
/-! DEFINITION. The Bureau object dictionary (R59 to R67 and the object tables of every chapter): one row per object,
with its type, access class, writers, default, legal ranges, clamp rule, instance count and persistence. -/
namespace Sys2Proof.Machine
/-- The value types of *Bureau types* (R62). -/
inductive ObjTy where
  | bool | u8 | u16 | u32 | u64 | i32 | i64 | octets (n : Nat) | string (n : Nat) | time96 | rate | handle
  deriving DecidableEq, Repr

/-- The access classes of R63. -/
inductive Access where
  | const | ro | rw | wo | rwc
  deriving DecidableEq, Repr

/-- One row of the dictionary. `oid` is the index times 256 plus the subindex; values are the little-endian integer of the
object's bytes (R62), and `ranges` holds the legal values read as signed numbers for I32 and I64. `x` stands for the IK9X,
`c` for the IK9C (R2). `clamp` is the code of R67; `writers` its WRITERS mask. -/
structure ObjDef where
  oid : Nat
  ty : ObjTy
  acc : Access
  writers : Nat
  dfltX : Nat
  dfltC : Nat
  rangesX : List (Int × Int)
  rangesC : List (Int × Int)
  clamp : Nat
  step : Nat
  countX : Nat
  countC : Nat
  persist : Bool
  deriving DecidableEq, Repr

namespace Obj
abbrev VENDOR_NAME : Nat := 0x100001
abbrev PART_NAME : Nat := 0x100002
abbrev PART_CODE : Nat := 0x100003
abbrev STEPPING : Nat := 0x100004
abbrev SERIAL : Nat := 0x100005
abbrev ROM_VERSION : Nat := 0x100006
abbrev FIRMWARE_VERSION : Nat := 0x100007
abbrev SCHEMA_VERSION : Nat := 0x100008
abbrev ENTERPRISE_NUMBER : Nat := 0x100009
abbrev CLAMP_ENTRY : Nat := 0x101001
abbrev CLAMP_COUNT : Nat := 0x101002
abbrev COMPAT_LEVEL : Nat := 0x102001
abbrev COMPAT_STRAP : Nat := 0x102002
abbrev TICK_COUNT : Nat := 0x103001
abbrev TICK_PERIOD_PS : Nat := 0x103002
abbrev DCLK_HZ : Nat := 0x103003
abbrev DCLK_PER_TICK : Nat := 0x103004
abbrev LAST_COMMIT_TICK : Nat := 0x103005
abbrev SNAPSHOT_INTERVAL : Nat := 0x103006
abbrev REF_STATE : Nat := 0x103007
abbrev HOLDOVER_EVENTS : Nat := 0x103008
abbrev CABINETS : Nat := 0x103401
abbrev DRAWERS_PER_CABINET : Nat := 0x103402
abbrev CORES_PER_DRAWER : Nat := 0x103403
abbrev THREADS_PER_CORE : Nat := 0x103404
abbrev DRAWERS_IN_SERVICE : Nat := 0x103405
abbrev READINESS : Nat := 0x104001
abbrev READY_TICK : Nat := 0x104002
abbrev LAST_RESET_CAUSE : Nat := 0x104003
abbrev THERMAL_TRIPS : Nat := 0x104004
abbrev RESET_REQUEST : Nat := 0x104401
abbrev XEHIBOR_PORT : Nat := 0x105001
abbrev ASSOCIATIONS : Nat := 0x105002
abbrev TXN_IDLE_TIMEOUT : Nat := 0x105003
abbrev TXNS_DISCARDED : Nat := 0x105004
abbrev STALE_REQUESTS : Nat := 0x105005
abbrev MCTP_PRINCIPAL : Nat := 0x105801
abbrev STORE_SAVE : Nat := 0x107001
abbrev STORE_STATE : Nat := 0x107002
abbrev STORE_SEQUENCE : Nat := 0x107003
abbrev MEM_DENSITY : Nat := 0x109001
abbrev MEM_RAW_BYTES : Nat := 0x109002
abbrev MEM_USABLE_BYTES : Nat := 0x109003
abbrev MEM_RATE : Nat := 0x109004
abbrev MEM_RATE_ACTIVE : Nat := 0x109005
abbrev MEM_VDDQ : Nat := 0x109006
abbrev MEM_STATE : Nat := 0x109007
abbrev TRAIN_TICKS : Nat := 0x109008
abbrev WIPE_TICKS : Nat := 0x109009
abbrev SHELF_REGION_GIB : Nat := 0x109401
abbrev EM_REGION_GIB : Nat := 0x109402
abbrev VOLATILE_REGION_GIB : Nat := 0x109403
abbrev REGION_BASE : Nat := 0x109404
abbrev REGION_BYTES : Nat := 0x109405
abbrev CHANNEL_TEMP : Nat := 0x109801
abbrev MEM_TEMP_HOT : Nat := 0x109802
abbrev MEM_TEMP_CRIT : Nat := 0x109803
abbrev SCRUB_PERIOD : Nat := 0x109804
abbrev CORRECTED : Nat := 0x109C01
abbrev UNCORRECTABLE : Nat := 0x109C02
abbrev MAC_FAILURES : Nat := 0x109C03
abbrev MEM_THROTTLE_TICKS : Nat := 0x109C04
abbrev VCORE_SETPOINT : Nat := 0x10A001
abbrev VCORE_CURRENT : Nat := 0x10A002
abbrev PACKAGE_POWER : Nat := 0x10A003
abbrev POWER_LIMIT : Nat := 0x10A004
abbrev RAIL_STATUS : Nat := 0x10A005
abbrev TJ : Nat := 0x10A801
abbrev THROTTLE_TEMP : Nat := 0x10A802
abbrev THROTTLE_LEVEL : Nat := 0x10A803
abbrev THROTTLE_TICKS : Nat := 0x10A804
abbrev SHUTDOWN_TEMP : Nat := 0x10A805
abbrev STRAPS : Nat := 0x10B001
abbrev SIDEBAND_STATUS : Nat := 0x10B002
abbrev MCTP_ADDRESS : Nat := 0x10B003
abbrev SIDEBAND_EVENTS : Nat := 0x10B004
abbrev LED_MODE : Nat := 0x10B401
abbrev LED_CURRENT : Nat := 0x10B402
abbrev LED_STATUS : Nat := 0x10B403
abbrev PORT_MODE : Nat := 0x200001
abbrev ENABLE_2000 : Nat := 0x200002
abbrev FEC_MODE : Nat := 0x200003
abbrev AN_ENABLE : Nat := 0x200004
abbrev LINK_STATE_2000 : Nat := 0x200005
abbrev LINK_UP_HOLD : Nat := 0x200006
abbrev LINK_DOWN_HOLD : Nat := 0x200007
abbrev LINK_RETRY : Nat := 0x200008
abbrev LINK_DOWN_DROP : Nat := 0x200009
abbrev MAX_FRAME : Nat := 0x20000A
abbrev PORT_MAC : Nat := 0x20000B
abbrev FEC_DEGRADE_THRESHOLD : Nat := 0x20000C
abbrev PCP_CLASS_MAP : Nat := 0x201001
abbrev DEFAULT_PCP : Nat := 0x201002
abbrev HASH_FIELDS : Nat := 0x201003
abbrev FLOW_CONTROL : Nat := 0x202001
abbrev PFC_PRIORITIES : Nat := 0x202002
abbrev XOFF_THRESHOLD : Nat := 0x202003
abbrev XON_THRESHOLD : Nat := 0x202004
abbrev HEADROOM : Nat := 0x202005
abbrev PAUSE_QUANTA : Nat := 0x202006
abbrev WATERMARK_XOFF : Nat := 0x202007
abbrev PFC_WATCHDOG : Nat := 0x202008
abbrev LANE_STATUS : Nat := 0x203001
abbrev TX_INVERT : Nat := 0x203002
abbrev RX_FRAMES : Nat := 0x204001
abbrev RX_BYTES : Nat := 0x204002
abbrev TX_FRAMES : Nat := 0x204003
abbrev TX_BYTES : Nat := 0x204004
abbrev RX_FCS_ERRORS : Nat := 0x204005
abbrev RX_OVERSIZE : Nat := 0x204006
abbrev FEC_CORRECTED : Nat := 0x204007
abbrev FEC_UNCORRECTED : Nat := 0x204008
abbrev RX_DROP_HEADROOM : Nat := 0x204009
abbrev TX_DROP_LINK_DOWN : Nat := 0x20400A
abbrev PAUSE_SENT : Nat := 0x20400B
abbrev PAUSE_RECEIVED : Nat := 0x20400C
abbrev MACSEC_TX_PN_EXHAUSTED : Nat := 0x20400D
abbrev TX_STOMPED : Nat := 0x20400E
abbrev PFC_SENT : Nat := 0x204101
abbrev PFC_RECEIVED : Nat := 0x204102
abbrev MACSEC_ENABLE : Nat := 0x205001
abbrev CIPHER_SUITE : Nat := 0x205002
abbrev VALIDATE_FRAMES : Nat := 0x205003
abbrev CONF_OFFSET : Nat := 0x205004
abbrev REPLAY_WINDOW : Nat := 0x205005
abbrev TX_AN : Nat := 0x205006
abbrev TX_SA_KEY : Nat := 0x205007
abbrev PN_THRESHOLD : Nat := 0x205008
abbrev RX_SA_KEY : Nat := 0x205801
abbrev RX_SCI : Nat := 0x205802
abbrev RX_SC_PORT : Nat := 0x205803
abbrev MGMT_INTERFACE : Nat := 0x208001
abbrev MGMT_MAC : Nat := 0x208002
abbrev MGMT_IPV4 : Nat := 0x208003
abbrev MGMT_IPV6 : Nat := 0x208004
abbrev MGMT_RX_DROP : Nat := 0x208101
abbrev NODE_HEAD : Nat := 0x300001
abbrev NODE_ARCS : Nat := 0x300002
abbrev START_NODE : Nat := 0x300801
abbrev ACTIVE_BANK : Nat := 0x301001
abbrev GRAPH_TAG : Nat := 0x301002
abbrev SWAP_TICK : Nat := 0x301003
abbrev SWAPS : Nat := 0x301004
abbrev CHECK_FAULT : Nat := 0x301005
abbrev WALKS : Nat := 0x301801
abbrev TRUNCATED : Nat := 0x301802
abbrev MALFORMED : Nat := 0x301803
abbrev UNKNOWN : Nat := 0x301804
abbrev BEYOND_FRAME : Nat := 0x301805
abbrev EXTENDED : Nat := 0x301806
abbrev VISITS : Nat := 0x301807
abbrev LOAD_SET : Nat := 0x310001
abbrev IMAGE_CHUNK : Nat := 0x310002
abbrev VERIFY : Nat := 0x310003
abbrev PSET_ACTIVE_BANK : Nat := 0x310801
abbrev BANK_STATE : Nat := 0x310802
abbrev BANK_PATTERNS : Nat := 0x310803
abbrev BANK_TAG : Nat := 0x310804
abbrev SCAN_LIMIT : Nat := 0x310805
abbrev STREAM_SLOT : Nat := 0x310806
abbrev STREAM_IDLE : Nat := 0x310807
abbrev SCANS : Nat := 0x311801
abbrev SCANNED_BYTES : Nat := 0x311802
abbrev STREAM_OOO : Nat := 0x311803
abbrev STREAM_RESTARTS : Nat := 0x311804
abbrev STREAM_EVICTIONS : Nat := 0x311805
abbrev MATCH_CACHE_MISSES : Nat := 0x311806
abbrev CONTEXTS_IN_USE : Nat := 0x311807
abbrev RULE_PLACEMENT : Nat := 0x400001
abbrev RULE_SLOTS : Nat := 0x400002
abbrev PROBE_BUDGET : Nat := 0x400003
abbrev FIRST_TABLE : Nat := 0x400801
abbrev KEY_MAP : Nat := 0x401001
abbrev SLOT_BASE : Nat := 0x401002
abbrev SLOT_COUNT : Nat := 0x401003
abbrev GROUPS : Nat := 0x401004
abbrev MISS_ACTION : Nat := 0x401005
abbrev VALID_RULES : Nat := 0x401006
abbrev LOOKUPS_4010 : Nat := 0x401007
abbrev MISSES : Nat := 0x401008
abbrev GROUP_MASK : Nat := 0x401801
abbrev GROUP_SEED : Nat := 0x401802
abbrev RULE_DATA : Nat := 0x402001
abbrev RULE_HEAD : Nat := 0x402002
abbrev RULE_HITS : Nat := 0x402003
abbrev ACTION : Nat := 0x403001
abbrev COMPARATOR : Nat := 0x403801
abbrev MIRROR_LEAF : Nat := 0x404001
abbrev MIRROR_TRUNCATE : Nat := 0x404002
abbrev REWRITE_TEMPLATE : Nat := 0x404801
abbrev COUNT_PACKETS : Nat := 0x405001
abbrev COUNT_BYTES : Nat := 0x405002
abbrev CLASSIFIED : Nat := 0x405801
abbrev BUDGET_CUT : Nat := 0x405802
abbrev NO_DISPOSITION : Nat := 0x405803
abbrev REWRITE_FAILED : Nat := 0x405804
abbrev FENCED_BUCKET_READS : Nat := 0x405805
abbrev KIND : Nat := 0x500001
abbrev ENTRY_SIZE : Nat := 0x500002
abbrev KEY_BYTES : Nat := 0x500003
abbrev BUCKET_BASE : Nat := 0x500004
abbrev BUCKET_COUNT : Nat := 0x500005
abbrev SEED0 : Nat := 0x500006
abbrev SEED1 : Nat := 0x500007
abbrev CACHE_MODE : Nat := 0x500008
abbrev AGE_ENABLE : Nat := 0x500009
abbrev AGE_LIMIT : Nat := 0x50000A
abbrev LEARN_ENABLE : Nat := 0x50000B
abbrev LEARN_ACTION : Nat := 0x50000C
abbrev ENTRIES : Nat := 0x50000D
abbrev LOOKUPS_5000 : Nat := 0x50000E
abbrev HITS : Nat := 0x50000F
abbrev CACHE_HITS : Nat := 0x500010
abbrev INSERT_FULL : Nat := 0x500011
abbrev STATIC_CONFLICTS : Nat := 0x500012
abbrev EM_TABLE : Nat := 0x501001
abbrev EM_KEY_MAP : Nat := 0x501002
abbrev EM_KEY_MASK : Nat := 0x501003
abbrev EM_ROLE : Nat := 0x501004
abbrev EM_REFRESH : Nat := 0x501005
abbrev EM_MISS_ACTION : Nat := 0x501006
abbrev EM_MERGE : Nat := 0x501007
abbrev BPORT_LEARN : Nat := 0x502001
abbrev LEARN_LIMIT : Nat := 0x502002
abbrev LIMIT_MODE : Nat := 0x502003
abbrev BPORT_LEAF : Nat := 0x502004
abbrev LEARNED : Nat := 0x502005
abbrev DYN_GEN : Nat := 0x502006
abbrev STATIC_GEN : Nat := 0x502007
abbrev DYN_BASE : Nat := 0x502008
abbrev STATIC_BASE : Nat := 0x502009
abbrev LIMIT_HITS : Nat := 0x50200A
abbrev MOVES : Nat := 0x50200B
abbrev AGE_QUANTUM : Nat := 0x508001
abbrev CURRENT_QUANTUM : Nat := 0x508002
abbrev EM_REGION_BUCKETS : Nat := 0x508003
abbrev SWEEP_PASS : Nat := 0x508004
abbrev HOT_CAPACITY : Nat := 0x508005
abbrev EM_COMMAND : Nat := 0x508006
abbrev LEARN_DEFERRED : Nat := 0x508007
abbrev AGED_OUT : Nat := 0x508008
abbrev RECLAIMED : Nat := 0x508009
abbrev SHELF_SIZE : Nat := 0x600001
abbrev SHELF_PLACE : Nat := 0x600002
abbrev SHELF_BUFFERS : Nat := 0x600003
abbrev SHELF_ADDR : Nat := 0x600004
abbrev RESERVE_BP : Nat := 0x600005
abbrev LOW_WM_BP : Nat := 0x600006
abbrev HIGH_WM_BP : Nat := 0x600007
abbrev FREE : Nat := 0x600008
abbrev FLOOR : Nat := 0x600009
abbrev LOW_STATE : Nat := 0x60000A
abbrev ESCALATE_MAX : Nat := 0x600801
abbrev ON_CHIP_BYTES : Nat := 0x600802
abbrev GDDR_SHELF_BYTES : Nat := 0x600803
abbrev ALLOCS : Nat := 0x601001
abbrev ESCALATIONS : Nat := 0x601002
abbrev ALLOC_FAILS : Nat := 0x601003
abbrev FLOOR_DENIALS : Nat := 0x601004
abbrev DEFERRED_FREES : Nat := 0x601005
abbrev REJECTED_FREES : Nat := 0x601006
abbrev REJECTED_DETACHES : Nat := 0x601007
abbrev LOW_EVENTS : Nat := 0x601008
abbrev NOBUF_DROPS : Nat := 0x601801
abbrev OWNER_CONTROL : Nat := 0x602001
abbrev OWNER_HELD : Nat := 0x602002
abbrev SHAPE_EN : Nat := 0x700001
abbrev RATE : Nat := 0x700002
abbrev BURST : Nat := 0x700003
abbrev RELOAD : Nat := 0x700004
abbrev CREDIT : Nat := 0x700005
abbrev NEXT_ELIGIBLE : Nat := 0x700006
abbrev PARENT : Nat := 0x700801
abbrev PRIO : Nat := 0x700802
abbrev WEIGHT : Nat := 0x700803
abbrev ENABLE_7008 : Nat := 0x700804
abbrev NODE_FUNCTION : Nat := 0x700805
abbrev PORT_OVERHEAD : Nat := 0x701001
abbrev LOOP_AS : Nat := 0x701002
abbrev CG_PFC_PRIO : Nat := 0x701801
abbrev QMAX : Nat := 0x702001
abbrev WRED_PROFILE : Nat := 0x702002
abbrev LOW_PROTECT : Nat := 0x702003
abbrev FLUSH : Nat := 0x702004
abbrev DEPTH_BYTES : Nat := 0x702005
abbrev DEPTH_FRAMES : Nat := 0x702006
abbrev ENQ_FRAMES : Nat := 0x702801
abbrev ENQ_BYTES : Nat := 0x702802
abbrev DEQ_FRAMES : Nat := 0x702803
abbrev DEQ_BYTES : Nat := 0x702804
abbrev DISABLED_DROPS : Nat := 0x702805
abbrev POLICE_DROPS : Nat := 0x702806
abbrev LOW_DROPS : Nat := 0x702807
abbrev TAIL_DROPS : Nat := 0x702808
abbrev WRED_DROPS : Nat := 0x702809
abbrev ECN_MARKS : Nat := 0x70280A
abbrev FLUSHED : Nat := 0x70280B
abbrev WRED : Nat := 0x703001
abbrev POLICER : Nat := 0x708001
abbrev POLICER_TOKENS : Nat := 0x708002
abbrev COLOR_MAP : Nat := 0x708801
abbrev GREEN_FRAMES : Nat := 0x709001
abbrev GREEN_BYTES : Nat := 0x709002
abbrev YELLOW_FRAMES : Nat := 0x709003
abbrev YELLOW_BYTES : Nat := 0x709004
abbrev RED_FRAMES : Nat := 0x709005
abbrev RED_BYTES : Nat := 0x709006
abbrev QSTAT : Nat := 0x70C001
abbrev HISTOGRAM : Nat := 0x70C801
abbrev SAMPLE_SHIFT : Nat := 0x70F001
abbrev QSTAT_CLEAR : Nat := 0x70F002
abbrev CHAIN_CUT : Nat := 0x70F003
abbrev LINK_MODE : Nat := 0x800001
abbrev ROOT_PORT_WIDTH : Nat := 0x800002
abbrev MAX_SPEED : Nat := 0x800003
abbrev PF_COUNT : Nat := 0x800004
abbrev L0P_ENABLE : Nat := 0x800005
abbrev LINK_STATE_8000 : Nat := 0x800006
abbrev LINK_STATUS : Nat := 0x800007
abbrev CTO_TICKS : Nat := 0x800008
abbrev NP_OUTSTANDING : Nat := 0x800009
abbrev TAGS_QUARANTINED : Nat := 0x80000A
abbrev COMPLETION_TIMEOUTS : Nat := 0x800801
abbrev LATE_COMPLETIONS : Nat := 0x800802
abbrev RESET_DISCARDS : Nat := 0x800803
abbrev UNEXPECTED_COMPLETIONS : Nat := 0x800804
abbrev TAG_WAITS : Nat := 0x800805
abbrev HOST_LINK_RESETS : Nat := 0x800806
abbrev TRAIN_FAILS : Nat := 0x800807
abbrev VF_BUDGET : Nat := 0x801001
abbrev VF_BASE : Nat := 0x801002
abbrev FUNC_STATE : Nat := 0x801003
abbrev ACCESS_MASK : Nat := 0x801004
abbrev PARENT_PF : Nat := 0x801005
abbrev MSIX_VECTORS : Nat := 0x801006
abbrev FLRS : Nat := 0x801801
abbrev FUNCTION_ABORTS : Nat := 0x801802
abbrev BME_CLEARS : Nat := 0x801803
abbrev BME_DISCARDS : Nat := 0x801804
abbrev DOORBELL_REJECTS : Nat := 0x801805
abbrev BAR_ERRORS : Nat := 0x801806
abbrev WAKE_MODE : Nat := 0x802001
abbrev WAKE_PATTERN : Nat := 0x802002
abbrev WAKE_PAIRS : Nat := 0x802003
abbrev QUEUE_LIMIT : Nat := 0x803001
abbrev QUEUES_IN_USE : Nat := 0x803002
abbrev QUEUE_FUNCTION : Nat := 0x804001
abbrev QUEUE_NUMBER : Nat := 0x804002
abbrev QUEUE_TYPE : Nat := 0x804003
abbrev QUEUE_STATE : Nat := 0x804004
abbrev QUEUE_SIZE : Nat := 0x804005
abbrev PRODUCER : Nat := 0x804006
abbrev CONSUMER : Nat := 0x804007
abbrev FREEZE_STATUS : Nat := 0x804008
abbrev DOORBELLS : Nat := 0x804801
abbrev DOORBELLS_IGNORED : Nat := 0x804802
abbrev QJOBS : Nat := 0x804803
abbrev JOB_BYTES : Nat := 0x804804
abbrev JOB_ERRORS : Nat := 0x804805
abbrev QOVERRUNS : Nat := 0x804806
abbrev RX_NOFIT : Nat := 0x804807
abbrev COMPLETIONS_DISCARDED : Nat := 0x804808
abbrev QUEUES_MAX : Nat := 0x805001
abbrev QUEUES_TOTAL : Nat := 0x805002
abbrev VF_ASSIGN : Nat := 0x806001
abbrev LB_INTERVAL : Nat := 0x806002
abbrev LB_STATE : Nat := 0x806003
abbrev MAX_IMAGE : Nat := 0x806004
abbrev SNAPSHOT_BYTES : Nat := 0x806005
abbrev LB_SENT : Nat := 0x806801
abbrev LB_RECEIVED : Nat := 0x806802
abbrev LB_THROTTLED : Nat := 0x806803
abbrev LB_REJECTS : Nat := 0x806804
abbrev QUIESCES : Nat := 0x806805
abbrev QUIESCE_FORCED : Nat := 0x806806
abbrev UNQUIESCED_REMOVALS : Nat := 0x806807
abbrev DIRTY_MARKS : Nat := 0x806808
abbrev DIRTY_OUTSIDE : Nat := 0x806809
abbrev DIRTY_ENABLE : Nat := 0x807001
abbrev DIRTY_MAP_ADDR : Nat := 0x807002
abbrev DIRTY_BASE : Nat := 0x807003
abbrev DIRTY_PAGES : Nat := 0x807004
abbrev NVME_FUNCTION : Nat := 0x900001
abbrev IOQ_LIMIT : Nat := 0x900002
abbrev CTRL_STATE : Nat := 0x900003
abbrev IOQ_GRANTED : Nat := 0x900004
abbrev NS_STATE : Nat := 0x901001
abbrev NS_EXTENTS : Nat := 0x901002
abbrev LBA_FORMAT : Nat := 0x901003
abbrev EXTENT_BASE : Nat := 0x901004
abbrev XTS_KEY : Nat := 0x901005
abbrev INTENT_BACKEND : Nat := 0x901006
abbrev INTENT_LBA : Nat := 0x901007
abbrev RECOVER : Nat := 0x901008
abbrev NS_CREATOR : Nat := 0x901009
abbrev ATTACH : Nat := 0x901801
abbrev EXTENT : Nat := 0x902001
abbrev BK_KIND : Nat := 0x903001
abbrev BK_ROOT_PORT : Nat := 0x903002
abbrev BK_ADDR : Nat := 0x903003
abbrev BK_NQN : Nat := 0x903004
abbrev BK_NSID : Nat := 0x903005
abbrev BK_QUEUES : Nat := 0x903006
abbrev BK_STATE : Nat := 0x903007
abbrev BK_LBA_SIZE : Nat := 0x903008
abbrev BK_PF : Nat := 0x903009
abbrev PATH_LOSSES : Nat := 0x903801
abbrev COMMAND_TIMEOUTS : Nat := 0x903802
abbrev RESYNC_EXTENTS : Nat := 0x903803
abbrev HOST_NQN : Nat := 0x904001
abbrev SUBNQN : Nat := 0x904002
abbrev KATO : Nat := 0x904003
abbrev CMD_TIMEOUT : Nat := 0x904004
abbrev SETTLE : Nat := 0x904005
abbrev INTENT_LINGER : Nat := 0x904006
abbrev OUTSTANDING : Nat := 0x904007
abbrev EXTENT_SLOTS : Nat := 0x904008
abbrev COMMANDS : Nat := 0x904801
abbrev FROZEN_EVENTS : Nat := 0x904802
abbrev ABORTS_DONE : Nat := 0x904803
abbrev ABORTS_NOT_DONE : Nat := 0x904804
abbrev CID_CONFLICTS : Nat := 0x904805
abbrev SLICE_STATE : Nat := 0xA00001
abbrev CIPHER_REARM : Nat := 0xA00002
abbrev RESEED_INTERVAL : Nat := 0xA00003
abbrev RNG_STATE : Nat := 0xA00004
abbrev KEY_BLOCK_PF : Nat := 0xA00801
abbrev KEY_IMPORT : Nat := 0xA01001
abbrev KEY_DELETE : Nat := 0xA01002
abbrev KEY_STATE : Nat := 0xA01003
abbrev TK_STATE : Nat := 0xA01004
abbrev KEYS_LOADED : Nat := 0xA01005
abbrev SA : Nat := 0xA02001
abbrev SA_SEQ : Nat := 0xA02002
abbrev CJOBS : Nat := 0xA03001
abbrev CBYTES : Nat := 0xA03002
abbrev SUSPENSIONS : Nat := 0xA03003
abbrev SUSPEND_WITHHELD : Nat := 0xA03004
abbrev KEY_MISSES : Nat := 0xA03005
abbrev KEY_ABSENT : Nat := 0xA03006
abbrev ICV_FAILS : Nat := 0xA03007
abbrev REPLAY_DROPS : Nat := 0xA03008
abbrev SPI_MISMATCH : Nat := 0xA03009
abbrev SEQ_EXHAUSTED : Nat := 0xA0300A
abbrev RNG_STALL_TICKS : Nat := 0xA0300B
abbrev TB_STATE : Nat := 0xB00001
abbrev TB_NOW : Nat := 0xB00002
abbrev TB_ARM : Nat := 0xB00003
abbrev TB_SET : Nat := 0xB00004
abbrev TB_ADJ_FREQ : Nat := 0xB00005
abbrev TB_ADJ_PHASE : Nat := 0xB00006
abbrev TB_FREQ : Nat := 0xB00007
abbrev TB_SLEW_LEFT : Nat := 0xB00008
abbrev JUMP_THRESHOLD : Nat := 0xB00009
abbrev SLEW_LIMIT : Nat := 0xB0000A
abbrev TB_MANAGER : Nat := 0xB0000B
abbrev TB_THREADS : Nat := 0xB0000C
abbrev TB_FLAGS : Nat := 0xB0000D
abbrev REFUSALS : Nat := 0xB0000E
abbrev INGRESS_LATENCY : Nat := 0xB01001
abbrev EGRESS_LATENCY : Nat := 0xB01002
abbrev ASYMMETRY : Nat := 0xB01003
abbrev TC_ENABLE : Nat := 0xB01801
abbrev DOMAIN_TB : Nat := 0xB02001
abbrev RX_TS : Nat := 0xB03001
abbrev ONE_STEP : Nat := 0xB03002
abbrev PPS_OUT_TB : Nat := 0xB04001
abbrev PPS_OUT_WIDTH : Nat := 0xB04002
abbrev PPS_OUT_DELAY : Nat := 0xB04003
abbrev PPS_IN_DELAY : Nat := 0xB04004
abbrev PPS_IN_CAPTURE : Nat := 0xB04005
abbrev PPS_IN_COUNT : Nat := 0xB04006
abbrev PPS_STATUS : Nat := 0xB04007
abbrev PPS_OUT_RESTORE : Nat := 0xB04008
abbrev REF10M_PPB : Nat := 0xB04009
abbrev REF10M_STATE : Nat := 0xB0400A
abbrev RESET_VECTOR : Nat := 0xC00001
abbrev STALL_WAKE : Nat := 0xC00002
abbrev THREAD_STATE : Nat := 0xC01001
abbrev PARCELS_HELD : Nat := 0xC01002
abbrev STALLS : Nat := 0xC01801
abbrev OVERRUN_TRAPS : Nat := 0xC02001
abbrev CHANNEL_FAULTS : Nat := 0xC02002
abbrev CHANNEL_TIMEOUTS : Nat := 0xC02003
abbrev SIGEV_DISCARDED : Nat := 0xC02004
abbrev STEAL_ENABLE : Nat := 0xC80001
abbrev STEAL_THRESHOLD : Nat := 0xC80002
abbrev STEAL_MAX : Nat := 0xC80003
abbrev XCAB_STEAL_ENABLE : Nat := 0xC80004
abbrev XCAB_STEAL_THRESHOLD : Nat := 0xC80005
abbrev HASH_SEED : Nat := 0xC80006
abbrev SELFCHECK_INTERVAL : Nat := 0xC80007
abbrev REISSUE_ENABLE : Nat := 0xC80008
abbrev BUCKET_HOME : Nat := 0xC80201
abbrev BUCKET_PINNED : Nat := 0xC80202
abbrev DRAWER_STATE : Nat := 0xC81001
abbrev BACKLOG : Nat := 0xC81002
abbrev STEALABLE_BACKLOG : Nat := 0xC81003
abbrev STEALS_IN : Nat := 0xC81004
abbrev STEALS_OUT : Nat := 0xC81005
abbrev XCAB_STEALS_IN : Nat := 0xC81006
abbrev OVERRUNS : Nat := 0xC81007
abbrev OVERFLOW_FULL : Nat := 0xC81008
abbrev FENCE : Nat := 0xC81009
abbrev NEXT_TICKET : Nat := 0xC82001
abbrev OLDEST_OPEN : Nat := 0xC82002
abbrev HELD : Nat := 0xC82003
abbrev WINDOW_STALLS : Nat := 0xC82004
abbrev SKIPPED : Nat := 0xC82005
abbrev PIGEONHOLES : Nat := 0xC82201
abbrev PIGEONHOLES_IN_USE : Nat := 0xC82202
abbrev POOL_FULL_EVENTS : Nat := 0xC82203
abbrev LIFE_CYCLE : Nat := 0xD00001
abbrev TRANSITIONS_LEFT : Nat := 0xD00002
abbrev TOKEN_NONCE : Nat := 0xD00003
abbrev LC_TOKEN : Nat := 0xD00004
abbrev LC_REQUEST : Nat := 0xD00005
abbrev OWNER_KEY_STATE : Nat := 0xD00006
abbrev BOOT_SLOT : Nat := 0xD01001
abbrev BOOT_KIND : Nat := 0xD01002
abbrev FALLBACK : Nat := 0xD01003
abbrev SLOT_STATE : Nat := 0xD01004
abbrev SLOT_SEQUENCE : Nat := 0xD01005
abbrev SLOT_VERSION : Nat := 0xD01006
abbrev ACTIVE_SLOT : Nat := 0xD01007
abbrev RECORD_COUNTER : Nat := 0xD01008
abbrev IMG_BEGIN : Nat := 0xD02001
abbrev IMG_CHUNK : Nat := 0xD02002
abbrev IMG_FINISH : Nat := 0xD02003
abbrev IMG_STATE : Nat := 0xD02004
abbrev IMG_SLOT : Nat := 0xD02005
abbrev IMG_REASON : Nat := 0xD02006
abbrev MIN_VERSION : Nat := 0xD03001
abbrev MIN_VERSION_RAISE : Nat := 0xD03002
abbrev TK_IMPORT_PUB : Nat := 0xD04001
abbrev TK_INSTALL : Nat := 0xD04002
abbrev CRASH_BYTES : Nat := 0xD05001
abbrev CRASH_BASE : Nat := 0xD05002
abbrev TWIN_ENABLE : Nat := 0xE00001
abbrev ROLE : Nat := 0xE00002
abbrev ROLE_REQUEST : Nat := 0xE00003
abbrev PAIR_ID : Nat := 0xE00004
abbrev PEER_SERIAL : Nat := 0xE00005
abbrev LEASE_RENEW : Nat := 0xE00006
abbrev LEASE_TERM : Nat := 0xE00007
abbrev FENCE_GUARD : Nat := 0xE00008
abbrev TWIN_PERIOD : Nat := 0xE00009
abbrev MIRROR_ACK_LIMIT : Nat := 0xE0000A
abbrev TWIN_LINK_TIMEOUT : Nat := 0xE0000B
abbrev SYNC_SHARE : Nat := 0xE0000C
abbrev LEASE_SEQ : Nat := 0xE0000D
abbrev LEASE_DEADLINE : Nat := 0xE0000E
abbrev TWIN_LINK_STATE : Nat := 0xE0000F
abbrev PEER_ROLE : Nat := 0xE00010
abbrev LAST_TAKEOVER_TICK : Nat := 0xE00011
abbrev SYNC_REMAINING : Nat := 0xE00012
abbrev SYNC_FAULT : Nat := 0xE00013
abbrev TWIN_MIRROR : Nat := 0xE00801
abbrev TWIN_PEER_FUNC : Nat := 0xE00802
abbrev TABLE_MIRROR : Nat := 0xE01001
abbrev IDENT_MAC : Nat := 0xE02001
abbrev IDENT_IP : Nat := 0xE02002
abbrev IDENT_PORT : Nat := 0xE02003
abbrev TAKEOVERS : Nat := 0xE03001
abbrev SELF_FENCES : Nat := 0xE03002
abbrev RENEWALS : Nat := 0xE03003
abbrev LEASE_REFUSED : Nat := 0xE03004
abbrev MIRROR_MESSAGES : Nat := 0xE03005
abbrev MIRROR_STALL_TICKS : Nat := 0xE03006
abbrev WRONG_PEER : Nat := 0xE03007
abbrev ROLE_DROPS : Nat := 0xE03008
abbrev DIAG_ENTRY : Nat := 0xF00001
abbrev DIAG_COUNT : Nat := 0xF00002
abbrev CABINET_STATE : Nat := 0xF01001
abbrev CABINET_FENCE : Nat := 0xF01002
abbrev DEVICE_FAULT : Nat := 0xF01003
abbrev FENCE_ENTRY : Nat := 0xF02001
abbrev FENCE_COUNT : Nat := 0xF02002
abbrev BUFFER_ERROR_ENTRY : Nat := 0xF03001
abbrev BUFFER_ERROR_COUNT : Nat := 0xF03002
abbrev HOST_LINK_ERROR_ENTRY : Nat := 0xF04001
abbrev HOST_LINK_ERROR_COUNT : Nat := 0xF04002
abbrev TENANT_ENTRY : Nat := 0xF05001
abbrev TENANT_COUNT : Nat := 0xF05002
abbrev STORAGE_ENTRY : Nat := 0xF06001
abbrev STORAGE_COUNT : Nat := 0xF06002
abbrev ALARM_ENTRY : Nat := 0xF07001
abbrev ALARM_COUNT : Nat := 0xF07002
abbrev STALL_ENTRY : Nat := 0xF08001
abbrev STALL_COUNT : Nat := 0xF08002
abbrev TWIN_ENTRY : Nat := 0xF09001
abbrev TWIN_COUNT : Nat := 0xF09002
abbrev MEMORY_ERROR_ENTRY : Nat := 0xF0A001
abbrev MEMORY_ERROR_COUNT : Nat := 0xF0A002
end Obj

/-- Objects of indices 0x1000 to 0x10FF. -/
def dict10a : List ObjDef := [
  ⟨Obj.VENDOR_NAME, (.string 16), .const, 0, 2109947510074012493131, 2109947510074012493131, [], [], 0, 1, 1, 1, false⟩,
  ⟨Obj.PART_NAME, (.string 8), .const, 0, 1480149833, 1127828297, [], [], 0, 1, 1, 1, false⟩,
  ⟨Obj.PART_CODE, .u8, .const, 0, 154, 156, [], [], 0, 1, 1, 1, false⟩,
  ⟨Obj.STEPPING, .u8, .const, 0, 0, 0, [], [], 0, 1, 1, 1, false⟩,
  ⟨Obj.SERIAL, (.octets 16), .const, 0, 0, 0, [], [], 0, 1, 1, 1, false⟩,
  ⟨Obj.ROM_VERSION, .u32, .const, 0, 0, 0, [], [], 0, 1, 1, 1, false⟩,
  ⟨Obj.FIRMWARE_VERSION, .u32, .ro, 0, 0, 0, [], [], 0, 1, 1, 1, false⟩,
  ⟨Obj.SCHEMA_VERSION, .u16, .ro, 0, 0, 0, [], [], 0, 1, 1, 1, false⟩,
  ⟨Obj.ENTERPRISE_NUMBER, .u32, .const, 0, 0, 0, [], [], 0, 1, 1, 1, false⟩,
  ⟨Obj.CLAMP_ENTRY, (.octets 64), .ro, 0, 0, 0, [], [], 0, 1, 256, 256, false⟩,
  ⟨Obj.CLAMP_COUNT, .u64, .ro, 0, 0, 0, [], [], 0, 1, 1, 1, false⟩,
  ⟨Obj.COMPAT_LEVEL, .u8, .rwc, 1, 9, 9, [(7, 7), (9, 9)], [(7, 7), (9, 9)], 3, 1, 1, 1, false⟩,
  ⟨Obj.COMPAT_STRAP, .u8, .ro, 0, 9, 9, [], [], 0, 1, 1, 1, false⟩,
  ⟨Obj.TICK_COUNT, .u64, .ro, 0, 0, 0, [], [], 0, 1, 1, 1, false⟩,
  ⟨Obj.TICK_PERIOD_PS, .u32, .const, 0, 512000, 512000, [], [], 0, 1, 1, 1, false⟩,
  ⟨Obj.DCLK_HZ, .u64, .const, 0, 2000000000, 2000000000, [], [], 0, 1, 1, 1, false⟩,
  ⟨Obj.DCLK_PER_TICK, .u16, .const, 0, 1024, 1024, [], [], 0, 1, 1, 1, false⟩,
  ⟨Obj.LAST_COMMIT_TICK, .u64, .ro, 0, 0, 0, [], [], 0, 1, 1, 1, false⟩,
  ⟨Obj.SNAPSHOT_INTERVAL, .u32, .rwc, 1, 2048, 2048, [(1, 16777216)], [(1, 16777216)], 1, 1, 1, 1, false⟩,
  ⟨Obj.REF_STATE, .u8, .ro, 0, 0, 0, [], [], 0, 1, 1, 1, false⟩,
  ⟨Obj.HOLDOVER_EVENTS, .u32, .ro, 0, 0, 0, [], [], 0, 1, 1, 1, false⟩,
  ⟨Obj.CABINETS, .u8, .const, 0, 4, 2, [], [], 0, 1, 1, 1, false⟩,
  ⟨Obj.DRAWERS_PER_CABINET, .u8, .const, 0, 16, 16, [], [], 0, 1, 1, 1, false⟩,
  ⟨Obj.CORES_PER_DRAWER, .u8, .const, 0, 4, 4, [], [], 0, 1, 1, 1, false⟩]

/-- Objects of indices 0x1000 to 0x10FF. -/
def dict10b : List ObjDef := [
  ⟨Obj.THREADS_PER_CORE, .u8, .const, 0, 8, 8, [], [], 0, 1, 1, 1, false⟩,
  ⟨Obj.DRAWERS_IN_SERVICE, .u64, .ro, 0, 0, 0, [], [], 0, 1, 1, 1, false⟩,
  ⟨Obj.READINESS, .u8, .ro, 0, 0, 0, [], [], 0, 1, 1, 1, false⟩,
  ⟨Obj.READY_TICK, .u64, .ro, 0, 0, 0, [], [], 0, 1, 1, 1, false⟩,
  ⟨Obj.LAST_RESET_CAUSE, .u8, .ro, 0, 0, 0, [], [], 0, 1, 1, 1, false⟩,
  ⟨Obj.THERMAL_TRIPS, .u32, .ro, 0, 0, 0, [], [], 0, 1, 1, 1, false⟩,
  ⟨Obj.RESET_REQUEST, .u8, .wo, 1, 0, 0, [(1, 2)], [(1, 2)], 3, 1, 1, 1, false⟩,
  ⟨Obj.XEHIBOR_PORT, .u16, .rwc, 1, 47420, 47420, [(1024, 65535)], [(1024, 65535)], 1, 1, 1, 1, true⟩,
  ⟨Obj.ASSOCIATIONS, .u8, .ro, 0, 0, 0, [], [], 0, 1, 1, 1, false⟩,
  ⟨Obj.TXN_IDLE_TIMEOUT, .u32, .rwc, 1, 2097152, 2097152, [(2048, 268435456)], [(2048, 268435456)], 1, 1, 1, 1, true⟩,
  ⟨Obj.TXNS_DISCARDED, .u64, .ro, 0, 0, 0, [], [], 0, 1, 1, 1, false⟩,
  ⟨Obj.STALE_REQUESTS, .u64, .ro, 0, 0, 0, [], [], 0, 1, 1, 1, false⟩,
  ⟨Obj.MCTP_PRINCIPAL, .u8, .rwc, 1, 1, 1, [(0, 3)], [(0, 3)], 3, 1, 1, 1, true⟩,
  ⟨Obj.STORE_SAVE, .u8, .wo, 1, 0, 0, [(1, 1)], [(1, 1)], 3, 1, 1, 1, false⟩,
  ⟨Obj.STORE_STATE, .u8, .ro, 0, 0, 0, [], [], 0, 1, 1, 1, false⟩,
  ⟨Obj.STORE_SEQUENCE, .u32, .ro, 0, 0, 0, [], [], 0, 1, 1, 1, false⟩,
  ⟨Obj.MEM_DENSITY, .u8, .ro, 0, 0, 0, [], [], 0, 1, 1, 1, false⟩,
  ⟨Obj.MEM_RAW_BYTES, .u64, .ro, 0, 0, 0, [], [], 0, 1, 1, 1, false⟩,
  ⟨Obj.MEM_USABLE_BYTES, .u64, .ro, 0, 0, 0, [], [], 0, 1, 1, 1, false⟩,
  ⟨Obj.MEM_RATE, .u8, .rwc, 1, 24, 24, [(16, 24)], [(16, 24)], 2, 2, 1, 1, true⟩,
  ⟨Obj.MEM_RATE_ACTIVE, .u8, .ro, 0, 0, 0, [], [], 0, 1, 1, 1, false⟩,
  ⟨Obj.MEM_VDDQ, .u8, .ro, 0, 0, 0, [], [], 0, 1, 1, 1, false⟩,
  ⟨Obj.MEM_STATE, .u8, .ro, 0, 0, 0, [], [], 0, 1, 1, 1, false⟩,
  ⟨Obj.TRAIN_TICKS, .u32, .ro, 0, 0, 0, [], [], 0, 1, 1, 1, false⟩]

/-- Objects of indices 0x1000 to 0x10FF. -/
def dict10c : List ObjDef := [
  ⟨Obj.WIPE_TICKS, .u32, .ro, 0, 0, 0, [], [], 0, 1, 1, 1, false⟩,
  ⟨Obj.SHELF_REGION_GIB, .u16, .rwc, 1, 2, 2, [(0, 96)], [(0, 96)], 1, 1, 1, 1, true⟩,
  ⟨Obj.EM_REGION_GIB, .u16, .rwc, 1, 16, 16, [(0, 64)], [(0, 32)], 1, 1, 1, 1, true⟩,
  ⟨Obj.VOLATILE_REGION_GIB, .u16, .rwc, 1, 0, 0, [(0, 112)], [(0, 52)], 1, 1, 1, 1, true⟩,
  ⟨Obj.REGION_BASE, .u64, .ro, 0, 0, 0, [], [], 0, 1, 12, 12, false⟩,
  ⟨Obj.REGION_BYTES, .u64, .ro, 0, 0, 0, [], [], 0, 1, 12, 12, false⟩,
  ⟨Obj.CHANNEL_TEMP, .i32, .ro, 0, 0, 0, [], [], 0, 1, 64, 32, false⟩,
  ⟨Obj.MEM_TEMP_HOT, .u8, .rwc, 1, 95, 95, [(85, 100)], [(85, 100)], 1, 1, 1, 1, false⟩,
  ⟨Obj.MEM_TEMP_CRIT, .u8, .rwc, 1, 105, 105, [(90, 110)], [(90, 110)], 1, 1, 1, 1, false⟩,
  ⟨Obj.SCRUB_PERIOD, .u32, .rwc, 1, 67108864, 67108864, [(4194304, 4294967295)], [(4194304, 4294967295)], 1, 1, 1, 1, false⟩,
  ⟨Obj.CORRECTED, .u64, .ro, 0, 0, 0, [], [], 0, 1, 64, 32, false⟩,
  ⟨Obj.UNCORRECTABLE, .u64, .ro, 0, 0, 0, [], [], 0, 1, 64, 32, false⟩,
  ⟨Obj.MAC_FAILURES, .u64, .ro, 0, 0, 0, [], [], 0, 1, 64, 32, false⟩,
  ⟨Obj.MEM_THROTTLE_TICKS, .u64, .ro, 0, 0, 0, [], [], 0, 1, 64, 32, false⟩,
  ⟨Obj.VCORE_SETPOINT, .u16, .ro, 0, 800, 800, [], [], 0, 1, 1, 1, false⟩,
  ⟨Obj.VCORE_CURRENT, .u16, .ro, 0, 0, 0, [], [], 0, 1, 1, 1, false⟩,
  ⟨Obj.PACKAGE_POWER, .u16, .ro, 0, 0, 0, [], [], 0, 1, 1, 1, false⟩,
  ⟨Obj.POWER_LIMIT, .u16, .rwc, 1, 700, 360, [(200, 700)], [(120, 360)], 1, 1, 1, 1, true⟩,
  ⟨Obj.RAIL_STATUS, .u8, .ro, 0, 0, 0, [], [], 0, 1, 1, 1, false⟩,
  ⟨Obj.TJ, .i32, .ro, 0, 0, 0, [], [], 0, 1, 6, 6, false⟩,
  ⟨Obj.THROTTLE_TEMP, .u8, .rwc, 1, 100, 100, [(85, 105)], [(85, 105)], 1, 1, 1, 1, true⟩,
  ⟨Obj.THROTTLE_LEVEL, .u8, .ro, 0, 0, 0, [], [], 0, 1, 1, 1, false⟩,
  ⟨Obj.THROTTLE_TICKS, .u64, .ro, 0, 0, 0, [], [], 0, 1, 1, 1, false⟩,
  ⟨Obj.SHUTDOWN_TEMP, .u8, .const, 0, 115, 115, [], [], 0, 1, 1, 1, false⟩]

/-- Objects of indices 0x1000 to 0x10FF. -/
def dict10d : List ObjDef := [
  ⟨Obj.STRAPS, .u8, .ro, 0, 0, 0, [], [], 0, 1, 1, 1, false⟩,
  ⟨Obj.SIDEBAND_STATUS, .u32, .ro, 0, 0, 0, [], [], 0, 1, 1, 1, false⟩,
  ⟨Obj.MCTP_ADDRESS, .u8, .ro, 0, 104, 104, [], [], 0, 1, 1, 1, false⟩,
  ⟨Obj.SIDEBAND_EVENTS, .u64, .ro, 0, 0, 0, [], [], 0, 1, 1, 1, false⟩,
  ⟨Obj.LED_MODE, .u8, .rwc, 1, 0, 0, [(0, 3)], [(0, 3)], 3, 1, 4, 4, true⟩,
  ⟨Obj.LED_CURRENT, .u8, .rwc, 1, 8, 8, [(2, 12)], [(2, 12)], 1, 1, 4, 4, true⟩,
  ⟨Obj.LED_STATUS, .u8, .ro, 0, 0, 0, [], [], 0, 1, 4, 4, false⟩]

/-- Objects of indices 0x2000 to 0x20FF. -/
def dict20a : List ObjDef := [
  ⟨Obj.PORT_MODE, .u8, .rwc, 1, 6, 6, [(0, 11)], [(0, 11)], 3, 1, 32, 16, true⟩,
  ⟨Obj.ENABLE_2000, .bool, .rwc, 1, 0, 0, [], [], 0, 1, 32, 16, false⟩,
  ⟨Obj.FEC_MODE, .u8, .rwc, 1, 0, 0, [(0, 1)], [(0, 1)], 3, 1, 32, 16, true⟩,
  ⟨Obj.AN_ENABLE, .bool, .rwc, 1, 1, 1, [], [], 0, 1, 32, 16, true⟩,
  ⟨Obj.LINK_STATE_2000, .u8, .ro, 0, 0, 0, [], [], 0, 1, 32, 16, false⟩,
  ⟨Obj.LINK_UP_HOLD, .u32, .rwc, 1, 16384, 16384, [(0, 1048576)], [(0, 1048576)], 1, 1, 32, 16, false⟩,
  ⟨Obj.LINK_DOWN_HOLD, .u32, .rwc, 1, 0, 0, [(0, 1048576)], [(0, 1048576)], 1, 1, 32, 16, false⟩,
  ⟨Obj.LINK_RETRY, .u32, .rwc, 1, 2048, 2048, [(256, 1048576)], [(256, 1048576)], 1, 1, 32, 16, false⟩,
  ⟨Obj.LINK_DOWN_DROP, .bool, .rwc, 1, 1, 1, [], [], 0, 1, 32, 16, false⟩,
  ⟨Obj.MAX_FRAME, .u16, .rwc, 1, 1522, 1522, [(1518, 9728)], [(1518, 9728)], 1, 1, 32, 16, true⟩,
  ⟨Obj.PORT_MAC, (.octets 6), .rwc, 1, 0, 0, [], [], 0, 1, 32, 16, false⟩,
  ⟨Obj.FEC_DEGRADE_THRESHOLD, .u32, .rwc, 1, 1048576, 1048576, [(1, 4294967295)], [(1, 4294967295)], 1, 1, 32, 16, false⟩,
  ⟨Obj.PCP_CLASS_MAP, .u16, .rwc, 1, 1455, 1455, [], [], 0, 1, 32, 16, false⟩,
  ⟨Obj.DEFAULT_PCP, .u8, .rwc, 1, 0, 0, [(0, 7)], [(0, 7)], 1, 1, 32, 16, false⟩,
  ⟨Obj.HASH_FIELDS, .u16, .rwc, 1, 496, 496, [(0, 2047)], [(0, 2047)], 3, 1, 32, 16, false⟩,
  ⟨Obj.FLOW_CONTROL, .u8, .rwc, 1, 0, 0, [(0, 2)], [(0, 2)], 3, 1, 32, 16, false⟩,
  ⟨Obj.PFC_PRIORITIES, .u8, .rwc, 1, 0, 0, [], [], 0, 1, 32, 16, false⟩,
  ⟨Obj.XOFF_THRESHOLD, .u32, .rwc, 1, 262144, 262144, [(4096, 67108864)], [(4096, 67108864)], 2, 1024, 256, 128, false⟩,
  ⟨Obj.XON_THRESHOLD, .u32, .rwc, 1, 131072, 131072, [(0, 67107840)], [(0, 67107840)], 2, 1024, 256, 128, false⟩,
  ⟨Obj.HEADROOM, .u32, .rwc, 1, 327680, 327680, [(0, 16777216)], [(0, 16777216)], 2, 1024, 256, 128, false⟩,
  ⟨Obj.PAUSE_QUANTA, .u16, .rwc, 1, 65535, 65535, [(1, 65535)], [(1, 65535)], 1, 1, 32, 16, false⟩,
  ⟨Obj.WATERMARK_XOFF, .bool, .rwc, 1, 1, 1, [], [], 0, 1, 32, 16, false⟩,
  ⟨Obj.PFC_WATCHDOG, .u32, .rwc, 1, 196608, 196608, [(0, 16777216)], [(0, 16777216)], 1, 1, 32, 16, false⟩,
  ⟨Obj.LANE_STATUS, .u16, .ro, 0, 0, 0, [], [], 0, 1, 32, 16, false⟩]

/-- Objects of indices 0x2000 to 0x20FF. -/
def dict20b : List ObjDef := [
  ⟨Obj.TX_INVERT, .bool, .rwc, 1, 0, 0, [], [], 0, 1, 32, 16, true⟩,
  ⟨Obj.RX_FRAMES, .u64, .ro, 0, 0, 0, [], [], 0, 1, 32, 16, false⟩,
  ⟨Obj.RX_BYTES, .u64, .ro, 0, 0, 0, [], [], 0, 1, 32, 16, false⟩,
  ⟨Obj.TX_FRAMES, .u64, .ro, 0, 0, 0, [], [], 0, 1, 32, 16, false⟩,
  ⟨Obj.TX_BYTES, .u64, .ro, 0, 0, 0, [], [], 0, 1, 32, 16, false⟩,
  ⟨Obj.RX_FCS_ERRORS, .u64, .ro, 0, 0, 0, [], [], 0, 1, 32, 16, false⟩,
  ⟨Obj.RX_OVERSIZE, .u64, .ro, 0, 0, 0, [], [], 0, 1, 32, 16, false⟩,
  ⟨Obj.FEC_CORRECTED, .u64, .ro, 0, 0, 0, [], [], 0, 1, 32, 16, false⟩,
  ⟨Obj.FEC_UNCORRECTED, .u64, .ro, 0, 0, 0, [], [], 0, 1, 32, 16, false⟩,
  ⟨Obj.RX_DROP_HEADROOM, .u64, .ro, 0, 0, 0, [], [], 0, 1, 32, 16, false⟩,
  ⟨Obj.TX_DROP_LINK_DOWN, .u64, .ro, 0, 0, 0, [], [], 0, 1, 32, 16, false⟩,
  ⟨Obj.PAUSE_SENT, .u64, .ro, 0, 0, 0, [], [], 0, 1, 32, 16, false⟩,
  ⟨Obj.PAUSE_RECEIVED, .u64, .ro, 0, 0, 0, [], [], 0, 1, 32, 16, false⟩,
  ⟨Obj.MACSEC_TX_PN_EXHAUSTED, .u64, .ro, 0, 0, 0, [], [], 0, 1, 32, 16, false⟩,
  ⟨Obj.TX_STOMPED, .u64, .ro, 0, 0, 0, [], [], 0, 1, 32, 16, false⟩,
  ⟨Obj.PFC_SENT, .u64, .ro, 0, 0, 0, [], [], 0, 1, 256, 128, false⟩,
  ⟨Obj.PFC_RECEIVED, .u64, .ro, 0, 0, 0, [], [], 0, 1, 256, 128, false⟩,
  ⟨Obj.MACSEC_ENABLE, .bool, .rwc, 1, 0, 0, [], [], 0, 1, 32, 16, false⟩,
  ⟨Obj.CIPHER_SUITE, .u8, .rwc, 1, 3, 3, [(0, 3)], [(0, 3)], 3, 1, 32, 16, false⟩,
  ⟨Obj.VALIDATE_FRAMES, .u8, .rwc, 1, 2, 2, [(0, 2)], [(0, 2)], 3, 1, 32, 16, false⟩,
  ⟨Obj.CONF_OFFSET, .u8, .rwc, 1, 0, 0, [(0, 0), (30, 30), (50, 50)], [(0, 0), (30, 30), (50, 50)], 3, 1, 32, 16, false⟩,
  ⟨Obj.REPLAY_WINDOW, .u32, .rwc, 1, 0, 0, [], [], 0, 1, 32, 16, false⟩,
  ⟨Obj.TX_AN, .u8, .rwc, 1, 0, 0, [(0, 3)], [(0, 3)], 3, 1, 32, 16, false⟩,
  ⟨Obj.TX_SA_KEY, .handle, .rwc, 1, 4294967295, 4294967295, [], [], 3, 1, 128, 64, false⟩]

/-- Objects of indices 0x2000 to 0x20FF. -/
def dict20c : List ObjDef := [
  ⟨Obj.PN_THRESHOLD, .u64, .rwc, 1, 3221225472, 3221225472, [], [], 0, 1, 32, 16, false⟩,
  ⟨Obj.RX_SA_KEY, .handle, .rwc, 1, 4294967295, 4294967295, [], [], 3, 1, 16384, 16384, false⟩,
  ⟨Obj.RX_SCI, (.octets 8), .rwc, 1, 0, 0, [], [], 0, 1, 4096, 4096, false⟩,
  ⟨Obj.RX_SC_PORT, .u8, .rwc, 1, 255, 255, [(0, 31), (255, 255)], [(0, 15), (255, 255)], 3, 1, 4096, 4096, false⟩,
  ⟨Obj.MGMT_INTERFACE, .u8, .rwc, 1, 0, 0, [(0, 1)], [(0, 1)], 3, 1, 1, 1, true⟩,
  ⟨Obj.MGMT_MAC, (.octets 6), .const, 0, 0, 0, [], [], 0, 1, 1, 1, false⟩,
  ⟨Obj.MGMT_IPV4, (.octets 8), .rwc, 1, 0, 0, [], [], 0, 1, 1, 1, true⟩,
  ⟨Obj.MGMT_IPV6, (.octets 17), .rwc, 1, 0, 0, [], [], 0, 1, 1, 1, true⟩,
  ⟨Obj.MGMT_RX_DROP, .u64, .ro, 0, 0, 0, [], [], 0, 1, 1, 1, false⟩]

/-- Objects of indices 0x3000 to 0x30FF. -/
def dict30 : List ObjDef := [
  ⟨Obj.NODE_HEAD, (.octets 32), .rwc, 1, 0, 0, [], [], 3, 1, 512, 512, false⟩,
  ⟨Obj.NODE_ARCS, (.octets 192), .rwc, 1, 0, 0, [], [], 3, 1, 512, 512, false⟩,
  ⟨Obj.START_NODE, .u16, .rwc, 1, 257, 257, [(0, 257)], [(0, 257)], 3, 1, 80, 80, false⟩,
  ⟨Obj.ACTIVE_BANK, .u8, .rwc, 1, 0, 0, [(0, 1)], [(0, 1)], 3, 1, 1, 1, false⟩,
  ⟨Obj.GRAPH_TAG, .u32, .rwc, 1, 0, 0, [], [], 3, 1, 2, 2, false⟩,
  ⟨Obj.SWAP_TICK, .u64, .ro, 0, 0, 0, [], [], 0, 1, 1, 1, false⟩,
  ⟨Obj.SWAPS, .u64, .ro, 0, 0, 0, [], [], 0, 1, 1, 1, false⟩,
  ⟨Obj.CHECK_FAULT, .u32, .ro, 0, 0, 0, [], [], 0, 1, 1, 1, false⟩,
  ⟨Obj.WALKS, .u64, .ro, 0, 0, 0, [], [], 0, 1, 64, 32, false⟩,
  ⟨Obj.TRUNCATED, .u64, .ro, 0, 0, 0, [], [], 0, 1, 64, 32, false⟩,
  ⟨Obj.MALFORMED, .u64, .ro, 0, 0, 0, [], [], 0, 1, 64, 32, false⟩,
  ⟨Obj.UNKNOWN, .u64, .ro, 0, 0, 0, [], [], 0, 1, 64, 32, false⟩,
  ⟨Obj.BEYOND_FRAME, .u64, .ro, 0, 0, 0, [], [], 0, 1, 64, 32, false⟩,
  ⟨Obj.EXTENDED, .u64, .ro, 0, 0, 0, [], [], 0, 1, 64, 32, false⟩,
  ⟨Obj.VISITS, .u64, .ro, 0, 0, 0, [], [], 0, 1, 64, 32, false⟩]

/-- Objects of indices 0x3100 to 0x31FF. -/
def dict31 : List ObjDef := [
  ⟨Obj.LOAD_SET, .u8, .rwc, 1, 0, 0, [(0, 15)], [(0, 15)], 3, 1, 1, 1, false⟩,
  ⟨Obj.IMAGE_CHUNK, (.octets 256), .wo, 1, 0, 0, [], [], 3, 1, 524288, 524288, false⟩,
  ⟨Obj.VERIFY, .u8, .wo, 1, 0, 0, [(1, 1)], [(1, 1)], 3, 1, 1, 1, false⟩,
  ⟨Obj.PSET_ACTIVE_BANK, .u8, .rwc, 1, 0, 0, [(0, 1)], [(0, 1)], 3, 1, 16, 16, false⟩,
  ⟨Obj.BANK_STATE, .u8, .ro, 0, 0, 0, [], [], 0, 1, 32, 32, false⟩,
  ⟨Obj.BANK_PATTERNS, .u32, .ro, 0, 0, 0, [], [], 0, 1, 32, 32, false⟩,
  ⟨Obj.BANK_TAG, .u32, .ro, 0, 0, 0, [], [], 0, 1, 32, 32, false⟩,
  ⟨Obj.SCAN_LIMIT, .u16, .rwc, 1, 16384, 16384, [(64, 16384)], [(64, 16384)], 1, 1, 16, 16, false⟩,
  ⟨Obj.STREAM_SLOT, .u8, .rwc, 1, 3, 3, [(0, 15)], [(0, 15)], 1, 1, 16, 16, false⟩,
  ⟨Obj.STREAM_IDLE, .u32, .rwc, 1, 2097152, 2097152, [(2048, 2147483648)], [(2048, 2147483648)], 1, 1, 16, 16, false⟩,
  ⟨Obj.SCANS, .u64, .ro, 0, 0, 0, [], [], 0, 1, 64, 32, false⟩,
  ⟨Obj.SCANNED_BYTES, .u64, .ro, 0, 0, 0, [], [], 0, 1, 64, 32, false⟩,
  ⟨Obj.STREAM_OOO, .u64, .ro, 0, 0, 0, [], [], 0, 1, 64, 32, false⟩,
  ⟨Obj.STREAM_RESTARTS, .u64, .ro, 0, 0, 0, [], [], 0, 1, 64, 32, false⟩,
  ⟨Obj.STREAM_EVICTIONS, .u64, .ro, 0, 0, 0, [], [], 0, 1, 64, 32, false⟩,
  ⟨Obj.MATCH_CACHE_MISSES, .u64, .ro, 0, 0, 0, [], [], 0, 1, 64, 32, false⟩,
  ⟨Obj.CONTEXTS_IN_USE, .u64, .ro, 0, 0, 0, [], [], 0, 1, 64, 32, false⟩]

/-- Objects of indices 0x4000 to 0x40FF. -/
def dict40a : List ObjDef := [
  ⟨Obj.RULE_PLACEMENT, .u8, .rwc, 1, 0, 0, [(0, 2)], [(0, 2)], 3, 1, 1, 1, false⟩,
  ⟨Obj.RULE_SLOTS, .u32, .ro, 0, 8192, 8192, [], [], 0, 1, 1, 1, false⟩,
  ⟨Obj.PROBE_BUDGET, .u8, .const, 0, 8, 8, [], [], 0, 1, 1, 1, false⟩,
  ⟨Obj.FIRST_TABLE, .u8, .rwc, 1, 255, 255, [(0, 15), (255, 255)], [(0, 15), (255, 255)], 3, 1, 40, 40, false⟩,
  ⟨Obj.KEY_MAP, (.octets 96), .rwc, 1, 1552518092300708935148979488462502555256886017116696611139052038026050952686376886330878408828646477950487730697131073206171580044114814391444287275041181139204454976020849905550265285631598444825262999193716468750892846853816057855, 1552518092300708935148979488462502555256886017116696611139052038026050952686376886330878408828646477950487730697131073206171580044114814391444287275041181139204454976020849905550265285631598444825262999193716468750892846853816057855, [], [], 3, 1, 16, 16, false⟩,
  ⟨Obj.SLOT_BASE, .u32, .rwc, 1, 0, 0, [(0, 524288)], [(0, 524288)], 3, 1, 16, 16, false⟩,
  ⟨Obj.SLOT_COUNT, .u32, .rwc, 1, 0, 0, [(0, 524288)], [(0, 524288)], 3, 1, 16, 16, false⟩,
  ⟨Obj.GROUPS, .u8, .rwc, 1, 0, 0, [(0, 8)], [(0, 8)], 3, 1, 16, 16, false⟩,
  ⟨Obj.MISS_ACTION, .u16, .rwc, 1, 0, 0, [(0, 4095)], [(0, 4095)], 3, 1, 16, 16, false⟩,
  ⟨Obj.VALID_RULES, .u32, .ro, 0, 0, 0, [], [], 0, 1, 16, 16, false⟩,
  ⟨Obj.LOOKUPS_4010, .u64, .ro, 0, 0, 0, [], [], 0, 1, 16, 16, false⟩,
  ⟨Obj.MISSES, .u64, .ro, 0, 0, 0, [], [], 0, 1, 16, 16, false⟩,
  ⟨Obj.GROUP_MASK, (.octets 48), .rwc, 1, 0, 0, [], [], 3, 1, 128, 128, false⟩,
  ⟨Obj.GROUP_SEED, .u32, .rwc, 1, 0, 0, [], [], 3, 1, 128, 128, false⟩,
  ⟨Obj.RULE_DATA, (.octets 56), .rwc, 1, 0, 0, [], [], 3, 1, 524288, 262144, false⟩,
  ⟨Obj.RULE_HEAD, .u64, .rwc, 1, 0, 0, [], [], 3, 1, 524288, 262144, false⟩,
  ⟨Obj.RULE_HITS, .u64, .ro, 0, 0, 0, [], [], 0, 1, 524288, 262144, false⟩,
  ⟨Obj.ACTION, (.octets 32), .rwc, 1, 0, 0, [], [], 3, 1, 4096, 4096, false⟩,
  ⟨Obj.COMPARATOR, (.octets 12), .rwc, 1, 0, 0, [], [], 3, 1, 8192, 8192, false⟩,
  ⟨Obj.MIRROR_LEAF, .u32, .rwc, 1, 0, 0, [(0, 262143)], [(0, 262143)], 3, 1, 256, 256, false⟩,
  ⟨Obj.MIRROR_TRUNCATE, .u16, .rwc, 1, 0, 0, [(0, 0), (64, 9728)], [(0, 0), (64, 9728)], 1, 1, 256, 256, false⟩,
  ⟨Obj.REWRITE_TEMPLATE, (.octets 128), .rwc, 1, 0, 0, [], [], 3, 1, 4096, 4096, false⟩,
  ⟨Obj.COUNT_PACKETS, .u64, .ro, 0, 0, 0, [], [], 0, 1, 1048576, 1048576, false⟩,
  ⟨Obj.COUNT_BYTES, .u64, .ro, 0, 0, 0, [], [], 0, 1, 1048576, 1048576, false⟩]

/-- Objects of indices 0x4000 to 0x40FF. -/
def dict40b : List ObjDef := [
  ⟨Obj.CLASSIFIED, .u64, .ro, 0, 0, 0, [], [], 0, 1, 64, 32, false⟩,
  ⟨Obj.BUDGET_CUT, .u64, .ro, 0, 0, 0, [], [], 0, 1, 64, 32, false⟩,
  ⟨Obj.NO_DISPOSITION, .u64, .ro, 0, 0, 0, [], [], 0, 1, 64, 32, false⟩,
  ⟨Obj.REWRITE_FAILED, .u64, .ro, 0, 0, 0, [], [], 0, 1, 64, 32, false⟩,
  ⟨Obj.FENCED_BUCKET_READS, .u64, .ro, 0, 0, 0, [], [], 0, 1, 64, 32, false⟩]

/-- Objects of indices 0x5000 to 0x50FF. -/
def dict50a : List ObjDef := [
  ⟨Obj.KIND, .u8, .rwc, 1, 0, 0, [(0, 4)], [(0, 4)], 3, 1, 64, 64, false⟩,
  ⟨Obj.ENTRY_SIZE, .u8, .rwc, 1, 1, 1, [(0, 2)], [(0, 2)], 3, 1, 64, 64, false⟩,
  ⟨Obj.KEY_BYTES, .u8, .rwc, 1, 8, 8, [(1, 112)], [(1, 112)], 3, 1, 64, 64, false⟩,
  ⟨Obj.BUCKET_BASE, .u32, .rwc, 1, 0, 0, [], [], 3, 1, 64, 64, false⟩,
  ⟨Obj.BUCKET_COUNT, .u32, .rwc, 1, 0, 0, [(0, 268435456)], [(0, 134217728)], 3, 1, 64, 64, false⟩,
  ⟨Obj.SEED0, .u32, .rwc, 1, 0, 0, [], [], 0, 1, 64, 64, false⟩,
  ⟨Obj.SEED1, .u32, .rwc, 1, 2654435769, 2654435769, [], [], 0, 1, 64, 64, false⟩,
  ⟨Obj.CACHE_MODE, .u8, .rwc, 1, 2, 2, [(0, 2)], [(0, 2)], 3, 1, 64, 64, false⟩,
  ⟨Obj.AGE_ENABLE, .bool, .rwc, 1, 0, 0, [], [], 0, 1, 64, 64, false⟩,
  ⟨Obj.AGE_LIMIT, .u16, .rwc, 1, 559, 559, [(1, 32767)], [(1, 32767)], 1, 1, 64, 64, false⟩,
  ⟨Obj.LEARN_ENABLE, .bool, .rwc, 1, 0, 0, [], [], 3, 1, 64, 64, false⟩,
  ⟨Obj.LEARN_ACTION, .u16, .rwc, 1, 0, 0, [(0, 4095)], [(0, 4095)], 3, 1, 64, 64, false⟩,
  ⟨Obj.ENTRIES, .u64, .ro, 0, 0, 0, [], [], 0, 1, 64, 64, false⟩,
  ⟨Obj.LOOKUPS_5000, .u64, .ro, 0, 0, 0, [], [], 0, 1, 64, 64, false⟩,
  ⟨Obj.HITS, .u64, .ro, 0, 0, 0, [], [], 0, 1, 64, 64, false⟩,
  ⟨Obj.CACHE_HITS, .u64, .ro, 0, 0, 0, [], [], 0, 1, 64, 64, false⟩,
  ⟨Obj.INSERT_FULL, .u64, .ro, 0, 0, 0, [], [], 0, 1, 64, 64, false⟩,
  ⟨Obj.STATIC_CONFLICTS, .u64, .ro, 0, 0, 0, [], [], 0, 1, 64, 64, false⟩,
  ⟨Obj.EM_TABLE, .u8, .rwc, 1, 255, 255, [(0, 63), (255, 255)], [(0, 63), (255, 255)], 3, 1, 80, 80, false⟩,
  ⟨Obj.EM_KEY_MAP, (.octets 224), .rwc, 1, 279095111627852376407822673918065072905887935345660252615989519488029661278604994789701101367875859521849524793382568057369148405837577299984720398976429790087982805274893437406788716103454867635208144157749912668657006085226160261808841484862703257771979713923863820038729637520989894984676774385364934677289947762340313157123529922421738738162392233756507666339799675257002539356619747080176786496732679854783185583233878234270370065954615221443190595445898747930123678952192875629172092437548194134594886873249778512829119416327938768895, 279095111627852376407822673918065072905887935345660252615989519488029661278604994789701101367875859521849524793382568057369148405837577299984720398976429790087982805274893437406788716103454867635208144157749912668657006085226160261808841484862703257771979713923863820038729637520989894984676774385364934677289947762340313157123529922421738738162392233756507666339799675257002539356619747080176786496732679854783185583233878234270370065954615221443190595445898747930123678952192875629172092437548194134594886873249778512829119416327938768895, [], [], 3, 1, 80, 80, false⟩,
  ⟨Obj.EM_KEY_MASK, (.octets 112), .rwc, 1, 528294531135665246352339784916516606518847326036121522127960709026673902556724859474417255887657187894674394993257128678882347559502685537250538978462939576908386683999005084168731517676426441053024232908211188404148028292751561738838396898767036476489538580897737998335, 528294531135665246352339784916516606518847326036121522127960709026673902556724859474417255887657187894674394993257128678882347559502685537250538978462939576908386683999005084168731517676426441053024232908211188404148028292751561738838396898767036476489538580897737998335, [], [], 0, 1, 80, 80, false⟩,
  ⟨Obj.EM_ROLE, .u8, .rwc, 1, 0, 0, [(0, 1)], [(0, 1)], 3, 1, 80, 80, false⟩,
  ⟨Obj.EM_REFRESH, .bool, .rwc, 1, 1, 1, [], [], 0, 1, 80, 80, false⟩,
  ⟨Obj.EM_MISS_ACTION, .u16, .rwc, 1, 65535, 65535, [(0, 4095), (65535, 65535)], [(0, 4095), (65535, 65535)], 3, 1, 80, 80, false⟩]

/-- Objects of indices 0x5000 to 0x50FF. -/
def dict50b : List ObjDef := [
  ⟨Obj.EM_MERGE, .u8, .rwc, 1, 1, 1, [(0, 1)], [(0, 1)], 3, 1, 80, 80, false⟩,
  ⟨Obj.BPORT_LEARN, .bool, .rwc, 1, 1, 1, [], [], 0, 1, 4192, 2144, false⟩,
  ⟨Obj.LEARN_LIMIT, .u32, .rwc, 1, 16777216, 16777216, [(0, 16777216)], [(0, 16777216)], 1, 1, 4192, 2144, false⟩,
  ⟨Obj.LIMIT_MODE, .u8, .rwc, 1, 0, 0, [(0, 1)], [(0, 1)], 3, 1, 4192, 2144, false⟩,
  ⟨Obj.BPORT_LEAF, .u32, .rwc, 1, 0, 0, [(0, 262143)], [(0, 262143)], 3, 1, 4192, 2144, false⟩,
  ⟨Obj.LEARNED, .u32, .ro, 0, 0, 0, [], [], 0, 1, 4192, 2144, false⟩,
  ⟨Obj.DYN_GEN, .u16, .ro, 0, 0, 0, [], [], 0, 1, 4192, 2144, false⟩,
  ⟨Obj.STATIC_GEN, .u16, .ro, 0, 0, 0, [], [], 0, 1, 4192, 2144, false⟩,
  ⟨Obj.DYN_BASE, .u16, .ro, 0, 0, 0, [], [], 0, 1, 4192, 2144, false⟩,
  ⟨Obj.STATIC_BASE, .u16, .ro, 0, 0, 0, [], [], 0, 1, 4192, 2144, false⟩,
  ⟨Obj.LIMIT_HITS, .u64, .ro, 0, 0, 0, [], [], 0, 1, 4192, 2144, false⟩,
  ⟨Obj.MOVES, .u64, .ro, 0, 0, 0, [], [], 0, 1, 4192, 2144, false⟩,
  ⟨Obj.AGE_QUANTUM, .u8, .rwc, 1, 20, 20, [(12, 28)], [(12, 28)], 1, 1, 1, 1, false⟩,
  ⟨Obj.CURRENT_QUANTUM, .u16, .ro, 0, 0, 0, [], [], 0, 1, 1, 1, false⟩,
  ⟨Obj.EM_REGION_BUCKETS, .u32, .ro, 0, 0, 0, [], [], 0, 1, 1, 1, false⟩,
  ⟨Obj.SWEEP_PASS, .u32, .ro, 0, 0, 0, [], [], 0, 1, 1, 1, false⟩,
  ⟨Obj.HOT_CAPACITY, .u32, .const, 0, 4194304, 2097152, [], [], 0, 1, 1, 1, false⟩,
  ⟨Obj.EM_COMMAND, (.octets 256), .rw, 1, 0, 0, [], [], 3, 1, 1, 1, false⟩,
  ⟨Obj.LEARN_DEFERRED, .u64, .ro, 0, 0, 0, [], [], 0, 1, 1, 1, false⟩,
  ⟨Obj.AGED_OUT, .u64, .ro, 0, 0, 0, [], [], 0, 1, 1, 1, false⟩,
  ⟨Obj.RECLAIMED, .u64, .ro, 0, 0, 0, [], [], 0, 1, 1, 1, false⟩]

/-- Objects of indices 0x6000 to 0x60FF. -/
def dict60 : List ObjDef := [
  ⟨Obj.SHELF_SIZE, .u32, .const, 0, 0, 0, [], [], 0, 1, 6, 6, false⟩,
  ⟨Obj.SHELF_PLACE, .u8, .rwc, 1, 0, 0, [(0, 1)], [(0, 1)], 3, 1, 6, 6, true⟩,
  ⟨Obj.SHELF_BUFFERS, .u32, .rwc, 1, 0, 0, [(0, 268435456)], [(0, 268435456)], 1, 1, 6, 6, true⟩,
  ⟨Obj.SHELF_ADDR, .u64, .ro, 0, 0, 0, [], [], 0, 1, 6, 6, false⟩,
  ⟨Obj.RESERVE_BP, .u16, .rwc, 1, 100, 100, [(0, 5000)], [(0, 5000)], 1, 1, 6, 6, true⟩,
  ⟨Obj.LOW_WM_BP, .u16, .rwc, 1, 500, 500, [(0, 10000)], [(0, 10000)], 1, 1, 6, 6, false⟩,
  ⟨Obj.HIGH_WM_BP, .u16, .rwc, 1, 1000, 1000, [(0, 10000)], [(0, 10000)], 1, 1, 6, 6, false⟩,
  ⟨Obj.FREE, .u32, .ro, 0, 0, 0, [], [], 0, 1, 6, 6, false⟩,
  ⟨Obj.FLOOR, .u32, .ro, 0, 0, 0, [], [], 0, 1, 6, 6, false⟩,
  ⟨Obj.LOW_STATE, .bool, .ro, 0, 0, 0, [], [], 0, 1, 6, 6, false⟩,
  ⟨Obj.ESCALATE_MAX, .u8, .rwc, 1, 2, 2, [(0, 5)], [(0, 5)], 1, 1, 1, 1, true⟩,
  ⟨Obj.ON_CHIP_BYTES, .u32, .const, 0, 67108864, 33554432, [], [], 0, 1, 1, 1, false⟩,
  ⟨Obj.GDDR_SHELF_BYTES, .u64, .ro, 0, 0, 0, [], [], 0, 1, 1, 1, false⟩,
  ⟨Obj.ALLOCS, .u64, .ro, 0, 0, 0, [], [], 0, 1, 6, 6, false⟩,
  ⟨Obj.ESCALATIONS, .u64, .ro, 0, 0, 0, [], [], 0, 1, 6, 6, false⟩,
  ⟨Obj.ALLOC_FAILS, .u64, .ro, 0, 0, 0, [], [], 0, 1, 6, 6, false⟩,
  ⟨Obj.FLOOR_DENIALS, .u64, .ro, 0, 0, 0, [], [], 0, 1, 6, 6, false⟩,
  ⟨Obj.DEFERRED_FREES, .u64, .ro, 0, 0, 0, [], [], 0, 1, 6, 6, false⟩,
  ⟨Obj.REJECTED_FREES, .u64, .ro, 0, 0, 0, [], [], 0, 1, 6, 6, false⟩,
  ⟨Obj.REJECTED_DETACHES, .u64, .ro, 0, 0, 0, [], [], 0, 1, 6, 6, false⟩,
  ⟨Obj.LOW_EVENTS, .u64, .ro, 0, 0, 0, [], [], 0, 1, 6, 6, false⟩,
  ⟨Obj.NOBUF_DROPS, .u64, .ro, 0, 0, 0, [], [], 0, 1, 32, 16, false⟩,
  ⟨Obj.OWNER_CONTROL, .bool, .rwc, 1, 1, 1, [], [], 3, 1, 65536, 65536, false⟩,
  ⟨Obj.OWNER_HELD, .u32, .ro, 0, 0, 0, [], [], 0, 1, 65536, 65536, false⟩]

/-- Objects of indices 0x7000 to 0x70FF. -/
def dict70a : List ObjDef := [
  ⟨Obj.SHAPE_EN, .bool, .rwc, 3, 0, 0, [], [], 0, 1, 279600, 279600, false⟩,
  ⟨Obj.RATE, .rate, .rwc, 3, 1000000000, 1000000000, [(16000, 1600000000000)], [(16000, 1600000000000)], 1, 1, 279600, 279600, false⟩,
  ⟨Obj.BURST, .u32, .rwc, 3, 65536, 65536, [(1024, 16777216)], [(1024, 16777216)], 1, 1, 279600, 279600, false⟩,
  ⟨Obj.RELOAD, .u8, .rwc, 3, 0, 0, [(0, 1)], [(0, 1)], 3, 1, 279600, 279600, false⟩,
  ⟨Obj.CREDIT, .i64, .ro, 0, 0, 0, [], [], 0, 1, 279600, 279600, false⟩,
  ⟨Obj.NEXT_ELIGIBLE, .u64, .ro, 0, 0, 0, [], [], 0, 1, 279600, 279600, false⟩,
  ⟨Obj.PARENT, .u32, .rwc, 1, 0, 0, [], [], 3, 1, 279552, 279552, false⟩,
  ⟨Obj.PRIO, .u8, .rwc, 1, 7, 7, [(0, 7)], [(0, 7)], 1, 1, 279600, 279600, false⟩,
  ⟨Obj.WEIGHT, .u16, .rwc, 3, 16, 16, [(1, 4096)], [(1, 4096)], 1, 1, 279600, 279600, false⟩,
  ⟨Obj.ENABLE_7008, .bool, .rwc, 1, 0, 0, [], [], 0, 1, 279600, 279600, false⟩,
  ⟨Obj.NODE_FUNCTION, .u16, .rwc, 1, 65535, 65535, [(0, 4159), (65535, 65535)], [(0, 2111), (65535, 65535)], 3, 1, 279600, 279600, false⟩,
  ⟨Obj.PORT_OVERHEAD, .i32, .rwc, 1, 20, 20, [(-32, 64)], [(-32, 64)], 1, 1, 48, 48, false⟩,
  ⟨Obj.LOOP_AS, .u8, .rwc, 1, 0, 0, [(0, 31)], [(0, 15)], 3, 1, 48, 48, false⟩,
  ⟨Obj.CG_PFC_PRIO, .u8, .rwc, 1, 0, 0, [(0, 7)], [(0, 7)], 3, 1, 1024, 1024, false⟩,
  ⟨Obj.QMAX, .u32, .rwc, 1, 1048576, 1048576, [(0, 67108864)], [(0, 67108864)], 1, 1, 262144, 262144, false⟩,
  ⟨Obj.WRED_PROFILE, .u16, .rwc, 1, 65535, 65535, [(0, 255), (65535, 65535)], [(0, 255), (65535, 65535)], 3, 1, 262144, 262144, false⟩,
  ⟨Obj.LOW_PROTECT, .bool, .rwc, 1, 0, 0, [], [], 0, 1, 262144, 262144, false⟩,
  ⟨Obj.FLUSH, .bool, .wo, 1, 0, 0, [(1, 1)], [(1, 1)], 3, 1, 262144, 262144, false⟩,
  ⟨Obj.DEPTH_BYTES, .u32, .ro, 0, 0, 0, [], [], 0, 1, 262144, 262144, false⟩,
  ⟨Obj.DEPTH_FRAMES, .u32, .ro, 0, 0, 0, [], [], 0, 1, 262144, 262144, false⟩,
  ⟨Obj.ENQ_FRAMES, .u64, .ro, 0, 0, 0, [], [], 0, 1, 262144, 262144, false⟩,
  ⟨Obj.ENQ_BYTES, .u64, .ro, 0, 0, 0, [], [], 0, 1, 262144, 262144, false⟩,
  ⟨Obj.DEQ_FRAMES, .u64, .ro, 0, 0, 0, [], [], 0, 1, 262144, 262144, false⟩,
  ⟨Obj.DEQ_BYTES, .u64, .ro, 0, 0, 0, [], [], 0, 1, 262144, 262144, false⟩]

/-- Objects of indices 0x7000 to 0x70FF. -/
def dict70b : List ObjDef := [
  ⟨Obj.DISABLED_DROPS, .u64, .ro, 0, 0, 0, [], [], 0, 1, 262144, 262144, false⟩,
  ⟨Obj.POLICE_DROPS, .u64, .ro, 0, 0, 0, [], [], 0, 1, 262144, 262144, false⟩,
  ⟨Obj.LOW_DROPS, .u64, .ro, 0, 0, 0, [], [], 0, 1, 262144, 262144, false⟩,
  ⟨Obj.TAIL_DROPS, .u64, .ro, 0, 0, 0, [], [], 0, 1, 262144, 262144, false⟩,
  ⟨Obj.WRED_DROPS, .u64, .ro, 0, 0, 0, [], [], 0, 1, 262144, 262144, false⟩,
  ⟨Obj.ECN_MARKS, .u64, .ro, 0, 0, 0, [], [], 0, 1, 262144, 262144, false⟩,
  ⟨Obj.FLUSHED, .u64, .ro, 0, 0, 0, [], [], 0, 1, 262144, 262144, false⟩,
  ⟨Obj.WRED, (.octets 16), .rwc, 1, 0, 0, [], [], 3, 1, 256, 256, false⟩,
  ⟨Obj.POLICER, (.octets 24), .rwc, 1, 0, 0, [], [], 3, 1, 65536, 65536, false⟩,
  ⟨Obj.POLICER_TOKENS, (.octets 16), .ro, 0, 0, 0, [], [], 0, 1, 65536, 65536, false⟩,
  ⟨Obj.COLOR_MAP, (.octets 16), .rwc, 1, 0, 0, [], [], 3, 1, 16, 16, false⟩,
  ⟨Obj.GREEN_FRAMES, .u64, .ro, 0, 0, 0, [], [], 0, 1, 65536, 65536, false⟩,
  ⟨Obj.GREEN_BYTES, .u64, .ro, 0, 0, 0, [], [], 0, 1, 65536, 65536, false⟩,
  ⟨Obj.YELLOW_FRAMES, .u64, .ro, 0, 0, 0, [], [], 0, 1, 65536, 65536, false⟩,
  ⟨Obj.YELLOW_BYTES, .u64, .ro, 0, 0, 0, [], [], 0, 1, 65536, 65536, false⟩,
  ⟨Obj.RED_FRAMES, .u64, .ro, 0, 0, 0, [], [], 0, 1, 65536, 65536, false⟩,
  ⟨Obj.RED_BYTES, .u64, .ro, 0, 0, 0, [], [], 0, 1, 65536, 65536, false⟩,
  ⟨Obj.QSTAT, (.octets 32), .ro, 0, 0, 0, [], [], 0, 1, 262144, 262144, false⟩,
  ⟨Obj.HISTOGRAM, (.octets 128), .ro, 0, 0, 0, [], [], 0, 1, 1024, 1024, false⟩,
  ⟨Obj.SAMPLE_SHIFT, .u8, .rwc, 1, 4, 4, [(0, 15)], [(0, 15)], 1, 1, 1, 1, false⟩,
  ⟨Obj.QSTAT_CLEAR, .bool, .wo, 1, 0, 0, [(1, 1)], [(1, 1)], 3, 1, 1, 1, false⟩,
  ⟨Obj.CHAIN_CUT, .u64, .ro, 0, 0, 0, [], [], 0, 1, 1, 1, false⟩]

/-- Objects of indices 0x8000 to 0x80FF. -/
def dict80a : List ObjDef := [
  ⟨Obj.LINK_MODE, .u8, .rwc, 1, 1, 1, [(0, 3)], [(0, 3)], 3, 1, 8, 4, true⟩,
  ⟨Obj.ROOT_PORT_WIDTH, .u8, .rwc, 1, 4, 4, [(2, 2), (4, 4), (8, 8)], [(2, 2), (4, 4), (8, 8)], 3, 1, 8, 4, true⟩,
  ⟨Obj.MAX_SPEED, .u8, .rwc, 1, 7, 7, [(3, 7)], [(3, 7)], 1, 1, 8, 4, true⟩,
  ⟨Obj.PF_COUNT, .u8, .rwc, 1, 1, 1, [(1, 8)], [(1, 8)], 1, 1, 8, 4, true⟩,
  ⟨Obj.L0P_ENABLE, .bool, .rwc, 1, 1, 1, [], [], 0, 1, 8, 4, false⟩,
  ⟨Obj.LINK_STATE_8000, .u8, .ro, 0, 0, 0, [], [], 0, 1, 8, 4, false⟩,
  ⟨Obj.LINK_STATUS, .u16, .ro, 0, 0, 0, [], [], 0, 1, 8, 4, false⟩,
  ⟨Obj.CTO_TICKS, .u32, .ro, 0, 62500, 62500, [], [], 0, 1, 8, 4, false⟩,
  ⟨Obj.NP_OUTSTANDING, .u16, .ro, 0, 0, 0, [], [], 0, 1, 8, 4, false⟩,
  ⟨Obj.TAGS_QUARANTINED, .u16, .ro, 0, 0, 0, [], [], 0, 1, 8, 4, false⟩,
  ⟨Obj.COMPLETION_TIMEOUTS, .u64, .ro, 0, 0, 0, [], [], 0, 1, 8, 4, false⟩,
  ⟨Obj.LATE_COMPLETIONS, .u64, .ro, 0, 0, 0, [], [], 0, 1, 8, 4, false⟩,
  ⟨Obj.RESET_DISCARDS, .u64, .ro, 0, 0, 0, [], [], 0, 1, 8, 4, false⟩,
  ⟨Obj.UNEXPECTED_COMPLETIONS, .u64, .ro, 0, 0, 0, [], [], 0, 1, 8, 4, false⟩,
  ⟨Obj.TAG_WAITS, .u64, .ro, 0, 0, 0, [], [], 0, 1, 8, 4, false⟩,
  ⟨Obj.HOST_LINK_RESETS, .u64, .ro, 0, 0, 0, [], [], 0, 1, 8, 4, false⟩,
  ⟨Obj.TRAIN_FAILS, .u64, .ro, 0, 0, 0, [], [], 0, 1, 8, 4, false⟩,
  ⟨Obj.VF_BUDGET, .u16, .rwc, 1, 0, 0, [(0, 4096)], [(0, 2048)], 1, 1, 4160, 2112, true⟩,
  ⟨Obj.VF_BASE, .u16, .ro, 0, 0, 0, [], [], 0, 1, 4160, 2112, false⟩,
  ⟨Obj.FUNC_STATE, .u8, .ro, 0, 0, 0, [], [], 0, 1, 4160, 2112, false⟩,
  ⟨Obj.ACCESS_MASK, .u16, .rwc, 1, 65535, 65535, [], [], 0, 1, 4160, 2112, true⟩,
  ⟨Obj.PARENT_PF, .u8, .ro, 0, 0, 0, [], [], 0, 1, 4160, 2112, false⟩,
  ⟨Obj.MSIX_VECTORS, .u16, .const, 0, 2048, 2048, [], [], 0, 1, 4160, 2112, false⟩,
  ⟨Obj.FLRS, .u64, .ro, 0, 0, 0, [], [], 0, 1, 4160, 2112, false⟩]

/-- Objects of indices 0x8000 to 0x80FF. -/
def dict80b : List ObjDef := [
  ⟨Obj.FUNCTION_ABORTS, .u64, .ro, 0, 0, 0, [], [], 0, 1, 4160, 2112, false⟩,
  ⟨Obj.BME_CLEARS, .u64, .ro, 0, 0, 0, [], [], 0, 1, 4160, 2112, false⟩,
  ⟨Obj.BME_DISCARDS, .u64, .ro, 0, 0, 0, [], [], 0, 1, 4160, 2112, false⟩,
  ⟨Obj.DOORBELL_REJECTS, .u64, .ro, 0, 0, 0, [], [], 0, 1, 4160, 2112, false⟩,
  ⟨Obj.BAR_ERRORS, .u64, .ro, 0, 0, 0, [], [], 0, 1, 4160, 2112, false⟩,
  ⟨Obj.WAKE_MODE, .u8, .rwc, 1, 0, 0, [(0, 2)], [(0, 2)], 3, 1, 1, 1, true⟩,
  ⟨Obj.WAKE_PATTERN, (.octets 128), .rwc, 1, 0, 0, [], [], 0, 1, 1, 1, true⟩,
  ⟨Obj.WAKE_PAIRS, .u8, .rwc, 1, 15, 3, [(0, 15)], [(0, 3)], 3, 1, 1, 1, true⟩,
  ⟨Obj.QUEUE_LIMIT, .u16, .rwc, 1, 1024, 1024, [(2, 16384)], [(2, 16384)], 1, 1, 4160, 2112, true⟩,
  ⟨Obj.QUEUES_IN_USE, .u16, .ro, 0, 0, 0, [], [], 0, 1, 4160, 2112, false⟩,
  ⟨Obj.QUEUE_FUNCTION, .u16, .ro, 0, 65535, 65535, [], [], 0, 1, 262144, 131072, false⟩,
  ⟨Obj.QUEUE_NUMBER, .u16, .ro, 0, 0, 0, [], [], 0, 1, 262144, 131072, false⟩,
  ⟨Obj.QUEUE_TYPE, .u8, .ro, 0, 0, 0, [], [], 0, 1, 262144, 131072, false⟩,
  ⟨Obj.QUEUE_STATE, .u8, .ro, 0, 0, 0, [], [], 0, 1, 262144, 131072, false⟩,
  ⟨Obj.QUEUE_SIZE, .u32, .ro, 0, 0, 0, [], [], 0, 1, 262144, 131072, false⟩,
  ⟨Obj.PRODUCER, .u32, .ro, 0, 0, 0, [], [], 0, 1, 262144, 131072, false⟩,
  ⟨Obj.CONSUMER, .u32, .ro, 0, 0, 0, [], [], 0, 1, 262144, 131072, false⟩,
  ⟨Obj.FREEZE_STATUS, .u8, .ro, 0, 0, 0, [], [], 0, 1, 262144, 131072, false⟩,
  ⟨Obj.DOORBELLS, .u64, .ro, 0, 0, 0, [], [], 0, 1, 262144, 131072, false⟩,
  ⟨Obj.DOORBELLS_IGNORED, .u64, .ro, 0, 0, 0, [], [], 0, 1, 262144, 131072, false⟩,
  ⟨Obj.QJOBS, .u64, .ro, 0, 0, 0, [], [], 0, 1, 262144, 131072, false⟩,
  ⟨Obj.JOB_BYTES, .u64, .ro, 0, 0, 0, [], [], 0, 1, 262144, 131072, false⟩,
  ⟨Obj.JOB_ERRORS, .u64, .ro, 0, 0, 0, [], [], 0, 1, 262144, 131072, false⟩,
  ⟨Obj.QOVERRUNS, .u64, .ro, 0, 0, 0, [], [], 0, 1, 262144, 131072, false⟩]

/-- Objects of indices 0x8000 to 0x80FF. -/
def dict80c : List ObjDef := [
  ⟨Obj.RX_NOFIT, .u64, .ro, 0, 0, 0, [], [], 0, 1, 262144, 131072, false⟩,
  ⟨Obj.COMPLETIONS_DISCARDED, .u64, .ro, 0, 0, 0, [], [], 0, 1, 262144, 131072, false⟩,
  ⟨Obj.QUEUES_MAX, .u32, .const, 0, 262144, 131072, [], [], 0, 1, 1, 1, false⟩,
  ⟨Obj.QUEUES_TOTAL, .u32, .ro, 0, 0, 0, [], [], 0, 1, 1, 1, false⟩,
  ⟨Obj.VF_ASSIGN, .u32, .rwc, 3, 0, 0, [], [], 0, 1, 4160, 2112, false⟩,
  ⟨Obj.LB_INTERVAL, .u32, .rwc, 3, 1954, 1954, [(1, 16777216)], [(1, 16777216)], 1, 1, 4160, 2112, false⟩,
  ⟨Obj.LB_STATE, .u64, .ro, 0, 0, 0, [], [], 0, 1, 4160, 2112, false⟩,
  ⟨Obj.MAX_IMAGE, .u32, .rwc, 1, 67108864, 67108864, [(1048576, 268435456)], [(1048576, 268435456)], 1, 1, 1, 1, false⟩,
  ⟨Obj.SNAPSHOT_BYTES, .u32, .ro, 0, 0, 0, [], [], 0, 1, 4160, 2112, false⟩,
  ⟨Obj.LB_SENT, .u64, .ro, 0, 0, 0, [], [], 0, 1, 4160, 2112, false⟩,
  ⟨Obj.LB_RECEIVED, .u64, .ro, 0, 0, 0, [], [], 0, 1, 4160, 2112, false⟩,
  ⟨Obj.LB_THROTTLED, .u64, .ro, 0, 0, 0, [], [], 0, 1, 4160, 2112, false⟩,
  ⟨Obj.LB_REJECTS, .u64, .ro, 0, 0, 0, [], [], 0, 1, 4160, 2112, false⟩,
  ⟨Obj.QUIESCES, .u64, .ro, 0, 0, 0, [], [], 0, 1, 4160, 2112, false⟩,
  ⟨Obj.QUIESCE_FORCED, .u64, .ro, 0, 0, 0, [], [], 0, 1, 4160, 2112, false⟩,
  ⟨Obj.UNQUIESCED_REMOVALS, .u64, .ro, 0, 0, 0, [], [], 0, 1, 4160, 2112, false⟩,
  ⟨Obj.DIRTY_MARKS, .u64, .ro, 0, 0, 0, [], [], 0, 1, 4160, 2112, false⟩,
  ⟨Obj.DIRTY_OUTSIDE, .u64, .ro, 0, 0, 0, [], [], 0, 1, 4160, 2112, false⟩,
  ⟨Obj.DIRTY_ENABLE, .bool, .rwc, 3, 0, 0, [], [], 0, 1, 4160, 2112, false⟩,
  ⟨Obj.DIRTY_MAP_ADDR, .u64, .rwc, 3, 0, 0, [], [], 3, 1, 4160, 2112, false⟩,
  ⟨Obj.DIRTY_BASE, .u64, .rwc, 3, 0, 0, [], [], 3, 1, 4160, 2112, false⟩,
  ⟨Obj.DIRTY_PAGES, .u32, .rwc, 3, 0, 0, [(0, 268435456)], [(0, 268435456)], 1, 1, 4160, 2112, false⟩]

/-- Objects of indices 0x9000 to 0x90FF. -/
def dict90a : List ObjDef := [
  ⟨Obj.NVME_FUNCTION, .u16, .rwc, 1, 65535, 65535, [(0, 4159), (65535, 65535)], [(0, 2111), (65535, 65535)], 3, 1, 4096, 2048, true⟩,
  ⟨Obj.IOQ_LIMIT, .u16, .rwc, 3, 64, 64, [(1, 1024)], [(1, 1024)], 1, 1, 4096, 2048, false⟩,
  ⟨Obj.CTRL_STATE, .u8, .ro, 0, 0, 0, [], [], 0, 1, 4096, 2048, false⟩,
  ⟨Obj.IOQ_GRANTED, .u16, .ro, 0, 0, 0, [], [], 0, 1, 4096, 2048, false⟩,
  ⟨Obj.NS_STATE, .u8, .ro, 0, 0, 0, [], [], 0, 1, 32768, 16384, false⟩,
  ⟨Obj.NS_EXTENTS, .u32, .rwc, 1, 0, 0, [(1, 134217728)], [(1, 134217728)], 3, 1, 32768, 16384, false⟩,
  ⟨Obj.LBA_FORMAT, .u8, .rwc, 1, 2, 2, [(0, 3)], [(0, 3)], 3, 1, 32768, 16384, false⟩,
  ⟨Obj.EXTENT_BASE, .u32, .ro, 0, 0, 0, [], [], 0, 1, 32768, 16384, false⟩,
  ⟨Obj.XTS_KEY, .handle, .rwc, 3, 4294967295, 4294967295, [], [], 3, 1, 32768, 16384, false⟩,
  ⟨Obj.INTENT_BACKEND, .u16, .rwc, 3, 65535, 65535, [(0, 1023), (65535, 65535)], [(0, 1023), (65535, 65535)], 3, 1, 32768, 16384, false⟩,
  ⟨Obj.INTENT_LBA, .u64, .rwc, 3, 0, 0, [], [], 3, 1, 32768, 16384, false⟩,
  ⟨Obj.RECOVER, .bool, .wo, 3, 0, 0, [(1, 1)], [(1, 1)], 3, 1, 32768, 16384, false⟩,
  ⟨Obj.NS_CREATOR, .u16, .ro, 0, 65535, 65535, [], [], 0, 1, 32768, 16384, false⟩,
  ⟨Obj.ATTACH, .u16, .rwc, 3, 65535, 65535, [(0, 4095), (65535, 65535)], [(0, 2047), (65535, 65535)], 3, 1, 524288, 262144, false⟩,
  ⟨Obj.EXTENT, (.octets 32), .rwc, 3, 0, 0, [], [], 3, 1, 134217728, 67108864, false⟩,
  ⟨Obj.BK_KIND, .u8, .rwc, 1, 0, 0, [(0, 3)], [(0, 3)], 3, 1, 1024, 1024, true⟩,
  ⟨Obj.BK_ROOT_PORT, .u8, .rwc, 1, 0, 0, [], [], 3, 1, 1024, 1024, true⟩,
  ⟨Obj.BK_ADDR, (.octets 18), .rwc, 1, 0, 0, [], [], 0, 1, 1024, 1024, true⟩,
  ⟨Obj.BK_NQN, (.string 224), .rwc, 1, 0, 0, [], [], 0, 1, 1024, 1024, true⟩,
  ⟨Obj.BK_NSID, .u32, .rwc, 1, 1, 1, [(1, 4294967294)], [(1, 4294967294)], 3, 1, 1024, 1024, true⟩,
  ⟨Obj.BK_QUEUES, .u8, .rwc, 1, 8, 8, [(1, 64)], [(1, 64)], 1, 1, 1024, 1024, true⟩,
  ⟨Obj.BK_STATE, .u8, .ro, 0, 0, 0, [], [], 0, 1, 1024, 1024, false⟩,
  ⟨Obj.BK_LBA_SIZE, .u32, .ro, 0, 0, 0, [], [], 0, 1, 1024, 1024, false⟩,
  ⟨Obj.BK_PF, .u16, .rwc, 1, 65535, 65535, [(0, 63), (65535, 65535)], [(0, 31), (65535, 65535)], 3, 1, 1024, 1024, true⟩]

/-- Objects of indices 0x9000 to 0x90FF. -/
def dict90b : List ObjDef := [
  ⟨Obj.PATH_LOSSES, .u64, .ro, 0, 0, 0, [], [], 0, 1, 1024, 1024, false⟩,
  ⟨Obj.COMMAND_TIMEOUTS, .u64, .ro, 0, 0, 0, [], [], 0, 1, 1024, 1024, false⟩,
  ⟨Obj.RESYNC_EXTENTS, .u64, .ro, 0, 0, 0, [], [], 0, 1, 1024, 1024, false⟩,
  ⟨Obj.HOST_NQN, (.string 224), .rwc, 1, 0, 0, [], [], 0, 1, 1, 1, true⟩,
  ⟨Obj.SUBNQN, (.string 224), .rwc, 1, 0, 0, [], [], 0, 1, 1, 1, true⟩,
  ⟨Obj.KATO, .u32, .rwc, 1, 9765625, 9765625, [(1953125, 5859375)], [(1953125, 5859375)], 1, 1, 1, 1, false⟩,
  ⟨Obj.CMD_TIMEOUT, .u32, .rwc, 1, 9765625, 9765625, [(1953125, 15625000)], [(1953125, 15625000)], 1, 1, 1, 1, false⟩,
  ⟨Obj.SETTLE, .u32, .rwc, 1, 19531250, 19531250, [(1953125, 21484375)], [(1953125, 21484375)], 1, 1, 1, 1, false⟩,
  ⟨Obj.INTENT_LINGER, .u32, .rwc, 1, 1953125, 1953125, [(2048, 19531250)], [(2048, 19531250)], 1, 1, 1, 1, false⟩,
  ⟨Obj.OUTSTANDING, .u32, .ro, 0, 0, 0, [], [], 0, 1, 1, 1, false⟩,
  ⟨Obj.EXTENT_SLOTS, .u32, .rwc, 1, 16777216, 16777216, [(0, 134217728)], [(0, 67108864)], 2, 1048576, 1, 1, true⟩,
  ⟨Obj.COMMANDS, .u64, .ro, 0, 0, 0, [], [], 0, 1, 4096, 2048, false⟩,
  ⟨Obj.FROZEN_EVENTS, .u64, .ro, 0, 0, 0, [], [], 0, 1, 4096, 2048, false⟩,
  ⟨Obj.ABORTS_DONE, .u64, .ro, 0, 0, 0, [], [], 0, 1, 4096, 2048, false⟩,
  ⟨Obj.ABORTS_NOT_DONE, .u64, .ro, 0, 0, 0, [], [], 0, 1, 4096, 2048, false⟩,
  ⟨Obj.CID_CONFLICTS, .u64, .ro, 0, 0, 0, [], [], 0, 1, 4096, 2048, false⟩]

/-- Objects of indices 0xA000 to 0xA0FF. -/
def dictA0 : List ObjDef := [
  ⟨Obj.SLICE_STATE, .u8, .ro, 0, 0, 0, [], [], 0, 1, 64, 32, false⟩,
  ⟨Obj.CIPHER_REARM, .u8, .wo, 1, 0, 0, [(1, 1)], [(1, 1)], 3, 1, 1, 1, false⟩,
  ⟨Obj.RESEED_INTERVAL, .u32, .rwc, 1, 65536, 65536, [(2048, 1048576)], [(2048, 1048576)], 1, 1, 1, 1, false⟩,
  ⟨Obj.RNG_STATE, .u8, .ro, 0, 0, 0, [], [], 0, 1, 1, 1, false⟩,
  ⟨Obj.KEY_BLOCK_PF, .u16, .rwc, 1, 65535, 65535, [(0, 63), (65535, 65535)], [(0, 31), (65535, 65535)], 3, 1, 256, 256, false⟩,
  ⟨Obj.KEY_IMPORT, (.octets 96), .wo, 3, 0, 0, [], [], 3, 1, 1, 1, false⟩,
  ⟨Obj.KEY_DELETE, .u32, .wo, 3, 0, 0, [(0, 16777215)], [(0, 16777215)], 3, 1, 1, 1, false⟩,
  ⟨Obj.KEY_STATE, .u8, .ro, 0, 0, 0, [], [], 0, 1, 16777216, 16777216, false⟩,
  ⟨Obj.TK_STATE, .u8, .ro, 0, 0, 0, [], [], 0, 1, 4, 4, false⟩,
  ⟨Obj.KEYS_LOADED, .u32, .ro, 0, 0, 0, [], [], 0, 1, 1, 1, false⟩,
  ⟨Obj.SA, (.octets 128), .rwc, 3, 0, 0, [], [], 3, 1, 1048576, 1048576, false⟩,
  ⟨Obj.SA_SEQ, .u64, .ro, 0, 0, 0, [], [], 0, 1, 1048576, 1048576, false⟩,
  ⟨Obj.CJOBS, .u64, .ro, 0, 0, 0, [], [], 0, 1, 64, 32, false⟩,
  ⟨Obj.CBYTES, .u64, .ro, 0, 0, 0, [], [], 0, 1, 64, 32, false⟩,
  ⟨Obj.SUSPENSIONS, .u64, .ro, 0, 0, 0, [], [], 0, 1, 64, 32, false⟩,
  ⟨Obj.SUSPEND_WITHHELD, .u64, .ro, 0, 0, 0, [], [], 0, 1, 64, 32, false⟩,
  ⟨Obj.KEY_MISSES, .u64, .ro, 0, 0, 0, [], [], 0, 1, 64, 32, false⟩,
  ⟨Obj.KEY_ABSENT, .u64, .ro, 0, 0, 0, [], [], 0, 1, 64, 32, false⟩,
  ⟨Obj.ICV_FAILS, .u64, .ro, 0, 0, 0, [], [], 0, 1, 64, 32, false⟩,
  ⟨Obj.REPLAY_DROPS, .u64, .ro, 0, 0, 0, [], [], 0, 1, 64, 32, false⟩,
  ⟨Obj.SPI_MISMATCH, .u64, .ro, 0, 0, 0, [], [], 0, 1, 64, 32, false⟩,
  ⟨Obj.SEQ_EXHAUSTED, .u64, .ro, 0, 0, 0, [], [], 0, 1, 64, 32, false⟩,
  ⟨Obj.RNG_STALL_TICKS, .u64, .ro, 0, 0, 0, [], [], 0, 1, 64, 32, false⟩]

/-- Objects of indices 0xB000 to 0xB0FF. -/
def dictB0a : List ObjDef := [
  ⟨Obj.TB_STATE, .u8, .ro, 0, 0, 0, [], [], 0, 1, 8, 8, false⟩,
  ⟨Obj.TB_NOW, .time96, .ro, 0, 0, 0, [], [], 0, 1, 8, 8, false⟩,
  ⟨Obj.TB_ARM, .bool, .wo, 1, 0, 0, [(1, 1)], [(1, 1)], 3, 1, 8, 8, false⟩,
  ⟨Obj.TB_SET, (.octets 20), .wo, 3, 0, 0, [], [], 3, 1, 8, 8, false⟩,
  ⟨Obj.TB_ADJ_FREQ, .i64, .wo, 3, 0, 0, [(-65536000000, 65536000000)], [(-65536000000, 65536000000)], 1, 1, 8, 8, false⟩,
  ⟨Obj.TB_ADJ_PHASE, .i64, .wo, 3, 0, 0, [], [], 3, 1, 8, 8, false⟩,
  ⟨Obj.TB_FREQ, .i64, .ro, 0, 0, 0, [], [], 0, 1, 8, 8, false⟩,
  ⟨Obj.TB_SLEW_LEFT, .i64, .ro, 0, 0, 0, [], [], 0, 1, 8, 8, false⟩,
  ⟨Obj.JUMP_THRESHOLD, .u32, .rwc, 1, 1000, 1000, [(1, 1000000000)], [(1, 1000000000)], 1, 1, 8, 8, false⟩,
  ⟨Obj.SLEW_LIMIT, .u32, .rwc, 1, 100000, 100000, [(1000, 500000)], [(1000, 500000)], 1, 1, 8, 8, false⟩,
  ⟨Obj.TB_MANAGER, .u16, .rwc, 1, 65535, 65535, [(0, 63), (65535, 65535)], [(0, 31), (65535, 65535)], 3, 1, 8, 8, false⟩,
  ⟨Obj.TB_THREADS, .bool, .rwc, 1, 0, 0, [], [], 0, 1, 8, 8, false⟩,
  ⟨Obj.TB_FLAGS, .u16, .ro, 0, 0, 0, [], [], 0, 1, 8, 8, false⟩,
  ⟨Obj.REFUSALS, .u64, .ro, 0, 0, 0, [], [], 0, 1, 8, 8, false⟩,
  ⟨Obj.INGRESS_LATENCY, .i32, .rwc, 1, 0, 0, [(-1000000, 1000000)], [(-1000000, 1000000)], 1, 1, 256, 128, true⟩,
  ⟨Obj.EGRESS_LATENCY, .i32, .rwc, 1, 0, 0, [(-1000000, 1000000)], [(-1000000, 1000000)], 1, 1, 256, 128, true⟩,
  ⟨Obj.ASYMMETRY, .i32, .rwc, 1, 0, 0, [(-1000000000, 1000000000)], [(-1000000000, 1000000000)], 1, 1, 256, 128, true⟩,
  ⟨Obj.TC_ENABLE, .bool, .rwc, 1, 0, 0, [], [], 0, 1, 32, 16, true⟩,
  ⟨Obj.DOMAIN_TB, .u8, .rwc, 1, 255, 255, [(0, 7), (255, 255)], [(0, 7), (255, 255)], 3, 1, 256, 256, false⟩,
  ⟨Obj.RX_TS, .u8, .rwc, 7, 255, 255, [(0, 7), (255, 255)], [(0, 7), (255, 255)], 3, 1, 262144, 131072, false⟩,
  ⟨Obj.ONE_STEP, .bool, .rwc, 7, 0, 0, [], [], 3, 1, 262144, 131072, false⟩,
  ⟨Obj.PPS_OUT_TB, .u8, .rwc, 1, 255, 255, [(0, 7), (255, 255)], [(0, 7), (255, 255)], 3, 1, 1, 1, true⟩,
  ⟨Obj.PPS_OUT_WIDTH, .u32, .rwc, 1, 100000000, 100000000, [(100, 500000000)], [(100, 500000000)], 1, 1, 1, 1, false⟩,
  ⟨Obj.PPS_OUT_DELAY, .i32, .rwc, 1, 0, 0, [(-1000000, 1000000)], [(-1000000, 1000000)], 1, 1, 1, 1, true⟩]

/-- Objects of indices 0xB000 to 0xB0FF. -/
def dictB0b : List ObjDef := [
  ⟨Obj.PPS_IN_DELAY, .i32, .rwc, 1, 0, 0, [(-1000000, 1000000)], [(-1000000, 1000000)], 1, 1, 1, 1, true⟩,
  ⟨Obj.PPS_IN_CAPTURE, .time96, .ro, 0, 0, 0, [], [], 0, 1, 8, 8, false⟩,
  ⟨Obj.PPS_IN_COUNT, .u64, .ro, 0, 0, 0, [], [], 0, 1, 1, 1, false⟩,
  ⟨Obj.PPS_STATUS, .u8, .ro, 0, 0, 0, [], [], 0, 1, 1, 1, false⟩,
  ⟨Obj.PPS_OUT_RESTORE, .bool, .wo, 1, 0, 0, [(1, 1)], [(1, 1)], 3, 1, 1, 1, false⟩,
  ⟨Obj.REF10M_PPB, .i64, .ro, 0, 0, 0, [], [], 0, 1, 1, 1, false⟩,
  ⟨Obj.REF10M_STATE, .u8, .ro, 0, 0, 0, [], [], 0, 1, 1, 1, false⟩]

/-- Objects of indices 0xC000 to 0xC0FF. -/
def dictC0 : List ObjDef := [
  ⟨Obj.RESET_VECTOR, .u64, .ro, 0, 0, 0, [], [], 0, 1, 1, 1, false⟩,
  ⟨Obj.STALL_WAKE, .u8, .rwc, 1, 0, 0, [(0, 7)], [(0, 7)], 1, 1, 256, 128, false⟩,
  ⟨Obj.THREAD_STATE, .u8, .ro, 0, 0, 0, [], [], 0, 1, 2048, 1024, false⟩,
  ⟨Obj.PARCELS_HELD, .u8, .ro, 0, 0, 0, [], [], 0, 1, 2048, 1024, false⟩,
  ⟨Obj.STALLS, .u64, .ro, 0, 0, 0, [], [], 0, 1, 256, 128, false⟩,
  ⟨Obj.OVERRUN_TRAPS, .u64, .ro, 0, 0, 0, [], [], 0, 1, 2048, 1024, false⟩,
  ⟨Obj.CHANNEL_FAULTS, .u64, .ro, 0, 0, 0, [], [], 0, 1, 2048, 1024, false⟩,
  ⟨Obj.CHANNEL_TIMEOUTS, .u64, .ro, 0, 0, 0, [], [], 0, 1, 2048, 1024, false⟩,
  ⟨Obj.SIGEV_DISCARDED, .u64, .ro, 0, 0, 0, [], [], 0, 1, 2048, 1024, false⟩]

/-- Objects of indices 0xC800 to 0xC8FF. -/
def dictC8a : List ObjDef := [
  ⟨Obj.STEAL_ENABLE, .bool, .rwc, 1, 1, 1, [], [], 0, 1, 1, 1, false⟩,
  ⟨Obj.STEAL_THRESHOLD, .u16, .rwc, 1, 32, 32, [(2, 2048)], [(2, 2048)], 1, 1, 1, 1, false⟩,
  ⟨Obj.STEAL_MAX, .u8, .rwc, 1, 16, 16, [(1, 16)], [(1, 16)], 1, 1, 1, 1, false⟩,
  ⟨Obj.XCAB_STEAL_ENABLE, .bool, .rwc, 1, 1, 1, [], [], 0, 1, 1, 1, false⟩,
  ⟨Obj.XCAB_STEAL_THRESHOLD, .u16, .rwc, 1, 128, 128, [(16, 65535)], [(16, 65535)], 1, 1, 1, 1, false⟩,
  ⟨Obj.HASH_SEED, .u32, .rwc, 1, 0, 0, [], [], 0, 1, 1, 1, false⟩,
  ⟨Obj.SELFCHECK_INTERVAL, .u16, .rwc, 1, 64, 64, [(16, 256)], [(16, 256)], 1, 1, 1, 1, false⟩,
  ⟨Obj.REISSUE_ENABLE, .bool, .rwc, 1, 1, 1, [], [], 0, 1, 1, 1, false⟩,
  ⟨Obj.BUCKET_HOME, .u8, .rwc, 1, 0, 0, [(0, 63)], [(0, 31)], 3, 1, 4096, 4096, false⟩,
  ⟨Obj.BUCKET_PINNED, .u16, .ro, 0, 0, 0, [], [], 0, 1, 4096, 4096, false⟩,
  ⟨Obj.DRAWER_STATE, .u8, .ro, 0, 0, 0, [], [], 0, 1, 64, 32, false⟩,
  ⟨Obj.BACKLOG, .u32, .ro, 0, 0, 0, [], [], 0, 1, 64, 32, false⟩,
  ⟨Obj.STEALABLE_BACKLOG, .u32, .ro, 0, 0, 0, [], [], 0, 1, 64, 32, false⟩,
  ⟨Obj.STEALS_IN, .u64, .ro, 0, 0, 0, [], [], 0, 1, 64, 32, false⟩,
  ⟨Obj.STEALS_OUT, .u64, .ro, 0, 0, 0, [], [], 0, 1, 64, 32, false⟩,
  ⟨Obj.XCAB_STEALS_IN, .u64, .ro, 0, 0, 0, [], [], 0, 1, 64, 32, false⟩,
  ⟨Obj.OVERRUNS, .u64, .ro, 0, 0, 0, [], [], 0, 1, 64, 32, false⟩,
  ⟨Obj.OVERFLOW_FULL, .u64, .ro, 0, 0, 0, [], [], 0, 1, 64, 32, false⟩,
  ⟨Obj.FENCE, .bool, .wo, 1, 0, 0, [(1, 1)], [(1, 1)], 3, 1, 64, 32, false⟩,
  ⟨Obj.NEXT_TICKET, .u32, .ro, 0, 0, 0, [], [], 0, 1, 65536, 65536, false⟩,
  ⟨Obj.OLDEST_OPEN, .u32, .ro, 0, 0, 0, [], [], 0, 1, 65536, 65536, false⟩,
  ⟨Obj.HELD, .u16, .ro, 0, 0, 0, [], [], 0, 1, 65536, 65536, false⟩,
  ⟨Obj.WINDOW_STALLS, .u64, .ro, 0, 0, 0, [], [], 0, 1, 65536, 65536, false⟩,
  ⟨Obj.SKIPPED, .u64, .ro, 0, 0, 0, [], [], 0, 1, 65536, 65536, false⟩]

/-- Objects of indices 0xC800 to 0xC8FF. -/
def dictC8b : List ObjDef := [
  ⟨Obj.PIGEONHOLES, .u32, .const, 0, 131072, 131072, [], [], 0, 1, 1, 1, false⟩,
  ⟨Obj.PIGEONHOLES_IN_USE, .u32, .ro, 0, 0, 0, [], [], 0, 1, 1, 1, false⟩,
  ⟨Obj.POOL_FULL_EVENTS, .u64, .ro, 0, 0, 0, [], [], 0, 1, 1, 1, false⟩]

/-- Objects of indices 0xD000 to 0xD0FF. -/
def dictD0a : List ObjDef := [
  ⟨Obj.LIFE_CYCLE, .u8, .ro, 0, 0, 0, [], [], 0, 1, 1, 1, false⟩,
  ⟨Obj.TRANSITIONS_LEFT, .u8, .ro, 0, 0, 0, [], [], 0, 1, 1, 1, false⟩,
  ⟨Obj.TOKEN_NONCE, .u64, .ro, 0, 0, 0, [], [], 0, 1, 1, 1, false⟩,
  ⟨Obj.LC_TOKEN, (.octets 256), .wo, 1, 0, 0, [], [], 0, 1, 32, 32, false⟩,
  ⟨Obj.LC_REQUEST, .u8, .wo, 1, 0, 0, [(0, 4)], [(0, 4)], 3, 1, 1, 1, false⟩,
  ⟨Obj.OWNER_KEY_STATE, .u8, .ro, 0, 0, 0, [], [], 0, 1, 4, 4, false⟩,
  ⟨Obj.BOOT_SLOT, .u8, .ro, 0, 0, 0, [], [], 0, 1, 1, 1, false⟩,
  ⟨Obj.BOOT_KIND, .u8, .ro, 0, 0, 0, [], [], 0, 1, 1, 1, false⟩,
  ⟨Obj.FALLBACK, .bool, .ro, 0, 0, 0, [], [], 0, 1, 1, 1, false⟩,
  ⟨Obj.SLOT_STATE, .u8, .ro, 0, 0, 0, [], [], 0, 1, 4, 2, false⟩,
  ⟨Obj.SLOT_SEQUENCE, .u32, .ro, 0, 0, 0, [], [], 0, 1, 4, 2, false⟩,
  ⟨Obj.SLOT_VERSION, .u32, .ro, 0, 0, 0, [], [], 0, 1, 4, 2, false⟩,
  ⟨Obj.ACTIVE_SLOT, .u8, .ro, 0, 0, 0, [], [], 0, 1, 1, 1, false⟩,
  ⟨Obj.RECORD_COUNTER, .u32, .ro, 0, 0, 0, [], [], 0, 1, 1, 1, false⟩,
  ⟨Obj.IMG_BEGIN, .u8, .wo, 1, 0, 0, [(0, 3), (255, 255)], [(0, 1), (255, 255)], 3, 1, 1, 1, false⟩,
  ⟨Obj.IMG_CHUNK, (.octets 256), .wo, 1, 0, 0, [], [], 3, 1, 131136, 131136, false⟩,
  ⟨Obj.IMG_FINISH, .u8, .wo, 1, 0, 0, [(1, 1)], [(1, 1)], 3, 1, 1, 1, false⟩,
  ⟨Obj.IMG_STATE, .u8, .ro, 0, 0, 0, [], [], 0, 1, 1, 1, false⟩,
  ⟨Obj.IMG_SLOT, .u8, .ro, 0, 255, 255, [], [], 0, 1, 1, 1, false⟩,
  ⟨Obj.IMG_REASON, .u8, .ro, 0, 0, 0, [], [], 0, 1, 1, 1, false⟩,
  ⟨Obj.MIN_VERSION, .u8, .ro, 0, 0, 0, [], [], 0, 1, 1, 1, false⟩,
  ⟨Obj.MIN_VERSION_RAISE, .u8, .wo, 1, 0, 0, [(0, 128)], [(0, 128)], 3, 1, 1, 1, false⟩,
  ⟨Obj.TK_IMPORT_PUB, (.octets 97), .ro, 0, 0, 0, [], [], 0, 1, 1, 1, false⟩,
  ⟨Obj.TK_INSTALL, (.octets 152), .wo, 1, 0, 0, [], [], 3, 1, 1, 1, false⟩]

/-- Objects of indices 0xD000 to 0xD0FF. -/
def dictD0b : List ObjDef := [
  ⟨Obj.CRASH_BYTES, .u32, .rwc, 1, 0, 0, [(0, 67108864)], [(0, 67108864)], 2, 1048576, 1, 1, true⟩,
  ⟨Obj.CRASH_BASE, .u64, .ro, 0, 0, 0, [], [], 0, 1, 1, 1, false⟩]

/-- Objects of indices 0xE000 to 0xE0FF. -/
def dictE0a : List ObjDef := [
  ⟨Obj.TWIN_ENABLE, .bool, .rwc, 1, 0, 0, [], [], 0, 1, 1, 1, true⟩,
  ⟨Obj.ROLE, .u8, .ro, 0, 0, 0, [], [], 0, 1, 1, 1, false⟩,
  ⟨Obj.ROLE_REQUEST, .u8, .wo, 1, 0, 0, [(1, 2)], [(1, 2)], 3, 1, 1, 1, false⟩,
  ⟨Obj.PAIR_ID, .u32, .rwc, 1, 0, 0, [], [], 0, 1, 1, 1, true⟩,
  ⟨Obj.PEER_SERIAL, (.octets 16), .rwc, 1, 0, 0, [], [], 0, 1, 1, 1, true⟩,
  ⟨Obj.LEASE_RENEW, .u16, .rwc, 1, 195, 195, [(64, 1024)], [(64, 1024)], 1, 1, 1, 1, false⟩,
  ⟨Obj.LEASE_TERM, .u16, .rwc, 1, 586, 586, [(196, 4096)], [(196, 4096)], 1, 1, 1, 1, false⟩,
  ⟨Obj.FENCE_GUARD, .u16, .rwc, 1, 8, 8, [(2, 1024)], [(2, 1024)], 1, 1, 1, 1, false⟩,
  ⟨Obj.TWIN_PERIOD, .u32, .rwc, 1, 2048, 2048, [(256, 1048576)], [(256, 1048576)], 1, 1, 1, 1, false⟩,
  ⟨Obj.MIRROR_ACK_LIMIT, .u16, .rwc, 1, 64, 64, [(8, 4096)], [(8, 4096)], 1, 1, 1, 1, false⟩,
  ⟨Obj.TWIN_LINK_TIMEOUT, .u16, .rwc, 1, 128, 128, [(16, 4096)], [(16, 4096)], 1, 1, 1, 1, false⟩,
  ⟨Obj.SYNC_SHARE, .u8, .rwc, 1, 50, 50, [(10, 90)], [(10, 90)], 1, 1, 1, 1, false⟩,
  ⟨Obj.LEASE_SEQ, .u32, .ro, 0, 0, 0, [], [], 0, 1, 1, 1, false⟩,
  ⟨Obj.LEASE_DEADLINE, .u64, .ro, 0, 0, 0, [], [], 0, 1, 1, 1, false⟩,
  ⟨Obj.TWIN_LINK_STATE, .u8, .ro, 0, 0, 0, [], [], 0, 1, 1, 1, false⟩,
  ⟨Obj.PEER_ROLE, .u8, .ro, 0, 255, 255, [], [], 0, 1, 1, 1, false⟩,
  ⟨Obj.LAST_TAKEOVER_TICK, .u64, .ro, 0, 0, 0, [], [], 0, 1, 1, 1, false⟩,
  ⟨Obj.SYNC_REMAINING, .u64, .ro, 0, 0, 0, [], [], 0, 1, 1, 1, false⟩,
  ⟨Obj.SYNC_FAULT, .bool, .ro, 0, 0, 0, [], [], 0, 1, 1, 1, false⟩,
  ⟨Obj.TWIN_MIRROR, .bool, .rwc, 1, 0, 0, [], [], 3, 1, 4160, 2112, true⟩,
  ⟨Obj.TWIN_PEER_FUNC, .u16, .rwc, 1, 65535, 65535, [], [], 0, 1, 4160, 2112, true⟩,
  ⟨Obj.TABLE_MIRROR, .bool, .rwc, 1, 0, 0, [], [], 3, 1, 64, 64, false⟩,
  ⟨Obj.IDENT_MAC, (.octets 6), .rwc, 1, 0, 0, [], [], 0, 1, 256, 256, true⟩,
  ⟨Obj.IDENT_IP, (.octets 17), .rwc, 1, 0, 0, [], [], 0, 1, 256, 256, true⟩]

/-- Objects of indices 0xE000 to 0xE0FF. -/
def dictE0b : List ObjDef := [
  ⟨Obj.IDENT_PORT, .u8, .rwc, 1, 255, 255, [(0, 31), (255, 255)], [(0, 15), (255, 255)], 3, 1, 256, 256, true⟩,
  ⟨Obj.TAKEOVERS, .u64, .ro, 0, 0, 0, [], [], 0, 1, 1, 1, false⟩,
  ⟨Obj.SELF_FENCES, .u64, .ro, 0, 0, 0, [], [], 0, 1, 1, 1, false⟩,
  ⟨Obj.RENEWALS, .u64, .ro, 0, 0, 0, [], [], 0, 1, 1, 1, false⟩,
  ⟨Obj.LEASE_REFUSED, .u64, .ro, 0, 0, 0, [], [], 0, 1, 1, 1, false⟩,
  ⟨Obj.MIRROR_MESSAGES, .u64, .ro, 0, 0, 0, [], [], 0, 1, 1, 1, false⟩,
  ⟨Obj.MIRROR_STALL_TICKS, .u64, .ro, 0, 0, 0, [], [], 0, 1, 1, 1, false⟩,
  ⟨Obj.WRONG_PEER, .u64, .ro, 0, 0, 0, [], [], 0, 1, 1, 1, false⟩,
  ⟨Obj.ROLE_DROPS, .u64, .ro, 0, 0, 0, [], [], 0, 1, 1, 1, false⟩]

/-- Objects of indices 0xF000 to 0xF0FF. -/
def dictF0 : List ObjDef := [
  ⟨Obj.DIAG_ENTRY, (.octets 16), .ro, 0, 0, 0, [], [], 0, 1, 256, 256, false⟩,
  ⟨Obj.DIAG_COUNT, .u64, .ro, 0, 0, 0, [], [], 0, 1, 1, 1, false⟩,
  ⟨Obj.CABINET_STATE, .u8, .ro, 0, 0, 0, [], [], 0, 1, 4, 2, false⟩,
  ⟨Obj.CABINET_FENCE, .bool, .wo, 1, 0, 0, [(1, 1)], [(1, 1)], 3, 1, 4, 2, false⟩,
  ⟨Obj.DEVICE_FAULT, .u8, .ro, 0, 0, 0, [], [], 0, 1, 1, 1, false⟩,
  ⟨Obj.FENCE_ENTRY, (.octets 32), .ro, 0, 0, 0, [], [], 0, 1, 64, 64, false⟩,
  ⟨Obj.FENCE_COUNT, .u64, .ro, 0, 0, 0, [], [], 0, 1, 1, 1, false⟩,
  ⟨Obj.BUFFER_ERROR_ENTRY, (.octets 16), .ro, 0, 0, 0, [], [], 0, 1, 256, 256, false⟩,
  ⟨Obj.BUFFER_ERROR_COUNT, .u64, .ro, 0, 0, 0, [], [], 0, 1, 1, 1, false⟩,
  ⟨Obj.HOST_LINK_ERROR_ENTRY, (.octets 16), .ro, 0, 0, 0, [], [], 0, 1, 256, 256, false⟩,
  ⟨Obj.HOST_LINK_ERROR_COUNT, .u64, .ro, 0, 0, 0, [], [], 0, 1, 1, 1, false⟩,
  ⟨Obj.TENANT_ENTRY, (.octets 16), .ro, 0, 0, 0, [], [], 0, 1, 256, 256, false⟩,
  ⟨Obj.TENANT_COUNT, .u64, .ro, 0, 0, 0, [], [], 0, 1, 1, 1, false⟩,
  ⟨Obj.STORAGE_ENTRY, (.octets 16), .ro, 0, 0, 0, [], [], 0, 1, 256, 256, false⟩,
  ⟨Obj.STORAGE_COUNT, .u64, .ro, 0, 0, 0, [], [], 0, 1, 1, 1, false⟩,
  ⟨Obj.ALARM_ENTRY, (.octets 16), .ro, 0, 0, 0, [], [], 0, 1, 64, 64, false⟩,
  ⟨Obj.ALARM_COUNT, .u64, .ro, 0, 0, 0, [], [], 0, 1, 1, 1, false⟩,
  ⟨Obj.STALL_ENTRY, (.octets 16), .ro, 0, 0, 0, [], [], 0, 1, 64, 64, false⟩,
  ⟨Obj.STALL_COUNT, .u64, .ro, 0, 0, 0, [], [], 0, 1, 1, 1, false⟩,
  ⟨Obj.TWIN_ENTRY, (.octets 16), .ro, 0, 0, 0, [], [], 0, 1, 64, 64, false⟩,
  ⟨Obj.TWIN_COUNT, .u64, .ro, 0, 0, 0, [], [], 0, 1, 1, 1, false⟩,
  ⟨Obj.MEMORY_ERROR_ENTRY, (.octets 16), .ro, 0, 0, 0, [], [], 0, 1, 256, 256, false⟩,
  ⟨Obj.MEMORY_ERROR_COUNT, .u64, .ro, 0, 0, 0, [], [], 0, 1, 1, 1, false⟩]

/-- The whole dictionary, in ascending order of index and subindex. -/
def dictionary : List ObjDef :=
  dict10a ++
  dict10b ++
  dict10c ++
  dict10d ++
  dict20a ++
  dict20b ++
  dict20c ++
  dict30 ++
  dict31 ++
  dict40a ++
  dict40b ++
  dict50a ++
  dict50b ++
  dict60 ++
  dict70a ++
  dict70b ++
  dict80a ++
  dict80b ++
  dict80c ++
  dict90a ++
  dict90b ++
  dictA0 ++
  dictB0a ++
  dictB0b ++
  dictC0 ++
  dictC8a ++
  dictC8b ++
  dictD0a ++
  dictD0b ++
  dictE0a ++
  dictE0b ++
  dictF0

/-- The rows of the indices 0xHH00 to 0xHHFF, by HH. -/
def dictPage : Nat → List ObjDef
  | 0x10 => dict10a ++ dict10b ++ dict10c ++ dict10d
  | 0x20 => dict20a ++ dict20b ++ dict20c
  | 0x30 => dict30
  | 0x31 => dict31
  | 0x40 => dict40a ++ dict40b
  | 0x50 => dict50a ++ dict50b
  | 0x60 => dict60
  | 0x70 => dict70a ++ dict70b
  | 0x80 => dict80a ++ dict80b ++ dict80c
  | 0x90 => dict90a ++ dict90b
  | 0xA0 => dictA0
  | 0xB0 => dictB0a ++ dictB0b
  | 0xC0 => dictC0
  | 0xC8 => dictC8a ++ dictC8b
  | 0xD0 => dictD0a ++ dictD0b
  | 0xE0 => dictE0a ++ dictE0b
  | 0xF0 => dictF0
  | _ => []

/-- The row of an object, if the dictionary defines it (R59). -/
def objDef? (oid : Nat) : Option ObjDef :=
  (dictPage (oid / 65536)).find? (fun d => d.oid == oid)

end Sys2Proof.Machine
end

