-- ==== Sys2Proof/Machine/Tab.lean ====
section
/-! DEFINITION. Sparse tables keyed by a number, in one canonical form: keys strictly rising. -/
namespace Sys2Proof.Machine

/-- A sparse table: key and value pairs, keys strictly rising. -/
abbrev Tab (α : Type) := List (Nat × α)

/-- The value at a key, if the table lists it. -/
def Tab.get? {α : Type} : Tab α → Nat → Option α
  | [], _ => none
  | (k, v) :: t, i => if i = k then some v else Tab.get? t i

/-- The value at a key, or a default. -/
def Tab.getD {α : Type} (t : Tab α) (i : Nat) (d : α) : α := (Tab.get? t i).getD d

/-- The table with key i holding v. -/
def Tab.ins {α : Type} : Tab α → Nat → α → Tab α
  | [], i, v => [(i, v)]
  | (k, w) :: t, i, v =>
    if i = k then (i, v) :: t
    else if i < k then (i, v) :: (k, w) :: t
    else (k, w) :: Tab.ins t i v

/-- The table without key i. -/
def Tab.del {α : Type} (t : Tab α) (i : Nat) : Tab α := t.filter (fun e => e.1 != i)

/-- The table with key i reading v, where an unlisted key reads d: writing d removes the entry. -/
def Tab.put {α : Type} [DecidableEq α] (d : α) (t : Tab α) (i : Nat) (v : α) : Tab α :=
  if v = d then Tab.del t i else Tab.ins t i v

/-- The table with the value at key i changed by f, d standing for an unlisted value. -/
def Tab.upd {α : Type} (t : Tab α) (i : Nat) (d : α) (f : α → α) : Tab α := Tab.ins t i (f (Tab.getD t i d))

/-- Every key of the table is above b and the keys rise strictly. -/
def Tab.above {α : Type} : Nat → Tab α → Bool
  | _, [] => true
  | b, (k, _) :: t => decide (b < k) && Tab.above k t

/-- The canonical form: keys strictly rising. -/
def Tab.wf {α : Type} : Tab α → Bool
  | [] => true
  | (k, _) :: t => Tab.above k t

/-- The values of a table, in key order. -/
def Tab.vals {α : Type} (t : Tab α) : List α := t.map Prod.snd

/-- The keys of a table, in order. -/
def Tab.keys {α : Type} (t : Tab α) : List Nat := t.map Prod.fst

end Sys2Proof.Machine
end

