-- ==== Sys2Proof/Machine/State.lean ====
section
/-! DEFINITION. The state of the block: every register, FIFO, buffer, counter, mode and pin the spec gives it, as plain data,
the queue of waiting commands, the stops, and the state after reset. -/
namespace Sys2Proof.Machine

/-- The two orderable parts (R1, R2). -/
inductive Part where
  | ik9x | ik9c
  deriving DecidableEq, Repr

/-- What the SecY of a port found for a received MACsec frame when its parcel was admitted (R107): the receive SA's index and key handle, if
the frame's SCI names an SC; the full packet number; and whether the replay check fails. -/
structure SecBind where
  sa : Option (Nat × Nat)
  pn : Nat
  late : Bool
  deriving DecidableEq, Repr

/-- A parcel: the fields of *Parcel format* (R35), what the SecY has bound to it (R107), and, for a readmitted copy (R200), whether it holds a
share of its chain and not last ownership, and whether its frame there carries a CE mark that the chain's bytes do not (R211). `copy` is the
frame of its mirror copy, where the slice has protected that copy for its own port (R106, R336). -/
structure Parcel where
  kind : Nat := 0
  cls : Nat := 0
  stealable : Bool := false
  ordered : Bool := false
  idem : Bool := false
  stolen : Bool := false
  reissued : Bool := false
  yielded : Bool := false
  home : Nat := 0
  exec : Nat := 0
  group : Nat := 0
  source : Nat := 0
  ticket : Nat := 0
  flowHash : Nat := 0
  admitTick : Nat := 0
  handle : Nat := 0xFFFFFFFF
  length : Nat := 0
  status : Nat := 0
  disp : Nat := 0
  dropReason : Nat := 0
  leaf : Nat := 0
  actMeta : Nat := 0
  kindData : Nat := 0
  sec : Option SecBind := none
  shared : Bool := false
  ce : Bool := false
  copy : Option (List Nat) := none
  /-- A host submission's queue: its device number g, and its TIME_BASE (R371). -/
  send : Option (Nat × Nat) := none
  deriving DecidableEq, Repr

/-- The parse result of a walk (R122): the 64 key bytes, the slot offsets (none: not VALID), flags and positions. -/
structure ParseResult where
  key : List Nat := List.replicate 64 0
  slots : List (Option Nat) := List.replicate 16 none
  userFlags : Nat := 0
  status : Nat := 0
  payload : Nat := 0
  visits : Nat := 0
  bank : Nat := 0
  lastNode : Nat := 0
  deriving DecidableEq, Repr

/-- A waiting parcel and the order in which it entered its FIFO (R41, R396). -/
structure QEntry where
  seq : Nat
  p : Parcel
  /-- The parse result of a parcel that a thread returned (R112). -/
  kept : Option ParseResult := none
  /-- The cipher slice has transformed the received MACsec frame (R336). -/
  clear : Bool := false
  /-- The ingress copy of a parcel that an engine has taken before (R55). -/
  ingress : Option Parcel := none
  deriving DecidableEq, Repr

/-- The pattern result of a scan (R149). -/
structure PatternResult where
  classes : Nat := 0
  ids : List Nat := []
  count : Nat := 0
  flags : Nat := 0
  scanned : Nat := 0
  pset : Nat := 0
  deriving DecidableEq, Repr

/-- The values that a parcel's actions have set so far (R139): disposition op (0 none, 1 FORWARD, 2 DROP, 3 PUNT, 4 STORAGE), and each
field with whether an action set it. `leafFwd` tells a LEAF set by FORWARD or SET_QUEUE. -/
structure Actions where
  disp : Nat := 0
  leaf : Option Nat := none
  policer : Option Nat := none
  sa : Option Nat := none
  rewrite : Option Nat := none
  mirror : Option Nat := none
  punt : Option Nat := none
  storageArg : Nat := 0
  counts : List Nat := []
  deriving DecidableEq, Repr

/-- What a sorter context is parked on: header bytes still arriving (R120), or an exact-match read of GDDR6 (R162). -/
inductive Stage where
  | header | lookup
  deriving DecidableEq, Repr

/-- What a parked lookup waits for (R137, R162): the exact-match lookups, or a probe of the first rule lookup, or of the second in table t. -/
inductive Await where
  | em | first | second (t : Nat)
  deriving DecidableEq, Repr

/-- A sorter context (R43): the parcel, its ingress copy (R55), the classification's configuration (R141) and what the stages
have produced so far. -/
structure SorterCtx where
  p : Parcel
  ingress : Option Parcel
  takeTick : Nat
  cfg : List (Nat × Nat)
  stage : Stage := .header
  await : Await := .em
  pr : ParseResult := {}
  pat : PatternResult := {}
  acts : Actions := {}
  /-- The final disposition is a punt (R139), with the disposition still to be decided by a thread. -/
  punt : Bool := false
  tag : Nat := 0
  probes : Nat := 0
  /-- Exact-match lookups that found no hot record and so read both their buckets (R162). -/
  cold : List Bool := []
  /-- The frame is held until its tail has arrived (R95). -/
  hold : Bool := false
  parkTick : Nat := 0
  /-- The engine that finished with it, where that is not the sorter of its drawer, and the owner that its consuming action names (R52, R190). -/
  eng : Option Nat := none
  owner : Option Nat := none
  /-- A slice has transformed it under its SA before a thread returned it (R336). -/
  sealed : Bool := false
  deriving DecidableEq, Repr

/-- A punted parcel waiting on a drawer's punt FIFO (R139). -/
structure PuntItem where
  seq : Nat
  p : Parcel
  ingress : Option Parcel
  reason : Nat
  pr : ParseResult
  pat : PatternResult
  deriving DecidableEq, Repr

/-- A parcel in one of a thread's four slots (R395). -/
structure Slot where
  p : Parcel
  ingress : Option Parcel
  takeTick : Nat
  overdue : Bool
  reason : Nat
  pr : ParseResult
  pat : PatternResult
  deriving DecidableEq, Repr

/-- A finished parcel at the rack (R51): the parcel, and the owner named by a consuming action (R190). -/
structure Fin where
  p : Parcel
  owner : Nat
  /-- The ingress copy, while its engine keeps the parcel (R52, R55). -/
  ingress : Option Parcel := none
  deriving DecidableEq, Repr

/-- Why a drawer or cabinet will be fenced at the next edge, and when that was detected (R54, R496). -/
structure FenceCause where
  cause : Nat
  detect : Nat
  deriving DecidableEq, Repr

/-- The work-distribution state of chapter 02. -/
structure Work where
  /-- Waiting parcels of each drawer, in the order they entered (R41). -/
  queues : Tab (List QEntry) := []
  /-- Whether a drawer's queue held a waiting parcel in some cycle of the current tick (R46). -/
  busy : Tab Bool := []
  /-- The same, for the tick the last edge closed (R46). -/
  wasBusy : Tab Bool := []
  /-- The next FIFO entry number (R396). -/
  seq : Nat := 0
  /-- What waited in each drawer at the end of the tick that the last edge closed, less what that edge's steals took (R24, R46, R47). -/
  backlogs : Tab (List QEntry) := []
  /-- Parcels held at the hub for their group's window, without a ticket, oldest first (R42, R50). -/
  windowHeld : List Parcel := []
  /-- Parcels held at the hub for drawer-queue room, with any ticket drawn, oldest first (R42); true: placed by a fence (R55). -/
  roomHeld : List (Bool × QEntry) := []
  /-- Sorter contexts, key 3d + i (R43). -/
  ctxs : Tab SorterCtx := []
  /-- Parcels their engines have finished with and that have not come to the rack yet, oldest first (R51, R95). -/
  fins : List SorterCtx := []
  /-- Packets counted in this tick and the two before it: tick, counter pair and bytes (R509). -/
  recent : List (Nat × Nat × Nat) := []
  /-- Punt FIFOs of each drawer (R139). -/
  punts : Tab (List PuntItem) := []
  /-- Thread slots, key 4h + s (R395). -/
  slots : Tab Slot := []
  /-- Thread slots whose parcel was retired by the second overrun, key 4h + s (R44). -/
  overrun : List Nat := []
  /-- Finished parcels in pigeonholes (R51). -/
  held : List Fin := []
  /-- Finished parcels that stay with their engine for want of a pigeonhole: engine key (`engineDrawer`) and parcel (R52). -/
  rackWait : List (Nat × Fin) := []
  /-- Drawers to be fenced at the next edge (R54). -/
  fence : Tab FenceCause := []
  /-- Cabinets to be fenced at the next edge (R496). -/
  cabFence : Tab FenceCause := []
  /-- The cause of a device fault due at the next edge (R499), and the tick of its detection. -/
  faultDue : Option (Nat × Nat) := none
  /-- The port status word of each thread's last parcel write, key h (R39). -/
  portStatus : Tab Nat := []
  /-- The self-check interval applied to the test at the next edge (R54). -/
  selfCheck : Nat := 64
  deriving DecidableEq, Repr

/-- A chain of shelf buffers, keyed by its head handle (R181, R191): the handles in order, the owner that alone may free it, the
shares, whether the free is deferred, and the data. `usage` is the port-priority 8p + q charged for it (R188). -/
structure Chain where
  bufs : List Nat
  owner : Nat
  shares : Nat := 0
  deferred : Bool := false
  allocTick : Nat
  data : List Nat := []
  usage : Option Nat := none
  charge : Nat := 0
  /-- Buffers reserved for a frame still arriving (R187). -/
  reserved : List Nat := []
  deriving DecidableEq, Repr

/-- The buffer shelves (chapter 08). -/
structure Shelves where
  /-- Chains by head handle (R181). -/
  chains : Tab Chain := []
  /-- The result record last written for each issuer's port (R193). -/
  results : Tab Nat := []
  /-- Chains in reverse use: none. Usage charged to a port-priority 8p + q, in bytes (R102, R188). -/
  usage : Tab Nat := []
  deriving DecidableEq, Repr

/-- A frame queued on a leaf: one copy of a retired parcel (R210). `holder` is the owner id that releases it after transmission and
`first` tells whether it frees (last owner) or detaches (R190). -/
structure QFrame where
  p : Parcel
  chain : Nat
  len : Nat
  tick : Nat
  colour : Nat
  holder : Nat
  first : Bool
  truncate : Nat
  mirror : Bool
  ce : Bool
  /-- A mirror copy's own frame, where it is not its chain's (R106). -/
  data : Option (List Nat) := none
  deriving DecidableEq, Repr

/-- A frame dequeued to a port and not yet finished there (R104, R190): its leaf, and for a host-link port the receive queue and the
descriptors it fills (R264). -/
structure TxFrame where
  f : QFrame
  leaf : Nat
  qk : Nat := 0
  uses : List (Nat × Nat) := []
  /-- The MAC has started to send it (R97, R104). -/
  started : Bool := false
  deriving DecidableEq, Repr

/-- A leaf's frames, oldest first, and its WRED average depth in bytes, exactly (R210, R211). -/
structure Leaf where
  frames : List QFrame := []
  avg : Rat := 0
  deriving DecidableEq, Repr

/-- A calendar entry (R208): the next eligible tick T, the wheel and the slot. -/
structure CalEntry where
  due : Nat
  fine : Bool
  slot : Nat
  deriving DecidableEq, Repr

/-- A scheduler node N (R198): credit in 2^-24 byte, eligibility in this tick, its calendar entry, and its deficit in bytes (R202). -/
structure Node where
  credit : Int := 0
  elig : Bool := true
  cal : Option CalEntry := none
  deficit : Int := 0
  deriving DecidableEq, Repr

/-- What latency sampling sees of a leaf (R24, R217): its depth in bytes and frames and its head frame's enqueue tick. -/
structure LeafView where
  leaf : Nat
  depth : Nat
  frames : Nat
  head : Option Nat
  deriving DecidableEq, Repr

/-- The scheduler (chapter 09). -/
structure Sched where
  /-- The leaves that step 6 of the present edge visits, as they stand after step 2 (R24). -/
  views : List LeafView := []
  leaves : Tab Leaf := []
  nodes : Tab Node := []
  /-- The head of each parent's ring at each PRIO level, key 8N + PRIO (R202). -/
  rings : Tab Nat := []
  /-- Policer buckets, key 2i and 2i + 1, in 2^-24 byte (R214). -/
  tokens : Tab Nat := []
  /-- Leaves blocked for want of a receive descriptor, as the last DEQUEUE found them (R201). -/
  blocked : List Nat := []
  /-- Frames dequeued to port P and not yet finished there, oldest first (R104, R190). -/
  fifos : Tab (List TxFrame) := []
  /-- Port-priorities 8p + q whose class groups are excluded from selection (R213). -/
  excluded : List Nat := []
  deriving DecidableEq, Repr

/-- A frame being received on a port (R187, R95). -/
structure RxFrame where
  chain : Nat
  length : Nat
  /-- Bytes of it that are held, at most MAX_FRAME, FCS included, and those that have arrived. -/
  held : Nat
  arrived : Nat
  prio : Nat
  start : Nat
  deriving DecidableEq, Repr

/-- How a received frame ended (R95, R187): still arriving, good, or bad. -/
inductive RxEnd where
  | arriving | good | bad
  deriving DecidableEq, Repr

/-- An Ethernet port's state beyond its objects (chapter 04). -/
structure Port where
  /-- The tick its present state began, or a failed training's retry began to run. -/
  since : Nat := 0
  /-- A training failure is waiting for LINK_RETRY (R97). -/
  retry : Bool := false
  /-- AN_FAILED has been notified in this unbroken run (R96). -/
  anNotified : Bool := false
  /-- What the port advertises while it negotiates (R96): its mode, and for mode 11 its FEC. -/
  adv : Option (Nat × Nat) := none
  /-- Training has run since the port last started (R99). -/
  trained : Bool := false
  /-- The tick at which lock was found on every lane in ALIGNING. -/
  lockSince : Option Nat := none
  /-- The tick at which lock was lost, or a fault began, while UP. -/
  lossSince : Option Nat := none
  /-- The frame being received. -/
  rx : Option RxFrame := none
  /-- Corrected codewords in the current window and whether FEC_DEGRADE has been notified in it (R94). -/
  fecWindow : Nat := 0
  fecCount : Nat := 0
  fecNotified : Bool := false
  deriving DecidableEq, Repr

/-- A port-priority 8p + q: pause received and sent (R103 to R105). -/
structure Prio where
  /-- The tick at which the received pause ends, if paused. -/
  pauseEnd : Option Nat := none
  pausedSince : Nat := 0
  lastPause : Nat := 0
  storm : Bool := false
  /-- XOFF is in force toward the partner, and the tick at which it is resent. -/
  xoff : Option Nat := none
  /-- A cause for XOFF held when it was last evaluated. -/
  cause : Bool := false
  deriving DecidableEq, Repr

/-- The Ethernet ports (chapter 04). -/
structure Eth where
  ports : Tab Port := []
  prios : Tab Prio := []
  /-- How the frame in each chain ended, for chains of received frames, by head handle. -/
  ends : Tab RxEnd := []
  /-- The tick at which a lane last tried the inverted sense (R99). -/
  polTick : Tab Nat := []
  /-- Next PN of each transmit SA, by its index 4p + a and its key handle (R107). -/
  txPn : Tab Nat := []
  /-- Next PN (replay edge) of each receive SA, by its index 4s + a and its key handle (R107). -/
  rxPn : Tab Nat := []
  /-- Lengths still to be written into frames still arriving, by chain (R140): where the inserted bytes start, and the offsets of the IP and
  the UDP header in them. -/
  fixes : Tab (Nat × Nat × Nat) := []
  /-- Transmit SAs whose MACSEC_PN has been notified, by index and key handle. -/
  pnNotified : List Nat := []
  /-- Changes of SA bindings: the edge, the store key and the value before it, newest first (R107). -/
  saHist : List (Nat × Nat × Nat) := []
  /-- The second counted by the management port's limit and the frames accepted in it (R108). -/
  mgmtSecond : Nat := 0
  mgmtFrames : Nat := 0
  deriving DecidableEq, Repr

/-- An automaton's position (R144, R148): how many bytes it has scanned since its start state, and the last 255 of them. -/
structure ScanPos where
  count : Nat := 0
  tail : List Nat := []
  deriving DecidableEq, Repr

/-- A scan job in a drawer's matcher: the parcel's classification so far, and the table of the second lookup (R147, R148, R43). -/
structure ScanJob where
  c : SorterCtx
  table : Nat
  pset : Nat
  bank : Nat
  stream : Bool
  /-- The scan has begun, on the bank chosen then (R146); it is in one of the four scan contexts; it waits for an automaton line. -/
  started : Bool
  running : Bool
  parked : Bool
  /-- Bytes of the window scanned so far and the automaton position after them. -/
  pos : Nat
  auto : ScanPos
  hits : List (Nat × Nat × Nat)
  /-- First byte and end of the window in the frame. -/
  first : Nat
  stop : Nat
  flags : Nat
  /-- The classes and stream context key carried, in stream mode. -/
  base : Nat
  ident : Nat
  deriving DecidableEq, Repr

/-- A stream context of a drawer (R150). -/
structure StreamCtx where
  ident : Nat
  bucket : Nat
  classes : Nat
  auto : ScanPos
  nextSeq : Nat
  lastTick : Nat
  pset : Nat
  bank : Nat
  deriving DecidableEq, Repr

/-- The pattern matchers (chapter 06). -/
structure Patterns where
  /-- Chunks of each bank's image, key (2S + b) × 2^20 + c (R145). -/
  images : Tab Nat := []
  /-- Scan jobs of each drawer, oldest first. -/
  jobs : Tab (List ScanJob) := []
  /-- Stream contexts of each drawer, least recently used first (R152). -/
  streams : Tab (List StreamCtx) := []
  /-- IDENT of the flows whose context was lost (R152). -/
  lost : List Nat := []
  /-- Banks being verified, key 2S + b (R145). -/
  verifying : List Nat := []
  deriving DecidableEq, Repr

/-- An exact-match entry (R156). -/
structure EmEntry where
  key : Nat
  action : Nat
  argUse : Nat
  arg : Nat
  stamp : Nat
  gen : Nat
  bport : Nat
  hit : Bool
  static : Bool
  learned : Bool
  deriving DecidableEq, Repr

/-- A hot record (R159): the entry it caches, by table and place, and the tail. -/
structure HotRec where
  table : Nat
  place : Nat
  bytes : Nat
  hit : Bool
  deriving DecidableEq, Repr

/-- An accepted mutating operation on a table, waiting for its edge (R166). -/
inductive EmOp where
  /-- A command: from a thread's command port (`who` = h) or on the Bureau path (`who` = session key, with the request sequence). -/
  | command (viaPort : Bool) (who seq : Nat) (rec : Nat)
  | learn (table : Nat) (key : Nat) (bport : Nat)
  | move (table : Nat) (key : Nat) (bport : Nat)
  /-- A removal that the sweep has decided: by age, or of a stale entry; `seen` is the entry it visited (R174). -/
  | remove (table : Nat) (place : Nat) (aged : Bool) (seen : EmEntry)
  /-- On a standby: a command that the active accepted, and a removal by the active's sweep (R432). -/
  | mirrored (rec : Nat)
  | gone (table : Nat) (key : Nat) (aged : Bool)
  /-- A key of a restored VF, learned for its bridge port (R293). -/
  | restored (fn : Nat) (table : Nat) (key : Nat)
  deriving DecidableEq, Repr

/-- The exact-match tables (chapter 07). -/
structure Em where
  /-- VALID entries, key 8 × bucket + slot (R156). -/
  entries : Tab EmEntry := []
  /-- Hot records, key 16384 × cabinet + set, most recently used first (R159). -/
  hot : Tab (List HotRec) := []
  /-- Accepted operations in order, with the tick of acceptance (R166). -/
  ops : List (Nat × EmOp) := []
  /-- Result records of the command ports, key thread h (R165). -/
  results : Tab Nat := []
  /-- The bucket that the sweep visits next: its table, and its place in that table's range (R174). -/
  sweepPos : Nat × Nat := (0, 0)
  /-- Generations in force when the pass began, by bridge port: DYN_GEN and STATIC_GEN (R172). -/
  passDyn : Tab Nat := []
  passStatic : Tab Nat := []
  /-- Learns and moves of frames whose FCS has not yet been checked, by chain (R169). -/
  waiting : List (Nat × EmOp) := []
  /-- Bridge ports whose hot records are to be removed, with the deadline tick (R172). -/
  flushes : List (Nat × Nat) := []
  deriving DecidableEq, Repr

/-- A principal of the Bureau (R64). -/
inductive Principal where
  | owner | manager | tenant | witness | debug
  deriving DecidableEq, Repr

/-- A key of the key table (R347, R349): its KIND, ALG_MASK, USE_MASK and material. -/
structure KeyRec where
  kind : Nat
  algs : Nat
  uses : Nat
  material : List Nat
  deriving DecidableEq, Repr

/-- A staged object of a transaction (R69, R74): the value as written, the value staged, and whether it was clamped. -/
structure Staged where
  oid : Nat
  inst : Nat
  written : Nat
  value : Nat
  clamped : Bool
  /-- The handle and key that a KEY_IMPORT unwrapped to when it was staged (R349). -/
  key : Option (Nat × KeyRec) := none
  deriving DecidableEq, Repr

/-- An open transaction (R68): its TXN_ID, its staged objects in the order first staged, and the tick of its last WRITE or COMMIT. -/
structure Txn where
  id : Nat
  items : List Staged
  last : Nat
  deriving DecidableEq, Repr

/-- A record of a response (R81). -/
structure RespRec where
  /-- The request's record, COUNT as returned, its status, and the bytes of the values. -/
  req : ObjRec
  count : Nat
  status : Nat
  bytes : List Nat
  deriving DecidableEq, Repr

/-- A response (R81, R84): RESULT, the TXN_ID returned, the COMMIT status and applied edge where it has them, and the records. -/
structure Response where
  result : Nat
  txnId : Nat
  status : Nat
  edge : Nat
  records : List RespRec
  deriving DecidableEq, Repr

/-- A queued notification (R86): the times it has been sent and the tick of the last sending. -/
structure Notif where
  seq : Nat
  code : Nat
  obj : Nat
  tick : Nat
  detail : Nat
  lost : Bool
  sends : Nat
  lastSend : Nat
  deriving DecidableEq, Repr

/-- A session (R68): its principal, the function of an admin session, its open transaction, the TXN_ID last given, the responses
kept by request sequence (R85), and its notification queue (R86). -/
structure Session where
  who : Principal
  fn : Nat := 0xFFFF
  txn : Option Txn := none
  lastId : Nat := 0
  cache : List (Nat × Response) := []
  lastRecord : Nat := 0
  lastRefusal : Option Nat := none
  notifs : List Notif := []
  nextNotif : Nat := 0
  discardLost : Bool := false
  deriving DecidableEq, Repr

/-- An accepted transaction or RW write, waiting for its edge (R25, R63, R71). -/
structure Accepted where
  key : Nat
  who : Principal
  fn : Nat
  id : Nat
  items : List Staged
  rw : Bool
  /-- The request sequence to answer on Xehibor, or the admin command to complete. -/
  seq : Nat
  tick : Nat
  /-- The status with which the edge refuses a record of a correction port as a whole (R365). -/
  refused : Option Nat := none
  deriving DecidableEq, Repr

/-- One copy of the configuration store (R79). -/
structure StoreCopy where
  valid : Bool := false
  seq : Nat := 0
  vals : Tab Nat := []
  deriving DecidableEq, Repr

/-- A save in progress (R79): the copy written and the values taken, and the tick of its edge. -/
structure Save where
  copy : Nat
  vals : Tab Nat
  start : Nat
  deriving DecidableEq, Repr

/-- A response to a WRITE that waits for the results of its EM_COMMAND records (R165): each record, and whether it is known. -/
structure Reply where
  key : Nat
  seq : Nat
  txnId : Nat
  tick : Nat
  records : List (RespRec × Bool)
  deriving DecidableEq, Repr

/-- The Bureau engine (chapter 03). -/
structure Bureau where
  /-- Sessions, by session key: n for an admin queue, 0x10000 + a for an association, 0x20000 for MCTP (R68). -/
  sessions : Tab Session := []
  /-- Accepted transactions and RW writes, in acceptance order (R71). -/
  accepted : List Accepted := []
  /-- Requests waiting for the acceptance limit of a tick (R71), in arrival order. -/
  waiting : List Accepted := []
  replies : List Reply := []
  /-- The two copies of the configuration store (R79). -/
  store0 : StoreCopy := {}
  store1 : StoreCopy := {}
  save : Option Save := none
  /-- A save applied at this edge takes its values after every commit of the edge (R79). -/
  saveDue : Bool := false
  deriving DecidableEq, Repr

/-- A time base (R355, R357): its value at the last edge in 2^-48 ns, FREQ in 2^-16 ppb, and the remaining slew in ns. -/
structure TimeBase where
  val : Int := 0
  freq : Int := 0
  slew : Rat := 0
  /-- The ticks before the present one, newest first: the value at each one's edge in 2^-48 ns, and the factor of its advance (R357). -/
  past : List (Int × Rat) := []
  deriving DecidableEq, Repr

/-- A receive capture (R366): the raw count, the port, and the value of every time base at the capture in 2^-48 ns, compensated for
receive (R367). -/
structure Capture where
  raw : Nat
  port : Nat
  stamps : List Int
  deriving DecidableEq, Repr

/-- The postmark unit (chapter 15). -/
structure Postmark where
  bases : Tab TimeBase := []
  /-- Captures of received frames, by chain head (R366). -/
  caps : Tab Capture := []
  /-- The correction port of each drawer: its result record, DONE in bit 0 (R365). -/
  results : Tab Nat := []
  /-- Drawers whose last correction lacks DONE (R365). -/
  busy : List Nat := []
  /-- The tick of the last edge on PPS_IN, and of the last window in which REF10M_IN had edges. -/
  ppsInTick : Nat := 0
  refTick : Nat := 0
  /-- The tick at which the last window of REF10M_IN ended (R377). -/
  refWindow : Nat := 0
  /-- The time bases and whole seconds for which PPS_OUT has pulsed, newest first (R374), and the pulses that disagreed since it was last restored (R376). -/
  ppsSeconds : List (Nat × Int) := []
  ppsBad : Nat := 0
  /-- The capture counts at which PPS_OUT last rose and at which it falls (R374); none while it is held low. -/
  ppsHigh : Option (Nat × Nat) := none
  /-- Whether REF10M_IN was lost in the window that runs (R377). -/
  refLost : Bool := false
  deriving DecidableEq, Repr

/-- What an outstanding non-posted request reads (R240). -/
inductive ReqFor where
  /-- SW_INDEX for a refresh doorbell of queue key qk in one of its lives (R260). -/
  | refresh (qk life : Nat)
  /-- The next slot of queue key qk: a work descriptor or an admin command (R259, R270). -/
  | slot (qk : Nat)
  /-- The next slot of submission queue q of controller c (R301). -/
  | nvmSlot (c q : Nat)
  /-- The fragment table of the next slot of queue key qk (R265). -/
  | frags (qk : Nat)
  /-- The payload of the send job with index i of queue key qk (R262). -/
  | job (qk i : Nat)
  /-- The data of an NVMe command: controller, queue and fetch number (R305). -/
  | nvm (c q m : Nat)
  /-- The PRP lists and SGL segments of an NVMe command, or the table of ranges, identifiers or attributes that it names (R305). -/
  | nvmList (c q m : Nat)
  deriving DecidableEq, Repr

/-- A non-posted request (R240): its function, its host address, its offset in what is read, and the bytes still lacking. -/
structure Req where
  fn : Nat
  addr : Nat
  off : Nat
  bytes : Nat
  why : ReqFor
  deriving DecidableEq, Repr

/-- A transfer that a DMA mover still has to make (R43): its class, function, host segments (addresses and lengths), offset, bytes and
purpose. -/
structure Xfer where
  cls : Nat
  fn : Nat
  segs : List (Nat × Nat) := []
  off : Nat
  bytes : Nat
  why : ReqFor
  /-- It writes the data of an NVMe read into host memory instead of reading it (R43, R305). -/
  toHost : Bool := false
  deriving DecidableEq, Repr

/-- A drawer's DMA mover (R43): the tick it last moved bytes in, how many, into or out of host memory, and what waits. -/
structure Mover where
  tick : Nat := 0
  moved : Nat := 0
  waits : List Xfer := []
  deriving DecidableEq, Repr

/-- A tag in use (R240, R243): its request, the tick of issue, and, in quarantine, the tick of the timeout or cancellation and
whether it was a timeout. -/
structure Tag where
  req : Req
  /-- Data that have arrived for it. -/
  got : List Nat := []
  issued : Nat
  quar : Option (Nat × Bool) := none
  deriving DecidableEq, Repr

/-- An upstream host link k (R229, R240, R249). -/
structure HLink where
  /-- The tick the TRAINING state began. -/
  since : Nat := 0
  /-- PERSTh_N is asserted (R229). -/
  perst : Bool := true
  /-- A host-link reset is due at the first edge after its cause (R229): whether it ends in TRAINING, and the tick of the cause. -/
  resetDue : Option (Bool × Nat) := none
  tags : Tab Tag := []
  /-- Requests waiting for a tag, oldest first (R240). -/
  waits : List Req := []
  /-- The power state: 0 L0, 1 L1, 2 L1.1, 3 L1.2, 4 L2; and the L0p width, 0 for full (R249). -/
  power : Nat := 0
  l0p : Nat := 0
  /-- Link Control's ASPM field and the L1 substates enabled, bit 0 L1.1 and bit 1 L1.2, as the host set them (R249). -/
  aspm : Nat := 0
  l1ss : Nat := 0
  /-- The host's enable of L0p (R249). -/
  l0pEn : Bool := false
  /-- The address translations held, oldest first: function and 4 KiB page (R239). -/
  atc : List (Nat × Nat) := []
  deriving DecidableEq, Repr

/-- The AER registers of a function (R501), with the bits, the defaults and the first-error pointer of the PCI Express standard (log entry 66: PRESUMED, unsafe). -/
structure Aer where
  uncorrectable : Nat := 0
  correctable : Nat := 0
  mask : Nat := 2 ^ 22
  severity : Nat := 0x462030
  corMask : Nat := 0xE000
  first : Nat := 0
  /-- The header of the TLP that the first error came with. -/
  header : Nat := 0
  deriving DecidableEq, Repr

/-- A function's configuration and BAR0 registers, and what is going on in it (R227, R233, R245 to R248, R269, R285). -/
structure Func where
  bme : Bool := false
  /-- Memory Space Enable, and the addresses of BAR0 and BAR2 (R231, R301). -/
  mse : Bool := false
  bar0 : Nat := 0
  bar2 : Nat := 0
  /-- SR-IOV VF BAR0 and System Page Size of a PF, in units of 4 KiB as a mask, and a PF's expansion ROM base with its enable (R231,
  R234). -/
  vfBar0 : Nat := 0
  sysPage : Nat := 1
  rom : Nat := 0
  /-- Device Control: Max_Payload_Size and Max_Read_Request_Size in bytes, Enable Relaxed Ordering (R237, R238). -/
  mps : Nat := 128
  mrrs : Nat := 512
  ro : Bool := false
  /-- Tag enables: bit 0 the 10-bit one, bit 1 the 14-bit one (R240). -/
  tagMode : Nat := 0
  /-- Device Control 2's completion-timeout value (R241). -/
  cto : Nat := 0
  vfEnable : Bool := false
  /-- The tick VF Enable was set, while the VFs are not ready (R230). -/
  vfSince : Option Nat := none
  /-- The D state: 0 D0, 3 D3hot, 4 D3cold; and PME_En (R248). -/
  dstate : Nat := 0
  pmeEn : Bool := false
  /-- Writes to host memory that wait in D3hot for D0, oldest first: address, bytes and Relaxed Ordering (R248). -/
  writes : List (Nat × List Nat × Bool) := []
  /-- PME_Status: a PME message has been sent and not yet cleared (R248). -/
  pmeStatus : Bool := false
  msixEn : Bool := false
  /-- Function Mask of MSI-X Message Control. -/
  msixMask : Bool := false
  /-- MSI-X table entries (vector: 16 bytes), and pending vectors (R231). -/
  msix : Tab Nat := []
  msixPend : List Nat := []
  intrStatus : Nat := 0
  intrEnable : Nat := 0
  aer : Aer := {}
  /-- Device Control's error reporting enables: bit 0 correctable, 1 non-fatal, 2 fatal, 3 unsupported request; SERR# Enable; and Device
  Status's errors detected, with the same bits (R501; PCI Express). -/
  errEn : Nat := 0
  serr : Bool := false
  devStatus : Nat := 0
  /-- ATS Control (R239). -/
  ats : Nat := 0
  ciAddr : Nat := 0
  ciGen : Nat := 0
  /-- The Card Index as last written (R235). -/
  ci : List Nat := []
  /-- The Card Index is to be rewritten at the next edge (R236). -/
  ciDirty : Bool := false
  adminSq : Nat := 0
  adminCq : Nat := 0
  adminIdx : Nat := 0
  adminSizes : Nat := 0
  adminEn : Bool := false
  adminErr : Nat := 0
  /-- A write of ENABLE waiting for the next edge (R269). -/
  adminDue : Bool := false
  /-- The queues enter STOPPED at the next edge (R245). -/
  stopDue : Bool := false
  /-- LB_STATUS_ADDR of a PF (R280). -/
  lbAddr : Nat := 0
  /-- The tick an FLR was initiated, while RESETTING (R246). -/
  flr : Option Nat := none
  /-- A FUNCTION_ABORT in progress: the issuer, the tick of acceptance and the state before (R247). -/
  abort : Option (Nat × Nat × Nat) := none
  /-- A quiesce in progress: the issuer and the tick of acceptance (R285). -/
  quiesce : Option (Nat × Nat) := none
  /-- Image bytes received for RESTORE_STATE (R293). -/
  restore : List Nat := []
  /-- The image of a SNAPSHOT (R291). -/
  image : List Nat := []
  /-- Pages written and not yet marked, oldest first, each with the tick it was written in (R296). -/
  dirty : List (Nat × Nat) := []
  deriving DecidableEq, Repr

/-- A job of a descriptor queue (R262, R264, R270): its first descriptor's index, the descriptor, and where it stands. -/
structure Job where
  index : Nat
  count : Nat := 1
  desc : Nat := 0
  /-- Whether every outcome of the job is known, so that its completion entry can be posted. -/
  done : Bool := false
  status : Nat := 0
  bytes : Nat := 0
  dropped : Bool := false
  /-- No outcome of the job is reported to the host any more (R245). -/
  mute : Bool := false
  /-- Payload pieces read, by offset; bytes still to be read, and parcels not yet retired. -/
  parts : Tab (List Nat) := []
  reading : Nat := 0
  /-- Where its payload lies in the host: addresses and lengths (R261, R265). -/
  segs : List (Nat × Nat) := []
  parcels : Nat := 0
  /-- The transmit stamp asked for is still awaited (R262). -/
  tsWait : Bool := false
  ts : Option Nat := none
  hash : Nat := 0
  /-- CSUM_BAD, L4_OK, L3_OK in bits 11 to 9 (R267). -/
  csum : Nat := 0
  /-- Chains taken for the job's payload and not yet in parcels. -/
  chains : List Nat := []
  /-- RESULT of an admin command (R267, R273). -/
  result : Nat := 0
  deriving DecidableEq, Repr

/-- A descriptor queue (R253 to R267), keyed 2^14 n + Q. QSTATE: 1 READY, 2 FROZEN, 3 STOPPED, 4 QUIESCED. -/
structure Queue where
  g : Nat
  type : Nat
  st : Nat := 1
  log2 : Nat
  ring : Nat
  idx : Nat
  leaf : Nat := 0
  cq : Nat := 0
  vector : Nat := 0
  cls : Nat := 0
  ro : Bool := false
  status : Nat := 0
  /-- P and C of a work queue; W and R of a completion queue. -/
  prod : Nat := 0
  cons : Nat := 0
  armed : Bool := false
  /-- The HW_INDEX last written, the tick C or W last changed, and the tick of the last state change. -/
  hw : Nat := 0
  hwTick : Nat := 0
  stTick : Nat := 0
  /-- Receive descriptors read and not yet used, with their indices (R264). -/
  held : List (Nat × Nat) := []
  jobs : List Job := []
  /-- A refresh doorbell's read is outstanding (R257), and doorbells held back or recorded, oldest first. -/
  refreshing : Bool := false
  bells : List Nat := []
  /-- A DESTROY_QUEUE (true) or QUEUE_RESET (false) is stopping the queue (R270), and the completion entries it discarded. -/
  stopping : Option Bool := none
  discarded : Nat := 0
  /-- The model's own number of this life of the queue, carried by its parcels (log entry 15: DESIGN CHOICE, unsafe). -/
  life : Nat := 0
  deriving DecidableEq, Repr

/-- An admin command in progress, waiting for an edge or for its work (R270, R272, R247, R285, R291 to R294). -/
inductive AdminOp where
  /-- CREATE_QUEUE, applied at the next edge. -/
  | create (desc : Nat)
  /-- DESTROY_QUEUE or QUEUE_RESET of a queue key. -/
  | stop (qk : Nat)
  /-- BUREAU_COMMIT, answered after its edge; the output buffer. -/
  | commit (addr len : Nat)
  /-- CREATE_QUEUE or DESTROY_QUEUE, waiting for the peer's acknowledgement (R430). -/
  | peer
  | abort (target : Nat)
  | quiesce (target : Nat)
  | resume (target : Nat)
  | freeze (target : Nat)
  /-- A whole image to be applied at the next edge, and an applied one with its keys still to be learned and those refused (R293). -/
  | image (target : Nat)
  | restore (target keys refused : Nat)
  | thaw (target : Nat)
  deriving DecidableEq, Repr

/-- A VF's Letterbox (R279, R282): the 64-byte slots as numbers, to-Manager 0 to 7 and to-Tenant 8 to 15, the counts, the epoch,
the tokens, and whether a status write is due (R283). -/
structure Letterbox where
  slots : Tab Nat := []
  tmSent : Nat := 0
  tmAcked : Nat := 0
  ttSent : Nat := 0
  ttAcked : Nat := 0
  epoch : Nat := 0
  tokens : Nat := 8
  throttled : Bool := false
  /-- The tick of the last token (R282). -/
  refilled : Nat := 0
  changed : Bool := false
  deriving DecidableEq, Repr

/-- The hosts' side (chapters 10 to 12). -/
structure Hosts where
  links : Tab HLink := []
  funcs : Tab Func := []
  queues : Tab Queue := []
  /-- Admin commands in progress, by function (R270). -/
  admin : Tab AdminOp := []
  boxes : Tab Letterbox := []
  /-- Queue lives begun so far. -/
  lives : Nat := 0
  /-- DMA movers, by drawer (R43). -/
  movers : Tab Mover := []
  deriving DecidableEq, Repr

/-- One side of a piece (R312): none, in flight, ended well, failed with a status, or unknown. -/
inductive Side where
  | absent | inFlight | ok | failed (status : Nat) | unknown
  deriving DecidableEq, Repr

/-- A piece of an I/O command, the part in one extent slot (R312, R316): its blocks, the backends it was issued to, each side's
standing and the tick of issue. -/
structure Piece where
  slot : Nat
  slba : Nat
  blocks : Nat
  mirrored : Bool := false
  priBk : Nat := 0
  secBk : Nat := 0
  pri : Side := .absent
  sec : Side := .absent
  issued : Option Nat := none
  /-- The tick of its first issue, from which its timer counts (R311). -/
  first : Option Nat := none
  /-- The tick from which its wait for a lost backend counts (R311). -/
  held : Option Nat := none
  /-- The intent of a write-class piece: its number, and whether the peer has acknowledged it (R431). -/
  intent : Option (Nat × Bool) := none
  deriving DecidableEq, Repr

/-- A command of an NVMe submission queue, outstanding since its fetch (R303, R304). -/
structure NvmCmd where
  cid : Nat
  /-- Fetch order in the device. -/
  seq : Nat
  /-- The 64-byte submission entry. -/
  sqe : Nat
  opcode : Nat
  nsid : Nat := 0
  slba : Nat := 0
  blocks : Nat := 0
  /-- Its row has run: it is checked and its pieces are known. -/
  started : Bool := false
  /-- Write data bytes still to be read from the host, or a read's still to be written to it; those read, by offset, and their chain (R305). -/
  reading : Nat := 0
  parts : Tab (List Nat) := []
  chain : Nat := 0xFFFFFFFF
  /-- Where its data go or come from in the host: addresses and lengths. -/
  segs : List (Nat × Nat) := []
  pieces : List Piece := []
  /-- Backends to flush, and those whose flush is in flight (R318). -/
  toFlush : List Nat := []
  flushing : List Nat := []
  /-- The tick of the first of its flushes (R311). -/
  flushTick : Option Nat := none
  /-- Its completion is decided and queued (R319). -/
  final : Bool := false
  /-- Its completion is posted, and an Abort that names it is not (R304). -/
  posted : Bool := false
  /-- The tick from which a Flush's wait for a lost backend counts (R311). -/
  held : Option Nat := none
  unknown : Bool := false
  /-- Bytes of a read received so far, by first block. -/
  got : Tab (List Nat) := []
  deriving DecidableEq, Repr

/-- An entry of a freeze log (R323). -/
structure FreezeEntry where
  slba : Nat
  blocks : Nat
  nsid : Nat
  cid : Nat
  cause : Nat
  opcode : Nat
  backend : Nat
  settle : Nat
  deriving DecidableEq, Repr

/-- A submission queue (R303, R321 to R324): state 0 READY, 1 FROZEN, 2 THAWING, 3 being deleted. -/
structure Sq where
  base : Nat := 0
  size : Nat
  cq : Nat
  head : Nat := 0
  tail : Nat := 0
  st : Nat := 0
  freezeTick : Nat := 0
  /-- The tick of an unknown outcome that freezes the queue at the next edge (R321). -/
  freezeDue : Option Nat := none
  log : List FreezeEntry := []
  cmds : List NvmCmd := []
  /-- The THAW_SQ (false) or Delete I/O SQ (true) waiting: its CID, and that of a THAW_SQ that a later Delete I/O SQ joined. -/
  thaw : Option (Bool × Nat) := none
  thawToo : Option Nat := none
  deriving DecidableEq, Repr

/-- A completion waiting for room in its queue: SQID, CID, status field, DW0, and whether it answers a CID conflict (R304). -/
structure CqEntry where
  sqid : Nat
  cid : Nat
  status : Nat
  dw0 : Nat
  conflict : Bool := false
  deriving DecidableEq, Repr

/-- An NVMe completion queue: phase tag, interrupt vector, entries decided and not yet written, and those that interrupt
coalescing holds: their number and the tick of the first. -/
structure Cq where
  base : Nat := 0
  size : Nat
  head : Nat := 0
  tail : Nat := 0
  phase : Nat := 1
  vector : Nat := 0
  ien : Bool := true
  waiting : List CqEntry := []
  pend : Nat := 0
  pendTick : Nat := 0
  deriving DecidableEq, Repr

/-- A controller (R301, R303, R325): its registers AQA, ASQ, ACQ, INTMS and CC but for EN and SHN, its state, its queues, its grant
of I/O submission and completion queues, its features, its outstanding Asynchronous Event Requests by CID and the events that wait
for one, its error log, newest first, and the namespaces changed since the host last read. -/
structure Ctrl where
  aqa : Nat := 0
  asq : Nat := 0
  acq : Nat := 0
  intm : Nat := 0
  cc : Nat := 0
  en : Bool := false
  rdy : Bool := false
  /-- A disable (0) or shutdown (1) in progress. -/
  ending : Option Nat := none
  /-- Nothing more is written to the host (R246, R325). -/
  mute : Bool := false
  shst : Nat := 0
  sqs : Tab Sq := []
  cqs : Tab Cq := []
  nsq : Nat := 0
  ncq : Nat := 0
  feats : Tab Nat := []
  aers : List Nat := []
  events : List Nat := []
  errors : List (Nat × Nat × Nat) := []
  changedNs : List Nat := []
  deriving DecidableEq, Repr

/-- A backend (R310, R311): whether it has been LIVE since it was last configured, its write cache, its capacity in blocks, and the
ticks of the path loss, of the last Keep Alive sent and of the last one answered. -/
structure Backend where
  seen : Bool := false
  cache : Bool := false
  blocks : Nat := 0
  lostTick : Nat := 0
  kaSent : Nat := 0
  kaSeen : Nat := 0
  deriving DecidableEq, Repr

/-- An unsettled unknown piece (R320, R322). -/
structure Unsettled where
  slot : Nat
  slba : Nat
  blocks : Nat
  nsid : Nat
  ctrl : Nat
  sqid : Nat
  mirrored : Bool
  settle : Nat
  /-- The number of its intent (R431). -/
  intent : Option Nat := none
  deriving DecidableEq, Repr

/-- An operation that the device itself has sent to a backend: an intent write of block k of namespace i with the slots whose bits
it sets or clears (R314), the read of block k of its bitmap (R315), the copy of an extent slot (R313), or a shutdown's flush (R325).
`live`: it is in flight, not waiting for the path to return. -/
structure OwnOp where
  op : BkOp
  backend : Nat
  live : Bool := true
  sets : List Nat := []
  clears : List Nat := []
  /-- The peer has acknowledged its intent bits (R431). -/
  told : Bool := false
  /-- A copy has been read from the primary, and is being written to the secondary (R313). -/
  writing : Bool := false
  /-- The tick it was sent in (R311). -/
  since : Nat := 0
  deriving DecidableEq, Repr

/-- A namespace (R306, R307): its size in blocks, FLBAS bit 4 (extended LBAs), its protection type, and the slots still to be
resynchronised while it recovers (R315). -/
structure Ns where
  blocks : Nat
  extended : Bool := false
  piType : Nat := 0
  recover : List Nat := []
  deriving DecidableEq, Repr

/-- The storage front end (chapter 13): controllers, backends, namespaces, unknown pieces, intent bits set with the tick of the slot's
last write-class piece, bits still to be set, operations of the device itself, namespaces deleted whose slots wait, the next fetch
number, written volatile blocks of 1 MiB with their bytes as a number, and the devices found on root ports (true: NVMe). -/
structure Storage where
  ctrls : Tab Ctrl := []
  backs : Tab Backend := []
  nss : Tab Ns := []
  unsettled : List Unsettled := []
  intents : Tab Nat := []
  intentDue : List (Nat × Nat) := []
  own : List OwnOp := []
  deleting : List (Nat × Nat × Nat) := []
  seq : Nat := 0
  /-- Bytes of volatile blocks, key 2^20 × block + offset, those that read zero not listed (R308). -/
  volatile : Tab Nat := []
  /-- Metadata bytes of blocks in volatile blocks, keyed likewise by block and offset among its metadata (R307, R308). -/
  volMeta : Tab Nat := []
  drives : Tab Bool := []
  /-- Root ports whose drive is gone by surprise or held off by Downstream Port Containment, until it is found again (R224, R311). -/
  contained : List Nat := []
  deriving DecidableEq, Repr


/-- Work for a cipher slice (R331, R336): a parcel, before its walk or after its actions, or a thread's job record. -/
inductive SliceWork where
  | parcel (c : SorterCtx) (walk : Bool)
  | thread (h rec : Nat)
  deriving DecidableEq, Repr

/-- A job of a cipher slice (R346, R350, R335): its class, whether it runs, the handle and key it began with, and what it waits for: a
suspension's end, a key record, or randomness, with the tick since which it has waited. -/
structure SliceJob where
  cls : Nat
  work : SliceWork
  running : Bool := false
  /-- Transforms of the parcel already done (R336). -/
  stage : Nat := 0
  key : Option (Nat × KeyRec) := none
  suspended : Bool := false
  keyMiss : Bool := false
  rngSince : Option Nat := none
  /-- Bytes of randomness that it has taken, and the SA record it began with, by handle (R334, R346). -/
  rng : Nat := 0
  sa : Option (Nat × Nat) := none
  deriving DecidableEq, Repr

/-- The state of a message carried by several jobs (R339): its key, algorithm, direction, nonce, AAD and the input so far. -/
structure MsgCtx where
  key : KeyRec
  alg : Nat
  decrypt : Bool
  iv : List Nat
  aad : List Nat
  input : List Nat
  deriving DecidableEq, Repr

/-- A slice's random bit generator (R334): the tick of its last reseed and the bytes in its buffer. -/
structure Drbg where
  reseeded : Nat := 0
  buffer : Nat := 4096
  deriving DecidableEq, Repr

/-- The cipher slices (chapter 14). -/
structure Cipher where
  /-- Jobs of each drawer's slice, in order of arrival. -/
  jobs : Tab (List SliceJob) := []
  /-- The result record of each thread's cipher port, DONE in bit 0, key h (R338). -/
  results : Tab Nat := []
  /-- The key table by handle (R347), the transport keys by slot (R349), and the key-store key; none: erased (R351). -/
  keys : Tab KeyRec := []
  tks : Tab (List Nat) := []
  kek : Option Nat := none
  /-- Handles in each slice's key cache, most recently used first (R350). -/
  cache : Tab (List Nat) := []
  /-- Message context slots, key 448d + slot (R339). -/
  msgs : Tab MsgCtx := []
  drbgs : Tab Drbg := []
  /-- SAs whose SEQ_EXHAUSTED has been notified, by handle (R343). -/
  spent : List Nat := []
  deriving DecidableEq, Repr

/-- What a thread waits for (R385, R387, R391, R392): nothing, events of a mask for rd, or a channel instruction on a local end. -/
inductive HWait where
  | run
  | event (mask rd : Nat)
  | put (e word : Nat)
  | fin (e : Nat)
  | get (e rd : Nat)
  | tok (e rd : Nat)
  deriving DecidableEq, Repr

/-- A hardware thread h (chapter 16): integer registers, CSRs, and where it stands. -/
structure Hart where
  /-- The core has left reset (R384). -/
  on : Bool := false
  /-- x1 to x31 (R380, R384). -/
  regs : Tab Nat := []
  pc : Nat := 0
  /-- mstatus: MIE in bit 3, MPIE in bit 7, MPP in bits 12:11 (machine mode only, R380). -/
  mie_ : Bool := false
  mpie : Bool := false
  /-- mie bits 21 to 16 (R389). -/
  mie : Nat := 0
  /-- The latched bits of mip: 21 OVERRUN, 20 STALL, 19 MONITOR, 18 PORT (R389). -/
  mip : Nat := 0
  mtvec : Nat := 0
  mscratch : Nat := 0
  mepc : Nat := 0
  mcause : Nat := 0
  mtval : Nat := 0
  mcountinhibit : Nat := 0
  /-- minstret, and what mcycle has been set ahead of the count of DCLK cycles. -/
  minstret : Nat := 0
  mcycleOff : Nat := 0
  /-- NEVPEND, NEVEXT, NTICKCMP, NCHTMO and NCHSTAT (*Nirah CSRs*). -/
  nevpend : Nat := 0
  nevext : Nat := 0xFFFF0000
  ntickcmp : Nat := 0xFFFFFFFFFFFFFFFF
  nchtmo : Nat := 4096
  nchstat : Nat := 0
  wait : HWait := .run
  /-- Edges left of a channel wait; none: no limit (R393). -/
  left : Option Nat := none
  /-- The last tick in which the thread was not asleep without an armed outside source (R398). -/
  awake : Nat := 0
  /-- The 8-byte granule of the LR reservation, if held (R382). -/
  resv : Option Nat := none
  /-- Debug: halted, dpc, dcsr, the scratch registers, tselect and the triggers' tdata1 to tdata3 (R400, R401). -/
  halted : Bool := false
  dpc : Nat := 0
  dcsr : Nat := 0x40000003
  dscratch0 : Nat := 0
  dscratch1 : Nat := 0
  tselect : Nat := 0
  tdata : Tab Nat := []
  /-- STATUS of the parcel port (R395). -/
  portStatus : Nat := 0
  deriving DecidableEq, Repr

/-- A token of a channel (R390). -/
inductive Token where
  | data (w : Nat)
  | fin
  | poison
  deriving DecidableEq, Repr

/-- A channel end E (R390, R391): its binding; as a sender, the destination and data words of its open message; as a receiver, its buffer, the
end whose message it is taking, whether that message has been closed and only its POISON is to come, and the messages that wait, in the order
of their first words, each with its sender and whether it too is closed. -/
structure ChanEnd where
  dest : Option Nat := none
  sending : Option (Nat × Nat) := none
  buffer : List Token := []
  src : Option Nat := none
  closed : Bool := false
  waiting : List (Nat × Bool) := []
  deriving DecidableEq, Repr

/-- The Nirah cores (chapter 16) and the memory they reach. -/
structure Cores where
  harts : Tab Hart := []
  ends : Tab ChanEnd := []
  /-- SIGEVs on their way: issuer, target and event (R388). -/
  sigs : List (Nat × Nat × Nat) := []
  /-- Data-cache and instruction-cache lines of each core: line address and its 64 bytes as a number (R382). -/
  dcache : Tab (Tab Nat) := []
  icache : Tab (Tab Nat) := []
  /-- Bytes written into the control windows, key 65,536d + offset (R33). -/
  window : Tab Nat := []
  /-- GDDR6 lines that hold poisoned data (R449, R456). -/
  poisoned : List Nat := []
  /-- The write lock of the code region is set (R415). -/
  codeLock : Bool := false
  /-- The tick of each channel's last memory error record of kind 1 (R460). -/
  eccTick : Tab Nat := []
  deriving DecidableEq, Repr

/-- An operation of the active that waits for the peer's acknowledgement (R430 to R432): a completion entry of a work queue's job, the end
of function n's CREATE_QUEUE or DESTROY_QUEUE with its RESULT, a write-class piece with its intent number, an operation on a mirrored
table, or a write of an intent bitmap. -/
inductive SyncOp where
  | post (qk i : Nat)
  | admin (n result : Nat)
  | piece (c q m j id : Nat)
  | table (op : EmOp)
  | bits (o : OwnOp)
  deriving DecidableEq, Repr

/-- An intent (R431): its number, the namespace, first block and block count. -/
structure Intent where
  id : Nat
  ns : Nat
  slba : Nat
  blocks : Nat
  deriving DecidableEq, Repr

/-- Twin operation (chapter 18). -/
structure Twin where
  /-- A SWITCHOVER has stopped forwarding (R443), and RELEASE has been sent. -/
  switching : Bool := false
  released : Bool := false
  /-- FENCE_N is low, and PEER_FENCE_N is driven low (R438). -/
  fenceN : Bool := false
  peerFence : Bool := false
  /-- The tick from which the twin link has not been UP (R434); none while it is UP. -/
  downSince : Option Nat := some 0
  /-- Synchronous messages sent and not acknowledged, oldest first, with the tick of sending (R427, R430 to R432). -/
  sent : List (Nat × SyncOp) := []
  /-- Completion entries acknowledged and not yet written: work queue and job index (R430). -/
  acked : List (Nat × Nat) := []
  /-- Intents without a retire (R431): on the active its own, on the standby the mirrored ones; and the next number. -/
  intents : List Intent := []
  nextIntent : Nat := 0
  /-- The active mirrors: its peer is STANDBY or SYNCING over an EXCHANGED link (*Mirroring*), and the link has not been lost (R434). -/
  mirroring : Bool := false
  /-- Mirroring has stopped (R434): PEER_STALE is set in every RENEW. -/
  stale : Bool := false
  /-- The standby's copies of completion entries by queue key: index and entry, at most 256, and X of each work queue (R430). -/
  entries : Tab (List (Nat × Nat)) := []
  done : Tab Nat := []
  /-- The bulk copy has ended: STANDBY at the next edge (R442). -/
  standbyDue : Bool := false
  /-- A self-fence due at the next edge, with its twin log kind (R429). -/
  fenceDue : Option Nat := none
  /-- An accepted TAKEOVER grant: its edge E, LEASE_SEQ and TERM, and whether E has come (R439). -/
  takeover : Option (Nat × Nat × Nat × Bool) := none
  /-- The edge of the take-over and the announcements still to be repeated (R439). -/
  announce : Option (Nat × Nat) := none
  /-- The highest LEASE_SEQ seen; the ticks of the RENEWs not yet answered; when the last RENEW or HELLO and the last periodic
  synchronisation were sent (R433, R436). -/
  seqSeen : Nat := 0
  renews : List Nat := []
  lastSent : Nat := 0
  lastSync : Nat := 0
  deriving DecidableEq, Repr

/-- A seal block (R409): SEQUENCE, LIFE_CYCLE, VERSION, and the transition steps consumed when the seal key was derived (R405). -/
structure Seal where
  seq : Nat
  lifeCycle : Nat
  version : Nat
  steps : Nat
  deriving DecidableEq, Repr

/-- An image slot of the boot flash (R407, R409): STATE, SEQUENCE, the seal block, and the package's 256-byte chunks as numbers. -/
structure FlashSlot where
  state : Nat := 0xFF
  seq : Nat := 0
  seal' : Option Seal := none
  chunks : Tab Nat := []
  deriving DecidableEq, Repr

/-- A boot record copy of the IK9C (R412): COUNTER and ACTIVE. -/
structure BootRec where
  counter : Nat
  active : Nat
  steps : Nat
  deriving DecidableEq, Repr

/-- Fuses (R404, R422): the life-cycle state, steps of the transition field consumed, the owner key slots (state and hash), and MIN_VERSION. -/
structure Fuses where
  lifeCycle : Nat := 2
  steps : Nat := 2
  owners : Tab (Nat × Nat) := [(0, (1, Config.ownerHash))]
  minVersion : Nat := 0
  deriving DecidableEq, Repr

/-- What an edge does to the boot (R384, R469, R470): a READINESS state is entered, or the cores are released, but not those of the drawers
that failed their self-check. -/
inductive BootDue where
  | enter (readiness : Nat)
  | release (failed : List Nat)
  deriving DecidableEq, Repr

/-- Zilalys and the boot flash (chapter 17). -/
structure Boot where
  slots : Tab FlashSlot := []
  recA : Option BootRec := none
  recB : Option BootRec := none
  fuses : Fuses := {}
  /-- KEY_LOCK (R406). -/
  keyLock : Nat := 0
  /-- Slots marked failed, until a cold reset (R413). -/
  failed : List Nat := []
  /-- This boot: whether it follows a warm reset, the pending slots still to be handled, the slots still to be tried, and what it has
  done: seals written, the slot that passed, whether it was the first choice. -/
  warm : Bool := false
  todo : List Nat := []
  tries : List Nat := []
  sealed' : List Nat := []
  booted : Option Nat := none
  fallback : Bool := false
  /-- The early set has been applied (R471), and the edge of core release (R384). -/
  early : Bool := false
  released : Option Nat := none
  /-- LC_TOKEN chunks (R423), and an accepted token held for the cold reset (R424). -/
  token : Tab Nat := []
  accepted : Option Nat := none
  nonce : Nat := 0
  /-- The image installation's buffer of chunks to program (R416). -/
  install : List (Nat × Nat) := []
  /-- Bytes of the crash area that the wipe of this boot skips (R453). -/
  crash : Nat := 0
  /-- The ROM has handled the pending slots, and is trying the slots of `tries` (R410). -/
  choosing : Bool := false
  /-- The trust anchors that stage 1 has installed from the bundle's manifest, as its entry's bytes (R415, R421). -/
  anchors : List Nat := []
  /-- The tick at which GDDR6 training, or the wipe that follows it, began (R451, R452). -/
  phaseTick : Nat := 0
  /-- What the coming edges do to the boot, one each, the first first (R469, R470). -/
  due : List BootDue := []
  deriving DecidableEq, Repr

/-- Pins of the auxiliary domain and what is measured (chapters 20 and 21): straps as they stand, whether VAUX is above 1.98 V, the throttle's
and the regulator's last command, and the memory controllers' bands. -/
structure Pins where
  straps : Nat := 0
  vauxHigh : Bool := false
  /-- RESET_N is low (R466). -/
  resetLow : Bool := false
  /-- THERMTRIP_N is asserted. -/
  thermtrip : Bool := false
  /-- The tick of the last change of the throttle level since reset, and of the last VOUT_COMMAND; unacknowledged commands in a row. -/
  throttleTick : Option Nat := none
  avsTick : Nat := 0
  avsFails : Nat := 0
  /-- The temperature band of each memory controller, 0 to 3 (R457). -/
  bands : Tab Nat := []
  /-- By controller, the hotter of its devices' temperatures, read and not yet acted on (R457). -/
  readings : Tab Int := []
  /-- The tick at which a warm, cold or life-cycle reset asked for by software starts, with its cause (R467, R424). -/
  resetDue : Option Nat := none
  deriving DecidableEq, Repr

/-- Power, reset and start-up (chapter 20): which domains are up, and how far the main domain has come. -/
structure Power where
  /-- VAUX is good. -/
  vaux : Bool := true
  /-- The main rails are good and the main domain is out of reset. -/
  main : Bool := false
  /-- RESET_N or a thermal trip holds the main domain in reset. -/
  hold : Bool := false
  /-- DCLK is locked, so that ticks run (R18, R470). -/
  dclk : Bool := false
  /-- The main rails have been lost since VAUX became good: the LAST_RESET_CAUSE of the cold reset at their return (R462, R474). -/
  lost : Option Nat := none
  deriving DecidableEq, Repr

/-- State of the main domain that every unit's meaning asks for: ticks run and the domain is out of reset. -/
def Power.up (p : Power) : Bool := p.main && p.dclk && !p.hold


/-- Messages of a host link (R229, R230, R239, R248, R249). -/
inductive LinkMsg where
  | deviceReady | functionReady | pme | pmeToAck | invalidateDone | errCorrectable | errNonFatal | errFatal
  /-- A request for the translation of a 4 KiB page (R239). -/
  | translation (page : Nat)
  deriving DecidableEq, Repr

/-- An answer to a configuration request: data, Request Retry Status, or Unsupported Request for an absent function. -/
inductive CfgAnswer where
  | data (v : Nat)
  | retry
  | unsupported
  deriving DecidableEq, Repr

/-- What leaves the device, as the model's own record (log entry 7: DESIGN CHOICE, safe), newest first in `Dev.out`. -/
inductive Output where
  /-- A frame an Ethernet port transmitted; `stomped`: its FCS was inverted (R95). -/
  | ethFrame (port : Nat) (data : List Nat) (stomped : Bool)
  /-- A frame of scheduler port 40 sent on the twin link (R427). -/
  | twinFrame (data : List Nat)
  /-- A frame the management port transmitted (R108). -/
  | mgmtFrame (data : List Nat)
  /-- A pause or PFC frame: priority mask and quanta (R103). -/
  | pause (port prio quanta : Nat)
  /-- A notification sent to a session, by its key (R86). -/
  | notify (key : Nat) (n : Notif)
  /-- A response sent to a session, by its key and request sequence (R81). -/
  | response (key seq : Nat) (r : Response)
  /-- A memory write of a function to its host: address, bytes, and the Relaxed Ordering attribute (R238). -/
  | hostWrite (fn addr : Nat) (data : List Nat) (ro : Bool)
  /-- A non-posted read request with a tag (R240). -/
  | hostRead (link fn tag addr : Nat) (bytes : Nat)
  /-- An MSI-X write of a vector (R231, R238). -/
  | msix (fn vector : Nat)
  /-- A message of a link or function (R229, R230, R239, R248, R249). -/
  | linkMsg (link fn : Nat) (kind : LinkMsg)
  /-- The answer to a configuration request (R229, R233). -/
  | cfgReply (fn : Nat) (answer : CfgAnswer)
  /-- The answer to a read of a BAR register or of CI_DATA (R233, R234). -/
  | barRead (fn off value : Nat)
  /-- An operation sent to a backend: NVMe opcode, first block, blocks, FUA and data (R305, R312 to R318). -/
  | backend (b : Nat) (op : BkOp) (opcode lba blocks : Nat) (fua : Bool) (data : List Nat)
  /-- A Keep Alive sent to a backend (R310, R311). -/
  | keepAlive (b : Nat)
  /-- A connection attempt to a backend, with what it uses: BK_KIND, BK_ADDR, BK_NQN, HOST_NQN, BK_QUEUES, whether header and data digests are on,
  and the bytes of in-capsule data at most (R310). -/
  | connect (b kind addr nqn host queues : Nat) (digests : Bool) (capsule : Nat)
  /-- WAKEh_N asserted for pair h (R250). -/
  | wake (pair : Nat)
  /-- CLKREQh_N of pair h asserted or released (R249). -/
  | clkreq (pair : Nat) (asserted : Bool)
  /-- A LEASE body sent to the Witness, or its answer, as the 48 bytes' number (R435). -/
  | lease (body : Nat)
  /-- An identity record sent on the twin link: SERIAL, PART_CODE, PAIR_ID, ROLE, LEASE_SEQ and the digest (R428). -/
  | identity (serial part pair role seq digest : Nat)
  /-- A mirror message sent to the peer (R430 to R433, R442). -/
  | mirror (m : MirrorMsg)
  /-- The acknowledgement of a synchronous mirror message (R427). -/
  | mirrorAck
  /-- PPS_OUT rises for a whole second at a capture count, for a width in ns (R374). -/
  | ppsOut (second : Int) (count width : Nat)
  deriving DecidableEq, Repr

/-- The pieces of edge work of one tick edge, in the order of R24. -/
inductive EdgePiece where
  | budgets | fences | deviceFault | overrun | stall | closeTick | links | snapshot
  | bureau | table | lease | policer | shaper | coarse | calendar | steal | sample | hosts
  deriving DecidableEq, Repr

/-- The device: everything of the block but the outputs it drives and the commands waiting. -/
structure Dev where
  /-- The part (R1, R3). -/
  part : Part := .ik9x
  /-- The tick counter (R18, 0x1030.01). -/
  tick : Nat := 0
  /-- Edge work of the present edge still to be done (R24; log entry 4: DESIGN CHOICE, safe). -/
  edgeTodo : List EdgePiece := []
  /-- Every Bureau object whose value differs from its default, key index.subindex × 2^32 + instance (R59). -/
  objs : Tab Nat := []
  /-- The counters and histograms frozen at the last snapshot (R22) and its edge. -/
  snap : Tab Nat := []
  snapTick : Nat := 0
  /-- The counters and histograms as they stood at the end of the tick that a selected edge closes, until SNAPSHOT freezes them (R22,
  R24). -/
  snapDue : Option (Tab Nat) := none
  power : Power := {}
  boot : Boot := {}
  pins : Pins := {}
  bureau : Bureau := {}
  work : Work := {}
  shelves : Shelves := {}
  sched : Sched := {}
  eth : Eth := {}
  pats : Patterns := {}
  em : Em := {}
  postmark : Postmark := {}
  hosts : Hosts := {}
  storage : Storage := {}
  cipher : Cipher := {}
  twin : Twin := {}
  cores : Cores := {}
  /-- Bytes of the drawer stores, cabinet stores, packet buffer and GDDR6 by device physical address (R33), those that read 0 not
  listed; the data of buffer chains are in `shelves`. -/
  mem : List Host.Cell := []
  /-- The model's own count of free values used (log entry 5: DESIGN CHOICE, safe). -/
  free : Nat := 0
  /-- The model's own record of what left the device (log entry 7: DESIGN CHOICE, safe). -/
  out : List Output := []
  deriving DecidableEq, Repr

/-- What the device drives on the outputs that follow its state at once (R108, R485, R469, R97, R500): what each LED is driven as (0 off,
1 on, 2 and 3 blinking), and whether the management port's transmitter, and each Ethernet port's, is out of electrical idle. -/
structure Outs where
  leds : List Nat := [0, 0, 0, 0]
  mgmtTx : Bool := false
  ethTx : List Bool := List.replicate 32 false
  deriving DecidableEq, Repr

/-- The block: the device, the outputs it drives, and the commands waiting, first in, first out. -/
structure State extends Dev where
  outs : Outs := {}
  pending : List Instr := []
  deriving DecidableEq, Repr

/-- The faults of the model: there are none. Every command has a next state from every state, for the spec gives each an effect. -/
inductive Fault where
  deriving DecidableEq, Repr

/-- The refusals of the model: none is raised. -/
inductive Refusal where
  /-- A command that has no meaning yet; only an arm of `exec` could raise it, and none does. Safe: nothing would be claimed of it. -/
  | notModelled (mnemonic : String)
  deriving DecidableEq, Repr

/-- The state right after reset: VAUX has become good and the whole device starts with a cold reset (R463, R465). The main domain is
not good yet, READINESS is AUX_ONLY, every object has its default, and the MCTP endpoint is the Owner's by the default of 0x1058.01. -/
def State.reset : State := { bureau := { sessions := [(0x20000, { who := .owner })] } }

end Sys2Proof.Machine
end

