-- ==== Sys2Proof/Machine/Ops.lean ====
section
/-! DEFINITION. The named operations over the state that every chapter uses: the part's counts, Bureau objects, logs,
notifications, the model's output and its free values. -/
namespace Sys2Proof.Machine

/-! ### The part's counts (R5, R13, R14) -/

/-- Cabinets in the part (R14). -/
def Part.cabinets : Part → Nat | .ik9x => 4 | .ik9c => 2
/-- Drawers in the part (R14). -/
def Part.drawers : Part → Nat | .ik9x => 64 | .ik9c => 32
/-- Ethernet lanes and ports in the part (R2). -/
def Part.ports : Part → Nat | .ik9x => 32 | .ik9c => 16
/-- Host link controllers in the part (R13, R220). -/
def Part.links : Part → Nat | .ik9x => 8 | .ik9c => 4
/-- VFs of the part (R5). -/
def Part.vfs : Part → Nat | .ik9x => 4096 | .ik9c => 2048
/-- GDDR6 controllers of the part (R5). -/
def Part.memCtrls : Part → Nat | .ik9x => 16 | .ik9c => 8
/-- Boot image slots of the part (R2). -/
def Part.slots : Part → Nat | .ik9x => 4 | .ik9c => 2
/-- Hardware threads of the part (R5). -/
def Part.threads (p : Part) : Nat := 32 * p.drawers

/-- A value by part. -/
def Part.pick {α : Type} (p : Part) (x c : α) : α := match p with | .ik9x => x | .ik9c => c

/-- The junction sensors of the part (R473): the hub, its cabinets and the SerDes. -/
def Part.sensors (p : Part) : List Nat := p.pick [0, 1, 2, 3, 4, 5] [0, 1, 2, 5]

/-! ### Objects -/

/-- The size of a value in bytes (R62). -/
def ObjTy.size : ObjTy → Nat
  | .bool => 1 | .u8 => 1 | .u16 => 2 | .u32 => 4 | .u64 => 8 | .i32 => 4 | .i64 => 8
  | .octets n => n | .string n => n | .time96 => 12 | .rate => 8 | .handle => 4

/-- The instance count of an object on a part (R59, R67). -/
def ObjDef.count (d : ObjDef) (p : Part) : Nat := p.pick d.countX d.countC

/-- The legal ranges of an object on a part; empty means every encodable value. -/
def ObjDef.ranges (d : ObjDef) (p : Part) : List (Int × Int) := p.pick d.rangesX d.rangesC

/-- The store key of an object instance: the object's number above the 32-bit instance (R59). A number that is no instance has a key of
its own. -/
def okey (oid inst : Nat) : Nat := inst / 2 ^ 32 * 2 ^ 64 + oid * 2 ^ 32 + inst % 2 ^ 32

/-- The size in bytes of a buffer of shelf f (R178). -/
def shelfSize : Nat → Nat
  | 0 => 256 | 1 => 1024 | 2 => 2560 | 3 => 9728 | 4 => 16384 | 5 => 65536 | _ => 0

/-- The default buffer count of shelf f (R178). -/
def shelfBuffersDefault (p : Part) : Nat → Nat
  | 0 => p.pick 122880 61440 | 1 => p.pick 8192 4096 | 2 => p.pick 4096 2048
  | 3 => p.pick 1024 512 | 4 => p.pick 256 128 | 5 => 16384 | _ => 0

/-- Defaults that the object tables give by instance or by reference (R57, R91, R109, R178, R195, R219, R251, R277). -/
def specialDflt (p : Part) (oid inst : Nat) : Option Nat :=
  if oid = Obj.BUCKET_HOME then some (inst % p.drawers)
  else if oid = Obj.DRAWERS_IN_SERVICE then some (2 ^ p.drawers - 1)
  else if oid = Obj.PORT_MAC then some (ofLE (beBytes 6 (Config.macBase + inst)))
  else if oid = Obj.MGMT_MAC then some Config.mgmtMac
  else if oid = Obj.SERIAL then some Config.serial
  else if oid = Obj.STEPPING then some Config.stepping
  else if oid = Obj.ROM_VERSION then some Config.romVersion
  else if oid = Obj.SCHEMA_VERSION then some Config.schemaVersion
  else if oid = Obj.ENTERPRISE_NUMBER then some Config.enterpriseNumber
  else if oid = Obj.SHELF_SIZE then some (shelfSize inst)
  else if oid = Obj.SHELF_PLACE then some (if inst = 5 then 1 else 0)
  else if oid = Obj.SHELF_BUFFERS then some (shelfBuffersDefault p inst)
  else if oid = Obj.OWNER_CONTROL then some (if 0xFFF0 ≤ inst ∧ inst ≤ 0xFFF2 then 1 else 0)
  else if oid = Obj.ENABLE_7008 then some (if 279552 ≤ inst then 1 else 0)
  else if oid = Obj.PORT_OVERHEAD then some (if inst < 32 then 20 else 0)
  else if oid = Obj.LINK_MODE then some (if inst % 2 = 0 then 1 else 0)
  else if oid = Obj.QUEUE_LIMIT then some (if inst < 64 then 1024 else 32)
  else if oid = Obj.MSIX_VECTORS then some (if inst < 64 then 2048 else 64)
  else if oid = Obj.QSTAT then some (0xFFFFFFFF * 2 ^ 192)
  else none

/-- An object's DEFAULT at an instance (R67, R80). -/
def dfltOf (p : Part) (oid inst : Nat) : Nat :=
  match specialDflt p oid inst with
  | some v => v
  | none =>
    match objDef? oid with
    | some d => p.pick d.dfltX d.dfltC
    | none => 0

/-- The value an object store holds for an instance: its entry, or the default. -/
def objAt (p : Part) (o : Tab Nat) (oid inst : Nat) : Nat :=
  match Tab.get? o (okey oid inst) with
  | some v => v
  | none => dfltOf p oid inst

/-- The applied value of an object instance. -/
def Dev.obj (s : Dev) (oid : Nat) (inst : Nat := 0) : Nat := objAt s.part s.objs oid inst

/-- Whether an object's applied value is 1. -/
def Dev.flag (s : Dev) (oid : Nat) (inst : Nat := 0) : Bool := s.obj oid inst == 1

/-- The applied value of an I32 object, signed. -/
def Dev.objI32 (s : Dev) (oid : Nat) (inst : Nat := 0) : Int := toSigned 32 (s.obj oid inst)

/-- The applied value of an I64 object, signed. -/
def Dev.objI64 (s : Dev) (oid : Nat) (inst : Nat := 0) : Int := toSigned 64 (s.obj oid inst)

/-- The state with an object instance holding a value, cut to the object's size (R62). -/
def Dev.setObj (s : Dev) (oid inst v : Nat) : Dev :=
  match objDef? oid with
  | none => s
  | some d =>
    let v' := v % 2 ^ (8 * d.ty.size)
    { s with objs := Tab.put (dfltOf s.part oid inst) s.objs (okey oid inst) v' }

/-- The state with a counter object raised by n, modulo its width. -/
def Dev.addObj (s : Dev) (oid inst n : Nat) : Dev := s.setObj oid inst (s.obj oid inst + n)

/-- The state with a counter object raised by one. -/
def Dev.bump (s : Dev) (oid : Nat) (inst : Nat := 0) : Dev := s.addObj oid inst 1

/-- The state with a counter object lowered by one, not below zero. -/
def Dev.drop1 (s : Dev) (oid : Nat) (inst : Nat := 0) : Dev := s.setObj oid inst (s.obj oid inst - 1)

/-! ### Output and free values -/

/-- Something leaves the device (log entry 7: DESIGN CHOICE, safe). -/
def Dev.emit (s : Dev) (o : Output) : Dev := { s with out := o :: s.out }

/-- A free value and the state that has used it (log entry 5: DESIGN CHOICE, safe). -/
def Dev.fresh (s : Dev) : Nat × Dev := (Config.freeNat s.free, { s with free := s.free + 1 })

/-! ### Logs (R501) -/

/-- A record of `ring` entries at ring object `oid`, counted at `oid + 1` (R501): written at instance count mod ring. -/
def Dev.log (s : Dev) (oid ring rec : Nat) : Dev :=
  let n := s.obj (oid + 1)
  (s.setObj oid (n % ring) rec).setObj (oid + 1) 0 (n + 1)

/-! ### Notifications (R86) -/

/-- The session key of a session (R68). -/
def sessKey : Sess → Nat
  | .admin n => n
  | .xeh a => 0x10000 + a
  | .mctp => 0x20000

/-- Whether the session with this key receives notifications: an Owner association, or the MCTP endpoint as Owner (R86). -/
def Session.notified (k : Nat) (ss : Session) : Bool := decide (0x10000 ≤ k) && ss.who == .owner

/-- A session's queue with one more notification (R86): the 257th drops the oldest, and the next one sent says so. -/
def Session.push (ss : Session) (code obj tick detail : Nat) : Session × Notif :=
  let full := decide (256 ≤ ss.notifs.length)
  let n : Notif :=
    { seq := ss.nextNotif, code := code, obj := obj, tick := tick, detail := detail,
      lost := full || ss.discardLost, sends := 1, lastSend := tick }
  let q := if full then ss.notifs.drop 1 else ss.notifs
  ({ ss with notifs := q ++ [n], nextNotif := ss.nextNotif + 1, discardLost := false }, n)

/-- Every notified session gets the event, and it is sent (R86). -/
def Dev.notify (s : Dev) (code obj detail : Nat) : Dev :=
  let step (acc : Tab Session × List Output) (e : Nat × Session) : Tab Session × List Output :=
    if e.2.notified e.1 then
      let (ss, n) := e.2.push code obj s.tick (detail % 2 ^ 256)
      (acc.1 ++ [(e.1, ss)], .notify e.1 n :: acc.2)
    else (acc.1 ++ [e], acc.2)
  let (t, o) := s.bureau.sessions.foldl step ([], [])
  { s with bureau := { s.bureau with sessions := t }, out := o ++ s.out }

/-! ### Drawers -/

/-- Whether drawer d is present and not fenced (R20, 0x1034.05). -/
def Dev.inService (s : Dev) (d : Nat) : Bool := decide (d < s.part.drawers) && s.obj Obj.DRAWER_STATE d == 0

/-- The in-service drawers, ascending. -/
def Dev.serviceDrawers (s : Dev) : List Nat := (List.range s.part.drawers).filter s.inService

/-- DRAWERS_IN_SERVICE (R20). -/
def Dev.drawersMask (s : Dev) : Nat := s.serviceDrawers.foldl (fun m d => m + 2 ^ d) 0

/-! ### Ports and roles -/

/-- The rate of a port mode in Gb/s (R91). -/
def modeRate : Nat → Nat
  | 1 => 1600 | 2 => 800 | 3 => 800 | 4 => 400 | 5 => 400 | 6 => 200 | 7 => 200 | 8 => 100 | 9 => 100 | 10 => 50 | 11 => 25 | _ => 0

/-- Whether the device forwards (R429, R438, R443, R500): not after a device fault, and only SOLO without TWIN_ENABLE, or ACTIVE and
not switching over. -/
def Dev.forwards (s : Dev) : Bool :=
  s.obj Obj.DEVICE_FAULT == 0 &&
    (s.obj Obj.ROLE == 1 && !s.twin.switching || s.obj Obj.ROLE == 0 && !s.flag Obj.TWIN_ENABLE)

/-- Whether queues are fetched from (R472, R500): from READY on, and not after a device fault. -/
def Dev.fetches (s : Dev) : Bool := s.obj Obj.READINESS == 3 && s.obj Obj.DEVICE_FAULT == 0

/-- Whether pause and PFC frames are sent (R429, R438, R500): not after a device fault and not while FENCED. -/
def Dev.sendsPause (s : Dev) : Bool := s.obj Obj.DEVICE_FAULT == 0 && s.obj Obj.ROLE != 4

/-- Whether Ethernet port p is UP (R97). -/
def Dev.portUp (s : Dev) (p : Nat) : Bool := s.obj Obj.LINK_STATE_2000 p == 3

/-- A frame arrives on the management port (R108): it is taken, or, beyond 10,000 in a second, dropped and counted. A second is 1,953,125
ticks. -/
def Dev.mgmtFrame (s : Dev) (f : Dev → Dev) : Dev :=
  let sec := s.tick / 1953125
  let n := if s.eth.mgmtSecond = sec then s.eth.mgmtFrames else 0
  if n < 10000 then f { s with eth := { s.eth with mgmtSecond := sec, mgmtFrames := n + 1 } } else s.bump Obj.MGMT_RX_DROP

/-! ### The outputs, and what a command answers -/

/-- What each LED is driven as: off in AUX_ONLY and BOOTING, and then by its LED_MODE (R485). -/
def Dev.ledDrive (s : Dev) (i : Nat) : Nat := if s.obj Obj.READINESS < 2 then 0 else s.obj Obj.LED_MODE i

/-- Whether the management port's transmitter is out of electrical idle (R108, R469). -/
def Dev.mgmtOut (s : Dev) : Bool := decide (2 ≤ s.obj Obj.READINESS)

/-- Whether the transmitter of Ethernet port p is out of electrical idle: in READY, the port not DISABLED, and no device fault
(R97, R469, R500). -/
def Dev.ethOut (s : Dev) (p : Nat) : Bool :=
  s.obj Obj.READINESS == 3 && s.obj Obj.DEVICE_FAULT == 0 && s.obj Obj.LINK_STATE_2000 p != 0

/-- The outputs that follow the state. -/
def Dev.driven (s : Dev) : Outs :=
  { leds := (List.range 4).map s.ledDrive, mgmtTx := s.mgmtOut, ethTx := (List.range 32).map s.ethOut }

/-- What a command answers. -/
abbrev Res := Host.Outcome State Fault Refusal

/-- The block once a command has left the device d: the outputs follow at once, and the commands waiting are as they were. -/
def State.after (s : State) (d : Dev) : State := { d with outs := d.driven, pending := s.pending }

/-- A command's answer from state s. -/
def ok (s : State) (d : Dev) : Res := .next (s.after d)

/-- A command with an effect whatever domain is up. -/
def always (s : State) (f : Dev → Dev) : Res := ok s (f s.toDev)

/-- A command of the main domain: its effect while the domain is out of reset and ticks run, and none otherwise (R465, R468, R470). -/
def onMain (s : State) (f : Dev → Dev) : Res := ok s (if s.power.up then f s.toDev else s.toDev)

/-- The same, for a command that has its effect under a condition and none otherwise (log entry 5: DESIGN CHOICE, safe). -/
def onMainIf (s : State) (c : Bool) (f : Dev → Dev) : Res := ok s (if s.power.up && c then f s.toDev else s.toDev)

end Sys2Proof.Machine
end

