-- ==== Sys2Proof/Machine/Frames.lean ====
section
/-! DEFINITION. The hub's fixed header extractor (R101), the flow hash (R37), and what the scheduler and the postmark unit read and
rewrite in a frame's outer headers (R100, R211, R215). -/
namespace Sys2Proof.Machine

/-- The flow hash of a host submission or storage command: two numbers, 2 bytes each, most significant first (R37). -/
def Dev.pairHash (s : Dev) (a b : Nat) : Nat := crc32c (s.obj Obj.HASH_SEED) (beBytes 2 a ++ beBytes 2 b)

/-- The home bucket of a flow hash (R37). -/
def bucketOf (h : Nat) : Nat := h % 4096

/-- An IP header recognised by the extractor (R101): where it starts, its addresses, the protocol or next-header value of field 6,
whether the datagram is a fragment, and where its L4 header starts if that is recognised. -/
structure IpHdr where
  v6 : Bool
  off : Nat
  src : List Nat
  dst : List Nat
  proto : Nat
  frag : Bool
  l4 : Option Nat
  deriving DecidableEq, Repr

/-- The Ethernet and IP headers recognised from an offset (R101): VLAN tags' TCIs outermost first, the EtherType after them. -/
structure EthHdr where
  dmac : List Nat
  smac : List Nat
  tcis : List Nat
  etype : Nat
  ip : Option IpHdr
  deriving DecidableEq, Repr

/-- A 16-bit field in network order at an offset. -/
def be16 (bs : List Nat) (o : Nat) : Nat := 256 * nth bs o + nth bs (o + 1)

/-- Whether a TPID marks a VLAN tag (R101). -/
def isTpid (t : Nat) : Bool := t == 0x8100 || t == 0x88A8

/-- Whether an IPv6 next-header value names an extension header the extractor recognises (R101). -/
def isExt (n : Nat) : Bool := n == 0 || n == 43 || n == 44 || n == 60

/-- Whether a protocol has L4 ports the extractor recognises (R101). -/
def isL4 (n : Nat) : Bool := n == 6 || n == 17 || n == 132

/-- Up to k IPv6 extension headers from an offset (R101): the next-header value after them, the offset after them, and whether a
Fragment header with a non-zero offset or M flag was among them. -/
def ipv6Exts (bs : List Nat) : Nat → Nat → Nat → Bool → Nat × Nat × Bool
  | 0, nh, o, fr => (nh, o, fr)
  | k + 1, nh, o, fr =>
    if isExt nh && decide (o + 8 ≤ bs.length) then
      let len := if nh == 44 then 8 else 8 * (nth bs (o + 1) + 1)
      let fr' := fr || (nh == 44 && be16 bs (o + 2) % 65536 / 8 != 0) || (nh == 44 && be16 bs (o + 2) % 2 == 1)
      ipv6Exts bs k (nth bs o) (o + len) fr'
    else (nh, o, fr)

/-- The IP header an EtherType announces at an offset, if it is recognised (R101). -/
def extractIp (bs : List Nat) (etype o : Nat) : Option IpHdr :=
  if etype = 0x0800 ∧ o + 20 ≤ bs.length ∧ nth bs o / 16 = 4 ∧ 5 ≤ nth bs o % 16 then
    let l4 := o + 4 * (nth bs o % 16)
    let frag := be16 bs (o + 6) % 16384 != 0
    let proto := nth bs (o + 9)
    some { v6 := false, off := o, src := slice bs (o + 12) 4, dst := slice bs (o + 16) 4, proto := proto, frag := frag,
           l4 := if isL4 proto && !frag && decide (l4 + 4 ≤ bs.length) then some l4 else none }
  else if etype = 0x86DD ∧ o + 40 ≤ bs.length ∧ nth bs o / 16 = 6 then
    let (nh, l4, frag) := ipv6Exts bs 2 (nth bs (o + 6)) (o + 40) false
    some { v6 := true, off := o, src := slice bs (o + 8) 16, dst := slice bs (o + 24) 16, proto := nh, frag := frag,
           l4 := if isL4 nh && !frag && decide (l4 + 4 ≤ bs.length) then some l4 else none }
  else none

/-- Up to k VLAN tags from the EtherType at an offset (R101): the TCIs, the EtherType after them, and where its payload starts. -/
def extractTags (bs : List Nat) : Nat → Nat → List Nat × Nat × Nat
  | 0, o => ([], be16 bs o, o + 2)
  | k + 1, o =>
    if isTpid (be16 bs o) && decide (o + 6 ≤ bs.length) then
      let (t, e, p) := extractTags bs k (o + 4)
      (be16 bs (o + 2) :: t, e, p)
    else ([], be16 bs o, o + 2)

/-- The Ethernet header at an offset, with up to two tags and the IP header after it (R101). -/
def extractEth (bs : List Nat) (o : Nat) : Option EthHdr :=
  if o + 14 ≤ bs.length then
    let (t, e, p) := extractTags bs 2 (o + 12)
    some { dmac := slice bs o 6, smac := slice bs (o + 6) 6, tcis := t, etype := e, ip := extractIp bs e p }
  else none

/-- The inner IP header of the first recognised UDP encapsulation (R101): VXLAN or Geneve. -/
def innerIp (bs : List Nat) (ip : IpHdr) : Option IpHdr :=
  match ip.l4 with
  | none => none
  | some o =>
    if ip.proto ≠ 17 ∨ bs.length < o + 16 then none
    else if be16 bs (o + 2) = 4789 then (extractEth bs (o + 16)).bind EthHdr.ip
    else if be16 bs (o + 2) = 6081 ∧ nth bs (o + 8) / 64 = 0 then
      let e := be16 bs (o + 10)
      let p := o + 16 + 4 * (nth bs (o + 8) % 64)
      if e = 0x6558 then (extractEth bs p).bind EthHdr.ip else extractIp bs e p
    else none

/-- The bytes hashed for a network frame under a HASH_FIELDS value, in ascending bit order (R101). Where a third tag follows the two
recognised, the value after the last is a TPID, which is never hashed, and field 3 is absent (log entry 138: DESIGN CHOICE, unsafe). -/
def hashBytes (fields : Nat) (bs : List Nat) : List Nat :=
  match extractEth bs 0 with
  | none => []
  | some e =>
    let sel (i : Nat) (x : List Nat) : List Nat := if bit fields i then x else []
    let ip := if bit fields 10 then ((e.ip.bind (innerIp bs)).orElse (fun _ => e.ip)) else e.ip
    let outer := e.ip
    sel 0 e.smac ++ sel 1 e.dmac
      ++ sel 2 (match e.tcis with | [] => [] | t :: _ => beBytes 2 (t % 4096))
      ++ sel 3 (if isTpid e.etype then [] else beBytes 2 e.etype)
      ++ sel 4 ((ip.map IpHdr.src).getD []) ++ sel 5 ((ip.map IpHdr.dst).getD [])
      ++ sel 6 ((ip.map (fun i => [i.proto])).getD [])
      ++ sel 7 (((ip.bind IpHdr.l4).map (fun o => slice bs o 2)).getD [])
      ++ sel 8 (((ip.bind IpHdr.l4).map (fun o => slice bs (o + 2) 2)).getD [])
      ++ sel 9 (match outer with
          | some i => if i.v6 then beBytes 3 (ofBE (slice bs (i.off + 1) 3) % 2 ^ 20) else []
          | none => [])

/-- The flow hash of a network frame on port p (R37, R101), over the header attachment. -/
def Dev.frameHash (s : Dev) (p : Nat) (bs : List Nat) : Nat :=
  crc32c (s.obj Obj.HASH_SEED) (hashBytes (s.obj Obj.HASH_FIELDS p) (bs.take 256))

/-- The PCP of a frame's outermost VLAN tag, or the port's DEFAULT_PCP (R100). -/
def Dev.framePrio (s : Dev) (p : Nat) (bs : List Nat) : Nat :=
  match (extractEth bs 0).map EthHdr.tcis with
  | some (t :: _) => t / 8192 % 8
  | _ => s.obj Obj.DEFAULT_PCP p

/-- The CLASS that port p gives priority q (R100). -/
def Dev.prioClass (s : Dev) (p q : Nat) : Nat := bits (s.obj Obj.PCP_CLASS_MAP p) (2 * q + 1) (2 * q)

/-- The traffic-class byte of the outer IP header, if the extractor recognises one (R215). -/
def outerTos (bs : List Nat) : Option Nat :=
  ((extractEth bs 0).bind EthHdr.ip).map
    (fun i => if i.v6 then be16 bs i.off / 16 % 256 else nth bs (i.off + 1))

/-- PCP × 2 + DEI of the outermost tag (R215). -/
def outerPcpDei (bs : List Nat) : Option Nat :=
  match (extractEth bs 0).map EthHdr.tcis with
  | some (t :: _) => some (t / 4096)
  | _ => none

/-- A list with the bytes at an offset replaced. -/
def putAt (bs : List Nat) (o : Nat) (x : List Nat) : List Nat := bs.take o ++ x ++ bs.drop (o + x.length)

/-- The ones' complement sum of 16-bit words, folded. -/
def sum16 : List Nat → Nat
  | a :: b :: r => (256 * a + b) + sum16 r
  | [a] => 256 * a
  | [] => 0

/-- The internet checksum of bytes. -/
def checksum16 (bs : List Nat) : Nat :=
  let s := sum16 bs
  let f1 := s % 65536 + s / 65536
  let f2 := f1 % 65536 + f1 / 65536
  0xFFFF - f2 % 65536

/-- An IPv4 header of n bytes at an offset with its checksum recomputed. -/
def fixIpv4Sum (bs : List Nat) (o n : Nat) : List Nat :=
  let z := putAt bs (o + 10) [0, 0]
  putAt z (o + 10) (beBytes 2 (checksum16 (slice z o n)))

/-- The frame with the ECN field of its outer IP header set to CE, the IPv4 checksum updated; one that already carries CE is not rewritten
(R211). -/
def markCe (bs : List Nat) : List Nat :=
  match (extractEth bs 0).bind EthHdr.ip with
  | none => bs
  | some i =>
    if i.v6 then putAt bs (i.off + 1) [nth bs (i.off + 1) / 64 * 64 + 48 + nth bs (i.off + 1) % 16]
    else if nth bs (i.off + 1) % 4 = 3 then bs
    else
      let b := putAt bs (i.off + 1) [nth bs (i.off + 1) / 4 * 4 + 3]
      fixIpv4Sum b i.off (4 * (nth b i.off % 16))

end Sys2Proof.Machine
end

