-- ==== Sys2Proof/Machine/Harts.lean ====
section
/-! DEFINITION. Hardware threads and channel ends (chapter 16): registers, taking a trap, interrupts, waking, and the passing of
channel tokens. -/
namespace Sys2Proof.Machine

/-- Thread h. -/
def Dev.hart (s : Dev) (h : Nat) : Hart := Tab.getD s.cores.harts h {}

/-- The state with thread h replaced. -/
def Dev.setHart (s : Dev) (h : Nat) (x : Hart) : Dev :=
  { s with cores := { s.cores with harts := Tab.put {} s.cores.harts h x } }

/-- Register x of a thread; x0 reads zero. -/
def Hart.reg (t : Hart) (x : Nat) : Nat := if x = 0 then 0 else Tab.getD t.regs x 0

/-- The thread with register x written, cut to 64 bits; a write of x0 is discarded. -/
def Hart.setReg (t : Hart) (x v : Nat) : Hart := if x = 0 then t else { t with regs := Tab.put 0 t.regs x (v % 2 ^ 64) }

/-- Whether thread h runs: its core is released, its drawer is in service and it is not halted (R385). -/
def Dev.hartRuns (s : Dev) (h : Nat) : Bool :=
  decide (h < s.part.threads) && (s.hart h).on && s.inService (h / 32) && !(s.hart h).halted

/-- mstatus as read: MPP is machine mode, MPIE and MIE (R380). -/
def Hart.mstatus (t : Hart) : Nat := 0x1800 + ofBool t.mpie * 128 + ofBool t.mie_ * 8

/-- Where a trap goes: the base of mtvec, or base + 4 × code for an interrupt in vectored mode. -/
def Hart.vector (t : Hart) (interrupt : Bool) (code : Nat) : Nat :=
  let base := t.mtvec / 4 * 4
  if interrupt && t.mtvec % 4 == 1 then (base + 4 * code) % 2 ^ 64 else base

/-- Taking a trap: mepc, mcause and mtval are written, MIE moves to MPIE and is cleared, the reservation is cleared (R382), and the
thread goes on at the vector. -/
def Hart.trap (t : Hart) (interrupt : Bool) (code tval epc tick : Nat) : Hart :=
  { t with mepc := epc, mcause := ofBool interrupt * 2 ^ 63 + code, mtval := tval % 2 ^ 64, mpie := t.mie_, mie_ := false,
           pc := t.vector interrupt code, resv := none, wait := .run, left := none, awake := tick }

/-- Thread h takes an exception at its pc. -/
def Dev.except (s : Dev) (h code tval : Nat) : Dev :=
  let t := s.hart h
  s.setHart h (t.trap false code tval t.pc s.tick)

/-- An instruction of thread h ends without a trap: the pc moves on by its length, and it is counted (R380). -/
def Dev.retired (s : Dev) (h len : Nat) : Dev :=
  let t := s.hart h
  s.setHart h { t with pc := (t.pc + len) % 2 ^ 64, awake := s.tick, wait := .run, left := none,
                       minstret := if bit t.mcountinhibit 2 then t.minstret else (t.minstret + 1) % 2 ^ 64 }

/-! ### The parcels that threads take (R52, R395, R396) -/

/-- How the received frame in a chain has ended; chains without a record are whole (R95). -/
def Dev.rxEnd (s : Dev) (h : Nat) : RxEnd := (Tab.get? s.eth.ends h).getD .good

/-- A drawer's waiting parcels, in the order they entered. -/
def Dev.queue (s : Dev) (d : Nat) : List QEntry := Tab.getD s.work.queues d []

/-- What TAKE takes (R396): the lowest class with a waiting parcel; within it the earlier of the two FIFOs' heads. -/
inductive Taken where
  | punt (i : PuntItem)
  | queued (e : QEntry)
  deriving DecidableEq, Repr

/-- The head of drawer d's punt FIFO of class c. -/
def Dev.puntHead (s : Dev) (d c : Nat) : Option PuntItem := (Tab.getD s.work.punts d []).find? (fun i => i.p.cls == c)

/-- The oldest parcel of kinds 0x03 to 0x05 of class c on drawer d's queue (R41, R396). -/
def Dev.queueHead (s : Dev) (d c : Nat) : Option QEntry := (s.queue d).find? (fun e => e.p.cls == c && decide (3 ≤ e.p.kind))

/-- The parcel that TAKE takes in drawer d (R396). -/
def Dev.takeNext (s : Dev) (d : Nat) : Option Taken :=
  ((List.range 4).filterMap (fun c =>
    match s.puntHead d c, s.queueHead d c with
    | some i, some e => if i.seq ≤ e.seq then some (.punt i) else some (.queued e)
    | some i, none => some (.punt i)
    | none, some e => some (.queued e)
    | none, none => none)).head?

/-- The parcel of a taken item. -/
def Taken.parcel : Taken → Parcel
  | .punt i => i.p
  | .queued e => e.p

/-- The keys of the engines that finish parcels (R52): the sorter of drawer d is d; threads, the monitors and the hub for a drawer, the slices
and the matchers have keys above. -/
def engineThread (h : Nat) : Nat := 0x1000 + h
/-- The drawer monitor, and the hub when it fences the drawer: an engine that takes no parcel. -/
def engineMonitor (d : Nat) : Nat := 0x10000 + d
/-- The cipher slice of drawer d. -/
def engineSlice (d : Nat) : Nat := 0x20000 + d
/-- The pattern matcher of drawer d. -/
def engineMatcher (d : Nat) : Nat := 0x30000 + d
/-- The drawer of an engine. -/
def engineDrawer (e : Nat) : Nat := if e < 0x1000 then e else if e < 0x10000 then (e - 0x1000) / 32 else e % 0x10000

/-- Whether an engine keeps a finished parcel for want of a pigeonhole, and so takes no new one (R52). -/
def Dev.rackBlocked (s : Dev) (e : Nat) : Bool := s.work.rackWait.any (fun w => w.1 == e)

/-- What TAKE by thread h would take (R395, R396): nothing while all its slots are in use, while the frame at the head is still arriving (R95), and
while a parcel that the thread finished waits for a pigeonhole (R52). -/
def Dev.takes (s : Dev) (h : Nat) : Option Taken :=
  match s.takeNext (h / 32) with
  | some x =>
    if s.rxEnd x.parcel.handle = .arriving ∨ s.rackBlocked (engineThread h) = true ∨
      [0, 1, 2, 3].all (fun i => (Tab.get? s.work.slots (4 * h + i)).isSome) = true then none else some x
  | none => none

/-! ### Interrupts and events (R387 to R389) -/

/-- Whether a parcel waits that thread h could take (R389). -/
def Dev.parcelWaits (s : Dev) (h : Nat) : Bool := (s.takes h).isSome

/-- mip of thread h: the latched bits, TICK and PARCEL (R389). -/
def Dev.mipOf (s : Dev) (h : Nat) : Nat :=
  let t := s.hart h
  t.mip + ofBool (decide (t.ntickcmp ≤ s.tick)) * 2 ^ 17 + ofBool (s.parcelWaits h) * 2 ^ 16

/-- WAITEV completes when an event of its mask or an enabled interrupt is pending (R387). -/
def Dev.wakeEval (s : Dev) (h : Nat) : Dev :=
  let t := s.hart h
  match if s.hartRuns h then t.wait else .run with
  | .event mask rd =>
    let ev := t.nevpend &&& mask
    if ev ≠ 0 then (s.setHart h (({ t with nevpend := t.nevpend - ev } : Hart).setReg rd ev)).retired h 4
    else if s.mipOf h &&& t.mie ≠ 0 then (s.setHart h (t.setReg rd 0)).retired h 4
    else s
  | _ => s

/-- A parcel or a slot may have come that threads of drawer d wait for in WAITEV (R387, R389). -/
def Dev.wakeDrawer (s : Dev) (d : Nat) : Dev :=
  ((List.range 32).filter (fun i => bit (s.hart (32 * d + i)).mie 16)).foldl (fun t i => t.wakeEval (32 * d + i)) s

/-- A frame has arrived, or a head has gone, that threads of any drawer with punted parcels may wait for in WAITEV (R387, R389). -/
def Dev.wakePunts (s : Dev) : Dev := s.work.punts.foldl (fun t e => t.wakeDrawer e.1) s

/-- An engine no longer keeps a finished parcel: a thread may take one again (R52, R389). -/
def Dev.wakeEngine (s : Dev) (e : Nat) : Dev := if 0x1000 ≤ e ∧ e < 0x10000 then s.wakeEval (e - 0x1000) else s

/-- A latched interrupt bit of thread h becomes pending (R389). -/
def Dev.raise (s : Dev) (h b : Nat) : Dev :=
  let t := s.hart h
  (s.setHart h { t with mip := setBit t.mip b }).wakeEval h

/-- A command port of a thread has written DONE (R389). -/
def Dev.portDone (s : Dev) (h : Nat) : Dev := if h < s.part.threads then s.raise h 18 else s

/-- Event b becomes pending in thread h (R388). -/
def Dev.event (s : Dev) (h b : Nat) : Dev :=
  let t := s.hart h
  (s.setHart h { t with nevpend := setBit t.nevpend b }).wakeEval h

/-! ### Channels (R390 to R394) -/

/-- Channel end E. -/
def Dev.chan (s : Dev) (E : Nat) : ChanEnd := Tab.getD s.cores.ends E {}

/-- The state with a channel end replaced. -/
def Dev.setChan (s : Dev) (E : Nat) (x : ChanEnd) : Dev :=
  { s with cores := { s.cores with ends := Tab.put {} s.cores.ends E x } }

/-- The device-wide number of local end e of thread h's core (R390). -/
def endOf (h e : Nat) : Nat := 32 * (h / 8) + e % 32

/-- The drawer of channel end E. -/
def endDrawer (E : Nat) : Nat := E / 128

/-- Whether the destination of an end exists and its drawer is in service (*Channel faults*, reason 3). -/
def Dev.endPresent (s : Dev) (E : Nat) : Bool := s.inService (endDrawer E)

/-- A channel fault of thread h (R394): exception code 24 with mtval = E, recorded in NCHSTAT and counted. -/
def Dev.chanFault (s : Dev) (h E reason : Nat) : Dev :=
  let t := s.hart h
  let s1 := (s.setHart h { t with nchstat := E % 2 ^ 13 + reason * 2 ^ 16 }).bump Obj.CHANNEL_FAULTS h
  (if reason = 4 then s1.bump Obj.CHANNEL_TIMEOUTS h else s1).except h 24 E

/-- CHGET or CHTOK of thread h on end E when a token is at the head of its buffer (R392). -/
def Dev.takeToken (s : Dev) (h E : Nat) (w : HWait) : Dev :=
  let x := s.chan E
  let pop (rd v : Nat) : Dev := ((s.setChan E { x with buffer := x.buffer.drop 1 }).setHart h ((s.hart h).setReg rd v)).retired h 4
  match w, x.buffer.head? with
  | .get _ rd, some (.data v) => pop rd v
  | .get _ _, some .fin => s.chanFault h E 5
  | .get _ _, some .poison => s.chanFault h E 6
  | .tok _ rd, some (.data _) => (s.setHart h ((s.hart h).setReg rd 0)).retired h 4
  | .tok _ rd, some .fin => pop rd 1
  | .tok _ rd, some .poison => pop rd 2
  | _, _ => s

/-- Whether a thread is blocked in CHGET or CHTOK on its core's end e. -/
def Hart.receiving (t : Hart) (e : Nat) : Bool :=
  match t.wait with
  | .get e' _ => e' == e
  | .tok e' _ => e' == e
  | _ => false

/-- The threads blocked in CHGET or CHTOK on end E complete, in ascending order, as long as a token is there (R392). -/
def Dev.wakeReceiver (s : Dev) (E : Nat) : Dev :=
  ((List.range 8).map (· + 8 * (E / 32))).foldl (fun t h =>
    if t.hartRuns h && (t.hart h).receiving (E % 32) && !(t.chan E).buffer.isEmpty then t.takeToken h E (t.hart h).wait else t) s

/-- Whether end D takes a message of sender E, open or closed (R391). -/
def ChanEnd.taking (x : ChanEnd) (E : Nat) (closed : Bool) : Bool := x.src == some E && x.closed == closed

/-- Whether destination end D can accept a token of sender E's open message now, or the POISON of a closed one (R391): its buffer has room,
and it is taking that message, or it takes none and that message is the oldest waiting. -/
def Dev.accepts (s : Dev) (D E : Nat) (closed : Bool) : Bool :=
  let x := s.chan D
  decide (x.buffer.length < 2) && (x.taking E closed || (x.src.isNone && x.waiting.head? == some (E, closed)))

/-- Destination end D accepts a token of sender E (R391): data and END of its open message, POISON of a closed one. -/
def Dev.accept (s : Dev) (D E : Nat) (k : Token) : Dev :=
  let x := s.chan D
  let last := match k with | .data _ => false | _ => true
  let rest := if x.src.isSome then x.waiting else x.waiting.drop 1
  (s.setChan D { x with buffer := x.buffer ++ [k], src := if last then none else some E, closed := false, waiting := rest }).wakeReceiver D

/-- The open message of end E waits at destination D, unless D is taking it or it waits there already (R391). -/
def Dev.queueAt (s : Dev) (D E : Nat) : Dev :=
  let x := s.chan D
  if x.taking E false || x.waiting.contains (E, false) then s else s.setChan D { x with waiting := x.waiting ++ [(E, false)] }

/-- A word of end E that was not accepted is withdrawn; an open message of which nothing was accepted waits no longer (R393, R401). -/
def Dev.withdraw (s : Dev) (E : Nat) : Dev :=
  match (s.chan E).sending with
  | some (D, _) => s.setChan D { s.chan D with waiting := (s.chan D).waiting.filter (· != (E, false)) }
  | none => s

/-- End D is to take the POISON of sender E's open message, in that message's place (R391, R394). -/
def ChanEnd.close (x : ChanEnd) (E : Nat) : ChanEnd :=
  if x.taking E false then { x with closed := true }
  else if x.waiting.contains (E, false) then { x with waiting := x.waiting.map (fun w => if w = (E, false) then (E, true) else w) }
  else { x with waiting := x.waiting ++ [(E, true)] }

/-- The open message of end E is closed with POISON (R394, R401); the POISON is accepted when the destination has room. -/
def Dev.poisonEnd (s : Dev) (E : Nat) : Dev :=
  match (s.chan E).sending with
  | none => s
  | some (D, _) =>
    let s1 := s.setChan E { s.chan E with sending := none }
    let s2 := s1.setChan D ((s1.chan D).close E)
    if s2.accepts D E true then s2.accept D E .poison else s2

/-- A destination that can accept the POISON of a closed message of end E now (R391). -/
def Dev.poisonDue (s : Dev) (E : Nat) : Option Nat := (s.cores.ends.map Prod.fst).find? (fun D => s.accepts D E true)

/-- Every open message from an end of drawer d to an end elsewhere is closed with POISON (R394). -/
def Dev.poisonDrawer (s : Dev) (d : Nat) : Dev :=
  ((List.range 128).map (· + 128 * d)).foldl (fun t E =>
    match (t.chan E).sending with
    | some (D, _) => if endDrawer D = d then t else t.poisonEnd E
    | none => t) s

end Sys2Proof.Machine
end

