-- ==== Sys2Proof/Machine/Buffers.lean ====
section
/-! DEFINITION. Buffer shelves (chapter 08): geometry, owners, allocation, the operations of *Chain states*, and the meanings of
ALLOC, FREE, SHARE, DETACH and HANDOVER. -/
namespace Sys2Proof.Machine

/-- The null handle (R181). -/
abbrev nullHandle : Nat := 0xFFFFFFFF

/-- The handle of buffer i of shelf f (R181). -/
def handleOf (f i : Nat) : Nat := f * 2 ^ 29 + i

/-- A handle as software gives it, its reserved bit ignored (R10, R181). -/
def givenHandle (h : Nat) : Nat := if h = nullHandle then h else clearBit h 28

/-- The shelf a handle names (R181). -/
def shelfOf (h : Nat) : Nat := bits h 31 29

/-- Bytes a shelf takes: its buffers and their 16-byte records (R179). -/
def Dev.shelfBytes (s : Dev) (f : Nat) : Nat := s.obj Obj.SHELF_BUFFERS f * (shelfSize f + 16)

/-- Whether shelf f lies on chip (R178). -/
def Dev.shelfOnChip (s : Dev) (f : Nat) : Bool := s.obj Obj.SHELF_PLACE f == 0

/-- The offset of shelf f from the base of its placement: the bytes of the lower shelves placed there (R179). -/
def Dev.shelfOffset (s : Dev) (f : Nat) : Nat :=
  ((List.range f).filter (fun g => s.shelfOnChip g == s.shelfOnChip f)).foldl (fun a g => a + s.shelfBytes g) 0

/-! ### GDDR6 regions (R448, R454) -/

/-- The base of GDDR6 (R33). -/
abbrev gddrBase : Nat := 0x001000000000

/-- One GiB, one MiB. -/
abbrev gib : Nat := 2 ^ 30
/-- One MiB. -/
abbrev mib : Nat := 2 ^ 20

/-- REGION_BYTES of region r (R454). -/
def Dev.regionBytes (s : Dev) (r : Nat) : Nat :=
  match r with
  | 0 => 64 * mib | 1 => 64 * mib | 2 => 128 * mib | 3 => 512 * mib | 4 => 1152 * mib | 5 => 2176 * mib | 6 => 4096 * mib
  | 7 => s.obj Obj.SHELF_REGION_GIB * gib
  | 8 => s.obj Obj.EM_REGION_GIB * gib
  | 9 => s.obj Obj.VOLATILE_REGION_GIB * gib
  | 10 => s.obj Obj.EXTENT_SLOTS * 32
  | _ => s.obj Obj.MEM_USABLE_BYTES - 8 * gib - (s.obj Obj.SHELF_REGION_GIB + s.obj Obj.EM_REGION_GIB + s.obj Obj.VOLATILE_REGION_GIB) * gib -
      s.obj Obj.EXTENT_SLOTS * 32

/-- REGION_BASE of region r (R454). -/
def Dev.regionBase (s : Dev) (r : Nat) : Nat := gddrBase + ((List.range r).map s.regionBytes).foldl (· + ·) 0

/-- The region that holds an address of usable GDDR6. -/
def Dev.regionOf (s : Dev) (a : Nat) : Option Nat :=
  if gddrBase ≤ a ∧ a < gddrBase + s.obj Obj.MEM_USABLE_BYTES then
    (List.range 12).find? (fun r => decide (s.regionBase r ≤ a ∧ a < s.regionBase r + s.regionBytes r))
  else none

/-- The channel of a GDDR6 address (R448). -/
def channelOf (p : Part) (a : Nat) : Nat :=
  let g := (a - gddrBase) / 256
  let n := 4 * p.memCtrls
  (g % n) ^^^ (g / 64 % n)

/-- A usable capacity by part and density code (R446). -/
def usableBytes (p : Part) (density : Nat) : Nat :=
  match density with | 1 => p.pick 60 30 * gib | 2 => p.pick 120 60 * gib | _ => 0

/-- SHELF_ADDR of shelf f (R179). -/
def Dev.shelfAddr (s : Dev) (f : Nat) : Nat :=
  (if s.shelfOnChip f then 0x000300000000 else s.regionBase 7) + s.shelfOffset f

/-! ### Poison (R449, R456) -/

/-- The line of an address. -/
def lineOf (a : Nat) : Nat := a / 64 * 64

/-- Whether an address lies in a poisoned line. -/
def Dev.isPoisoned (s : Dev) (a : Nat) : Bool := s.cores.poisoned.contains (lineOf a)

/-- Whether a line of the bytes [lo, hi) is poisoned. -/
def Dev.poisonedIn (s : Dev) (lo hi : Nat) : Bool := s.cores.poisoned.any (fun l => decide (lo < l + 64 ∧ l < hi))

/-- What a write of bytes [lo, hi) by another party than thread `h` clears: reservations on their granules (R382) and the poison of their
lines (R456). -/
def Dev.overwritten (s : Dev) (h : Option Nat) (lo hi : Nat) : Dev :=
  let hit (size base : Nat) : Bool := decide (lo < hi ∧ base < hi ∧ lo < base + size)
  let lose (e : Nat × Hart) : Nat × Hart :=
    match e.2.resv with
    | some g => if some e.1 ≠ h ∧ hit 8 g = true then (e.1, { e.2 with resv := none }) else e
    | none => e
  { s with cores := { s.cores with harts := s.cores.harts.map lose, poisoned := s.cores.poisoned.filter (fun l => !hit 64 l) } }

/-! ### Shelf levels -/

/-- Buffers of shelf f that are held or reserved. -/
def Dev.shelfUsed (s : Dev) (f : Nat) : Nat :=
  s.shelves.chains.foldl (fun a c => a + ((c.2.bufs ++ c.2.reserved).filter (fun h => shelfOf h == f)).length) 0

/-- Free buffers of shelf f: neither held nor reserved (R185). -/
def Dev.shelfFree (s : Dev) (f : Nat) : Nat := s.obj Obj.SHELF_BUFFERS f - s.shelfUsed f

/-- FLOOR of shelf f (R185). -/
def Dev.shelfFloor (s : Dev) (f : Nat) : Nat := ceilDiv (s.obj Obj.SHELF_BUFFERS f * s.obj Obj.RESERVE_BP f) 10000

/-- The HIGH_WM_BP that shelf f acts on: never below LOW_WM_BP (R189, R508). -/
def Dev.highBp (s : Dev) (f : Nat) : Nat := max (s.obj Obj.HIGH_WM_BP f) (s.obj Obj.LOW_WM_BP f)

/-- Whether shelf f is low now, given whether it was (R189): at or below the low level, and until the high level when that is above it. -/
def Dev.lowNow (s : Dev) (f : Nat) (was : Bool) : Bool :=
  let n := s.obj Obj.SHELF_BUFFERS f
  let free := s.shelfFree f
  let low := ceilDiv (n * s.obj Obj.LOW_WM_BP f) 10000
  let high := ceilDiv (n * s.highBp f) 10000
  decide (free ≤ low) || (was && decide (free < high))

/-- The state with the low signal of shelf f evaluated: LOW_STATE, and LOW_EVENTS on entry (R189). -/
def Dev.lowEvalOne (s : Dev) (f : Nat) : Dev :=
  let was := s.flag Obj.LOW_STATE f
  let now := s.lowNow f was
  let s1 := s.setObj Obj.LOW_STATE f (ofBool now)
  if now && !was then s1.bump Obj.LOW_EVENTS f else s1

/-- The low signal of every shelf evaluated (R189). -/
def Dev.lowShelves (s : Dev) : Dev := [0, 1, 2, 3, 4, 5].foldl Dev.lowEvalOne s

/-- The ingress usage held against a port-priority, in shelf buffer bytes: its own, or with 802.3x pause that of all the port's priorities (R102). -/
def Dev.usage (s : Dev) (k : Nat) : Nat :=
  if s.obj Obj.FLOW_CONTROL (k / 8) = 1 then (List.range 8).foldl (fun a q => a + Tab.getD s.shelves.usage (8 * (k / 8) + q) 0) 0
  else Tab.getD s.shelves.usage k 0

/-- The port-priorities of port p against which usage is held (R102): none, q = 0 for 802.3x pause, or those of PFC_PRIORITIES. -/
def Dev.pausePrios (s : Dev) (p : Nat) : List Nat :=
  match s.obj Obj.FLOW_CONTROL p with
  | 1 => [0]
  | 2 => (List.range 8).filter (bit (s.obj Obj.PFC_PRIORITIES p))
  | _ => []

/-- A port-priority's record. -/
def Dev.prio (s : Dev) (k : Nat) : Prio := Tab.getD s.eth.prios k {}

/-- The state with a port-priority's record replaced. -/
def Dev.setPrio (s : Dev) (k : Nat) (x : Prio) : Dev :=
  { s with eth := { s.eth with prios := Tab.put {} s.eth.prios k x } }

/-- Whether a cause for XOFF holds for port-priority k = 8p + q (R103). -/
def Dev.xoffCause (s : Dev) (k : Nat) : Bool :=
  decide (s.obj Obj.XOFF_THRESHOLD k ≤ s.usage k) || (s.flag Obj.WATERMARK_XOFF (k / 8) && s.flag Obj.LOW_STATE 0)

/-- Whether XON is due: usage at the XON_THRESHOLD that acts (R103, R508) or below, and no watermark cause. -/
def Dev.xonDue (s : Dev) (k : Nat) : Bool :=
  decide (s.usage k ≤ min (s.obj Obj.XON_THRESHOLD k) (s.obj Obj.XOFF_THRESHOLD k - 1024))
    && !(s.flag Obj.WATERMARK_XOFF (k / 8) && s.flag Obj.LOW_STATE 0)

/-- The ticks that n quanta of 512 bit times last at a rate in Gb/s, rounded up (R104). -/
def quantaTicks (n rate : Nat) : Nat := ceilDiv n (max 1 rate)

/-- The ticks after which XOFF is sent again: half the quanta (R103). -/
def Dev.resendTicks (s : Dev) (p : Nat) : Nat := ceilDiv (s.obj Obj.PAUSE_QUANTA p) (2 * max 1 (modeRate (s.obj Obj.PORT_MODE p)))

/-- A pause or PFC frame leaves port p, counted (R103, *Port counters*). -/
def Dev.sendPause (s : Dev) (k quanta : Nat) : Dev :=
  let p := k / 8
  let s1 := (s.emit (.pause p (if s.obj Obj.FLOW_CONTROL p = 2 then 2 ^ (k % 8) else 0) quanta)).bump Obj.PAUSE_SENT p
  if s.obj Obj.FLOW_CONTROL p = 2 then s1.bump Obj.PFC_SENT k else s1

/-- XOFF or XON for one port-priority, when due (R103): XOFF at each cause that arises, XON once after it. -/
def Dev.pauseOne (s : Dev) (k : Nat) : Dev :=
  let x := s.prio k
  if s.xoffCause k then
    if x.xoff.isSome && x.cause then s
    else (s.sendPause k (s.obj Obj.PAUSE_QUANTA (k / 8))).setPrio k { x with xoff := some (s.tick + s.resendTicks (k / 8)), cause := true }
  else if x.xoff.isSome && s.xonDue k then (s.sendPause k 0).setPrio k { x with xoff := none, cause := false }
  else if x.cause then s.setPrio k { x with cause := false }
  else s

/-- XOFF and XON on every port that is UP and may send them (R103). -/
def Dev.pauseEval (s : Dev) : Dev :=
  if s.sendsPause then
    ((List.range s.part.ports).filter (fun p => s.obj Obj.FLOW_CONTROL p != 0 && s.portUp p)).foldl
      (fun t p => (t.pausePrios p).foldl (fun u q => u.pauseOne (8 * p + q)) t) s
  else s

/-- The signals that follow a change of shelf use: every shelf's low signal (R189), then XOFF and XON (R103). -/
def Dev.lowEval (s : Dev) : Dev := s.lowShelves.pauseEval

/-- Whether shelf f asserts its low signal (R189). -/
def Dev.shelfLow (s : Dev) (f : Nat) : Bool := s.flag Obj.LOW_STATE f

/-! ### Owners (R183) -/

/-- The owner id of Ethernet port p. -/
def ownerPort (p : Nat) : Nat := 0x0100 + p
/-- The owner id of thread h. -/
def ownerThread (h : Nat) : Nat := 0x0800 + h
/-- The owner id of host function n. -/
def ownerFunction (n : Nat) : Nat := 0x2000 + n
/-- The owner id of the cipher slice of drawer d. -/
def ownerSlice (d : Nat) : Nat := 0x0080 + d
/-- The pigeonhole rack's owner id. -/
abbrev ownerRack : Nat := 0xFFF2
/-- The twin link's owner id. -/
abbrev ownerTwin : Nat := 0xFFF1
/-- The management complex's owner id. -/
abbrev ownerMgmt : Nat := 0xFFF0

/-- Whether an owner id is listed in *Owner ids* for the part (R183, R5). -/
def validOwner (p : Part) (o : Nat) : Bool :=
  decide (o < p.drawers) || decide (0x40 ≤ o ∧ o < 0x40 + p.drawers) || decide (0x80 ≤ o ∧ o < 0x80 + p.drawers)
    || decide (0x100 ≤ o ∧ o < 0x100 + p.ports) || decide (0x800 ≤ o ∧ o < 0x800 + p.threads)
    || decide (0x2000 ≤ o ∧ (o < 0x2000 + 8 * p.links ∨ (0x2040 ≤ o ∧ o < 0x2040 + p.vfs))) || decide (0xFFF0 ≤ o ∧ o ≤ 0xFFF2)

/-- The floor that binds an owner on shelf f (R184, R185). -/
def Dev.floorFor (s : Dev) (owner f : Nat) : Nat := if s.flag Obj.OWNER_CONTROL owner then 0 else s.shelfFloor f

/-! ### Chains -/

/-- The chain whose head is h. -/
def Dev.chain? (s : Dev) (h : Nat) : Option Chain := Tab.get? s.shelves.chains h

/-- The state with the chain whose head is h replaced. -/
def Dev.setChain (s : Dev) (h : Nat) (c : Chain) : Dev :=
  { s with shelves := { s.shelves with chains := Tab.ins s.shelves.chains h c } }

/-- The data of a chain. -/
def Dev.chainData (s : Dev) (h : Nat) : List Nat := ((s.chain? h).map Chain.data).getD []

/-- Whether a chain's data lies in a poisoned line of a GDDR6 shelf (R456). -/
def Dev.chainPoisoned (s : Dev) (h : Nat) : Bool :=
  match s.chain? h with
  | some c =>
    let size := shelfSize (shelfOf h)
    c.bufs.zipIdx.any (fun e =>
      let a := s.shelfAddr (shelfOf e.1) + e.1 % 2 ^ 29 * size
      !s.shelfOnChip (shelfOf e.1) && decide (e.2 * size < c.data.length) && s.poisonedIn a (a + min size (c.data.length - e.2 * size)))
  | none => false

/-- Buffers in GDDR6 are written by an engine (R382, R456). -/
def Dev.bufsWritten (s : Dev) (hs : List Nat) : Dev :=
  hs.foldl (fun t h =>
    let f := shelfOf h
    let a := s.shelfAddr f + h % 2 ^ 29 * shelfSize f
    if s.shelfOnChip f then t else t.overwritten none a (a + shelfSize f)) s

/-- The state with the data of a chain replaced by an engine (R140). -/
def Dev.setChainData (s : Dev) (h : Nat) (d : List Nat) : Dev :=
  match s.chain? h with
  | some c => (s.setChain h { c with data := d }).bufsWritten c.bufs
  | none => s

/-- The frame of a parcel: its chain's bytes, or for a readmitted copy the LENGTH of them that the copy has (R139, R200, R211). -/
def Dev.frameOf (s : Dev) (p : Parcel) : List Nat :=
  let d := s.chainData p.handle
  let v := if p.shared then d.take (p.length - 4) else d
  if p.ce then markCe v else v

/-- An engine replaces the frame of a parcel (R140, R336). What follows a shared copy's frame in the chain stays behind it. -/
def Dev.putFrame (s : Dev) (p : Parcel) (d : List Nat) : Parcel × Dev :=
  if p.shared then
    ({ p with length := d.length + 4, ce := false }, s.setChainData p.handle (d ++ (s.chainData p.handle).drop (p.length - 4)))
  else (p, s.setChainData p.handle d)

/-- A share is added to a chain on behalf of the rack (R190). -/
def Dev.addShare (s : Dev) (h : Nat) : Dev :=
  match s.chain? h with
  | some c => if c.shares < 65535 then s.setChain h { c with shares := c.shares + 1 } else s
  | none => s

/-- Whether some chain holds or reserves the buffer h. -/
def Dev.bufUsed (s : Dev) (h : Nat) : Bool :=
  s.shelves.chains.any (fun c => c.2.bufs.contains h || c.2.reserved.contains h)

/-- The first buffer of shelf f, from index i and wrapping at n, that is free and not among `taken`. -/
def Dev.pickFrom (s : Dev) (f n : Nat) (taken : List Nat) : Nat → Nat → Nat
  | 0, i => handleOf f i
  | fuel + 1, i =>
    let h := handleOf f i
    if s.bufUsed h || taken.contains h then s.pickFrom f n taken fuel ((i + 1) % n) else h

/-- k free buffers of shelf f; which ones is not specified (R182), so the search for each starts at a free value. -/
def Dev.pickBuffers (s : Dev) (f : Nat) : Nat → List Nat × Dev
  | 0 => ([], s)
  | k + 1 =>
    let (hs, s1) := s.pickBuffers f k
    let n := s.obj Obj.SHELF_BUFFERS f
    let (r, s2) := s1.fresh
    (hs ++ [s.pickFrom f n hs (s.shelfUsed f + k) (r % n)], s2)

/-- The result of a buffer operation (R193). -/
structure BufRes where
  status : Nat
  shelf : Nat := 0
  shares : Nat := 0
  handle : Nat
  deriving DecidableEq, Repr

/-- A chain of k buffers of shelf f for an owner, filled with data (R185). -/
def Dev.takeChain (s : Dev) (owner f k : Nat) (data : List Nat) : Nat × Dev :=
  let (hs, s1) := s.pickBuffers f k
  let head := hs.headD nullHandle
  (head, (((s1.setChain head { bufs := hs, owner := owner, allocTick := s.tick, data := data }).bufsWritten hs).bump Obj.ALLOCS f).lowEval)

/-- The smallest shelf whose buffers hold n bytes (R185). -/
def fitShelf (n : Nat) : Nat := ([0, 1, 2, 3, 4, 5].find? (fun f => decide (n ≤ shelfSize f))).getD 5

/-- A failed request counts on its shelf: FLOOR_DENIALS when free buffers existed, else ALLOC_FAILS (R185). -/
def Dev.allocFail (s : Dev) (f : Nat) (some_free : Bool) : Dev :=
  if some_free then s.bump Obj.FLOOR_DENIALS f else s.bump Obj.ALLOC_FAILS f

/-- The shelf that would serve an owner's request for n bytes (R185), if one can. -/
def Dev.servingShelf (s : Dev) (owner n : Nat) : Option Nat :=
  if 65536 < n then (if s.floorFor owner 5 + ceilDiv n 65536 ≤ s.shelfFree 5 then some 5 else none)
  else
    let f := fitShelf n
    ((List.range 6).filter (fun g => decide (f ≤ g ∧ g ≤ min (f + s.obj Obj.ESCALATE_MAX) 5))).find?
      (fun g => decide (s.floorFor owner g + 1 ≤ s.shelfFree g))

/-- Allocation of a chain of n bytes for an owner (R185). -/
def Dev.alloc (s : Dev) (owner n : Nat) : BufRes × Dev :=
  if n = 0 ∨ 16777216 < n then ({ status := 0x01, handle := nullHandle }, s)
  else if 65536 < n then
    let k := ceilDiv n 65536
    if s.floorFor owner 5 + k ≤ s.shelfFree 5 then
      let (h, s1) := s.takeChain owner 5 k []
      ({ status := 0, shelf := 5, handle := h }, s1)
    else ({ status := 0x41, shelf := 5, handle := nullHandle }, s.allocFail 5 (decide (k ≤ s.shelfFree 5)))
  else
    let f := fitShelf n
    let last := min (f + s.obj Obj.ESCALATE_MAX) 5
    let cands := (List.range 6).filter (fun g => decide (f ≤ g ∧ g ≤ last))
    match cands.find? (fun g => decide (s.floorFor owner g + 1 ≤ s.shelfFree g)) with
    | some g =>
      let s0 := if g = f then s else s.bump Obj.ESCALATIONS f
      let (h, s1) := s0.takeChain owner g 1 []
      ({ status := 0, shelf := g, handle := h }, s1)
    | none =>
      ({ status := 0x41, shelf := f, handle := nullHandle },
        s.allocFail f (cands.any (fun g => decide (1 ≤ s.shelfFree g))))

/-- The chain returns to free: its buffers, and the usage charged for it (R188). -/
def Dev.returnChain (s : Dev) (h : Nat) : Dev :=
  match s.chain? h with
  | none => s
  | some c =>
    let u := match c.usage with
      | some k => Tab.put 0 s.shelves.usage k (Tab.getD s.shelves.usage k 0 - c.charge)
      | none => s.shelves.usage
    ({ s with
        shelves := { s.shelves with chains := Tab.del s.shelves.chains h, usage := u }
        eth := { s.eth with ends := Tab.del s.eth.ends h, fixes := Tab.del s.eth.fixes h }
        postmark := { s.postmark with caps := Tab.del s.postmark.caps h } }).lowEval

/-- n bytes of a received frame have arrived in its chain (R187, R188): reserved buffers are linked as they fill, and 256 bytes are
charged for each 256 bytes held, or part. -/
def Dev.fillTo (s : Dev) (h n : Nat) : Dev :=
  match s.chain? h with
  | none => s
  | some c =>
    let k := ceilDiv n (shelfSize (shelfOf h)) - c.bufs.length
    let charge := 256 * ceilDiv n 256
    let u := match c.usage with
      | some x => Tab.put 0 s.shelves.usage x (Tab.getD s.shelves.usage x 0 + charge - c.charge)
      | none => s.shelves.usage
    let c' := { c with bufs := c.bufs ++ c.reserved.take k, reserved := c.reserved.drop k, charge := charge }
    ({ s with shelves := { s.shelves with chains := Tab.ins s.shelves.chains h c', usage := u } }).pauseEval

/-- The unused reservations of a chain return to free (R187). -/
def Dev.dropReserved (s : Dev) (h : Nat) : Dev :=
  match s.chain? h with
  | some c => if c.reserved = [] then s else (s.setChain h { c with reserved := [] }).lowEval
  | none => s

/-- One record of the buffer error log (R196). -/
def bufErrorRec (handle tick issuer lastOwner opcode status shares : Nat) : Nat :=
  (handle % 2 ^ 32) * 2 ^ 96 + (tick % 2 ^ 32) * 2 ^ 64 + (issuer % 2 ^ 16) * 2 ^ 48 + (lastOwner % 2 ^ 16) * 2 ^ 32
    + (opcode % 256) * 2 ^ 24 + (status % 256) * 2 ^ 16 + shares % 2 ^ 16

/-- A refused operation appends its record (R191). -/
def Dev.bufRefuse (s : Dev) (handle issuer lastOwner opcode status shares : Nat) : BufRes × Dev :=
  ({ status := status, shares := shares, handle := handle },
    s.log Obj.BUFFER_ERROR_ENTRY 256 (bufErrorRec handle s.tick issuer lastOwner opcode status shares))

/-- An operation that names no live chain's head (R182): a FREE or DETACH counts on the named buffer's shelf, unless the handle is
null, and the refusal is logged. -/
def Dev.bufNoHead (s : Dev) (handle issuer opcode : Nat) : BufRes × Dev :=
  let f := shelfOf handle
  let s1 :=
    if handle = nullHandle ∨ 6 ≤ f then s
    else if opcode = 0x02 then s.bump Obj.REJECTED_FREES f
    else if opcode = 0x04 then s.bump Obj.REJECTED_DETACHES f
    else s
  s1.bufRefuse handle issuer 0xFFFF opcode 0x01 0

/-- FREE by an owner (R191). -/
def Dev.bufFree (s : Dev) (o h : Nat) : BufRes × Dev :=
  match s.chain? h with
  | none => s.bufNoHead h o 0x02
  | some c =>
    if c.owner ≠ o then (s.bump Obj.REJECTED_FREES (shelfOf h)).bufRefuse h o c.owner 0x02 0x40 c.shares
    else if c.deferred then (s.bump Obj.REJECTED_FREES (shelfOf h)).bufRefuse h o c.owner 0x02 0x01 c.shares
    else if c.shares = 0 then ({ status := 0, handle := h }, s.returnChain h)
    else ({ status := 0, shares := c.shares, handle := h }, s.setChain h { c with deferred := true })

/-- SHARE n by an owner (R191). Above 65,535 shares it is refused with 0x41, which the buffer error log does not hold (R196; log entry 38: DEDUCED, unsafe). -/
def Dev.bufShare (s : Dev) (o h n : Nat) : BufRes × Dev :=
  match s.chain? h with
  | none => s.bufNoHead h o 0x03
  | some c =>
    if c.owner ≠ o then s.bufRefuse h o c.owner 0x03 0x40 c.shares
    else if c.deferred then s.bufRefuse h o c.owner 0x03 0x01 c.shares
    else if n = 0 then s.bufRefuse h o c.owner 0x03 0x01 c.shares
    else if 65535 < c.shares + n then ({ status := 0x41, shares := c.shares, handle := h }, s)
    else ({ status := 0, shares := c.shares + n, handle := h }, s.setChain h { c with shares := c.shares + n })

/-- DETACH by an owner (R191). -/
def Dev.bufDetach (s : Dev) (o h : Nat) : BufRes × Dev :=
  match s.chain? h with
  | none => s.bufNoHead h o 0x04
  | some c =>
    if c.owner = o ∨ c.shares = 0 then
      (s.bump Obj.REJECTED_DETACHES (shelfOf h)).bufRefuse h o c.owner 0x04 0x01 c.shares
    else if c.shares = 1 ∧ c.deferred = true then
      ({ status := 0, handle := h }, (s.returnChain h).bump Obj.DEFERRED_FREES (shelfOf h))
    else ({ status := 0, shares := c.shares - 1, handle := h }, s.setChain h { c with shares := c.shares - 1 })

/-- HANDOVER to a named owner (R191). -/
def Dev.bufHandover (s : Dev) (o h w : Nat) : BufRes × Dev :=
  match s.chain? h with
  | none => s.bufNoHead h o 0x05
  | some c =>
    if c.owner ≠ o then s.bufRefuse h o c.owner 0x05 0x40 c.shares
    else if c.deferred || !validOwner s.part w then s.bufRefuse h o c.owner 0x05 0x01 c.shares
    else ({ status := 0, shares := c.shares, handle := h }, s.setChain h { c with owner := w })

/-- A copy that is not the chain's last owner detaches (R190). The device's own detach is made on behalf of that copy, whichever owner id it
shares with the chain's last owner (log entry 12: DEDUCED, unsafe). -/
def Dev.detachCopy (s : Dev) (holder h : Nat) : Dev :=
  match s.chain? h with
  | none => s
  | some c => (s.bufDetach (if c.owner = holder then (if c.owner = ownerRack then ownerMgmt else ownerRack) else holder) h).2

/-- One share is given up by a copy's holder after transmission or drop (R190): a free or a detach. -/
def Dev.releaseCopy (s : Dev) (f : QFrame) : Dev :=
  if f.chain = nullHandle then s
  else if f.first then (s.bufFree f.holder f.chain).2
  else s.detachCopy f.holder f.chain

/-- Every chain whose last owner satisfies a test is treated as freed by that owner (R194). -/
def Dev.freeOwned (s : Dev) (test : Nat → Bool) : Dev :=
  (s.shelves.chains.filter (fun c => test c.2.owner && !c.2.deferred)).foldl (fun t c => (t.bufFree c.2.owner c.1).2) s

/-- OWNER_HELD: the chains of which an owner is last owner (R194). -/
def Dev.ownerHeld (s : Dev) (o : Nat) : Nat := (s.shelves.chains.filter (fun c => c.2.owner == o)).length

/-- The result record of an operation (R193). -/
def BufRes.word (r : BufRes) : Nat :=
  (r.handle % 2 ^ 32) * 2 ^ 96 + (r.status % 256) * 2 ^ 88 + (r.shelf % 256) * 2 ^ 80 + (r.shares % 2 ^ 16) * 2 ^ 64 + 1

/-- The parts of a result that R193 does not state are free values: the HANDLE of a refused ALLOC, and SHELF of anything but an ALLOC that
was served. -/
def Dev.bufOpen (x : BufRes × Dev) (alloc : Bool) : BufRes × Dev :=
  if alloc && x.1.status == 0 then x
  else
    let (v, s) := x.2.fresh
    ({ x.1 with shelf := v % 256, handle := if alloc then v / 256 else x.1.handle }, s)

/-- An issuer's operation writes its result at the issuer's port, and DONE (R193, R389). -/
def Dev.bufDone (x0 : BufRes × Dev) (issuer : Nat) (alloc : Bool := false) : Dev :=
  let x := Dev.bufOpen x0 alloc
  let s := { x.2 with shelves := { x.2.shelves with results := Tab.ins x.2.shelves.results issuer x.1.word } }
  if 0x0800 ≤ issuer ∧ issuer < 0x1000 then s.portDone (issuer - 0x0800) else s

/-! ### Commands -/

/-- ALLOC (R185). An issuer whose id is not listed makes no request (R183). -/
def execAlloc (owner length : Nat) (s : State) : Res :=
  onMainIf s (validOwner s.part owner) (fun s => Dev.bufDone (s.alloc owner length) owner true)

/-- FREE (R191). -/
def execFreeChain (owner handle : Nat) (s : State) : Res :=
  onMainIf s (validOwner s.part owner) (fun s => Dev.bufDone (s.bufFree owner handle) owner)

/-- SHARE (R191). -/
def execShareChain (owner handle n : Nat) (s : State) : Res :=
  onMainIf s (validOwner s.part owner) (fun s => Dev.bufDone (s.bufShare owner handle n) owner)

/-- DETACH (R191). -/
def execDetach (owner handle : Nat) (s : State) : Res :=
  onMainIf s (validOwner s.part owner) (fun s => Dev.bufDone (s.bufDetach owner handle) owner)

/-- HANDOVER (R191). -/
def execHandover (owner handle newOwner : Nat) (s : State) : Res :=
  onMainIf s (validOwner s.part owner) (fun s => Dev.bufDone (s.bufHandover owner handle newOwner) owner)

end Sys2Proof.Machine
end

