-- ==== Sys2Proof/Machine/Time.lean ====
section
/-! DEFINITION. Time bases (chapter 15, R355 to R373): their advance, stamps, and the corrections of a frame in flight. -/
namespace Sys2Proof.Machine

/-- 2^48: the units of a time base's value in one nanosecond (R357). -/
abbrev nsUnit : Nat := 2 ^ 48

/-- A time base. -/
def Dev.tb (s : Dev) (e : Nat) : TimeBase := Tab.getD s.postmark.bases e {}

/-- The state with a time base replaced. -/
def Dev.setTb (s : Dev) (e : Nat) (b : TimeBase) : Dev :=
  { s with postmark := { s.postmark with bases := Tab.put {} s.postmark.bases e b } }

/-- FREQ in ppb. -/
def TimeBase.ppb (b : TimeBase) : Rat := (b.freq : Rat) / 65536

/-- The slew a tick takes up, in ns: 512 × SLEW_LIMIT × 10^-9 toward the remaining slew, the last tick only what is left (R362). -/
def slewStep (left : Rat) (limit : Nat) : Rat :=
  let m : Rat := (limit : Rat) * 512 / 1000000000
  if left < 0 then (if left < -m then -m else left) else (if m < left then m else left)

/-- The factor by which a time base advances in the present tick (R357). -/
def TimeBase.factor (b : TimeBase) (limit : Nat) : Rat := 1 + b.ppb / 1000000000 + slewStep b.slew limit / 512

/-- One tick's advance of a time base (R357). What it was in the last 1,024 ticks is kept for captures that are valued later (log entry 179: DESIGN CHOICE, unsafe). -/
def TimeBase.tick (b : TimeBase) (limit : Nat) : TimeBase :=
  let st := slewStep b.slew limit
  let adv : Rat := 512 * (1 + b.ppb / 1000000000) + st
  { b with val := b.val + (adv * (nsUnit : Rat)).floor, slew := b.slew - st, past := ((b.val, b.factor limit) :: b.past).take 1024 }

/-- Every time base advances by one tick (R357). -/
def Dev.tbTick (s : Dev) : Dev :=
  [0, 1, 2, 3, 4, 5, 6, 7].foldl (fun t e => t.setTb e ((t.tb e).tick (t.obj Obj.SLEW_LIMIT e))) s

/-- A TIME96 of a value in 2^-48 ns, its fraction truncated (R62, R357). -/
def time96 (v : Int) : Nat :=
  let u := v.toNat
  let ns := u / nsUnit
  (ns / 1000000000 % 2 ^ 48) * 2 ^ 48 + ns % 1000000000 * 2 ^ 16 + u % nsUnit / 2 ^ 32

/-- The value in 2^-48 ns that a TIME96 spells. -/
def ofTime96 (w : Nat) : Int := ((bits w 95 48 * 1000000000 + bits w 47 16) * nsUnit + bits w 15 0 * 2 ^ 32 : Nat)

/-- Whether a TIME96 is legal (R62). -/
def time96Ok (w : Nat) : Bool := decide (bits w 47 16 < 1000000000)

/-- Time base e at a capture count C, in ns (R357): from its value at the edge of the capture's own tick, at the rate of that tick's advance
(R362). A capture from before what is kept is valued from the oldest tick kept (log entry 179: DESIGN CHOICE, unsafe). -/
def Dev.tbAt (s : Dev) (e C : Nat) : Rat :=
  let b := s.tb e
  let now : Nat × Int × Rat := (s.tick, b.val, b.factor (s.obj Obj.SLEW_LIMIT e))
  let t : Nat × Int × Rat :=
    if s.tick ≤ C / 4096 then now
    else match b.past[s.tick - 1 - C / 4096]? with
      | some x => (C / 4096, x)
      | none => match b.past.getLast? with
        | some x => (s.tick - b.past.length, x)
        | none => now
  (t.2.1 : Rat) / nsUnit + ((C : Rat) - 4096 * t.1) / 8 * t.2.2

/-- The receive and transmit fixed delays of a port's mode, in ns (R93, R367). -/
def fixedDelay (mode fec : Nat) : Nat × Nat :=
  match mode with
  | 1 => (68, 30) | 2 => (76, 32) | 3 => (84, 34) | 4 => (92, 36) | 5 => (98, 38) | 6 => (122, 44) | 7 => (128, 46)
  | 8 => (170, 58) | 9 => (184, 62) | 10 => (320, 96)
  | 11 => if fec = 1 then (40, 24) else (250, 80)
  | _ => (0, 0)

/-- The FEC mode a port acts on: 1 only with PORT_MODE 11 (R94, R508). -/
def Dev.fecActs (s : Dev) (p : Nat) : Nat := if s.obj Obj.PORT_MODE p = 11 then s.obj Obj.FEC_MODE p else 0

/-- The fixed delays of port p. -/
def Dev.portDelay (s : Dev) (p : Nat) : Nat × Nat := fixedDelay (s.obj Obj.PORT_MODE p) (s.fecActs p)

/-- The receive stamp on time base e of a capture on port p, in ns (R367). -/
def Dev.rxStamp (s : Dev) (p e C : Nat) : Rat :=
  s.tbAt e C - (s.portDelay p).1 - (s.objI32 Obj.INGRESS_LATENCY (8 * p + e) : Rat) / 1000

/-- The transmit stamp on time base e of a capture on port p, in ns (R367). -/
def Dev.txStamp (s : Dev) (p e C : Nat) : Rat :=
  s.tbAt e C + (s.portDelay p).2 + (s.objI32 Obj.EGRESS_LATENCY (8 * p + e) : Rat) / 1000

/-- A time in ns as the unit keeps it: 48 fraction bits, truncated (R357). -/
def nsFloor (x : Rat) : Int := (x * (nsUnit : Rat)).floor

/-- The capture of a frame received on port p (R366). -/
def Dev.captureOf (s : Dev) (p C : Nat) : Capture :=
  { raw := C, port := p, stamps := [0, 1, 2, 3, 4, 5, 6, 7].map (fun e => nsFloor (s.rxStamp p e C)) }

/-! ### PTP in a frame (R371 to R373) -/

/-- Where a PTP message starts in a frame, and where its UDP header starts, if it has one (R372). -/
def ptpAt (f : List Nat) : Option (Nat × Option (Nat × Bool)) :=
  match extractEth f 0 with
  | none => none
  | some e =>
    if e.etype = 0x88F7 then some (14 + 4 * e.tcis.length, none)
    else match e.ip with
      | some i => match i.l4 with
        | some o => if i.proto = 17 ∧ be16 f (o + 2) = 319 then some (o + 8, some (o, i.v6)) else none
        | none => none
      | none => none

/-- One 16-bit word added in ones' complement. -/
def onesAdd (a b : Nat) : Nat := let s := a + b; s % 65536 + s / 65536

/-- A UDP checksum after bytes of even length at an even place changed from `old` to `new` (RFC 1624; R373). -/
def udpFix (f : List Nat) (udp : Nat) (v6 : Bool) (old new : List Nat) : List Nat :=
  let c := be16 f (udp + 6)
  if c = 0 ∧ v6 = false then f
  else
    let so := onesAdd (sum16 old % 65536) (sum16 old / 65536)
    let sn := onesAdd (sum16 new % 65536) (sum16 new / 65536)
    let r := onesAdd (onesAdd (0xFFFF - c) (0xFFFF - so)) sn
    let h := 0xFFFF - r
    putAt f (udp + 6) (beBytes 2 (if v6 && h == 0 then 0xFFFF else h))

/-- Fields replaced in a frame, each at its offset, and its UDP checksum updated once for them all (R371, R373). -/
def ptpPut (f : List Nat) (udp : Option (Nat × Bool)) (new : List (Nat × List Nat)) : List Nat :=
  let g := new.foldl (fun t e => putAt t e.1 e.2) f
  match udp with
  | none => g
  | some (u, v6) => udpFix g u v6 (new.flatMap (fun e => slice f e.1 e.2.length)) (new.flatMap Prod.snd)

/-- The nearest integer to a rational, halves upward. -/
def roundRat (x : Rat) : Int := (x + 1 / 2).floor

/-- A correctionField (R373): a sum beyond the signed 64-bit range is written as its largest value. -/
def corrField (v : Int) : Nat := if 2 ^ 63 ≤ v ∨ v < -(2 ^ 63) then 2 ^ 63 - 1 else ofSigned 64 v

/-- One-step Sync (R371): originTimestamp takes the transmit stamp's seconds and whole nanoseconds, correctionField its fraction. -/
def oneStep (f : List Nat) (stamp : Rat) : List Nat :=
  match ptpAt f with
  | none => f
  | some (o, udp) =>
    if nth f o % 16 = 0 ∧ nth f (o + 6) / 2 % 2 = 0 then
      let w := time96 (nsFloor stamp)
      let frac := bits w 15 0
      let corr := toSigned 64 (ofBE (slice f (o + 8) 8)) + frac
      ptpPut f udp [(o + 8, beBytes 8 (corrField corr)), (o + 34, beBytes 6 (bits w 95 48) ++ beBytes 4 (bits w 47 16))]
    else f

/-- Whether a frame carries a PTP event message that the transparent clock corrects (R372): its offsets, type and domain. -/
def tcMessage (f : List Nat) : Option (Nat × Option (Nat × Bool) × Nat × Nat) :=
  match ptpAt f with
  | none => none
  | some (o, udp) =>
    if nth f o / 16 = 0 ∧ nth f o % 16 ≤ 3 ∧ nth f (o + 1) % 16 = 2 then some (o, udp, nth f o % 16, nth f (o + 4)) else none

/-- The transparent-clock correction of a frame received with capture c and transmitted on port p at capture count C (R372, R373). -/
def Dev.transparent (s : Dev) (c : Capture) (p C : Nat) (f : List Nat) : List Nat :=
  match tcMessage f with
  | none => f
  | some (o, udp, ty, dom) =>
    if s.flag Obj.TC_ENABLE c.port && s.flag Obj.TC_ENABLE p then
      let e := s.obj Obj.DOMAIN_TB dom
      let asym (q e : Nat) : Rat := (s.objI32 Obj.ASYMMETRY (8 * q + e) : Rat) / 1000
      let res : Rat :=
        if 8 ≤ e then ((C : Rat) - c.raw) / 8 + (s.portDelay p).2 + (s.portDelay c.port).1
        else
          let r := s.txStamp p e C - ((c.stamps.getD e 0 : Int) : Rat) / nsUnit
          if ty = 0 ∨ ty = 3 then r + asym c.port e else r - asym p e
      let v := toSigned 64 (ofBE (slice f (o + 8) 8)) + roundRat (res * 65536)
      ptpPut f udp [(o + 8, beBytes 8 (corrField v))]
    else f

end Sys2Proof.Machine
end

