-- ==== Sys2Proof/Machine/HostOps.lean ====
section
/-! DEFINITION. Operations of the hosts' side (chapters 10 to 12) that other units use: functions, requests and tags, MSI-X, host
writes, descriptor queues and their jobs. -/
namespace Sys2Proof.Machine

/-! ### Functions (R225, R226) -/

/-- Whether a function number lies in the part's numbering (R225). -/
def fnInPart (p : Part) (n : Nat) : Bool := decide (n < 8 * p.links) || decide (64 ≤ n ∧ n < 64 + p.vfs)

/-- Whether n is a PF. -/
def isPf (n : Nat) : Bool := decide (n < 64)

/-- VF_BASE of PF n: the sum of VF_BUDGET over the lower-numbered PFs (R226). -/
def Dev.vfBase (s : Dev) (n : Nat) : Nat := (List.range n).foldl (fun a m => a + s.obj Obj.VF_BUDGET m) 0

/-- The PF of function n: itself, or the PF whose range holds the VF (R226). -/
def Dev.parentPf (s : Dev) (n : Nat) : Nat :=
  if isPf n then n
  else
    let v := n - 64
    ((List.range 64).find? (fun m => decide (s.vfBase m ≤ v ∧ v < s.vfBase m + s.obj Obj.VF_BUDGET m))).getD 0xFF

/-- The VFs of PF n (R226). -/
def Dev.vfsOf (s : Dev) (n : Nat) : List Nat := (List.range (s.obj Obj.VF_BUDGET n)).map (fun i => 64 + s.vfBase n + i)

/-- The link of a function: the link of its PF (R225). -/
def Dev.linkOf (s : Dev) (n : Nat) : Nat := s.parentPf n / 8

/-- The functions of link k: its PFs and their VFs. -/
def Dev.fnsOfLink (s : Dev) (k : Nat) : List Nat :=
  (List.range 8).flatMap (fun f => (8 * k + f) :: s.vfsOf (8 * k + f))

/-- A function's record. -/
def Dev.fn (s : Dev) (n : Nat) : Func := Tab.getD s.hosts.funcs n {}

/-- The state with a function's record replaced. -/
def Dev.setFn (s : Dev) (n : Nat) (f : Func) : Dev :=
  { s with hosts := { s.hosts with funcs := Tab.put {} s.hosts.funcs n f } }

/-- FUNC_STATE (R247): 0 ABSENT, 1 DISABLED, 2 ENABLED, 3 STOPPED, 4 QUIESCED, 5 ABORTING, 6 RESETTING, 7 SNAPSHOT, 8 RESTORED. -/
def Dev.fstate (s : Dev) (n : Nat) : Nat := s.obj Obj.FUNC_STATE n

/-- The state with a function in a new state; its Card Index is rewritten at the next edge (R236). -/
def Dev.setFstate (s : Dev) (n v : Nat) : Dev := (s.setObj Obj.FUNC_STATE n v).setFn n { s.fn n with ciDirty := true }

/-- Whether a function is present (R225). -/
def Dev.present (s : Dev) (n : Nat) : Bool := fnInPart s.part n && s.fstate n != 0

/-- A link's record. -/
def Dev.link (s : Dev) (k : Nat) : HLink := Tab.getD s.hosts.links k {}

/-- The state with a link's record replaced. -/
def Dev.setLink (s : Dev) (k : Nat) (l : HLink) : Dev :=
  { s with hosts := { s.hosts with links := Tab.put {} s.hosts.links k l } }

/-! ### Interrupts and writes to a host (R231, R233, R238, R248, R296) -/

/-- Whether a VF's writes wait for its PF, which could not mark them now (R296). -/
def Dev.markHolds (s : Dev) (n : Nat) : Bool := !isPf n && s.flag Obj.DIRTY_ENABLE n && !(s.fn (s.parentPf n)).bme

/-- An MSI-X vector of a function is sent, or held pending while it is masked, disabled, the function may not write (R248), the writes
before it wait for the PF (R238, R296), or the VF is RESTORED (R294). -/
def Dev.msix (s : Dev) (n v : Nat) : Dev :=
  let f := s.fn n
  let masked := bit (Tab.getD f.msix v (2 ^ 96)) 96
  if f.bme && f.msixEn && !f.msixMask && !masked && f.dstate == 0 && s.fstate n != 8 && s.fstate n != 6 && !s.markHolds n then s.emit (.msix n v)
  else s.setFn n { f with msixPend := if f.msixPend.contains v then f.msixPend else f.msixPend ++ [v] }

/-- A cause of INTR_STATUS is raised; enabled causes signal vector 0 (R233). -/
def Dev.intr (s : Dev) (n i : Nat) : Dev :=
  let f := s.fn n
  let s1 := s.setFn n { f with intrStatus := setBit f.intrStatus i }
  if bit f.intrEnable i then s1.msix n 0 else s1

/-- The pages [a / 4096, …] a write of len bytes touches. -/
def pagesOf (a len : Nat) : List Nat := if len = 0 then [] else (List.range ((a + len - 1) / 4096 + 1 - a / 4096)).map (· + a / 4096)

/-- A write of a VF marks the pages of its dirty log (R296). -/
def Dev.markDirty (s : Dev) (n a len : Nat) : Dev :=
  if !isPf n && s.flag Obj.DIRTY_ENABLE n then
    let base := s.obj Obj.DIRTY_BASE n / 4096
    (pagesOf a len).foldl (fun t pg =>
      if base ≤ pg ∧ pg < base + t.obj Obj.DIRTY_PAGES n then
        let f := t.fn n
        if f.dirty.contains (pg - base, t.tick) then t else t.setFn n { f with dirty := f.dirty ++ [(pg - base, t.tick)] }
      else t.bump Obj.DIRTY_OUTSIDE n) s
  else s

/-- Whether a function's writes reach its host in the end: Bus Master Enable is set and it is not being reset or gone (R245, R246). -/
def Dev.takesWrites (s : Dev) (n : Nat) : Bool := (s.fn n).bme && s.fstate n != 0 && s.fstate n != 6

/-- Whether a function may write host memory now: not in D3hot, and not while its writes wait for its PF (R248, R296). -/
def Dev.mayWrite (s : Dev) (n : Nat) : Bool := s.takesWrites n && (s.fn n).dstate == 0 && !s.markHolds n

/-- The byte ranges of a write, split at Max_Payload_Size and at 4 KiB boundaries (R237): at most k of them. -/
def splitWrite (mps : Nat) : Nat → Nat → List Nat → List (Nat × List Nat)
  | 0, _, _ => []
  | k + 1, a, bs =>
    if bs.isEmpty then []
    else
      let n := min (max 128 mps) (4096 - a % 4096)
      (a, bs.take n) :: splitWrite mps k (a + n) (bs.drop n)

/-- The translation of the page of address a is in function n's link (R239): asked for where it is not, with ATS enabled. The link holds
16,384, and gives up the oldest for another (log entry 145: DESIGN CHOICE, unsafe). -/
def Dev.translate (s : Dev) (n a : Nat) : Dev :=
  let k := s.linkOf n
  let l := s.link k
  if !bit (s.fn n).ats 15 || l.atc.contains (n, a / 4096) then s
  else (s.setLink k { l with atc := (if l.atc.length < 16384 then l.atc else l.atc.drop 1) ++ [(n, a / 4096)] }).emit (.linkMsg k n (.translation (a / 4096)))

/-- Translations of a function's pages are given up (R239). -/
def Dev.dropTranslations (s : Dev) (n : Nat) (gone : Nat → Bool) : Dev :=
  let l := s.link (s.linkOf n)
  s.setLink (s.linkOf n) { l with atc := l.atc.filter (fun e => !(e.1 == n && gone e.2)) }

/-- The pending vectors of a function that may be sent now are sent (R231, R248). -/
def Dev.flushMsix (s : Dev) (n : Nat) : Dev :=
  let f := s.fn n
  f.msixPend.foldl (fun t v => t.msix n v) (s.setFn n { f with msixPend := [] })

/-- A memory write of a function goes to its host, with Relaxed Ordering where it carries payload marked so and the function's Device
Control allows it (R237, R238, R296). -/
def Dev.sendWrite (s : Dev) (n a : Nat) (data : List Nat) (ro : Bool) : Dev :=
  ((splitWrite (s.fn n).mps (data.length + 1) a data).foldl (fun t w => (t.translate n w.1).emit (.hostWrite n w.1 w.2 (ro && (s.fn n).ro))) s).markDirty n a data.length

/-- A memory write of a function: sent, kept in D3hot until D0 and for a marked page until the PF has Bus Master Enable (R248, R296;
log entry 143: DEDUCED, unsafe), or discarded and counted without Bus Master Enable (R245). -/
def Dev.hostWrite (s : Dev) (n a : Nat) (data : List Nat) (ro : Bool) : Dev :=
  if s.mayWrite n then s.sendWrite n a data ro
  else if s.takesWrites n then let f := s.fn n; s.setFn n { f with writes := f.writes ++ [(a, data, ro)] }
  else s.bump Obj.BME_DISCARDS n

/-- Writes kept are sent, if they may be now (R248, R296). -/
def Dev.flushWrites (s : Dev) (n : Nat) : Dev :=
  let f := s.fn n
  if !s.mayWrite n then s
  else f.writes.foldl (fun t w => t.sendWrite n w.1 w.2.1 w.2.2) (s.setFn n { f with writes := [] })

/-- Writes kept in D3hot are discarded and counted (R245). -/
def Dev.discardWrites (s : Dev) (n : Nat) : Dev :=
  let f := s.fn n
  f.writes.foldl (fun t _ => t.bump Obj.BME_DISCARDS n) (s.setFn n { f with writes := [] })

/-! ### Requests and tags (R240 to R244) -/

/-- T of a function's requests: by its PF's Device Control 2 (R241). -/
def Dev.ctoTicks (s : Dev) (n : Nat) : Nat :=
  match (s.fn (s.parentPf n)).cto with
  | 0x6 => 250000 | 0x9 => 1000000 | 0xA => 3906250 | _ => 62500

/-- Whether link k runs in FLIT mode: at 64 GT/s or above (R222). -/
def Dev.flit (s : Dev) (k : Nat) : Bool := decide (6 ≤ bits (s.obj Obj.LINK_STATUS k) 15 13)

/-- Tags a link may have in use: by the tag enables of its PF 0 (R240). -/
def Dev.tagLimit (s : Dev) (k : Nat) : Nat :=
  let m := (s.fn (8 * k)).tagMode
  if bit m 1 && s.flit k then 8192 else if bit m 0 then 768 else 256

/-- The first tag at or after t, wrapping at n, that is not in use. -/
def freeTag (tags : Tab Tag) (n : Nat) : Nat → Nat → Nat
  | 0, t => t
  | fuel + 1, t => if (Tab.get? tags t).isSome then freeTag tags n fuel ((t + 1) % n) else t

/-- A request is issued with a free tag, to the translation of its address; which tag is not specified, so the search starts at a free value
(R239, R240). -/
def Dev.issueTag (s0 : Dev) (k : Nat) (r : Req) : Dev :=
  let s := s0.translate r.fn r.addr
  let l := s.link k
  let (u, s1) := s.fresh
  let n := s.tagLimit k
  let t := freeTag l.tags n l.tags.length (u % n)
  (s1.setLink k { l with tags := Tab.ins l.tags t { req := r, issued := s.tick } }).emit (.hostRead k r.fn t r.addr r.bytes)

/-- Whether a function issues requests: not in D3hot (R248). -/
def Dev.asks (s : Dev) (n : Nat) : Bool := (s.fn n).dstate == 0

/-- Whether a request of function n finds a free tag: one is free, and no request that may go waits before it (R240). -/
def Dev.tagFree (s : Dev) (n : Nat) : Bool :=
  let k := s.linkOf n
  decide ((s.link k).tags.length < s.tagLimit k) && (s.link k).waits.all (fun r => !s.asks r.fn)

/-- A request is issued, or waits for a tag and is counted in TAG_WAITS (R240); in D3hot it waits for D0 (R248; log entry 143: DEDUCED, unsafe). -/
def Dev.issueReq (s : Dev) (r : Req) : Dev :=
  let k := s.linkOf r.fn
  let l := s.link k
  if !s.asks r.fn then s.setLink k { l with waits := l.waits ++ [r] }
  else if s.tagFree r.fn then s.issueTag k r
  else (s.setLink k { l with waits := l.waits ++ [r] }).bump Obj.TAG_WAITS k

/-- Requests that wait for a tag of link k are issued while tags are free, oldest first, but those of functions in D3hot: at most that
many (R240, R248). -/
def Dev.drainTags (s : Dev) (k : Nat) : Nat → Dev
  | 0 => s
  | m + 1 =>
    let l := s.link k
    match l.waits.findIdx? (fun r => s.asks r.fn) with
    | none => s
    | some i =>
      match l.waits[i]? with
      | none => s
      | some r =>
        if l.tags.length < s.tagLimit k then ((s.setLink k { l with waits := l.waits.eraseIdx i }).issueTag k r).drainTags k m else s

/-- Every waiting request that can go now is issued (R240). -/
def Dev.drainAll (s : Dev) (k : Nat) : Dev := s.drainTags k (s.link k).waits.length

/-- A tag returns to the pool, and the oldest waiting request takes a tag (R240, R244). -/
def Dev.returnTag (s : Dev) (k t : Nat) : Dev :=
  let l := s.link k
  (s.setLink k { l with tags := Tab.del l.tags t }).drainAll k

/-- The requests of a read of len bytes from an address, split at Max_Read_Request_Size and at 4 KiB boundaries (R237), as addresses and
lengths: at most k of them. -/
def splitRead (mrrs : Nat) : Nat → Nat → Nat → List (Nat × Nat)
  | 0, _, _ => []
  | k + 1, a, len =>
    if len = 0 then []
    else
      let n := min len (min (max 128 mrrs) (4096 - a % 4096))
      (a, n) :: splitRead mrrs k (a + n) (len - n)

/-- Host segments from an offset on. -/
def segsFrom : Nat → List (Nat × Nat) → List (Nat × Nat)
  | _, [] => []
  | o, g :: gs => if o < g.2 then (g.1 + o, g.2 - o) :: gs else segsFrom (o - g.2) gs

/-- The first n bytes of host segments. -/
def segsTake : Nat → List (Nat × Nat) → List (Nat × Nat)
  | _, [] => []
  | n, g :: gs => if n = 0 then [] else (g.1, min n g.2) :: segsTake (n - g.2) gs

/-- The requests that read n bytes from offset off of host segments (R237). -/
def Dev.requests (s : Dev) (fn off n : Nat) (segs : List (Nat × Nat)) (why : ReqFor) : List Req :=
  let parts := (segsTake n (segsFrom off segs)).flatMap (fun g => splitRead (s.fn fn).mrrs (g.2 / 128 + g.2 / 4096 + 2) g.1 g.2)
  (parts.foldl (fun acc p => (acc.1 ++ [({ fn := fn, addr := p.1, off := acc.2, bytes := p.2, why := why } : Req)], acc.2 + p.2)) ([], off)).1

/-- A read of n bytes from offset off of host segments for a purpose is issued as requests (R237, R240). -/
def Dev.readHost (s : Dev) (fn off n : Nat) (segs : List (Nat × Nat)) (why : ReqFor) : Dev :=
  (s.requests fn off n segs why).foldl (fun t r => t.issueReq r) s

/-- Drawer d's DMA mover. -/
def Dev.mover (s : Dev) (d : Nat) : Mover := Tab.getD s.hosts.movers d {}

/-- The state with a mover replaced. -/
def Dev.setMover (s : Dev) (d : Nat) (m : Mover) : Dev :=
  { s with hosts := { s.hosts with movers := Tab.put {} s.hosts.movers d m } }

/-- Bytes that drawer d's mover has moved in the present tick (R43). -/
def Dev.movedNow (s : Dev) (d : Nat) : Nat := if (s.mover d).tick = s.tick then (s.mover d).moved else 0

/-- Bytes moved in this tick by drawer d's mover are counted (R43). -/
def Dev.moved (s : Dev) (d n : Nat) : Dev := s.setMover d { s.mover d with tick := s.tick, moved := s.movedNow d + n }

/-- The frames at the head of the hosts' ports, whole, that drawer d's mover is to write (R43, R264). -/
def Dev.framesFor (s : Dev) (d : Nat) : List TxFrame :=
  ((s.sched.fifos.filter (fun e => decide (32 ≤ e.1 ∧ e.1 < 40))).filterMap (fun e => e.2.head?)).filter
    (fun x => x.f.p.exec == d && Tab.get? s.eth.ends x.f.chain != some .arriving)

/-- A function's reads that its movers have not issued are forgotten. -/
def Dev.dropXfers (s : Dev) (n : Nat) : Dev :=
  { s with hosts := { s.hosts with movers := s.hosts.movers.map (fun e => (e.1, { e.2 with waits := e.2.waits.filter (fun x => x.fn != n || x.toHost) })) } }

/-- Every outstanding request of a function is cancelled: its tag is quarantined (R243), and waiting ones are forgotten. -/
def Dev.cancelReads (s : Dev) (n : Nat) : Dev :=
  let k := s.linkOf n
  let l := s.link k
  s.setLink k { l with
    tags := l.tags.map (fun e => if e.2.req.fn == n && e.2.quar.isNone then (e.1, { e.2 with quar := some (s.tick, false) }) else e)
    waits := l.waits.filter (fun r => r.fn != n) }
    |>.dropXfers n

/-- One host-link error record (R252). -/
def Dev.linkErr (s : Dev) (n tag kind k : Nat) : Dev :=
  (s.log Obj.HOST_LINK_ERROR_ENTRY 256
    ((s.tick % 2 ^ 64) * 2 ^ 64 + (n % 65536) * 2 ^ 48 + (tag % 2 ^ 14) * 2 ^ 34 + kind * 2 ^ 24 + k * 2 ^ 16)).intr n 3

/-- Bits of AER Uncorrectable Error Status (PCI Express standard): poisoned TLP, completion timeout, completer abort, unexpected
completion, unsupported request, uncorrectable internal error. -/
abbrev aerPoisoned : Nat := 12
/-- Completion timeout. -/
abbrev aerTimeout : Nat := 14
/-- Completer abort. -/
abbrev aerAbort : Nat := 15
/-- Unexpected completion. -/
abbrev aerUnexpected : Nat := 16
/-- Unsupported request. -/
abbrev aerUnsupported : Nat := 20
/-- Uncorrectable internal error. -/
abbrev aerInternal : Nat := 22

/-- Whether an error comes with a TLP, whose header the Header Log takes (R501). -/
def aerByTlp (i : Nat) : Bool := [aerPoisoned, aerAbort, aerUnexpected, aerUnsupported].contains i

/-- The function with an error in its AER registers and Device Status (R501): of unmasked errors the first one is pointed to, with the header
of its TLP, the free value x (log entry 66: PRESUMED, unsafe). -/
def Func.raise (f : Func) (i : Nat) (masked fatal : Bool) (x : Nat) : Func :=
  let first := !masked && !bit f.aer.uncorrectable f.aer.first
  { f with
    aer := { f.aer with
      uncorrectable := setBit f.aer.uncorrectable i
      first := if first then i else f.aer.first
      header := if first && aerByTlp i then x % 2 ^ 128 else f.aer.header }
    devStatus := setBit f.devStatus (if fatal then 2 else 1) }

/-- An error is reported in a function's AER Uncorrectable Error Status, and signalled as fatal or non-fatal under its PF's mask, severity and
enables (R501; log entry 66: PRESUMED, unsafe). -/
def Dev.aer (s : Dev) (n i : Nat) : Dev :=
  let p := s.fn (s.parentPf n)
  let masked := bit p.aer.mask i
  let fatal := bit p.aer.severity i
  let (x, s1) := s.fresh
  let s2 := s1.setFn n ((s1.fn n).raise i masked fatal x)
  if !masked && (bit p.errEn (if fatal then 2 else 1) || p.serr) then s2.emit (.linkMsg (s.linkOf n) n (if fatal then .errFatal else .errNonFatal))
  else s2

/-! ### Reads of queue slots (R240 to R243) -/

/-- The outstanding tag of a read of a slot. -/
def Dev.slotTag? (s : Dev) (k : Nat) (why : ReqFor) : Option Nat :=
  ((s.link k).tags.find? (fun e => e.2.req.why == why && e.2.quar.isNone)).map Prod.fst

/-- The read of a slot of `bytes` bytes for function n is outstanding with a tag, which comes back; without a free tag it waits, counted
once (R240). The read's completion comes with the command that uses what was read (log entry 144: DESIGN CHOICE, unsafe). -/
def Dev.slotAsk (s : Dev) (n addr bytes : Nat) (why : ReqFor) : Option Nat × Dev :=
  let k := s.linkOf n
  match s.slotTag? k why with
  | some t => (some t, s)
  | none =>
    let r : Req := { fn := n, addr := addr, off := 0, bytes := bytes, why := why }
    if s.tagFree n then let s1 := s.issueTag k r; (s1.slotTag? k why, s1)
    else if (s.link k).waits.contains r then (none, s)
    else (none, s.issueReq r)

/-- The read of a slot, and then what is done with the tag it has. -/
def Dev.onSlot (s : Dev) (n addr bytes : Nat) (why : ReqFor) (f : Nat → Dev → Dev) : Dev :=
  match s.slotAsk n addr bytes why with
  | (some t, s1) => f t s1
  | (none, s1) => s1

/-- The outstanding tag of a request. -/
def Dev.reqTag? (s : Dev) (k : Nat) (r : Req) : Option Nat :=
  ((s.link k).tags.find? (fun e => e.2.req.why == r.why && e.2.req.off == r.off && e.2.quar.isNone)).map Prod.fst

/-- The reads of host segments (a fragment table, PRP lists, SGL segments) are outstanding, each request with a tag of its own; a request that
finds none waits, counted once (R240). Whether all are outstanding comes back; what they read comes with the command that uses it (log
entry 144: DESIGN CHOICE, unsafe). -/
def Dev.readsAsk (s : Dev) (n : Nat) (segs : List (Nat × Nat)) (why : ReqFor) : Bool × Dev :=
  let k := s.linkOf n
  let rs := s.requests n 0 (segs.foldl (fun a g => a + g.2) 0) segs why
  let s1 := rs.foldl (fun t r => if (t.reqTag? k r).isSome || (t.link k).waits.contains r then t else t.issueReq r) s
  (rs.all (fun r => (s1.reqTag? k r).isSome), s1)

/-- The outstanding tags of link k for a purpose. -/
def Dev.tagsFor (s : Dev) (k : Nat) (why : ReqFor) : List Nat :=
  ((s.link k).tags.filter (fun e => e.2.req.why == why && e.2.quar.isNone)).map Prod.fst

/-- What was read for a purpose is there: its tags return (R240). -/
def Dev.readsGot (s : Dev) (n : Nat) (why : ReqFor) : Dev := (s.tagsFor (s.linkOf n) why).foldl (fun t g => t.returnTag (s.linkOf n) g) s

/-- The reads of host segments, and then what is done with what they bring: nothing yet where it has not come. -/
def Dev.onReads (s : Dev) (n : Nat) (segs : List (Nat × Nat)) (why : ReqFor) (come : Bool) (f : Dev → Dev) : Dev :=
  match s.readsAsk n segs why with
  | (true, s1) => if come || segs.isEmpty then f (s1.readsGot n why) else s1
  | (false, s1) => s1

/-- The outstanding request that has timed out with a tag of link k (R242). -/
def Dev.timedOut? (s : Dev) (k tag : Nat) : Option Tag :=
  match Tab.get? (s.link k).tags tag with
  | some t => if t.quar.isNone && decide (t.issued + s.ctoTicks t.req.fn ≤ s.tick) then some t else none
  | none => none

/-- Whether the read of a slot with tag t can have failed so: a timeout is found only T after its issue (R242). -/
def Dev.canFail (s : Dev) (n t err : Nat) : Bool := err != 1 || (s.timedOut? (s.linkOf n) t).isSome

/-- The read of a slot has failed (R242, R243): AER, a record, and the count and quarantine of a timeout. `err` is 1 for a timeout, 4 for
poisoned data, 5 for UR and any other for CA. -/
def Dev.slotFail (s : Dev) (n t err : Nat) : Dev :=
  let k := s.linkOf n
  let l := s.link k
  if err = 1 then
    let quar (e : Nat × Tag) : Nat × Tag := if e.1 == t then (e.1, { e.2 with quar := some (s.tick, true), got := [] }) else e
    (((s.setLink k { l with tags := l.tags.map quar }).aer n aerTimeout).linkErr n t 1 k).bump Obj.COMPLETION_TIMEOUTS k
  else
    let e := if err = 4 then aerPoisoned else if err = 5 then aerUnsupported else aerAbort
    ((s.aer n e).linkErr n t (if err = 4 then 4 else 5) k).returnTag k t

/-! ### Descriptor queues (R253 to R268) -/

/-- The key of queue Q of function n. -/
def qkey (n q : Nat) : Nat := 16384 * n + q

/-- A queue's record. -/
def Dev.queue? (s : Dev) (qk : Nat) : Option Queue := Tab.get? s.hosts.queues qk

/-- The state with a queue's record replaced. -/
def Dev.setQueue (s : Dev) (qk : Nat) (q : Queue) : Dev :=
  { s with hosts := { s.hosts with queues := Tab.ins s.hosts.queues qk q } }

/-- The state with a queue changed by a function. -/
def Dev.updQueue (s : Dev) (qk : Nat) (f : Queue → Queue) : Dev :=
  match s.queue? qk with | some q => s.setQueue qk (f q) | none => s

/-- Whether compatibility level 7 is in force (R8, R275). -/
def Dev.level7 (s : Dev) : Bool := s.obj Obj.COMPAT_LEVEL == 7

/-- Slots of a queue. -/
def Queue.size (q : Queue) : Nat := 2 ^ q.log2

/-- The index arithmetic's modulus: 2^32 at level 9, the size at level 7 (R256, R276). -/
def Dev.qmod (s : Dev) (q : Queue) : Nat := if s.level7 then q.size else 2 ^ 32

/-- a − b in a queue's index arithmetic. -/
def Dev.qsub (s : Dev) (q : Queue) (a b : Nat) : Nat := (a % s.qmod q + s.qmod q - b % s.qmod q) % s.qmod q

/-- The queues of a function. -/
def Dev.queuesOf (s : Dev) (n : Nat) : List (Nat × Queue) := s.hosts.queues.filter (fun e => e.1 / 16384 == n)

/-- Bytes 16 to 31 of a queue's index block, written as one write at a state change (R255). -/
def stateBytes (q : Queue) : List Nat := [q.st, q.status, 0, 0, 0, 0, 0, 0] ++ leBytes 8 q.stTick

/-- A queue enters a state with a QSTATUS (R255, R268): the index block is written, but for STOPPED and where the function has no Bus Master
Enable; FROZEN, STOPPED and resets raise QUEUE_STATE. -/
def Dev.setQstate (s : Dev) (qk st status : Nat) (raise : Bool) : Dev :=
  match s.queue? qk with
  | none => s
  | some q =>
    let q1 := { q with st := st, status := status, stTick := s.tick }
    let n := qk / 16384
    let s1 := s.setQueue qk q1
    let s2 := if st = 3 ∨ (s.fn n).bme = false then s1 else s1.hostWrite n (q.idx + 16) (stateBytes q1) false
    if raise then s2.intr n 4 else s2

/-- Whether an index names a job: indices count modulo 2^32 (R256). -/
def Job.is (j : Job) (i : Nat) : Bool := j.index % 2 ^ 32 == i % 2 ^ 32

/-- The job of a queue with an index. -/
def Queue.job? (q : Queue) (i : Nat) : Option Job := q.jobs.find? (fun j => j.is i)

/-- A job of a queue changed by a function. -/
def Dev.updJob (s : Dev) (qk i : Nat) (f : Job → Job) : Dev :=
  s.updQueue qk (fun q => { q with jobs := q.jobs.map (fun j => if j.is i then f j else j) })

/-- KIND_DATA of a host submission: function, queue and descriptor index, and the life of the queue (R35; log entry 15: DESIGN CHOICE, unsafe). -/
def kindHost (n q i life : Nat) : Nat := life % 2 ^ 32 * 2 ^ 96 + n * 2 ^ 64 + q * 2 ^ 32 + i % 2 ^ 32

/-- The queue key and job index of a host submission's parcel. -/
def hostJob (p : Parcel) : Nat × Nat := (qkey (p.kindData / 2 ^ 64 % 2 ^ 32) (p.kindData / 2 ^ 32 % 2 ^ 32), p.kindData % 2 ^ 32)

/-- The queue key and job index of a host submission's parcel, if its queue still lives the life that sent it. -/
def Dev.jobOf? (s : Dev) (p : Parcel) : Option (Nat × Nat) :=
  let (qk, i) := hostJob p
  match s.queue? qk with
  | some q => if q.life % 2 ^ 32 = p.kindData / 2 ^ 96 then some (qk, i) else none
  | none => none

/-- A job whose parcels are all retired, and whose stamp is not awaited, has its outcome (R262). -/
def Job.settle (j : Job) : Job := if j.parcels == 0 && !j.tsWait && j.reading == 0 then { j with done := true } else j

/-- A parcel of a job has been retired at the rack; `drop` tells whether its frame was dropped, `st` a failing status (R262, R44). -/
def Dev.jobRetired (s : Dev) (p : Parcel) (drop : Bool) (st : Nat) : Dev :=
  match s.jobOf? p with
  | none => s
  | some (qk, i) => s.updJob qk i (fun j =>
    ({ j with parcels := j.parcels - 1, dropped := j.dropped || drop, tsWait := j.tsWait && !drop,
              status := if st = 0 then j.status else st } : Job).settle)

/-- A job's frame has been transmitted, with a transmit stamp (R262, R370). -/
def Dev.jobSent (s : Dev) (p : Parcel) (ts : Nat) : Dev :=
  match s.jobOf? p with
  | none => s
  | some (qk, i) => s.updJob qk i (fun j => if j.tsWait then ({ j with tsWait := false, ts := some ts } : Job).settle else j)

/-- A job's frame has left by a port that gives no transmit stamp: its completion waits no longer (R262; log entry 174: DESIGN CHOICE, unsafe). -/
def Dev.jobGone (s : Dev) (f : QFrame) : Dev :=
  if f.p.kind = 2 ∧ f.mirror = false then
    match s.jobOf? f.p with
    | none => s
    | some (qk, i) => s.updJob qk i (fun j => ({ j with tsWait := false } : Job).settle)
  else s

/-- A job's frame is dropped after its release to the scheduler (R262, R370). -/
def Dev.jobLost (s : Dev) (f : QFrame) : Dev :=
  if f.p.kind = 2 ∧ f.mirror = false then
    match s.jobOf? f.p with
    | none => s
    | some (qk, i) => s.updJob qk i (fun j => ({ j with dropped := true, tsWait := false } : Job).settle)
  else s

/-- Chains taken for a job and not yet given to parcels are freed by the function (R183). -/
def Dev.freeChains (s : Dev) (n : Nat) (hs : List Nat) : Dev := hs.foldl (fun t h => (t.bufFree (ownerFunction n) h).2) s

/-- A job ends with a status, and is counted in JOB_ERRORS (R268). -/
def Dev.jobFail (s : Dev) (qk i st : Nat) : Dev :=
  match (s.queue? qk).bind (fun q => (q.job? i).map (fun j => (q, j))) with
  | none => s
  | some (q, j) =>
    ((s.updJob qk i (fun j => { j with done := true, status := st, reading := 0, tsWait := false, chains := [] })).freeChains
      (qk / 16384) j.chains).bump Obj.JOB_ERRORS q.g

end Sys2Proof.Machine
end

