-- ==== Sys2Proof/Machine/Keys.lean ====
section
/-! DEFINITION. Keys (R347 to R351): the key table and its rights, the slices' key caches, and the algorithms, whose standards the spec
cites and the model leaves uninterpreted (log entry 9: DESIGN CHOICE, safe). -/
namespace Sys2Proof.Machine

/-- Bytes cut or padded to n. -/
def fit (n : Nat) (bs : List Nat) : List Nat := (bs.take n).map (· % 256) ++ List.replicate (n - bs.length) 0

/-- The state with the cipher part changed. -/
def Dev.updCipher (s : Dev) (f : Cipher → Cipher) : Dev := { s with cipher := f s.cipher }

/-- The key of a handle, if the handle holds one and the key store can be unwrapped (R347, R351). -/
def Dev.key? (s : Dev) (h : Nat) : Option KeyRec := if s.cipher.kek.isSome then Tab.get? s.cipher.keys h else none

/-- Whether an algorithm code is one that a key's KIND serves (R331, R349); code 7 takes the key's own algorithm. -/
def algFits (alg kind : Nat) : Bool :=
  match alg with
  | 1 => kind == 1 || kind == 2
  | 2 => kind == 3 || kind == 4
  | 3 => kind == 1 || kind == 2
  | 4 => kind == 5
  | 5 => kind == 6
  | 6 => kind == 6
  | 7 => kind == 1 || kind == 2 || kind == 5
  | _ => false

/-- The AEAD algorithm code of a key's KIND. -/
def aeadOf (kind : Nat) : Nat := if kind = 5 then 4 else 1

/-- Whether a key is permitted for an algorithm code and a use bit (R349). -/
def KeyRec.permits (k : KeyRec) (alg use : Nat) : Bool := algFits alg k.kind && bit k.algs (alg - 1) && bit k.uses use

/-- Whether the slice of drawer d is ALARMED (R351). -/
def Dev.alarmed (s : Dev) (d : Nat) : Bool := s.obj Obj.SLICE_STATE d == 2

/-- Whether any slice is ALARMED: a trip in one alarms all (R351). -/
def Dev.anyAlarm (s : Dev) : Bool := s.serviceDrawers.any s.alarmed

/-- A key is used in the cache of drawer d: it becomes the most recently used of its 1,024 (R350). -/
def Dev.cacheKey (s : Dev) (d h : Nat) : Dev :=
  let l := Tab.getD s.cipher.cache d []
  s.updCipher (fun c => { c with cache := Tab.ins c.cache d ((h :: l.filter (· != h)).take 1024) })

/-- Whether drawer d's slice has a key in its cache. -/
def Dev.cached (s : Dev) (d h : Nat) : Bool := (Tab.getD s.cipher.cache d []).contains h

/-- AEAD encryption of bytes: the ciphertext has their length. -/
def aeadSeal (k : KeyRec) (nonce aad p : List Nat) : List Nat := fit p.length (Config.aeadEnc (aeadOf k.kind) k.material nonce aad p)

/-- AEAD decryption of bytes. -/
def aeadOpen (k : KeyRec) (nonce aad c : List Nat) : List Nat := fit c.length (Config.aeadDec (aeadOf k.kind) k.material nonce aad c)

/-- The first n bytes of the AEAD tag over AAD and ciphertext. -/
def tagOf (k : KeyRec) (nonce aad c : List Nat) (n : Nat) : List Nat := fit n (Config.aeadTag (aeadOf k.kind) k.material nonce aad c)

/-- AES-XTS of bytes in data units of du bytes from a tweak number, each later unit with the next tweak (R338): at most k units. -/
def xtsRun (dec : Bool) (key : List Nat) (du : Nat) : Nat → Nat → List Nat → List Nat
  | 0, _, _ => []
  | k + 1, tw, bs =>
    if bs.isEmpty then []
    else
      let u := bs.take du
      fit u.length (if dec then Config.xtsDecrypt key tw u else Config.xtsEncrypt key tw u) ++ xtsRun dec key du k ((tw + 1) % 2 ^ 128) (bs.drop du)

/-- The key that namespace data is encrypted with (R327, R349): none named, or the material of a key permitted for storage XTS. -/
def Dev.xtsKey (s : Dev) (h : Nat) : Option (List Nat) :=
  match s.key? h with
  | some k => if k.permits 2 4 then some k.material else none
  | none => none

end Sys2Proof.Machine
end

