-- ==== Sys2Proof/Machine/Mirror.lean ====
section
/-! DEFINITION. Mirroring by the active (R427, R430 to R434): messages, those that wait for an acknowledgement, and what is mirrored. -/
namespace Sys2Proof.Machine

/-- Whether the device mirrors now: ACTIVE, with a peer that takes the copy (*Mirroring*, R434). -/
def Dev.mirrors (s : Dev) : Bool := s.obj Obj.ROLE == 1 && s.twin.mirroring

/-- A mirror message is sent, and counted (R427). -/
def Dev.mirror (s : Dev) (m : MirrorMsg) : Dev := (s.emit (.mirror m)).bump Obj.MIRROR_MESSAGES

/-- A mirror message is sent, and an operation waits for its acknowledgement (R427). -/
def Dev.mirrorSync (s : Dev) (m : MirrorMsg) (op : SyncOp) : Dev :=
  let s1 := s.mirror m
  { s1 with twin := { s1.twin with sent := s1.twin.sent ++ [(s.tick, op)] } }

/-- Whether a queue is mirrored: its function has TWIN_MIRROR, and it is no admin queue (R430; log entry 31: DEDUCED, unsafe). -/
def Dev.queueMirrored (s : Dev) (qk : Nat) : Bool := s.flag Obj.TWIN_MIRROR (qk / 16384) && decide (2 ≤ qk % 16384)

/-- The queue's function on the peer (R430). -/
def Dev.peerFn (s : Dev) (qk : Nat) : Nat := s.obj Obj.TWIN_PEER_FUNC (qk / 16384)

/-- Whether operations on table t go to the peer (R432). -/
def Dev.tableMirrors (s : Dev) (t : Nat) : Bool := s.mirrors && s.flag Obj.TABLE_MIRROR t

/-- Whether a flush goes to the peer: it acts on every table, so it does if any is mirrored (R432). -/
def Dev.anyTableMirrors (s : Dev) : Bool := s.mirrors && (List.range 64).any (fun t => s.flag Obj.TABLE_MIRROR t)

/-- Whether an operation on a table is waiting for its acknowledgement. -/
def Dev.tableSent (s : Dev) (f : Nat → EmOp → Bool) : Bool :=
  s.twin.sent.any (fun x => match x.2 with | .table o => f x.1 o | _ => false)

/-- An operation on a table has been accepted: it waits for its edge, or first for the peer's acknowledgement (R166, R432). -/
def Dev.emQueue (s : Dev) (mirrored : Bool) (m : MirrorMsg) (o : EmOp) : Dev :=
  if mirrored then s.mirrorSync m (.table o) else { s with em := { s.em with ops := s.em.ops ++ [(s.tick, o)] } }

end Sys2Proof.Machine
end

