-- ==== Sys2Proof/Machine/StoreCore.lean ====
section
/-! DEFINITION. The storage front end's operations (chapter 13): controllers, commands, their completion, pieces, backends, unknown
outcomes and namespaces. -/
namespace Sys2Proof.Machine

/-! ### Records -/

/-- The state with its storage record changed. -/
def Dev.updSto (s : Dev) (f : Storage → Storage) : Dev := { s with storage := f s.storage }

/-- A controller's record. -/
def Dev.ctrl (s : Dev) (c : Nat) : Ctrl := Tab.getD s.storage.ctrls c {}

/-- The state with a controller's record replaced. -/
def Dev.setCtrl (s : Dev) (c : Nat) (x : Ctrl) : Dev := s.updSto (fun g => { g with ctrls := Tab.put {} g.ctrls c x })

/-- A submission queue of a controller. -/
def Dev.sq? (s : Dev) (c q : Nat) : Option Sq := Tab.get? (s.ctrl c).sqs q

/-- The state with a submission queue replaced. -/
def Dev.setSq (s : Dev) (c q : Nat) (x : Sq) : Dev :=
  let k := s.ctrl c
  s.setCtrl c { k with sqs := Tab.ins k.sqs q x }

/-- The state with a submission queue changed. -/
def Dev.updSq (s : Dev) (c q : Nat) (f : Sq → Sq) : Dev :=
  match s.sq? c q with | some x => s.setSq c q (f x) | none => s

/-- The outstanding command of a submission queue with a CID. -/
def Dev.cmd? (s : Dev) (c q cid : Nat) : Option NvmCmd :=
  (s.sq? c q).bind (fun x => x.cmds.find? (fun m => m.cid == cid && !m.posted))

/-- The outstanding command of a submission queue with a fetch number. -/
def Dev.cmdBy? (s : Dev) (c q m : Nat) : Option NvmCmd := (s.sq? c q).bind (fun x => x.cmds.find? (fun y => y.seq == m))

/-- The state with an outstanding command changed. -/
def Dev.updCmd (s : Dev) (c q m : Nat) (f : NvmCmd → NvmCmd) : Dev :=
  s.updSq c q (fun x => { x with cmds := x.cmds.map (fun y => if y.seq == m then f y else y) })

/-- Write, Write Zeroes and deallocate are write-class (R312). -/
def writeClass (op : Nat) : Bool := op == 0x01 || op == 0x08 || op == 0x09

/-- KIND_DATA of a storage command: controller, SQID and CID (R35; log entry 15: DESIGN CHOICE, unsafe). -/
def kindNvm (c q cid : Nat) : Nat := c * 2 ^ 64 + q * 2 ^ 32 + cid

/-- Controller, SQID and CID of a storage parcel. -/
def nvmOf (p : Parcel) : Nat × Nat × Nat := (p.kindData / 2 ^ 64, p.kindData / 2 ^ 32 % 2 ^ 32, p.kindData % 2 ^ 32)

/-- A parcel once the storage command it carries has taken a step that cannot be repeated: IDEMPOTENT is 0 (R36). -/
def Parcel.spent (k : Nat) (p : Parcel) : Parcel := if p.kind = 3 ∧ p.kindData = k then { p with idem := false } else p

/-- A backend write of a command is issued, or its completion entry written: its parcel, waiting or held, loses IDEMPOTENT (R36). -/
def Dev.spend (s : Dev) (c q cid : Nat) : Dev :=
  let k := kindNvm c q cid
  let entry (x : QEntry) : QEntry := { x with p := x.p.spent k }
  { s with work := { s.work with
      queues := s.work.queues.map (fun e => (e.1, e.2.map entry))
      roomHeld := s.work.roomHeld.map (fun e => (e.1, entry e.2))
      slots := s.work.slots.map (fun e => (e.1, { e.2 with p := e.2.p.spent k })) } }

/-- The function that presents controller c (R301). -/
def Dev.ctrlFn (s : Dev) (c : Nat) : Nat := s.obj Obj.NVME_FUNCTION c

/-- The controllers that have a record. -/
def Dev.ctrlIds (s : Dev) : List Nat := s.storage.ctrls.map Prod.fst

/-- The controller presented by a function, among those that have ever been written to (R301). -/
def Dev.ctrlOfFn (s : Dev) (n : Nat) : Option Nat :=
  (List.range (s.part.pick 4096 2048)).find? (fun c => s.ctrlFn c == n)

/-- Dword i of a submission entry. -/
def dw (sqe i : Nat) : Nat := sqe / 2 ^ (32 * i) % 2 ^ 32

/-- Commands of a queue outstanding: fetched, and their completion entry not posted (R303). -/
def Sq.outstanding (x : Sq) : Nat := (x.cmds.filter (fun m => !m.posted)).length

/-- Commands outstanding in the device (R303). -/
def Dev.outstanding (s : Dev) : Nat :=
  s.storage.ctrls.foldl (fun a c => c.2.sqs.foldl (fun b q => b + q.2.outstanding) a) 0

/-- Whether a backend operation of a command is in flight (R317). -/
def NvmCmd.flying (m : NvmCmd) : Bool := m.pieces.any (fun p => p.pri == .inFlight || p.sec == .inFlight)

/-- A storage log record and its notification (R330). -/
def Dev.storageLog (s : Dev) (c q kind b : Nat) : Dev :=
  let rec_ := s.tick % 2 ^ 64 * 2 ^ 64 + c % 65536 * 2 ^ 48 + q % 65536 * 2 ^ 32 + kind * 2 ^ 24 + b % 1024 * 2 ^ 14
  (s.log Obj.STORAGE_ENTRY 256 rec_).notify (0x9000 + kind) Obj.STORAGE_ENTRY rec_

/-! ### Completions (R302 to R304, R319) -/

/-- 100 µs units of interrupt aggregation time, in ticks (R18). -/
def aggTicks (n : Nat) : Nat := ceilDiv (n * 1953125) 10000

/-- Interrupt coalescing: threshold and time of the feature, which do not act on the admin queue. -/
def Ctrl.coalesce (k : Ctrl) (cq : Nat) : Nat × Nat :=
  let v := Tab.getD k.feats 8 0
  if cq = 0 then (0, 0) else (bits v 7 0, bits v 15 8)

/-- An interrupt of a completion queue: its vector is sent. -/
def Dev.cqInterrupt (s : Dev) (c q : Nat) : Dev :=
  match Tab.get? (s.ctrl c).cqs q with
  | none => s
  | some x =>
    let k := s.ctrl c
    let s1 := s.setCtrl c { k with cqs := Tab.ins k.cqs q { x with pend := 0 } }
    if x.ien then s1.msix (s.ctrlFn c) x.vector else s1

/-- Whether an Abort that names a command has not been posted yet (R304, R319). -/
def Ctrl.abortWaits (k : Ctrl) (q cid : Nat) : Bool :=
  match Tab.get? k.sqs 0 with
  | some a => a.cmds.any (fun m => m.opcode == 8 && !m.posted && dw m.sqe 10 == cid * 65536 + q)
  | none => false

/-- A command's completion has been posted: it is outstanding no longer, unless an Abort that names it is; an Abort's own posting
releases its target (R304). It is remembered while its backend operations are in flight (R317). -/
def Ctrl.release (k : Ctrl) (e : CqEntry) : Ctrl :=
  match Tab.get? k.sqs e.sqid with
  | none => k
  | some x =>
    match x.cmds.find? (fun m => m.cid == e.cid && m.final && !m.posted) with
    | none => k
    | some m =>
      let keep := k.abortWaits e.sqid e.cid || m.flying
      let cmds := if keep then x.cmds.map (fun y => if y.seq == m.seq then { y with posted := true } else y)
        else x.cmds.filter (fun y => y.seq != m.seq)
      let k1 := { k with sqs := Tab.ins k.sqs e.sqid { x with cmds := cmds } }
      if e.sqid = 0 ∧ m.opcode = 8 then
        let tq := dw m.sqe 10 % 65536
        let tc := dw m.sqe 10 / 65536
        match Tab.get? k1.sqs tq with
        | some y => if k1.abortWaits tq tc then k1
          else { k1 with sqs := Tab.ins k1.sqs tq { y with cmds := y.cmds.filter (fun z => !(z.cid == tc && z.posted && !z.flying)) } }
        | none => k1
      else k1

/-- The bytes of a completion queue entry (NVMe; R302). -/
def cqBytes (e : CqEntry) (sqhd phase : Nat) : List Nat :=
  leBytes 16 (e.dw0 % 2 ^ 32 + sqhd * 2 ^ 64 + e.sqid * 2 ^ 80 + e.cid * 2 ^ 96 + phase * 2 ^ 112 + e.status % 32768 * 2 ^ 113)

/-- The completions waiting for a completion queue are written as far as it has room, at most n of them, each followed by its
interrupt (R302). -/
def Dev.postCq (s : Dev) (c q : Nat) : Nat → Dev
  | 0 => s
  | n + 1 =>
    let k := s.ctrl c
    match Tab.get? k.cqs q with
    | none => s
    | some x =>
      match x.waiting with
      | [] => s
      | e :: es =>
        if (x.tail + 1) % x.size = x.head then s
        else
          let sqhd := match Tab.get? k.sqs e.sqid with | some y => y.head | none => 0
          let t := (x.tail + 1) % x.size
          let (thr, time) := k.coalesce q
          let x1 := { x with waiting := es, tail := t, phase := if t = 0 then 1 - x.phase else x.phase, pend := x.pend + 1,
                             pendTick := if x.pend = 0 then s.tick else x.pendTick }
          let k1 := { k with cqs := Tab.ins k.cqs q x1 }
          let k2 := if e.conflict then k1 else k1.release e
          let s0 := if e.conflict then s.setCtrl c k2 else (s.setCtrl c k2).spend c e.sqid e.cid
          let s1 := s0.hostWrite (s.ctrlFn c) (x.base + 16 * x.tail) (cqBytes e sqhd x.phase) false
          let s2 := if thr = 0 ∨ time = 0 ∨ thr < x1.pend then s1.cqInterrupt c q else s1
          s2.postCq c q n

/-- A decided completion joins its completion queue (R302). -/
def Dev.queueCq (s : Dev) (c : Nat) (e : CqEntry) : Dev :=
  match s.sq? c e.sqid with
  | none => s
  | some x =>
    let k := s.ctrl c
    match Tab.get? k.cqs x.cq with
    | none => s
    | some y =>
      let k1 := { k with cqs := Tab.ins k.cqs x.cq { y with waiting := y.waiting ++ [e] },
                         errors := if e.status = 0 then k.errors else ((e.cid, e.sqid, e.status) :: k.errors).take 64 }
      (s.setCtrl c k1).postCq c x.cq (y.waiting.length + 1)

/-- A command's chain is freed by its function (R190, R305). -/
def Dev.cmdFree (s : Dev) (c : Nat) (m : NvmCmd) : Dev :=
  if m.chain = nullHandle then s else (s.bufFree (ownerFunction (s.ctrlFn c)) m.chain).2

/-- A posted command that nothing keeps any more, neither an Abort nor an operation in flight, is forgotten (R304, R317). -/
def Dev.reap (s : Dev) (c q m : Nat) : Dev :=
  match s.cmdBy? c q m with
  | none => s
  | some y =>
    if y.posted && !y.flying && !(s.ctrl c).abortWaits q y.cid then s.updSq c q (fun x => { x with cmds := x.cmds.filter (fun z => z.seq != m) }) else s

/-- A command completes with a status and DW0: once, and without a posting while its function is being reset (R319, R325). -/
def Dev.cmdDone (s : Dev) (c q m status dw0 : Nat) : Dev :=
  match s.cmdBy? c q m with
  | none => s
  | some y =>
    if y.final then s
    else
      let s1 := (s.cmdFree c y).updCmd c q m (fun z => { z with final := true, chain := nullHandle })
      let k := s1.ctrl c
      if k.mute then (s1.updCmd c q m (fun z => { z with posted := true })).reap c q m
      else s1.queueCq c { sqid := q, cid := y.cid, status := status, dw0 := dw0 }

/-- An asynchronous event of controller c: it completes the oldest request, or waits for one (R302, R307, R321). -/
def Dev.asyncEvent (s : Dev) (c event : Nat) : Dev :=
  let k := s.ctrl c
  match k.aers with
  | cid :: rest =>
    match s.cmd? c 0 cid with
    | some m => (s.setCtrl c { k with aers := rest }).cmdDone c 0 m.seq 0 event
    | none => s.setCtrl c { k with aers := rest, events := k.events ++ [event] }
  | [] => if k.en then s.setCtrl c { k with events := k.events ++ [event] } else s

/-! ### Extents and unknown outcomes (R308, R312, R320, R321) -/

/-- S of a piece unknown since tick L (R320). -/
def Dev.settleAt (s : Dev) (L : Nat) : Nat := L + max (s.obj Obj.SETTLE) (2 * s.obj Obj.KATO)

/-- SYNC of the extent in slot x (R308). -/
def Dev.sync (s : Dev) (x : Nat) : Nat := bits (s.obj Obj.EXTENT x) 99 96

/-- The extent record in a slot with SYNC replaced (R308). -/
def Dev.setSync (s : Dev) (x v : Nat) : Dev := s.setObj Obj.EXTENT x (putBits (s.obj Obj.EXTENT x) 99 96 v)

/-- An extent becomes SEC_STALE, unless an unknown outcome on it is unsettled (R312, R313). -/
def Dev.stale (s : Dev) (x : Nat) : Dev := if s.sync x = 3 then s else s.setSync x 1

/-- Change piece j of a list. -/
def updPiece (l : List Piece) (j : Nat) (f : Piece → Piece) : List Piece :=
  match l[j]? with | some p => l.set j (f p) | none => l

/-- The primary or only side of piece j of a command becomes unknown in this tick for a cause (R320, R321): it is entered in the
freeze log and waits to settle, its mirrored extent is UNSETTLED, and its queue freezes at the next edge or, FROZEN already, the
command completes. -/
def Dev.pieceUnknown (s : Dev) (c q : Nat) (m : NvmCmd) (j cause : Nat) : Dev :=
  match m.pieces[j]? with
  | none => s
  | some p =>
    let S := s.settleAt s.tick
    let e : FreezeEntry := { slba := p.slba, blocks := p.blocks, nsid := m.nsid, cid := m.cid, cause := cause, opcode := m.opcode,
                             backend := p.priBk, settle := S }
    let s1 := s.updSq c q (fun x =>
      { x with freezeDue := if x.st = 0 then (if x.freezeDue.isSome then x.freezeDue else some s.tick) else x.freezeDue,
               log := (x.log ++ [e]).take 4096 })
    let s2 := s1.updCmd c q m.seq (fun y => { y with unknown := true, pieces := updPiece y.pieces j (fun z => { z with pri := .unknown }) })
    let s3 := if p.mirrored then s2.setSync p.slot 3 else s2
    let s4 := s3.updSto (fun g => { g with unsettled := g.unsettled ++
      [{ slot := p.slot, slba := p.slba, blocks := p.blocks, nsid := m.nsid, ctrl := c, sqid := q, mirrored := p.mirrored, settle := S,
         intent := p.intent.map Prod.fst }] })
    match s4.sq? c q with
    | some x => if x.st = 0 then s4 else s4.cmdDone c q m.seq 0x40C1 0
    | none => s4

/-- The indices of the pieces of a command whose primary side satisfies a test. -/
def piecesWhere (m : NvmCmd) (f : Piece → Bool) : List Nat :=
  (List.range m.pieces.length).filter (fun j => match m.pieces[j]? with | some p => f p | none => false)

/-- A storage parcel is retired as a drop by a fence or an overrun (R44, R55, R320, R326): a write-class command with an operation issued
has an unknown outcome, in its pieces in flight, or, with none in flight, in those issued; any other ends with a status that the spec does not give, a free value (log entry 16: DESIGN CHOICE, safe). -/
def Dev.storageDropped (s : Dev) (p : Parcel) : Dev :=
  if p.kind ≠ 3 then s
  else
    let (c, q, cid) := nvmOf p
    match s.cmd? c q cid with
    | none => s
    | some m =>
      let out := piecesWhere m (fun x => x.pri == .inFlight || x.sec == .inFlight)
      let fl := if out.isEmpty then piecesWhere m (fun x => x.issued.isSome && !m.final) else out
      if writeClass m.opcode && !fl.isEmpty then fl.foldl (fun t j => t.pieceUnknown c q m j 4) s
      else if m.final then s
      else
        let (u, s1) := s.fresh
        s1.cmdDone c q m.seq (u % 32768) 0

end Sys2Proof.Machine
end

