-- ==== Sys2Proof/Machine/StoreIo.lean ====
section
/-! DEFINITION. The I/O path of the storage front end (R305 to R318, R327, R328): namespaces and their blocks, pieces issued to
backends, intent writes, outcomes, and data toward the host. -/
namespace Sys2Proof.Machine

/-! ### Namespaces and formats (R306 to R308) -/

/-- Namespace i, if it exists. -/
def Dev.ns? (s : Dev) (i : Nat) : Option Ns := Tab.get? s.storage.nss i

/-- The state with a namespace replaced. -/
def Dev.setNs (s : Dev) (i : Nat) (x : Ns) : Dev := s.updSto (fun g => { g with nss := Tab.ins g.nss i x })

/-- Data bytes of a block of an LBA format (R307). -/
def lbaData (f : Nat) : Nat := if f < 2 then 512 else 4096

/-- Metadata bytes of a block of an LBA format (R307). -/
def lbaMeta (f : Nat) : Nat := if f % 2 = 1 then 8 else 0

/-- Data bytes of a block of namespace i. -/
def Dev.dataSize (s : Dev) (i : Nat) : Nat := lbaData (s.obj Obj.LBA_FORMAT i)

/-- Metadata bytes of a block of namespace i. -/
def Dev.metaSize (s : Dev) (i : Nat) : Nat := lbaMeta (s.obj Obj.LBA_FORMAT i)

/-- Blocks of an extent of namespace i (R308). -/
def Dev.perExtent (s : Dev) (i : Nat) : Nat := 1048576 / s.dataSize i

/-- Extents of namespace i. -/
def Dev.extents (s : Dev) (i : Nat) : Nat :=
  match s.ns? i with | some x => ceilDiv (x.blocks * s.dataSize i) 1048576 | none => 0

/-- The namespace that holds an extent slot. -/
def Dev.nsOfSlot (s : Dev) (x : Nat) : Option Nat :=
  (s.storage.nss.find? (fun e =>
    let b := s.obj Obj.EXTENT_BASE e.1
    decide (b ≤ x ∧ x < b + s.extents e.1))).map Prod.fst

/-- Whether namespace i is attached to controller c (R307). -/
def Dev.attached (s : Dev) (i c : Nat) : Bool := (List.range 16).any (fun j => s.obj Obj.ATTACH (16 * i + j) == c)

/-- The controllers to which namespace i is attached. -/
def Dev.attachList (s : Dev) (i : Nat) : List Nat :=
  ((List.range 16).map (fun j => s.obj Obj.ATTACH (16 * i + j))).filter (fun c => c != 0xFFFF)

/-- The namespaces attached to controller c, ascending. -/
def Dev.nsOfCtrl (s : Dev) (c : Nat) : List Nat := (s.storage.nss.map Prod.fst).filter (fun i => s.attached i c)

/-- The backends that hold parts of namespace i. -/
def Dev.nsBacks (s : Dev) (i : Nat) : List Nat :=
  ((List.range (s.extents i)).flatMap (fun e =>
    let r := s.obj Obj.EXTENT (s.obj Obj.EXTENT_BASE i + e)
    if bits r 1 0 = 1 then bits r 117 108 :: (if bit r 2 then [bits r 127 118] else []) else [])).eraseDups

/-- A backend's record. -/
def Dev.back (s : Dev) (b : Nat) : Backend := Tab.getD s.storage.backs b {}

/-- The state with a backend's record replaced. -/
def Dev.setBack (s : Dev) (b : Nat) (x : Backend) : Dev := s.updSto (fun g => { g with backs := Tab.put {} g.backs b x })

/-- The IK9 connects to backend b: to BK_NQN at BK_ADDR as host HOST_NQN, with BK_QUEUES I/O queues, digests over TCP, and in-capsule
data up to 8 KiB over a network (R310). -/
def Dev.connect (s : Dev) (b : Nat) : Dev :=
  s.emit (.connect b (s.obj Obj.BK_KIND b) (s.obj Obj.BK_ADDR b) (s.obj Obj.BK_NQN b) (s.obj Obj.HOST_NQN) (s.obj Obj.BK_QUEUES b)
    (s.obj Obj.BK_KIND b == 2) (if 2 ≤ s.obj Obj.BK_KIND b then 8192 else 0))

/-- Whether a backend is LIVE (R310). -/
def Dev.live (s : Dev) (b : Nat) : Bool := s.obj Obj.BK_STATE b == 2

/-- The backends of namespace i with a volatile write cache (R318). -/
def Dev.cachedBacks (s : Dev) (i : Nat) : List Nat := (s.nsBacks i).filter (fun b => (s.back b).cache)

/-! ### Protection information and encryption (R327, R328) -/

/-- One bit step of the 16-bit guard's CRC, polynomial 0x8BB7 (T10 DIF). -/
def guardBit (r : Nat) : Nat := if r / 32768 % 2 = 1 then (2 * r % 65536) ^^^ 0x8BB7 else 2 * r % 65536

/-- The 16-bit guard of a block's data. -/
def guardOf (bs : List Nat) : Nat :=
  bs.foldl (fun r b =>
    let r0 := r ^^^ (b % 256 * 256)
    guardBit (guardBit (guardBit (guardBit (guardBit (guardBit (guardBit (guardBit r0)))))))) 0

/-- A block as transferred or stored: its data and its metadata bytes. -/
abbrev Block := List Nat × List Nat

/-- The 8 bytes of protection information: guard, application tag, reference tag, each little-endian as R9 has every structure in memory
(log entry 132: DEDUCED, unsafe). -/
def piBytes (guard app ref : Nat) : List Nat := leBytes 2 guard ++ leBytes 2 app ++ leBytes 4 ref

/-- The check fields of a command (NVMe): PRACT, PRCHK, ILBRT, LBAT and LBATM. -/
structure PiCheck where
  pract : Bool
  prchk : Nat
  ilbrt : Nat
  lbat : Nat
  lbatm : Nat

/-- The check fields of a submission entry. -/
def piOf (sqe : Nat) : PiCheck :=
  { pract := bit (dw sqe 12) 29, prchk := bits (dw sqe 12) 28 26, ilbrt := dw sqe 14, lbat := dw sqe 15 % 65536, lbatm := dw sqe 15 / 65536 }

/-- The reference tag expected in block j of a transfer. -/
def PiCheck.ref (k : PiCheck) (type j : Nat) : Nat := if type = 3 then k.ilbrt else (k.ilbrt + j) % 2 ^ 32

/-- The status of a host-side check of block j: 0, or Media 82h, 83h or 84h (R328). -/
def PiCheck.fails (k : PiCheck) (type j : Nat) (b : Block) : Nat :=
  let app := ofLE (slice b.2 2 2)
  let ref := ofLE (slice b.2 4 4)
  if app = 0xFFFF ∧ (type ≠ 3 ∨ ref = 0xFFFFFFFF) then 0
  else if bit k.prchk 2 ∧ ofLE (slice b.2 0 2) ≠ guardOf b.1 then 0x282
  else if bit k.prchk 1 ∧ (app &&& k.lbatm) ≠ (k.lbat &&& k.lbatm) then 0x283
  else if bit k.prchk 0 ∧ type ≠ 3 ∧ ref ≠ k.ref type j then 0x284
  else 0

/-- Cut bytes into n pieces of a length. -/
def chunks (len : Nat) : Nat → List Nat → List (List Nat)
  | 0, _ => []
  | n + 1, bs => bs.take len :: chunks len n (bs.drop len)

/-- The blocks of a command's host data (R307, R328): with metadata generated, interleaved, or in a buffer of its own that follows. -/
def hostBlocks (ds ms : Nat) (ext gen : Bool) (n : Nat) (bs : List Nat) : List Block :=
  if ms = 0 ∨ gen = true then (chunks ds n bs).map (fun d => (d, []))
  else if ext then (chunks (ds + ms) n bs).map (fun d => (d.take ds, d.drop ds))
  else (chunks ds n bs).zip (chunks ms n (bs.drop (ds * n)))

/-- The host bytes of blocks: the reverse of `hostBlocks`. -/
def hostBytes (ext strip : Bool) (l : List Block) : List Nat :=
  if strip then l.flatMap Prod.fst
  else if ext then l.flatMap (fun b => b.1 ++ b.2)
  else l.flatMap Prod.fst ++ l.flatMap Prod.snd

/-- Bytes that a command of n blocks of namespace i transfers with the host. -/
def Dev.xferLen (s : Dev) (i n : Nat) (gen : Bool) : Nat :=
  n * (s.dataSize i + if gen then 0 else s.metaSize i)

/-- Whether a command generates or strips protection information: PRACT on a namespace that has it (R328). -/
def Dev.generates (s : Dev) (i : Nat) (sqe : Nat) : Bool :=
  (piOf sqe).pract && match s.ns? i with | some x => x.piType != 0 && s.metaSize i == 8 | none => false

/-- Whether the key that namespace i names cannot be used (R351): the slices are ALARMED, or the handle holds no key permitted for storage. -/
def Dev.keyBad (s : Dev) (i : Nat) : Bool :=
  let k := s.obj Obj.XTS_KEY i
  k != nullHandle && (s.anyAlarm || (s.xtsKey k).isNone)

/-- Block b of namespace i at LBA a as stored on a backend: encrypted, with a guard over the data as stored (R327, R328). -/
def Dev.storeBlock (s : Dev) (i a : Nat) (pi : Bool) (b : Block) : List Nat :=
  let k := s.obj Obj.XTS_KEY i
  let d := if k = nullHandle then b.1 else fit b.1.length (Config.xtsEncrypt ((s.xtsKey k).getD []) a b.1)
  d ++ if pi then leBytes 2 (guardOf d) ++ b.2.drop 2 else b.2

/-- A stored block of namespace i at LBA a toward the host: none where its guard fails; else decrypted, with a guard over the plaintext
(R327, R328). -/
def Dev.loadBlock (s : Dev) (i a ds : Nat) (pi : Bool) (st : List Nat) : Option Block :=
  let k := s.obj Obj.XTS_KEY i
  let d := st.take ds
  let m := st.drop ds
  if pi ∧ ofLE (slice m 0 2) ≠ guardOf d then none
  else
    let p := if k = nullHandle then d else fit d.length (Config.xtsDecrypt ((s.xtsKey k).getD []) a d)
    some (p, if pi then leBytes 2 (guardOf p) ++ m.drop 2 else m)

/-! ### Intents (R314) -/

/-- The bitmap block that holds the bit of extent e. -/
def intentBlock (e : Nat) : Nat := e / 32768

/-- Blocks of a backend in 4 KiB. -/
def Dev.bkBlocks4k (s : Dev) (b : Nat) : Nat := max 1 (4096 / max 1 (bits (s.obj Obj.BK_LBA_SIZE b) 23 0))

/-- The 4 KiB of bitmap block k of namespace i, with some slots' bits set or cleared. -/
def Dev.bitmapBytes (s : Dev) (i k : Nat) (sets clears : List Nat) : List Nat :=
  let base := s.obj Obj.EXTENT_BASE i
  let on (e : Nat) : Bool :=
    let x := base + e
    (((Tab.get? s.storage.intents x).isSome && !clears.contains x) || sets.contains x) && decide (e < s.extents i)
  (List.range 4096).map (fun b => (List.range 8).foldl (fun a j => a + if on (32768 * k + 8 * b + j) then 2 ^ j else 0) 0)

/-- The first block of bitmap block k of namespace i on its backend. -/
def Dev.bitmapLba (s : Dev) (i k : Nat) : Nat := s.obj Obj.INTENT_LBA i + k * s.bkBlocks4k (s.obj Obj.INTENT_BACKEND i)

/-- An operation of the device itself goes to its backend, or waits for the path, for a device that may send (R429, R438), or, an
intent bitmap's write, for the peer to hold its bits (R311, R314, R431). -/
def Dev.ownSend (s : Dev) (o : OwnOp) : Dev :=
  if !s.live o.backend || !s.forwards then s.updSto (fun g => { g with own := g.own ++ [{ o with live := false }] })
  else
    let s1 := s.updSto (fun g => { g with own := g.own ++ [{ o with live := true, since := s.tick }] })
    match o.op with
    | .intent i k =>
      if s.mirrors && !o.told then s.mirrorSync (.intentBits i k o.sets o.clears) (.bits { o with told := true })
      else s1.emit (.backend o.backend o.op 1 (s.bitmapLba i k) (s.bkBlocks4k o.backend) true (s.bitmapBytes i k o.sets o.clears))
    | .bitmap i k => s1.emit (.backend o.backend o.op 2 (s.bitmapLba i k) (s.bkBlocks4k o.backend) false [])
    | .copy x =>
      let ds := bits (s.obj Obj.BK_LBA_SIZE o.backend) 23 0
      s1.emit (.backend o.backend o.op 2 (bits (s.obj Obj.EXTENT x) 191 128) (1048576 / max 1 ds) false [])
    | _ => s1.emit (.backend o.backend o.op 0 0 0 false [])

/-- The operations of the device itself that have not ended, those that the peer has still to acknowledge among them. -/
def Dev.ownAll (s : Dev) : List OwnOp :=
  s.storage.own ++ s.twin.sent.filterMap (fun x => match x.2 with | .bits o => some o | _ => none)

/-- Whether an intent write for block k of namespace i has not ended. -/
def Dev.intentBusy (s : Dev) (i k : Nat) : Bool := s.ownAll.any (fun o => o.op == .intent i k)

/-- At the edge that closes a tick, the bits that pieces wait for are written, one write for each bitmap block that has none outstanding
(R314; log entry 148: DEDUCED, unsafe). -/
def Dev.intentSend (s : Dev) : Dev :=
  let blocks := (s.storage.intentDue.map (fun d => (d.1, intentBlock (d.2 - s.obj Obj.EXTENT_BASE d.1)))).eraseDups
  blocks.foldl (fun t b =>
    if t.intentBusy b.1 b.2 then t
    else
      let mine (d : Nat × Nat) : Bool := d.1 == b.1 && intentBlock (d.2 - t.obj Obj.EXTENT_BASE d.1) == b.2
      let xs := (t.storage.intentDue.filter mine).map Prod.snd
      (t.updSto (fun g => { g with intentDue := g.intentDue.filter (fun d => !mine d) })).ownSend
        { op := .intent b.1 b.2, backend := t.obj Obj.INTENT_BACKEND b.1, sets := xs }) s

/-! ### Issuing pieces (R311, R312, R317, R322) -/

/-- Whether two block ranges intersect. -/
def meets (a n b m : Nat) : Bool := decide (a < b + m ∧ b < a + n)

/-- Whether a command's backend operations have all ended (R317): of one that has completed, none is in flight. -/
def NvmCmd.ended (y : NvmCmd) : Bool :=
  if y.final then !y.flying else (y.started && decide (0 < y.pieces.length) && y.pieces.all (fun p => p.issued.isSome && p.pri != .inFlight && p.sec != .inFlight))

/-- The block ranges of a command; those of a Dataset Management are not known before they are read from the host, so it is taken to
reach every block until then. -/
def NvmCmd.ranges (y : NvmCmd) : List (Nat × Nat) :=
  if y.started then y.pieces.map (fun p => (p.slba, p.blocks)) else if y.opcode = 9 then [(0, 2 ^ 64)] else [(y.slba, y.blocks)]

/-- Whether a command meets a block range. -/
def NvmCmd.meetsAt (m : NvmCmd) (a n : Nat) : Bool := m.ranges.any (fun r => meets r.1 r.2 a n)

/-- Whether a command must wait for an earlier command of its queue, which it overlaps (R317). -/
def Sq.blocks (x : Sq) (m : NvmCmd) : Bool :=
  x.cmds.any (fun y => decide (y.seq < m.seq) && y.nsid == m.nsid && !y.ended && (writeClass y.opcode || writeClass m.opcode)
    && (writeClass y.opcode || y.opcode == 2) && y.ranges.any (fun r => m.meetsAt r.1 r.2))

/-- Whether a command's range meets an unsettled unknown piece (R322). -/
def Dev.unsettledAt (s : Dev) (m : NvmCmd) : Bool := s.storage.unsettled.any (fun u => u.nsid == m.nsid && m.meetsAt u.slba u.blocks)

/-- A Flush waits for a lost backend from now, unless it does already (R311). -/
def Dev.hold (s : Dev) (c q m : Nat) : Dev :=
  s.updCmd c q m (fun y => { y with held := if y.held.isSome then y.held else some s.tick })

/-- A zero block at LBA a of namespace i for a command, with protection information generated from the command's fields where the format
has it (R308, R328). -/
def Dev.zeroBlock (s : Dev) (i : Nat) (m : NvmCmd) (a : Nat) : Block :=
  let type := match s.ns? i with | some x => x.piType | none => 0
  let k := piOf m.sqe
  (List.replicate (s.dataSize i) 0,
    if type != 0 && s.metaSize i == 8 then piBytes 0 k.lbat (k.ref type (a - m.slba)) else List.replicate (s.metaSize i) 0)

/-- Whether blocks of namespace i have protection information (R307, R328). -/
def Dev.hasPi (s : Dev) (i : Nat) : Bool := (match s.ns? i with | some x => x.piType != 0 | none => false) && s.metaSize i == 8

/-- The stored form of n zero blocks of namespace i from LBA a, for a command (R308). -/
def Dev.zeroBlocks (s : Dev) (i : Nat) (m : NvmCmd) (a n : Nat) : List Nat :=
  (List.range n).flatMap (fun j => s.storeBlock i (a + j) (s.hasPi i) (s.zeroBlock i m (a + j)))

/-- The opcode that a command's pieces have toward a backend: a Write Zeroes to blocks that are encrypted, or have protection information, writes the
stored form of zero blocks (R327, R328). -/
def Dev.bkOpcode (s : Dev) (i : Nat) (m : NvmCmd) : Nat :=
  if m.opcode = 8 ∧ (s.obj Obj.XTS_KEY i ≠ nullHandle ∨ s.hasPi i = true) then 1 else m.opcode

/-- The bytes of a command's blocks [a, a + n) as stored on a backend, from its chain (R305, R327, R328). -/
def Dev.writeData (s : Dev) (m : NvmCmd) (i a n : Nat) : List Nat :=
  if m.opcode ≠ 1 then (if s.bkOpcode i m = 1 then s.zeroBlocks i m a n else [])
  else
    let gen := s.generates i m.sqe
    let k := piOf m.sqe
    let type := match s.ns? i with | some x => x.piType | none => 0
    let ext := match s.ns? i with | some x => x.extended | none => false
    let bl := hostBlocks (s.dataSize i) (s.metaSize i) ext gen m.blocks (s.chainData m.chain)
    ((bl.drop (a - m.slba)).take n).zipIdx.flatMap (fun e =>
      let j := a - m.slba + e.2
      let b : Block := if gen then (e.1.1, piBytes 0 k.lbat (k.ref type j)) else e.1
      s.storeBlock i (a + e.2) (s.hasPi i) b)

/-- The address of an offset in a volatile block (R308, R454). -/
def Dev.volAddr (s : Dev) (blk off : Nat) : Nat := s.regionBase 9 + 2 ^ 20 * blk + off

/-- Store bytes of a volatile block from an offset (R308): reservations on them are cleared, and the poison of their lines (R382, R456). -/
def Dev.volWrite (s : Dev) (blk off : Nat) (bs : List Nat) : Dev :=
  (s.updSto (fun g => { g with volatile :=
    (bs.zipIdx.foldl (fun t e => Tab.put 0 t (2 ^ 20 * blk + off + e.2) (e.1 % 256)) g.volatile) })).overwritten none
      (s.volAddr blk off) (s.volAddr blk off + bs.length)

/-- n bytes of a volatile block from an offset. -/
def Dev.volRead (s : Dev) (blk off n : Nat) : List Nat :=
  (List.range n).map (fun j => Tab.getD s.storage.volatile (2 ^ 20 * blk + off + j) 0)

/-- Blocks of namespace i in their stored form are kept in a volatile block from the place of LBA a (R308): its 1 MiB holds their data, and their
metadata are kept beside it (log entry 177: DESIGN CHOICE, unsafe). -/
def Dev.volPut (s : Dev) (i blk a : Nat) (bs : List Nat) : Dev :=
  let ds := s.dataSize i
  let ms := s.metaSize i
  let bl := chunks (ds + ms) (bs.length / (ds + ms)) bs
  let at' := a % s.perExtent i
  (s.volWrite blk (at' * ds) (bl.flatMap (fun b => b.take ds))).updSto (fun g => { g with volMeta :=
    ((bl.flatMap (fun b => b.drop ds)).zipIdx.foldl (fun t e => Tab.put 0 t (2 ^ 20 * blk + at' * ms + e.2) (e.1 % 256)) g.volMeta) })

/-- n blocks of namespace i in their stored form, from the place of LBA a in a volatile block (R308). -/
def Dev.volGet (s : Dev) (i blk a n : Nat) : List Nat :=
  let ds := s.dataSize i
  let ms := s.metaSize i
  (List.range n).flatMap (fun j =>
    let k := a % s.perExtent i + j
    s.volRead blk (k * ds) ds ++ (List.range ms).map (fun b => Tab.getD s.storage.volMeta (2 ^ 20 * blk + k * ms + b) 0))

/-- Whether an extent's backends for an operation are not all LIVE: its primary, and its secondary too for a write-class one (R311, R312). -/
def Dev.downFor (s : Dev) (x : Nat) (w : Bool) : Bool :=
  let r := s.obj Obj.EXTENT x
  bits r 1 0 == 1 && (!s.live (bits r 117 108) || (w && bit r 2 && !s.live (bits r 127 118)))

/-- What piece j of a command does now: waits, fails, ends inside the device, or goes to its backends. -/
def Dev.issuePiece (s : Dev) (c q : Nat) (m : NvmCmd) (j : Nat) (p : Piece) : Dev :=
  let i := m.nsid - 1
  let r := s.obj Obj.EXTENT p.slot
  let w := writeClass m.opcode
  let per := s.perExtent i
  let set (t : Dev) (f : Piece → Piece) : Dev :=
    t.updCmd c q m.seq (fun y => { y with pieces := updPiece y.pieces j (fun z => let z1 := f z; { z1 with first := z1.first.or z1.issued }) })
  match bits r 1 0 with
  | 0 =>
    if w then set s (fun z => { z with pri := .failed 0x4286, issued := some s.tick })
    else (set s (fun z => { z with pri := .ok, issued := some s.tick })).updCmd c q m.seq
      (fun y => { y with got := Tab.ins y.got p.slba [] })
  | 2 =>
    let blk := bits r 191 128
    let off := p.slba % per * s.dataSize i
    let s1 := set s (fun z => { z with pri := .ok, issued := some s.tick })
    if m.opcode = 1 then s1.volPut i blk p.slba (s.writeData m i p.slba p.blocks)
    else if w then s1.volPut i blk p.slba (s.zeroBlocks i m p.slba p.blocks)
    else if s.poisonedIn (s.volAddr blk off) (s.volAddr blk off + p.blocks * s.dataSize i) then
      set s (fun z => { z with pri := .failed 0x281, issued := some s.tick })
    else s1.updCmd c q m.seq (fun y => { y with got := Tab.ins y.got p.slba (s.volGet i blk p.slba p.blocks) })
  | _ =>
    let mir := bit r 2
    let pb := bits r 117 108
    let sb := bits r 127 118
    let lba (f : Nat) : Nat := f + p.slba % per
    if w && mir && (s.sync p.slot == 2 || s.ownAll.any (fun o => o.clears.contains p.slot)) then s
    else if s.downFor p.slot w then set s (fun z => { z with held := z.held.or (some s.tick) })
    else if w && mir && s.obj Obj.INTENT_BACKEND i != 0xFFFF && (Tab.get? s.storage.intents p.slot).isNone then
      if s.storage.intentDue.contains (i, p.slot) || s.ownAll.any (fun o => o.sets.contains p.slot) then s
      else s.updSto (fun g => { g with intentDue := g.intentDue ++ [(i, p.slot)] })
    else if w && s.mirrors && p.intent.all (fun x => !x.2) then
      if p.intent.isSome then s
      else
        let id := s.twin.nextIntent
        let x : Intent := { id := id, ns := m.nsid, slba := p.slba, blocks := p.blocks }
        let s1 := set s (fun z => { z with intent := some (id, false) })
        ({ s1 with twin := { s1.twin with intents := s1.twin.intents ++ [x], nextIntent := id + 1 } }).mirrorSync
          (.intent id m.nsid p.slba p.blocks) (.piece c q m.seq j id)
    else
      let fua := bit (dw m.sqe 12) 30
      let d := s.writeData m i p.slba p.blocks
      let s1 := (set s (fun z => { z with pri := .inFlight, sec := if w && mir then .inFlight else .absent, mirrored := mir,
                                          priBk := pb, secBk := sb, issued := some s.tick, held := none }))
      let s1' := if w then s1.spend c q m.cid else s1
      let s2 := s1'.emit (.backend pb (.piece c q m.seq j false) (s.bkOpcode i m) (lba (bits r 191 128)) p.blocks fua d)
      let s3 := if w && mir then s2.emit (.backend sb (.piece c q m.seq j true) (s.bkOpcode i m) (lba (bits r 255 192)) p.blocks fua d) else s2
      if w && mir && (Tab.get? s3.storage.intents p.slot).isSome then
        s3.updSto (fun g => { g with intents := Tab.ins g.intents p.slot s.tick })
      else s3

/-- Whether piece j may go out now as far as ordering, settlement and the data fetched allow (R305, R317, R322), and a device that issues no backend
commands holds it (R429, R438, R443, R500). -/
def Dev.pieceReady (s : Dev) (x : Sq) (m : NvmCmd) (p : Piece) : Bool :=
  s.forwards && p.issued.isNone && m.started && !m.final && m.reading == 0 && !x.blocks m && !s.unsettledAt m

/-- The status with which a command whose pieces have all ended completes: the first piece that failed, or success (R312). -/
def pieceStatus (m : NvmCmd) : Nat :=
  match m.pieces.findSome? (fun p => match p.pri with | .failed st => some st | _ => none) with
  | some st => st
  | none => 0

/-- Write bytes into host segments in turn. -/
def Dev.writeSegs (s : Dev) (n : Nat) : List (Nat × Nat) → List Nat → Dev
  | [], _ => s
  | g :: gs, bs => (if bs.isEmpty then s else s.hostWrite n g.1 (bs.take g.2) false).writeSegs n gs (bs.drop g.2)

/-- The blocks of a piece that has been read: zero data for an unbacked extent (R308), otherwise its stored blocks, none where a guard
fails (R327, R328). -/
def Dev.pieceBlocks (s : Dev) (i : Nat) (pi : Bool) (m : NvmCmd) (p : Piece) : List (Option Block) :=
  let ds := s.dataSize i
  match Tab.getD m.got p.slba [] with
  | [] => (List.range p.blocks).map (fun j => some (s.zeroBlock i m (p.slba + j)))
  | bs => (chunks (ds + s.metaSize i) p.blocks bs).zipIdx.map (fun e => s.loadBlock i (p.slba + e.2) ds pi e.1)

/-- What a read brings: the status of a key that cannot be used any more, or of a block that fails its checks, or the bytes for the host (R305, R327,
R328, R351). -/
def Dev.readBytes (s : Dev) (m : NvmCmd) : Except Nat (List Nat) :=
  let i := m.nsid - 1
  let type := match s.ns? i with | some x => x.piType | none => 0
  let ext := match s.ns? i with | some x => x.extended | none => false
  let pi := type != 0 && s.metaSize i == 8
  let blocks := m.pieces.flatMap (s.pieceBlocks i pi m)
  if s.keyBad i then .error 0x6
  else if blocks.any Option.isNone then .error 0x281
  else
    let bl := blocks.filterMap id
    match (if pi then (bl.zipIdx.map (fun e => (piOf m.sqe).fails type e.2 e.1)).find? (fun v => v != 0) else none) with
    | some st => .error st
    | none => .ok (hostBytes ext (s.generates i m.sqe) bl)

/-- Part of a read's data is written to the host by a mover; with the last of it the read completes, and where it cannot be written it
ends with Data Transfer Error (R305). -/
def Dev.nvmOut (s : Dev) (c q seq off n : Nat) : Dev :=
  match s.cmdBy? c q seq with
  | none => s
  | some m =>
    if m.final then s
    else
      match s.readBytes m with
      | .error st => s.cmdDone c q seq st 0
      | .ok bs =>
        let f := s.ctrlFn c
        if s.takesWrites f && !(s.ctrl c).mute then
          let s1 := (s.writeSegs f (segsFrom off m.segs) (slice bs off n)).updCmd c q seq (fun y => { y with reading := y.reading - n })
          if m.reading ≤ n then s1.cmdDone c q seq 0 0 else s1
        else s.cmdDone c q seq 0x4 0

/-! ### DMA movers (R43) -/

/-- A mover makes n bytes of a transfer. -/
def Dev.xferStep (s : Dev) (x : Xfer) (n : Nat) : Dev :=
  if x.toHost then (match x.why with | .nvm c q m => s.nvmOut c q m x.off n | _ => s) else s.readHost x.fn x.off n x.segs x.why

/-- Part of a transfer that a mover may make in this tick is made, and the rest waits in its place (R43). -/
def Dev.moverIssue (s : Dev) (d : Nat) (x : Xfer) (before' after' : List Xfer) : Dev :=
  let n := min x.bytes (16384 - s.movedNow d)
  let rest := if n = x.bytes then [] else [{ x with off := x.off + n, bytes := x.bytes - n }]
  (s.setMover d { tick := s.tick, moved := s.movedNow d + n, waits := before' ++ rest ++ after' }).xferStep x n

/-- A transfer by drawer d's mover (R43): made, up to 16 KiB in a tick, unless transfers wait already. -/
def Dev.moverTake (s : Dev) (d : Nat) (x : Xfer) : Dev :=
  let m := s.mover d
  if m.waits.isEmpty && decide (s.movedNow d < 16384) then s.moverIssue d x [] [] else s.setMover d { m with waits := m.waits ++ [x] }

/-- A read of host segments by drawer d's mover for a class (R43). -/
def Dev.moverRead (s : Dev) (d cls n : Nat) (segs : List (Nat × Nat)) (why : ReqFor) : Dev :=
  s.moverTake d { cls := cls, fn := n, segs := segs, off := 0, bytes := segs.foldl (fun a g => a + g.2) 0, why := why }

/-- The place of the waiting transfer of the lowest class, oldest first (R43). -/
def Mover.pick (m : Mover) : Option Nat :=
  ((List.range 4).filterMap (fun c => m.waits.findIdx? (fun x => x.cls == c))).head?

/-- The place of the waiting transfer that drawer d's mover takes (R43): none where a frame for a host of a lower class waits for it too. -/
def Dev.moverPick (s : Dev) (d : Nat) : Option Nat :=
  (s.mover d).pick.filter (fun i => ((s.mover d).waits[i]?).any (fun x => (s.framesFor d).all (fun y => decide (x.cls ≤ y.f.p.cls))))

/-- DMA_MOVER_RESUME: a mover with room in this tick takes the waiting transfer of lowest class (R43). -/
def Dev.moverResume (s : Dev) (d : Nat) : Dev :=
  let m := s.mover d
  match s.moverPick d with
  | none => s
  | some i =>
    match m.waits[i]? with
    | none => s
    | some x => s.moverIssue d x (m.waits.take i) (m.waits.drop (i + 1))

/-- DMA_MOVER_RESUME (R43). -/
def execDmaMoverResume (d : Nat) (s : State) : Res :=
  onMainIf s (s.inService d && decide (s.movedNow d < 16384) && (s.moverPick d).isSome) (fun s => s.moverResume d)

/-- A read whose data are all there is checked and decrypted, and the mover of its home drawer writes them to the host (R43, R305, R328;
log entry 131: DEDUCED, unsafe). -/
def Dev.readDone (s : Dev) (c q : Nat) (m : NvmCmd) : Dev :=
  match s.readBytes m with
  | .error st => s.cmdDone c q m.seq st 0
  | .ok bs =>
    (s.updCmd c q m.seq (fun y => { y with reading := bs.length })).moverTake (s.obj Obj.BUCKET_HOME (bucketOf (s.pairHash c q)))
      { cls := 0, fn := s.ctrlFn c, off := 0, bytes := bs.length, why := .nvm c q m.seq, toHost := true }

/-- A started command whose operations have all ended completes (R312, R318). -/
def Dev.cmdEnd (s : Dev) (c q seq : Nat) : Dev :=
  match s.cmdBy? c q seq with
  | none => s
  | some m =>
    if m.final || !m.started || m.unknown || !m.ended || m.reading != 0 then s
    else if pieceStatus m ≠ 0 then s.cmdDone c q seq (pieceStatus m) 0
    else if m.opcode = 2 then s.readDone c q m
    else s.cmdDone c q seq 0 0

/-- A Flush goes to the backends still to be flushed that are LIVE, or waits for one that is not (R311, R318). -/
def Dev.issueFlush (s : Dev) (c q : Nat) (m : NvmCmd) : Dev :=
  if !s.forwards then s
  else
    let s1 := m.toFlush.foldl (fun t b =>
      if t.live b then
        ((t.updCmd c q m.seq (fun y =>
          { y with toFlush := y.toFlush.filter (fun z => z != b), flushing := y.flushing ++ [b], flushTick := y.flushTick.or (some t.tick) })).spend
          c q m.cid).emit (.backend b (.flush c q m.seq) 0 0 0 false [])
      else t) s
    if m.toFlush.all s.live then s1.updCmd c q m.seq (fun y => { y with held := none }) else s1.hold c q m.seq

/-- What one outstanding command can do now: one whose key can be used no more issues nothing further (R351). -/
def Dev.pumpCmd (s : Dev) (c q seq : Nat) : Dev :=
  match s.cmdBy? c q seq with
  | none => s
  | some m =>
    if m.final || !m.started then s
    else if m.opcode = 0 then s.issueFlush c q m
    else if m.pieces.any (fun p => p.issued.isNone) && s.keyBad (m.nsid - 1) then s.cmdDone c q m.seq 0x6 0
    else
      let s1 := (List.range m.pieces.length).foldl (fun t j =>
        match t.sq? c q, t.cmdBy? c q seq with
        | some x, some y => (match y.pieces[j]? with | some p => if t.pieceReady x y p then t.issuePiece c q y j p else t | none => t)
        | _, _ => t) s
      s1.cmdEnd c q seq

/-- A submission queue being deleted that has no command left is gone, and the command that deletes it completes. -/
def Dev.sqGone (s : Dev) (c q : Nat) : Dev :=
  match s.sq? c q with
  | some x =>
    if x.st = 3 ∧ x.cmds.isEmpty = true then
      let k := s.ctrl c
      let s1 := s.setCtrl c { k with sqs := Tab.del k.sqs q }
      match x.thaw with
      | some (_, cid) => (match s1.cmd? c 0 cid with | some m => s1.cmdDone c 0 m.seq 0 0 | none => s1)
      | none => s1
    else s
  | none => s

/-- Whether a write-class piece with an intent has not ended on every side: it waits, is in flight, or is unknown and unsettled (R431). -/
def Dev.intentLive (s : Dev) (id : Nat) : Bool :=
  let here (m : NvmCmd) (p : Piece) : Bool :=
    p.intent.map Prod.fst == some id && ((p.issued.isNone && !m.final) || p.pri == .inFlight || p.sec == .inFlight)
  s.storage.ctrls.any (fun c => c.2.sqs.any (fun q => q.2.cmds.any (fun m => m.pieces.any (here m)))) ||
    s.storage.unsettled.any (fun u => u.intent == some id) ||
    s.twin.sent.any (fun x => match x.2 with | .piece _ _ _ _ i => i == id | _ => false)

/-- The active retires the intents of pieces that have ended on every side (R431). -/
def Dev.retireIntents (s : Dev) : Dev :=
  if s.obj Obj.ROLE ≠ 1 then s
  else
    let gone := s.twin.intents.filter (fun x => !s.intentLive x.id)
    let s1 := { s with twin := { s.twin with intents := s.twin.intents.filter (fun x => s.intentLive x.id) } }
    if s.mirrors then gone.foldl (fun t x => t.mirror (.retire x.id)) s1 else s1

/-- Everything that waits in the storage front end and can now go on does, for each controller, queue and command in the order of
their numbers and of fetch; intent writes due wait for the end of the tick. -/
def Dev.pump (s : Dev) : Dev :=
  let work (t : Dev) : List (Nat × Nat × Nat) :=
    t.storage.ctrls.flatMap (fun c => c.2.sqs.flatMap (fun q => q.2.cmds.map (fun m => (c.1, q.1, m.seq))))
  let s1 := (work s).foldl (fun t w => t.pumpCmd w.1 w.2.1 w.2.2) s
  let qs := s1.storage.ctrls.flatMap (fun c => c.2.sqs.map (fun q => (c.1, q.1)))
  (qs.foldl (fun t w => t.sqGone w.1 w.2) s1).retireIntents

/-- Backend I/O starts or goes on (R439): operations of the device itself that wait for it are sent. -/
def Dev.resumeIo (s : Dev) : Dev :=
  let wait := s.storage.own.filter (fun o => !o.live)
  let s1 := s.updSto (fun g => { g with own := g.own.filter (fun o => o.live) })
  (wait.foldl Dev.ownSend s1).pump

/-- The parts of a block range of namespace i, one for each extent (R312, R316): at most k of them. -/
def Dev.split (s : Dev) (i : Nat) : Nat → Nat → Nat → List Piece
  | 0, _, _ => []
  | k + 1, a, n =>
    if n = 0 then []
    else
      let per := s.perExtent i
      let m := min n (per - a % per)
      { slot := s.obj Obj.EXTENT_BASE i + a / per, slba := a, blocks := m } :: s.split i k (a + m) (n - m)

/-- Host data of an NVMe command have arrived at an offset; when all are there, they are held, checked, and its pieces go out (R305,
R328). -/
def Dev.nvmData (s : Dev) (c q seq off : Nat) (bs : List Nat) : Dev :=
  match s.cmdBy? c q seq with
  | none => s
  | some m0 =>
    if m0.final || m0.reading == 0 then s
    else
      let s1 := s.updCmd c q seq (fun y => { y with parts := Tab.ins y.parts off bs, reading := y.reading - bs.length })
      match s1.cmdBy? c q seq with
      | none => s1
      | some m =>
        if m.reading ≠ 0 then s1
        else
          let i := m.nsid - 1
          let data := m.parts.flatMap Prod.snd
          let s2 := (s1.setChainData m.chain data).updCmd c q seq (fun y => { y with parts := [] })
          let type := match s.ns? i with | some x => x.piType | none => 0
          let ext := match s.ns? i with | some x => x.extended | none => false
          let bl := hostBlocks (s.dataSize i) (s.metaSize i) ext false m.blocks data
          let bad := if type ≠ 0 ∧ s.metaSize i = 8 ∧ (piOf m.sqe).pract = false then
            (bl.zipIdx.map (fun e => (piOf m.sqe).fails type e.2 e.1)).find? (fun v => v != 0) else none
          match bad with
          | some st => s2.cmdDone c q seq st 0
          | none => s2.pump

/-- A host read of an NVMe command failed: Data Transfer Error, and no backend sees the command (R305). -/
def Dev.nvmDataFail (s : Dev) (c q seq : Nat) : Dev := (s.cmdDone c q seq 0x4 0).pump

/-- The linger time of a slot's intent bit starts again, if the bit is set (R314). -/
def Dev.lingers (s : Dev) (x : Nat) : Dev :=
  if (Tab.get? s.storage.intents x).isSome then s.updSto (fun g => { g with intents := Tab.ins g.intents x s.tick }) else s

/-- The primary or secondary side of a piece has ended (R312). -/
def Dev.sideEnd (s : Dev) (c q seq j : Nat) (sec : Bool) (r : Side) : Dev :=
  match s.cmdBy? c q seq with
  | none => s
  | some m =>
    match m.pieces[j]? with
    | none => s
    | some p =>
      let p1 := if sec then { p with sec := r } else { p with pri := r }
      let s1 := s.updCmd c q seq (fun y => { y with pieces := updPiece y.pieces j (fun _ => p1) })
      if !p1.mirrored || !writeClass m.opcode || p1.pri == .inFlight || p1.sec == .inFlight then s1
      else
        let s2 := s1.lingers p1.slot
        match p1.pri, p1.sec with
        | .ok, .ok => s2
        | .ok, _ => s2.stale p1.slot
        | .failed _, .failed _ => s2
        | .failed _, _ => s2.stale p1.slot
        | _, _ => s2

/-- The 16-bit class-and-code status of a backend's answer. -/
def sideOf (status : Nat) : Side := if status = 0 then .ok else .failed (status % 32768)

end Sys2Proof.Machine
end

