-- ==== Sys2Proof/Machine/NvmData.lean ====
section
/-! DEFINITION. Where the data of an NVMe command lie in the host (R300, R301, R305): PRP entries and lists, and SGL descriptors and segments, in
the layout of the NVMe standard (log entry 173: PRESUMED, unsafe). -/
namespace Sys2Proof.Machine

/-- Where data lie: the tables of the host that were read to find out, and the segments, or the status that refuses them. -/
structure HostData where
  tables : List (Nat × Nat)
  segs : Except Nat (List (Nat × Nat))

/-- Walk PRP lists from the one at addr, for the pages of `rest` bytes, with the entries that the lists hold in turn: the lists read, and the
pages; at most k lists. The last entry of a list that has more after it names the next list. -/
def prpWalk (page : Nat) : Nat → Nat → Nat → List Nat → List (Nat × Nat) × List (Nat × Nat)
  | 0, _, _, _ => ([], [])
  | k + 1, addr, rest, ws =>
    let room := (page - addr % page) / 8
    let need := ceilDiv rest page
    if need ≤ room then ([(addr, 8 * need)], ((ws.take need).zipIdx.map (fun e => (e.1, min page (rest - page * e.2)))))
    else
      let n := room - 1
      let r := prpWalk page k (nth ws n) (rest - n * page) (ws.drop room)
      ((addr, 8 * room) :: r.1, (ws.take n).map (fun a => (a, page)) ++ r.2)

/-- Data described by PRPs: PRP2 is the second page, or the first list. Only the first page has an offset. -/
def prpData (page p1 p2 len : Nat) (ws : List Nat) : HostData :=
  let first := min len (page - p1 % page)
  let rest := len - first
  let (tables, more) := if rest = 0 then ([], []) else if rest ≤ page then ([], [(p2, rest)]) else prpWalk page (rest / page / 256 + 4) p2 rest ws
  { tables := tables
    segs := if p1 % 4 ≠ 0 ∨ more.any (fun g => g.1 % page != 0) = true ∨ tables.any (fun t => t.1 % 8 != 0) = true then .error 0x13 else .ok ((p1, first) :: more) }

/-- Walk SGL descriptors from one: a Data Block, or a Segment or Last Segment, whose descriptors the host holds in turn; at most k segments. Any
other descriptor type is refused: keyed and bit bucket descriptors are not supported (R300). -/
def sglWalk : Nat → Nat → List Nat → HostData
  | 0, _, _ => { tables := [], segs := .error 0xD }
  | k + 1, d, ws =>
    let type := bits d 127 120
    let addr := bits d 63 0
    let len := bits d 95 64
    if type = 0 then { tables := [], segs := .ok [(addr, len)] }
    else if type ≠ 0x20 ∧ type ≠ 0x30 then { tables := [], segs := .error 0x11 }
    else if len = 0 ∨ len % 16 ≠ 0 then { tables := [], segs := .error 0xD }
    else
      let n := len / 16
      let more := type = 0x20 && (bits (nth ws (n - 1)) 127 124 == 2 || bits (nth ws (n - 1)) 127 124 == 3)
      let m := if more then n - 1 else n
      let body := ws.take m
      let odd := body.find? (fun e => bits e 127 120 != 0)
      let here := body.map (fun e => (bits e 63 0, bits e 95 64))
      let rest := if more then sglWalk k (nth ws (n - 1)) (ws.drop n) else { tables := [], segs := .ok [] }
      { tables := (addr, len) :: rest.tables
        segs := match odd with
          | some e => .error (if bits e 127 120 = 0x20 ∨ bits e 127 120 = 0x30 then 0xD else 0x11)
          | none => (match rest.segs with | .ok gs => .ok (here ++ gs) | .error st => .error st) }

/-- Where `len` bytes of data of a command lie: by PRPs, or, for an I/O command, by SGL descriptors whose lengths sum to it (R305). -/
def hostData (page sqe len : Nat) (admin : Bool) (ws : List Nat) : HostData :=
  let psdt := bits (dw sqe 0) 15 14
  if psdt = 0 then prpData page (dw sqe 6 + dw sqe 7 * 2 ^ 32) (dw sqe 8 + dw sqe 9 * 2 ^ 32) len ws
  else if psdt = 1 ∧ admin = false then
    let r := sglWalk 256 (sqe / 2 ^ 192 % 2 ^ 128) ws
    { r with segs := match r.segs with | .ok gs => if gs.foldl (fun a g => a + g.2) 0 = len then .ok gs else .error 0xF | e => e }
  else { tables := [], segs := .error 0x2 }

/-- The memory page size of controller c: CC.MPS (R301). -/
def Dev.pageSize (s : Dev) (c : Nat) : Nat := 4096 * 2 ^ bits (s.ctrl c).cc 10 7

/-- Where the data of `len` bytes of a command of controller c lie, and, after them, `sep` bytes of separate metadata at its metadata
pointer. -/
def Dev.dataAt (s : Dev) (c : Nat) (m : NvmCmd) (len sep : Nat) (admin : Bool) (ws : List Nat) : HostData :=
  let r := hostData (s.pageSize c) m.sqe len admin ws
  { r with segs := match r.segs with | .ok gs => .ok (gs ++ (if sep = 0 then [] else [(dw m.sqe 4 + dw m.sqe 5 * 2 ^ 32, sep)])) | e => e }

/-- The data of a command that takes them whole are read as its tables are. -/
def HostData.taken (d : HostData) : HostData := { d with tables := d.tables ++ (match d.segs with | .ok gs => gs | .error _ => []) }

/-- A command's tables are read with tags of their own (R240), and then it goes on with its segments, or ends with the status that refuses
them. Without what the tables hold, the reads are only issued. -/
def Dev.withData (s : Dev) (c q : Nat) (m : NvmCmd) (d : HostData) (come : Bool) (f : List (Nat × Nat) → Dev → Dev) : Dev :=
  s.onReads (s.ctrlFn c) d.tables (.nvmList c q m.seq) come (fun t =>
    match d.segs with | .ok gs => f gs t | .error st => t.cmdDone c q m.seq st 0)

end Sys2Proof.Machine
end

