-- ==== Sys2Proof/Machine/Scheduler.lean ====
section
/-! DEFINITION. Scheduling, shaping and policing (chapter 09): the tree, selection, credit, calendars, enqueue, policers, sampling,
and the edge work of R206, R208, R214 and R217. -/
namespace Sys2Proof.Machine

/-! ### The tree (R197, R198) -/

/-- The first tenant's N. -/
abbrev tenantBase : Nat := 262144
/-- The first class group's N. -/
abbrev groupBase : Nat := 278528
/-- The first port's N. -/
abbrev portBase : Nat := 279552

/-- The level of node N: 0 leaf, 1 tenant, 2 class group, 3 port (R198). -/
def nodeLevel (n : Nat) : Nat := if n < tenantBase then 0 else if n < groupBase then 1 else if n < portBase then 2 else 3

/-- Whether port node P exists in the part (R197). -/
def portExists (p : Part) (P : Nat) : Bool :=
  decide (P < p.ports) || decide (32 ≤ P ∧ P < 32 + p.links) || decide (40 ≤ P ∧ P ≤ 47)

/-- Whether N is a node of the part (R198, R4). -/
def nodeExists (p : Part) (n : Nat) : Bool := decide (n < portBase) || (decide (n ≤ 279599) && portExists p (n - portBase))

/-- The parent of a node, when PARENT names a node of the next level (R199). -/
def Dev.parent? (s : Dev) (n : Nat) : Option Nat :=
  let q := s.obj Obj.PARENT n
  if nodeLevel n < 3 ∧ nodeExists s.part q ∧ nodeLevel q = nodeLevel n + 1 then some q else none

/-- The ancestors of a node, nearest first, at most k of them. -/
def Dev.ancestors (s : Dev) : Nat → Nat → List Nat
  | 0, _ => []
  | k + 1, n => match s.parent? n with | some q => q :: s.ancestors k q | none => []

/-- The port P that transmits a leaf's frames, if its chain of parents reaches one (R197). -/
def Dev.leafPort? (s : Dev) (q : Nat) : Option Nat :=
  match (s.ancestors 3 q).getLast? with
  | some n => if portBase ≤ n then some (n - portBase) else none
  | none => none

/-- The children of a node, ascending (R202). -/
def Dev.children (s : Dev) (n : Nat) : List Nat :=
  (s.objs.filter (fun e => e.1 / 2 ^ 32 == Obj.PARENT && e.2 == n)).map (fun e => e.1 % 2 ^ 32)
    |>.filter (fun c => s.parent? c == some n)

/-- A leaf's record. -/
def Dev.leaf (s : Dev) (q : Nat) : Leaf := Tab.getD s.sched.leaves q {}

/-- A node's record. -/
def Dev.node (s : Dev) (n : Nat) : Node := Tab.getD s.sched.nodes n {}

/-- The state with a leaf's record replaced. -/
def Dev.setLeaf (s : Dev) (q : Nat) (l : Leaf) : Dev :=
  { s with sched := { s.sched with leaves := Tab.put {} s.sched.leaves q l } }

/-- The state with a node's record replaced. -/
def Dev.setNode (s : Dev) (n : Nat) (x : Node) : Dev :=
  { s with sched := { s.sched with nodes := Tab.put {} s.sched.nodes n x } }

/-- The bytes queued on a leaf: its depth (R203). -/
def Leaf.depth (l : Leaf) : Nat := l.frames.foldl (fun a f => a + f.len) 0

/-! ### Credit (R205, R206) -/

/-- Whether a node is shaped (R205). -/
def Dev.shaped (s : Dev) (n : Nat) : Bool := s.flag Obj.SHAPE_EN n

/-- INC of a node: round(RATE × 64 × 2^24 ÷ 10^9) (R205). -/
def Dev.inc (s : Dev) (n : Nat) : Nat := (s.obj Obj.RATE n * 64 * 2 ^ 24 + 500000000) / 1000000000

/-- The credit cap of a node, in units: the larger of BURST bytes and INC (R205). -/
def Dev.cap (s : Dev) (n : Nat) : Nat := max (s.obj Obj.BURST n * 2 ^ 24) (s.inc n)

/-- Whether a node is eligible in this tick (R205, R206). -/
def Dev.eligible (s : Dev) (n : Nat) : Bool := !s.shaped n || (s.node n).elig

/-- The calendar entry for next eligible tick T made in tick t (R208). -/
def calEntry (t T : Nat) : CalEntry :=
  if T ≤ t + 4096 then { due := T, fine := true, slot := T % 4096 }
  else if T / 4096 ≤ t / 4096 + 4095 then { due := T, fine := false, slot := T / 4096 % 4096 }
  else { due := T, fine := false, slot := (t / 4096 + 4095) % 4096 }

/-- Step 4's credit for one shaped node (R206). -/
def Dev.creditOne (s : Dev) (n : Nat) : Dev :=
  let x := s.node n
  let c := min (s.cap n : Int) (x.credit + s.inc n)
  s.setNode n { x with credit := c, elig := decide (0 < c) }

/-- The shaped nodes: those whose SHAPE_EN is 1. -/
def Dev.shapedNodes (s : Dev) : List Nat :=
  (s.objs.filter (fun e => e.1 / 2 ^ 32 == Obj.SHAPE_EN && e.2 == 1)).map (fun e => e.1 % 2 ^ 32)

/-- SHAPER_CREDIT: step 4 adds credit to every shaped node (R206). -/
def Dev.shaperCredit (s : Dev) : Dev := s.shapedNodes.foldl Dev.creditOne s

/-- A dequeue of charged length L through node n (R206, R208): its credit falls, and at 0 or less it becomes ineligible and enters a
calendar for t + ⌊−C ÷ INC⌋ + 1. -/
def Dev.chargeNode (s : Dev) (L : Int) (n : Nat) : Dev :=
  if s.shaped n then
    let x := s.node n
    let c := x.credit - L * 2 ^ 24
    if c ≤ 0 then
      let k := (-c).toNat / max 1 (s.inc n) + 1
      s.setNode n { x with credit := c, elig := false, cal := some (calEntry s.tick (s.tick + k)) }
    else s.setNode n { x with credit := c }
  else s

/-- COARSE_SLOT_EMPTY: at an edge e with e mod 4,096 = 0, the coarse slot of e's block goes to the fine wheel, or is entered again for
T where T is not in this block (R208). -/
def Dev.coarseEmpty (s : Dev) : Dev :=
  if s.tick % 4096 = 0 then
    let slot := s.tick / 4096 % 4096
    let ns := s.sched.nodes.map (fun e =>
      match e.2.cal with
      | some c =>
        if !c.fine && c.slot == slot then
          if c.due < s.tick + 4096 then (e.1, { e.2 with cal := some { due := c.due, fine := true, slot := c.due % 4096 } })
          else (e.1, { e.2 with cal := some (calEntry s.tick c.due) })
        else e
      | none => e)
    { s with sched := { s.sched with nodes := ns } }
  else s

/-- CALENDAR_SLOT_OPEN: fine slot T opens at edge T; its entries leave the wheel, and their nodes are eligible as step 4's credit
leaves them (R206, R208). -/
def Dev.calendarOpen (s : Dev) : Dev :=
  let ns := s.sched.nodes.map (fun e =>
    match e.2.cal with
    | some c =>
      if c.fine && c.slot == s.tick % 4096 && decide (c.due ≤ s.tick) then (e.1, { e.2 with cal := none, elig := decide (0 < e.2.credit) }) else e
    | none => e)
  { s with sched := { s.sched with nodes := ns } }

/-- SHAPER_RELOAD: step 2's reload of a node whose SHAPE_EN, RATE or BURST a commit changed (R209). -/
def Dev.shaperReload (s : Dev) (n : Nat) : Dev :=
  let full := s.flag Obj.RELOAD n || s.obj Obj.COMPAT_LEVEL == 7
  let x := s.node n
  s.setNode n { x with credit := if full then s.cap n else 0, cal := none, elig := if s.shaped n then x.elig else true }

/-! ### Policers (R214 to R216) -/

/-- A bucket of policer i: 0 committed, 1 peak or excess, in 2^-24 byte. -/
def Dev.tokens (s : Dev) (i b : Nat) : Nat := Tab.getD s.sched.tokens (2 * i + b) 0

/-- The state with a policer's buckets replaced. -/
def Dev.setTokens (s : Dev) (i c e : Nat) : Dev :=
  { s with sched := { s.sched with tokens := Tab.put 0 (Tab.put 0 s.sched.tokens (2 * i) c) (2 * i + 1) e } }

/-- The tokens a rate of R kb/s adds in one tick, in 2^-24 byte: R × 0.000064 bytes, rounded (R214; log entry 13: DESIGN CHOICE, unsafe). -/
def tokenInc (r : Nat) : Nat := (r * 64 * 2 ^ 24 + 500000) / 1000000

/-- The policer record's fields (R214). -/
structure PolicerRec where
  cir : Nat
  pir : Nat
  cbs : Nat
  ebs : Nat
  next : Nat
  overhead : Int
  cmap : Nat
  csrc : Nat
  redDrop : Bool
  mode : Nat
  deriving DecidableEq, Repr

/-- A policer record read from its object (R214). -/
def policerRec (v : Nat) : PolicerRec :=
  { cir := bits v 191 160, pir := bits v 159 128, cbs := bits v 127 104, ebs := bits v 103 80, next := bits v 79 64,
    overhead := toSigned 8 (bits v 63 56), cmap := bits v 47 44, csrc := bits v 43 41, redDrop := bit v 40,
    mode := bits v 33 32 }

/-- Step 4's tokens for policer i (R214). -/
def Dev.policerAdd (s : Dev) (i : Nat) : Dev :=
  let r := policerRec (s.obj Obj.POLICER i)
  let cap0 := r.cbs * 2 ^ 24
  let cap1 := r.ebs * 2 ^ 24
  let c := s.tokens i 0
  let e := s.tokens i 1
  if r.mode = 1 then
    let c' := min cap0 (c + tokenInc r.cir)
    let spill := c + tokenInc r.cir - c'
    s.setTokens i c' (min cap1 (e + spill))
  else if r.mode = 0 then s
  else s.setTokens i (min cap0 (c + tokenInc r.cir)) (min cap1 (e + tokenInc r.pir))

/-- The policers whose record is not all zero. -/
def Dev.policers (s : Dev) : List Nat :=
  (s.objs.filter (fun e => e.1 / 2 ^ 32 == Obj.POLICER)).map (fun e => e.1 % 2 ^ 32)

/-- POLICER_TOKENS: step 4 adds tokens to every policer's buckets (R214). -/
def Dev.policerTokens (s : Dev) : Dev := s.policers.foldl Dev.policerAdd s

/-- A commit that changes a policer's record fills both its buckets (R214). -/
def Dev.policerFill (s : Dev) (i : Nat) : Dev :=
  let r := policerRec (s.obj Obj.POLICER i)
  s.setTokens i (r.cbs * 2 ^ 24) (r.ebs * 2 ^ 24)

/-- The colour a meter of B units gives with an incoming colour, and the buckets after it (R214: RFC 2697, 2698 and 4115). -/
def meter (mode inc B c e : Nat) : Nat × Nat × Nat :=
  match mode with
  | 1 | 3 =>
    if inc = 0 ∧ B ≤ c then (0, c - B, e) else if inc ≤ 1 ∧ B ≤ e then (1, c, e - B) else (2, c, e)
  | 2 =>
    if inc = 2 ∨ e < B then (2, c, e) else if inc = 1 ∨ c < B then (1, c, e - B) else (0, c - B, e - B)
  | _ => (inc, c, e)

/-- The incoming colour of a policer for a parcel (R215, R216); `prev` is the previous policer's result. -/
def Dev.inColour (s : Dev) (r : PolicerRec) (p : Parcel) (data : List Nat) (prev : Nat) : Nat :=
  let entry (x : Nat) : Nat := bits (s.obj Obj.COLOR_MAP r.cmap) (2 * x + 1) (2 * x)
  match r.csrc with
  | 1 => entry p.cls
  | 2 => prev
  | 3 => match outerTos data with | some t => entry (t / 4) | none => 0
  | 4 => match outerPcpDei data with | some x => entry x | none => 0
  | _ => 0

/-- A policer chain from policer i, at most `fuel` policers: whether the parcel is dropped, and its colour (R216). -/
def Dev.police (s : Dev) (p : Parcel) (len : Nat) (data : List Nat) : Nat → Nat → Nat → (Bool × Nat) × Dev
  | 0, _, prev => ((false, prev), s.bump Obj.CHAIN_CUT)
  | fuel + 1, i, prev =>
    let r := policerRec (s.obj Obj.POLICER i)
    let B := ((len : Int) + r.overhead).toNat * 2 ^ 24
    let (col, c, e) := meter r.mode (s.inColour r p data prev) B (s.tokens i 0) (s.tokens i 1)
    let s1 := if r.mode = 0 then s else s.setTokens i c e
    let fr := match col with | 0 => Obj.GREEN_FRAMES | 1 => Obj.YELLOW_FRAMES | _ => Obj.RED_FRAMES
    let s2 := (s1.bump fr i).addObj (fr + 1) i len
    if col = 2 ∧ r.redDrop = true then ((true, 2), s2)
    else if r.next = 0xFFFF then ((false, col), s2)
    else s2.police p len data fuel r.next col

/-! ### Enqueue (R210, R211) -/

/-- A WRED threshold field for colour c: MIN and MAX in bytes, PMAX (R211). -/
def wredFor (v c : Nat) : Nat × Nat × Nat :=
  match c with
  | 0 => (bits v 47 32 * 1024, bits v 63 48 * 1024, bits v 15 8)
  | 1 => (bits v 79 64 * 1024, bits v 95 80 * 1024, bits v 23 16)
  | _ => (bits v 111 96 * 1024, bits v 127 112 * 1024, bits v 31 24)

/-- The drop probability times 65,536 (R211). -/
def wredProb (avg : Rat) (w : Nat × Nat × Nat) : Rat :=
  if avg < w.1 then 0
  else if avg < w.2.1 then (w.2.2 : Rat) * 256 * (avg - w.1) / ((w.2.1 : Rat) - w.1)
  else 65536

/-- What WRED decides for a copy: pass, mark CE, or drop (R211). -/
inductive WredOut where
  | pass | mark | drop
  deriving DecidableEq, Repr

/-- WRED on leaf q for a copy of colour c (R211): the leaf's average is updated, and a free value is drawn. -/
def Dev.wred (s : Dev) (q c : Nat) (data : List Nat) : WredOut × Dev :=
  let w := s.obj Obj.WRED_PROFILE q
  let v := s.obj Obj.WRED w
  if w = 0xFFFF ∨ bit v 0 = false then (.pass, s)
  else
    let l := s.leaf q
    let avg := l.avg + ((l.depth : Rat) - l.avg) / 2 ^ bits v 7 4
    let t := wredFor v c
    let (u, s1) := (s.setLeaf q { l with avg := avg }).fresh
    if ((u % 65536 : Nat) : Rat) < wredProb avg t then
      let ect := match outerTos data with | some x => x % 4 != 0 | none => false
      if bit v 1 && decide (avg < t.2.1) && ect then (.mark, s1) else (.drop, s1)
    else (.pass, s1)

/-- One copy of a released parcel at its leaf, policing done (R210 steps 1 and 3 to 6). A dropped copy is released by its holder. -/
def Dev.enqueueCopy (s : Dev) (q : Nat) (f : QFrame) : Dev :=
  if !s.flag Obj.ENABLE_7008 q then (s.bump Obj.DISABLED_DROPS q).releaseCopy f
  else if f.colour = 3 then (s.bump Obj.POLICE_DROPS q).releaseCopy f
  else if f.chain ≠ nullHandle ∧ s.shelfLow (shelfOf f.chain) = true ∧ ¬ (f.colour = 0 ∧ s.flag Obj.LOW_PROTECT q = true) then
    (s.bump Obj.LOW_DROPS q).releaseCopy f
  else if s.obj Obj.QMAX q < (s.leaf q).depth + f.len then (s.bump Obj.TAIL_DROPS q).releaseCopy f
  else
    match s.wred q f.colour (f.data.getD (s.chainData f.chain)) with
    | (.drop, s1) => (s1.bump Obj.WRED_DROPS q).releaseCopy f
    | (o, s1) =>
      let s2 := if o = .mark then s1.bump Obj.ECN_MARKS q else s1
      let l := s2.leaf q
      let g := { f with tick := s.tick, ce := f.ce || o == .mark }
      ((s2.setLeaf q { l with frames := l.frames ++ [g] }).bump Obj.ENQ_FRAMES q).addObj Obj.ENQ_BYTES q f.len

/-- The owner id that holds a copy on a leaf's port (R190): the Ethernet port, the destination function of a host-link leaf, the twin
link, or the rack for a loopback port. -/
def Dev.holderOf (s : Dev) (q : Nat) : Nat :=
  match s.leafPort? q with
  | some P =>
    if P < 32 then ownerPort P
    else if P < 40 then ownerFunction (s.obj Obj.NODE_FUNCTION q)
    else if P = 40 then ownerTwin
    else ownerRack
  | none => ownerRack

/-! ### Selection (R202, R203) -/

/-- Whether a node and every ancestor are enabled (R199). -/
def Dev.enabledPath (s : Dev) (n : Nat) : Bool :=
  s.flag Obj.ENABLE_7008 n && (s.ancestors 3 n).all (fun a => s.flag Obj.ENABLE_7008 a)

/-- Whether the class group is excluded by pause on its port (R213). -/
def Dev.excludedGroup (s : Dev) (n : Nat) : Bool :=
  match s.parent? n with
  | some q => decide (portBase ≤ q) && s.sched.excluded.contains (8 * (q - portBase) + s.obj Obj.CG_PFC_PRIO (n - groupBase))
  | none => false

/-- Whether a child is selectable (R202); `k` bounds the levels below it. -/
def Dev.selectable (s : Dev) : Nat → Nat → Bool
  | 0, _ => false
  | k + 1, n =>
    s.flag Obj.ENABLE_7008 n && s.eligible n &&
      (match nodeLevel n with
       | 0 => !(s.leaf n).frames.isEmpty && !s.sched.blocked.contains n
       | 2 => !s.excludedGroup n && (s.children n).any (s.selectable k)
       | _ => (s.children n).any (s.selectable k))

/-- Whether any leaf at or below a node has backlog; `k` bounds the levels. -/
def Dev.backlogged (s : Dev) : Nat → Nat → Bool
  | 0, _ => false
  | k + 1, n => if nodeLevel n = 0 then !(s.leaf n).frames.isEmpty else (s.children n).any (s.backlogged k)

/-- The element after h in a ring in ascending order, cyclically. -/
def ringNext (ring : List Nat) (h : Nat) : Nat := (ring.find? (fun n => decide (h < n))).getD (ring.headD h)

/-- Deficit round robin in one ring (R202): from the head, advancing and adding WEIGHT × 64 to each new head, until the head is
selectable with a positive deficit. -/
def Dev.ringPick (s : Dev) (ring : List Nat) (sel : Nat → Bool) : Nat → Nat → Nat × Dev
  | 0, h => (h, s)
  | fuel + 1, h =>
    let x := s.node h
    if ring.contains h && sel h && decide (0 < x.deficit) then (h, s)
    else
      let g := ringNext ring h
      let y := s.node g
      (s.setNode g { y with deficit := y.deficit + (s.obj Obj.WEIGHT g * 64 : Nat) }).ringPick ring sel fuel g

/-- The steps a ring may need: every deficit can be made positive, one WEIGHT × 64 a round. -/
def Dev.ringFuel (s : Dev) (ring : List Nat) : Nat :=
  (ring.foldl (fun m n => max m ((-(s.node n).deficit).toNat / 64)) 0 + 3) * (ring.length + 1)

/-- The child served at a node, by strict priority and then by the ring (R202). -/
def Dev.pickChild (s : Dev) (k n : Nat) : Option (Nat × Dev) :=
  let cs := s.children n
  let sel := s.selectable k
  match [0, 1, 2, 3, 4, 5, 6, 7].find? (fun pr => cs.any (fun c => s.obj Obj.PRIO c == pr && sel c)) with
  | none => none
  | some pr =>
    let ring := cs.filter (fun c => s.obj Obj.PRIO c == pr)
    let key := 8 * n + pr
    let start : Nat × Dev := match Tab.get? s.sched.rings key with
      | some h => (h, s)
      | none =>
        let g := ring.headD 0
        let y := s.node g
        (g, s.setNode g { y with deficit := y.deficit + (s.obj Obj.WEIGHT g * 64 : Nat) })
    let (c, s1) := start.2.ringPick ring sel (start.2.ringFuel ring) start.1
    some (c, { s1 with sched := { s1.sched with rings := Tab.ins s1.sched.rings key c } })

/-- The leaf chosen at port P: class group, then tenant, then leaf (R202). -/
def Dev.selectLeaf (s : Dev) (P : Nat) : Option (Nat × Dev) := do
  let n := portBase + P
  if s.flag Obj.ENABLE_7008 n && s.eligible n then
    let (g, s1) ← s.pickChild 3 n
    let (t, s2) ← s1.pickChild 2 g
    s2.pickChild 1 t
  else none

/-- A child that has lost its backlog has its deficit cut to at most 0 (R202). -/
def Dev.deficitLoss (s : Dev) (n : Nat) : Dev :=
  if s.backlogged 4 n then s
  else
    let x := s.node n
    s.setNode n { x with deficit := min x.deficit 0 }

/-- FLUSH: every frame queued on a leaf is dropped and counted (R212); the leaf, and what above it has no backlog left, loses its deficit
(R202). -/
def Dev.flushLeaf (s : Dev) (q : Nat) : Dev :=
  let l := s.leaf q
  let s1 := (s.setLeaf q { l with frames := [] }).addObj Obj.FLUSHED q l.frames.length
  let s2 := l.frames.foldl Dev.releaseCopy s1
  if l.frames.isEmpty then s2 else (q :: s2.ancestors 2 q).foldl Dev.deficitLoss s2

/-- The charged length of a frame on port P (R203). -/
def Dev.charged (s : Dev) (P len : Nat) : Int := (len : Int) + s.objI32 Obj.PORT_OVERHEAD P

/-- DEQUEUE: the head frame of the leaf selected at port P leaves it and is charged along its path (R202, R206). -/
def Dev.dequeue (s : Dev) (P : Nat) : Option (Nat × QFrame × Dev) :=
  match s.selectLeaf P with
  | none => none
  | some (q, s1) =>
    let l := s1.leaf q
    match l.frames with
    | [] => none
    | f :: fs =>
      let L := s1.charged P f.len
      let path := q :: s1.ancestors 3 q
      let s2 := ((s1.setLeaf q { l with frames := fs }).bump Obj.DEQ_FRAMES q).addObj Obj.DEQ_BYTES q f.len
      let s3 := path.foldl (fun t n =>
        let x := t.node n
        (if nodeLevel n < 3 then t.setNode n { x with deficit := x.deficit - L } else t).chargeNode L n) s2
      some (q, f, (q :: s3.ancestors 2 q).foldl Dev.deficitLoss s3)

/-! ### Latency observation (R217, R218) -/

/-- The histogram bin of a sojourn of d ticks (R217). -/
def histBin (d : Nat) : Nat := if d = 0 then 0 else min 15 (log2 d + 1)

/-- An EWMA with 8 fraction bits moved toward x by 2^-k, rounded down (R217; log entry 14: DESIGN CHOICE, unsafe). -/
def ewma (old x k : Nat) : Nat := ((old : Int) + ((x * 256 : Nat) - (old : Int)) / (2 : Int) ^ k).toNat

/-- Step 6's visit of leaf q (R217). -/
def Dev.sampleLeaf (s : Dev) (l : LeafView) : Dev :=
    let q := l.leaf
    let v := s.obj Obj.QSTAT q
    let k := s.obj Obj.SAMPLE_SHIFT
    let v1 := putBits (putBits (putBits (putBits v 159 120 (ewma (bits v 159 120) l.depth k)) 119 88 l.depth) 87 64 l.frames)
      63 32 s.tick
    match l.head with
    | none => s.setObj Obj.QSTAT q v1
    | some enq =>
      let d := s.tick - enq
      let v2 := putBits (putBits (putBits (putBits v1 255 224 (max (bits v 255 224) d)) 223 192 (min (bits v 223 192) d))
        191 160 (ewma (bits v 191 160) d k)) 31 0 (min 0xFFFFFFFF (bits v 31 0 + 1))
      let s1 := s.setObj Obj.QSTAT q v2
      match (s1.ancestors 2 q).drop 1 with
      | g :: _ =>
        let b := histBin d
        let h := s1.obj Obj.HISTOGRAM (g - groupBase)
        s1.setObj Obj.HISTOGRAM (g - groupBase) (putBits h (64 * b + 63) (64 * b) (bits h (64 * b + 63) (64 * b) + 1))
      | [] => s1

/-- The leaves with ENABLE = 1. -/
def Dev.enabledLeaves (s : Dev) : List Nat :=
  (s.objs.filter (fun e => e.1 / 2 ^ 32 == Obj.ENABLE_7008 && e.2 == 1)).map (fun e => e.1 % 2 ^ 32)
    |>.filter (fun n => decide (n < tenantBase))

/-- The 512 leaves of edge t that are enabled, as step 6 sees them (R24, R217). -/
def Dev.takeViews (s : Dev) : Dev :=
  let b := 512 * (s.tick % 512)
  let view (q : Nat) : LeafView :=
    { leaf := q, depth := (s.leaf q).depth, frames := (s.leaf q).frames.length, head := (s.leaf q).frames.head?.map QFrame.tick }
  { s with sched := { s.sched with views := (s.enabledLeaves.filter (fun q => decide (b ≤ q ∧ q < b + 512))).map view } }

/-- LATENCY_SAMPLE: step 6 visits the 512 leaves of edge t (R217). -/
def Dev.latencySample (s : Dev) : Dev := s.sched.views.foldl Dev.sampleLeaf s

/-- QSTAT_CLEAR: every leaf record and histogram takes its reset value (R218). -/
def Dev.qstatClear (s : Dev) : Dev :=
  { s with objs := s.objs.filter (fun e => e.1 / 2 ^ 32 != Obj.QSTAT && e.1 / 2 ^ 32 != Obj.HISTOGRAM) }

/-- CREDIT as read: whole bytes, rounded down (R219). -/
def Dev.creditBytes (s : Dev) (n : Nat) : Nat := ofSigned 64 ((s.node n).credit / 2 ^ 24)

/-- POLICER_TOKENS as read: two U64 of whole bytes (R219). -/
def Dev.tokensWord (s : Dev) (i : Nat) : Nat := s.tokens i 0 / 2 ^ 24 + (s.tokens i 1 / 2 ^ 24) * 2 ^ 64

end Sys2Proof.Machine
end

