-- ==== Sys2Proof/Machine/Rack.lean ====
section
/-! DEFINITION. Parcels and the pigeonhole rack (chapter 02, R35 to R52): admission, drawer queues, tickets, retirement and the
release of copies to the scheduler. -/
namespace Sys2Proof.Machine

/-! ### The parcel's layout (R35) -/

/-- A parcel as its 64 bytes (R35). -/
def Parcel.word (p : Parcel) : Nat :=
  p.kindData * 2 ^ 384 + p.actMeta * 2 ^ 320 + p.leaf * 2 ^ 276 + p.dropReason * 2 ^ 268 + p.disp * 2 ^ 264 + p.status * 2 ^ 256
    + p.length * 2 ^ 224 + p.handle * 2 ^ 192 + p.admitTick * 2 ^ 128 + p.flowHash * 2 ^ 96 + p.ticket * 2 ^ 64 + p.source * 2 ^ 48
    + p.group * 2 ^ 32 + p.exec * 2 ^ 22 + p.home * 2 ^ 16 + ofBool p.yielded * 2 ^ 15 + ofBool p.reissued * 2 ^ 14
    + ofBool p.stolen * 2 ^ 13 + ofBool p.idem * 2 ^ 12 + ofBool p.ordered * 2 ^ 11 + ofBool p.stealable * 2 ^ 10 + p.cls * 2 ^ 8 + p.kind

/-- A parcel read from its 64 bytes (R35). -/
def parcelOf (w : Nat) : Parcel :=
  { kind := bits w 7 0, cls := bits w 9 8, stealable := bit w 10, ordered := bit w 11, idem := bit w 12, stolen := bit w 13,
    reissued := bit w 14, yielded := bit w 15, home := bits w 21 16, exec := bits w 27 22, group := bits w 47 32,
    source := bits w 63 48, ticket := bits w 95 64, flowHash := bits w 127 96, admitTick := bits w 191 128, handle := givenHandle (bits w 223 192),
    length := bits w 248 224, status := bits w 263 256, disp := bits w 267 264, dropReason := bits w 275 268, leaf := bits w 293 276,
    actMeta := bits w 383 320, kindData := bits w 511 384 }

/-- Whether a written parcel's KIND is valid and its reserved fields are zero (R39). -/
def parcelOk (w : Nat) : Bool :=
  decide (1 ≤ bits w 7 0 ∧ bits w 7 0 ≤ 5) && bits w 31 28 == 0 && bits w 255 249 == 0 && bits w 319 294 == 0

/-! ### Drawer queues (R41, R42, R46) -/

/-- The state with a drawer's waiting parcels replaced. -/
def Dev.setQueueOf (s : Dev) (d : Nat) (l : List QEntry) : Dev :=
  { s with work := { s.work with queues := Tab.put [] s.work.queues d l } }

/-- Parcels of drawer d that lie in the cabinet's overflow: beyond 2,048 (R41). -/
def Dev.overflowOf (s : Dev) (d : Nat) : Nat := (s.queue d).length - 2048

/-- Parcels in the overflow of cabinet c (R41). -/
def Dev.cabOverflow (s : Dev) (c : Nat) : Nat := (List.range 16).foldl (fun a i => a + s.overflowOf (16 * c + i)) 0

/-- Whether drawer d has room for one more waiting parcel (R41, R42). -/
def Dev.queueRoom (s : Dev) (d : Nat) : Bool :=
  decide ((s.queue d).length < 2048) || decide (s.cabOverflow (d / 16) < 65536)

/-- A parcel enters drawer d's queue at the tail of its class FIFO (R41), and the drawer has a waiting parcel in this tick (R46). -/
def Dev.pushQueue (s : Dev) (d : Nat) (e : QEntry) : Dev :=
  ({ s with work := { s.work with
      queues := Tab.ins s.work.queues d (s.queue d ++ [{ e with seq := s.work.seq }])
      seq := s.work.seq + 1
      busy := Tab.ins s.work.busy d true } } : Dev).wakeDrawer d

/-- The waiting parcels of a drawer in class order, oldest first within a class (R41). -/
def Dev.inOrder (s : Dev) (d : Nat) : List QEntry :=
  [0, 1, 2, 3].flatMap (fun c => (s.queue d).filter (fun e => e.p.cls == c))

/-- The oldest waiting parcel of the lowest class number among some kinds (R41). -/
def Dev.headOf (s : Dev) (d : Nat) (kinds : List Nat) : Option QEntry := (s.inOrder d).find? (fun e => kinds.contains e.p.kind)

/-- A waiting parcel leaves the queue. -/
def Dev.removeQ (s : Dev) (d seq : Nat) : Dev := s.setQueueOf d ((s.queue d).filter (fun e => e.seq != seq))

/-! ### Tickets (R49) -/

/-- Whether a group's window admits a ticket (R49). -/
def Dev.windowOpen (s : Dev) (g : Nat) : Bool :=
  decide ((s.obj Obj.NEXT_TICKET g + 2 ^ 32 - s.obj Obj.OLDEST_OPEN g) % 2 ^ 32 < 4096)

/-- A fresh ticket of a group (R49). -/
def Dev.draw (s : Dev) (g : Nat) : Nat × Dev := (s.obj Obj.NEXT_TICKET g, s.bump Obj.NEXT_TICKET g)

/-! ### Admission (R37 to R42, R50) -/

/-- The parcel with its home drawer found (R37); a kind 0x04 has STEALABLE cleared under R38, one that a thread writes too, which keeps
IDEMPOTENT as written (log entry 128: DESIGN CHOICE, unsafe). -/
def Dev.homed (s : Dev) (p : Parcel) : Parcel :=
  let d := s.obj Obj.BUCKET_HOME (bucketOf p.flowHash)
  { p with home := d, exec := d, stealable := p.stealable && p.kind != 4 }

/-- A parcel as it is admitted in this tick: not stealable while its home bucket is pinned (R35, R38). -/
def Dev.admitted (s : Dev) (p : Parcel) : Parcel :=
  { p with admitTick := s.tick, stealable := p.stealable && s.obj Obj.BUCKET_PINNED (bucketOf p.flowHash) == 0 }

/-- Last ownership of a chain passes to an owner. -/
def Dev.ownChain (s : Dev) (h o : Nat) : Dev :=
  match s.chain? h with
  | some c => s.setChain h { c with owner := o }
  | none => s

/-- Last ownership of a parcel's chain passes to the rack (R190), unless the parcel holds a share of it. -/
def Dev.rackOwns (s : Dev) (p : Parcel) : Dev := if p.shared then s else s.ownChain p.handle ownerRack

/-- A parcel returns to the sorter ahead of every parcel waiting in its class (R336). -/
def Dev.pushFront (s : Dev) (d : Nat) (e : QEntry) : Dev :=
  { s with work := { s.work with
      queues := Tab.ins s.work.queues d ({ e with seq := s.work.seq } :: s.queue d)
      seq := s.work.seq + 1
      busy := Tab.ins s.work.busy d true } }

/-- A parcel joins its executing drawer's queue and is admitted in this tick (R35, R38, R39). -/
def Dev.enter (s : Dev) (e : QEntry) : Dev := (s.rackOwns e.p).pushQueue e.p.exec { e with p := s.admitted e.p }

/-- A waiting parcel that has its ticket enters its queue, or is held for room (R42, R55): behind those held earlier for the same drawer, one
that a fence placed ahead of parcels not yet admitted. -/
def Dev.placeEntry (s : Dev) (fence : Bool) (e : QEntry) : Dev :=
  let d := e.p.exec
  let first (h : Bool × QEntry) : Bool := h.2.p.exec == d && (h.1 || !fence)
  if s.queueRoom d && !s.work.roomHeld.any first then
    if fence then s.pushQueue d e else s.enter e
  else
    ({ s with work := { s.work with roomHeld := s.work.roomHeld ++ [(fence, e)] } }).bump Obj.OVERFLOW_FULL d

/-- A new parcel that has its ticket is placed. -/
def Dev.place (s : Dev) (p : Parcel) : Dev := s.placeEntry false { seq := 0, p := p }

/-- A parcel past its window draws its ticket, if ordered, and is placed (R42). -/
def Dev.ticketed (s : Dev) (p : Parcel) : Dev :=
  if p.ordered then
    let (t, s1) := s.draw p.group
    s1.place { p with ticket := t }
  else s.place { p with ticket := 0 }

/-- Admission by the hub (R37, R38, R42, R50), none after a device fault (R500): first the group's window, then the drawer queue. -/
def Dev.admitParcel (s : Dev) (p0 : Parcel) : Dev :=
  let p := s.homed p0
  if s.obj Obj.DEVICE_FAULT ≠ 0 then s
  else if p.ordered && (!s.windowOpen p.group || s.work.windowHeld.any (fun h => h.group == p.group)) then
    ({ s with work := { s.work with windowHeld := s.work.windowHeld ++ [p] } }).bump Obj.WINDOW_STALLS p.group
  else s.ticketed p

/-- A new parcel of a source (R37, R38): KIND and its flow hash, class, source, chain, length and KIND_DATA. -/
def newParcel (kind hash cls source handle len kd : Nat) : Parcel :=
  { kind := kind, cls := cls, stealable := kind != 4, ordered := kind == 1 || kind == 2, idem := kind != 4,
    group := if kind = 1 then bits hash 31 16 else bits hash 15 0, source := source, flowHash := hash, handle := handle, length := len,
    kindData := kd }

/-! ### Release to the scheduler (R190, R210, R216) -/

/-- A copy's drop at its leaf, told by the leaf not having grown. -/
def Dev.enqueued (s : Dev) (q : Nat) (f : QFrame) : Bool × Dev :=
  let s1 := s.enqueueCopy q f
  (decide ((s.leaf q).frames.length < (s1.leaf q).frames.length), s1)

/-- The length of a parcel's frame as queued: its bytes and the FCS (R203; log entry 17: DEDUCED, unsafe), or LENGTH where it names no chain. -/
def Dev.frameLen (s : Dev) (p : Parcel) : Nat :=
  match s.chain? p.handle with | some c => if p.shared then p.length else c.data.length + 4 | none => p.length

/-- The mirror session of an ACTION_META, if MIRROR_V (R139). -/
def mirrorOf (m : Nat) : Option Nat := if bit m 0 then some (bits m 35 28) else none

/-- The policer of an ACTION_META, if POLICER_V (R139). -/
def policerOf (m : Nat) : Option Nat := if bit m 3 then some (bits m 51 36) else none

/-- The mirror copy of a parcel (R139, R210): truncated, colour yellow, not metered, detached by its own holder. One that the slice has
protected is its own frame (R106; log entry 172: DESIGN CHOICE, unsafe). -/
def Dev.mirrorCopy (s : Dev) (p : Parcel) (m : Nat) : Nat × QFrame :=
  let q := s.obj Obj.MIRROR_LEAF m
  let tr := s.obj Obj.MIRROR_TRUNCATE m
  let f : QFrame :=
    { p := p, chain := p.handle, len := if tr = 0 then s.frameLen p else min (s.frameLen p) tr, tick := s.tick, colour := 1,
      holder := s.holderOf q, first := false, truncate := if p.shared && (tr == 0 || decide (p.length < tr)) then p.length else tr, mirror := true,
      ce := p.ce }
  (q, match p.copy with | some g => { f with len := g.length + 4, truncate := 0, ce := false, data := some g } | none => f)

/-- The colour of the first copy, policed once (R210 step 2, R216): 3 marks a policing drop. -/
def Dev.colourOf (s : Dev) (p : Parcel) : Nat × Dev :=
  match policerOf p.actMeta with
  | none => (0, s)
  | some i =>
    let ((dropped, col), s1) := s.police p (s.frameLen p) (s.frameOf p) 4 i 0
    (if dropped then 3 else col, s1)

/-- The share that a parcel's mirror copy takes, if it has one (R190). -/
def Dev.mirrorShare (s : Dev) (p : Parcel) : Dev :=
  match mirrorOf p.actMeta with
  | some _ => if p.handle = nullHandle then s else if p.shared then s.addShare p.handle else (s.bufShare ownerRack p.handle 1).2
  | none => s

/-- A parcel released as forward or split (R190, R210): last ownership passes to the first copy's holder, or the share of a readmitted copy
does, the mirror copy takes a share, and each copy is enqueued or dropped. The answer tells whether the first copy was dropped. -/
def Dev.forward (s : Dev) (p : Parcel) : Bool × Dev :=
  let s0 := s.mirrorShare p
  let holder := s0.holderOf p.leaf
  let s1 := if holder = ownerRack ∨ p.handle = nullHandle ∨ p.shared = true then s0 else (s0.bufHandover ownerRack p.handle holder).2
  let on := s1.flag Obj.ENABLE_7008 p.leaf
  let (col, s2) := if on then s1.colourOf p else (0, s1)
  let f : QFrame := { p := p, chain := p.handle, len := s2.frameLen p, tick := s.tick, colour := col, holder := holder, first := !p.shared,
                      truncate := if p.shared then p.length else 0, mirror := false, ce := p.ce }
  let (ok1, s3) := s2.enqueued p.leaf f
  match mirrorOf p.actMeta with
  | some m => let (q, g) := s3.mirrorCopy p m; (!ok1, s3.enqueueCopy q g)
  | none => (!ok1, s3)

/-- The rack frees a parcel's chain, or detaches from it for a readmitted copy (R190). -/
def Dev.rackFrees (s : Dev) (p : Parcel) : Dev := if p.shared then s.detachCopy ownerRack p.handle else (s.bufFree ownerRack p.handle).2

/-- A parcel retired as a drop (R190): its mirror copy leaves with its ticket (R36) where a rule or NO_DISPOSITION dropped it, DROP_REASON
0x01 (log entry 167: DESIGN CHOICE, unsafe), and the rack frees the chain. -/
def Dev.dropChain (s : Dev) (p : Parcel) : Dev :=
  if p.handle = nullHandle then s
  else
    match mirrorOf p.actMeta with
    | some m =>
      if p.dropReason = 1 then
        let s2 := (s.mirrorShare p).rackFrees p
        let (q, g) := s2.mirrorCopy p m
        s2.enqueueCopy q g
      else s.rackFrees p
    | none => s.rackFrees p

/-- The mirror copy of a parcel that is consumed (R36, R139): it takes a share of the chain. -/
def Dev.mirrorShared (s : Dev) (p : Parcel) : Dev :=
  match mirrorOf p.actMeta with
  | some m =>
    if p.handle = nullHandle then s
    else
      let s1 := s.mirrorShare p
      let (q, g) := s1.mirrorCopy p m
      s1.enqueueCopy q g
  | none => s

/-- FLUSH of a leaf (R212), with what it means for the jobs whose frames it drops (R262). -/
def Dev.flushJobs (s : Dev) (q : Nat) : Dev := ((s.leaf q).frames.foldl Dev.jobLost s).flushLeaf q

/-! ### Retirement (R36, R51) -/

/-- A parcel whose disposition is pending is retired as a drop (R36). -/
def Parcel.final (p : Parcel) : Parcel :=
  if p.disp = 0 then { p with disp := 2, dropReason := if p.dropReason = 0 then 5 else p.dropReason } else p

/-- What follows a parcel's retirement for the unit that sent it: a host job's count, or a storage command's outcome. -/
def Dev.sourceRetired (s : Dev) (p : Parcel) (drop : Bool) : Dev :=
  if p.kind = 2 then s.jobRetired p drop 0
  else if p.kind = 3 ∧ p.disp = 2 then s.storageDropped p
  else s

/-- The rack retires a finished parcel (R36, R51, R190). -/
def Dev.retire (s : Dev) (f : Fin) : Dev :=
  let p := f.p.final
  match p.disp with
  | 1 | 4 => let (dropped, s1) := s.forward p; s1.sourceRetired p dropped
  | 3 =>
    let s0 := s.mirrorShared p
    let s1 := if p.shared then s0 else s0.ownChain p.handle f.owner
    (if p.ordered then s1.bump Obj.SKIPPED p.group else s1).sourceRetired p false
  | _ =>
    let s1 := s.dropChain p
    (if p.ordered then s1.bump Obj.SKIPPED p.group else s1).sourceRetired p true

/-- The oldest open ticket of a group is retired, and then every consecutive finished ticket held (R51). -/
def Dev.drainRack (s : Dev) (g : Nat) : Nat → Dev
  | 0 => s
  | k + 1 =>
    let t := s.obj Obj.OLDEST_OPEN g
    match s.work.held.find? (fun f => f.p.group == g && f.p.ticket == t) with
    | none => s
    | some f =>
      let s1 := { s with work := { s.work with held := s.work.held.filter (fun x => !(x.p.group == g && x.p.ticket == t)) } }
      ((s1.bump Obj.OLDEST_OPEN g).retire f).drainRack g k

/-- Pigeonholes of the rack (R52). -/
abbrev pigeonholes : Nat := 131072

/-- A finished parcel comes to the rack from the engine with key e (R51, R52): retired at once if unordered or the oldest open,
else put in a pigeonhole, or kept by its engine. -/
def Dev.finish (s : Dev) (e : Nat) (f : Fin) : Dev :=
  if !f.p.ordered then s.retire f
  else if f.p.ticket = s.obj Obj.OLDEST_OPEN f.p.group then
    ((s.bump Obj.OLDEST_OPEN f.p.group).retire f).drainRack f.p.group s.work.held.length
  else if s.work.held.length < pigeonholes then
    { s with work := { s.work with held := s.work.held ++ [f] } }
  else
    ({ s with work := { s.work with rackWait := s.work.rackWait ++ [(e, f)] } }).bump Obj.POOL_FULL_EVENTS

/-- Finished parcels that waited for a pigeonhole come to the rack again, in order, at most k of them (R52). -/
def Dev.rackRetry (s : Dev) : Nat → Dev
  | 0 => s
  | k + 1 =>
    match s.work.rackWait.find? (fun w =>
      decide (s.work.held.length < pigeonholes) || w.2.p.ticket == s.obj Obj.OLDEST_OPEN w.2.p.group) with
    | none => s
    | some w =>
      ((({ s with work := { s.work with rackWait := s.work.rackWait.erase w } }).finish w.1 w.2).wakeEngine w.1).rackRetry k

/-- An engine finishes a parcel: the rack acts, then places what waited (R51, R52); after a device fault nothing is released (R503). -/
def Dev.finishAll (s : Dev) (e : Nat) (f : Fin) : Dev :=
  if s.obj Obj.DEVICE_FAULT ≠ 0 then { s with work := { s.work with rackWait := s.work.rackWait ++ [(e, f)] } } else
  let s1 := s.finish e f
  s1.rackRetry s1.work.rackWait.length

/-! ### Commands -/

/-- PARCEL_CREATE: a thread writes a parcel to the queue port of its drawer (R39, R42, R190). After a device fault nothing is admitted
(R500); the status word the port then takes is not stated, so it is a free value. A parcel held for its group's window answers 0, and waits at
the hub if it then finds no room (log entry 129: DESIGN CHOICE, unsafe). -/
def Dev.parcelCreate (s : Dev) (h w : Nat) : Dev :=
  let port (v : Nat) (t : Dev) : Dev := { t with work := { t.work with portStatus := Tab.put 0 t.work.portStatus h v } }
  let q := parcelOf w
  let p := s.homed { q with source := h / 32, ticket := 0, actMeta := 0, leaf := 0, dropReason := 0, disp := 0, status := 0,
                            yielded := false, reissued := false, stolen := false }
  if !parcelOk w then port 0x01 s
  else if p.handle ≠ nullHandle ∧ (s.chain? p.handle).map Chain.owner ≠ some (ownerThread h) then port 0x40 s
  else if s.obj Obj.DEVICE_FAULT ≠ 0 then
    let (v, s1) := s.fresh
    port (v % 256) s1
  else if p.ordered && (!s.windowOpen p.group || s.work.windowHeld.any (fun x => x.group == p.group)) then port 0 (s.admitParcel p)
  else if !s.queueRoom p.exec || s.work.roomHeld.any (fun x => x.2.p.exec == p.exec) then port 0x41 (s.bump Obj.OVERFLOW_FULL p.exec)
  else port 0 (s.ticketed p)

/-- PARCEL_CREATE (R39). -/
def execParcelCreate (h w : Nat) (s : State) : Res :=
  onMainIf s (decide (h < s.part.threads) && s.inService (h / 32)) (fun s => s.parcelCreate h w)

/-- ADMISSION_HOLD_RELEASE: the oldest parcel held for drawer d's room enters its queue, those placed by a fence first (R42, R55). -/
def Dev.holdRelease (s : Dev) (d : Nat) : Dev :=
  let mine := s.work.roomHeld.filter (fun h => h.2.p.exec == d)
  match (mine.find? (fun h => h.1)).orElse (fun _ => mine.head?) with
  | none => s
  | some h =>
    let s1 := { s with work := { s.work with roomHeld := s.work.roomHeld.erase h } }
    if h.1 then s1.pushQueue d h.2 else s1.enter h.2

/-- ADMISSION_HOLD_RELEASE (R42). -/
def execAdmissionHoldRelease (d : Nat) (s : State) : Res :=
  onMainIf s (s.inService d && s.queueRoom d && s.obj Obj.DEVICE_FAULT == 0) (fun s => s.holdRelease d)

/-- WINDOW_STALL_RELEASE: the next parcel held for group g's window is admitted (R50). -/
def Dev.windowRelease (s : Dev) (g : Nat) : Dev :=
  match s.work.windowHeld.find? (fun h => h.group == g) with
  | none => s
  | some p => ({ s with work := { s.work with windowHeld := s.work.windowHeld.erase p } }).ticketed (s.homed p)

/-- WINDOW_STALL_RELEASE (R50). -/
def execWindowStallRelease (g : Nat) (s : State) : Res := onMainIf s (s.windowOpen g && s.obj Obj.DEVICE_FAULT == 0) (fun s => s.windowRelease g)

end Sys2Proof.Machine
end

