-- ==== Sys2Proof/Machine/NvmeAdmin.lean ====
section
/-! DEFINITION. NVMe controllers toward their hosts (R300 to R307, R319, R321 to R326): doorbells, fetching, the admin commands, freezes,
and the enabling and disabling of controllers. -/
namespace Sys2Proof.Machine

/-! ### Doorbells and fetching (R302 to R304) -/

/-- Whether a controller takes doorbells and commands. -/
def Dev.ctrlUp (s : Dev) (c : Nat) : Bool := (s.ctrl c).en && (s.ctrl c).rdy && (s.ctrl c).ending.isNone

/-- Whether a controller fetches: its function is ENABLED, in D0, and not being quiesced (R245, R248, R326); none
fetches before READY, after a device fault or while FENCED (R438, R472, R500). -/
def Dev.ctrlFetches (s : Dev) (c : Nat) : Bool :=
  let n := s.ctrlFn c
  s.fetches && s.obj Obj.ROLE != 4 && s.ctrlUp c && s.fstate n == 2 && (s.fn n).bme && (s.fn n).dstate == 0 && (s.fn n).quiesce.isNone

/-- A doorbell write with an illegal value is ignored, reported and counted (R302): Error Status, Invalid Doorbell Write Value. -/
def Dev.badDoorbell (s : Dev) (c : Nat) : Dev := (s.bump Obj.DOORBELL_REJECTS (s.ctrlFn c)).asyncEvent c 0x010100

/-- A doorbell write for a queue that does not exist, as the NVMe specification has it (R302): Error Status, Write to Invalid Doorbell Register (log
entry 155: PRESUMED, unsafe). -/
def Dev.noDoorbell (s : Dev) (c : Nat) : Dev := (s.bump Obj.DOORBELL_REJECTS (s.ctrlFn c)).asyncEvent c 0x010000

/-- NVME_SQ_DOORBELL (R302). A value equal to the last is not legal (log entry 155: PRESUMED, unsafe). -/
def Dev.sqDoorbell (s : Dev) (c q v : Nat) : Dev :=
  match s.sq? c q with
  | none => s.noDoorbell c
  | some x =>
    if v < x.size ∧ v ≠ x.tail ∧ (v + x.size - x.tail) % x.size ≤ x.size - 1 - (x.tail + x.size - x.head) % x.size then s.setSq c q { x with tail := v }
    else s.badDoorbell c

/-- NVME_SQ_DOORBELL (R302): the value moves the tail, and does not pass the head. -/
def execNvmeSqDoorbell (c q v : Nat) (s : State) : Res := onMainIf s (s.ctrlUp c) (fun s => s.sqDoorbell c q v)

/-- NVME_CQ_DOORBELL (R302): the value lies after the head, up to the tail (log entry 155: PRESUMED, unsafe); completions that waited for room
are written. -/
def Dev.cqDoorbell (s : Dev) (c q v : Nat) : Dev :=
  let k := s.ctrl c
  match Tab.get? k.cqs q with
  | none => s.noDoorbell c
  | some x =>
    if v < x.size ∧ v ≠ x.head ∧ (v + x.size - x.head) % x.size ≤ (x.tail + x.size - x.head) % x.size then
      ((s.setCtrl c { k with cqs := Tab.ins k.cqs q { x with head := v } }).postCq c q x.waiting.length).pump
    else s.badDoorbell c

/-- NVME_CQ_DOORBELL (R302). -/
def execNvmeCqDoorbell (c q v : Nat) (s : State) : Res := onMainIf s (s.ctrlUp c) (fun s => s.cqDoorbell c q v)

/-- Whether a parcel of a submission queue is held at admission, so that the mover stops fetching for it (R42). -/
def Dev.sqHeld (s : Dev) (c q : Nat) : Bool :=
  s.work.roomHeld.any (fun e => e.2.p.kind == 3 && (nvmOf e.2.p).1 == c && (nvmOf e.2.p).2.1 == q)

/-- Whether a submission queue may be fetched from now (R303, R321). -/
def Dev.mayFetch (s : Dev) (c q : Nat) : Bool :=
  s.ctrlFetches c && !s.sqHeld c q && decide (s.outstanding < s.part.pick 1048576 524288) &&
    match s.sq? c q with
    | some x => x.st == 0 && x.thaw.isNone && x.head != x.tail && decide (x.outstanding < 4096)
    | none => false

/-- The block range of a Read, Write or Write Zeroes: first block and number of blocks. -/
def rangeOf (op sqe : Nat) : Nat × Nat :=
  if op = 1 ∨ op = 2 ∨ op = 8 then (dw sqe 10 + dw sqe 11 * 2 ^ 32, dw sqe 12 % 65536 + 1) else (0, 0)

/-- NVME_COMMAND_FETCH (R303, R304, R37, R38): the submission entry at the head is read; a CID already outstanding is answered at once;
any other becomes outstanding and a parcel of kind 0x03, of class 0 (log entry 60: DEDUCED, unsafe). -/
def Dev.nvmFetch (s : Dev) (c q sqe : Nat) : Dev :=
  match s.sq? c q with
  | none => s
  | some x =>
    let cid := dw sqe 0 / 65536
    let s1 := (s.setSq c q { x with head := (x.head + 1) % x.size }).bump Obj.COMMANDS c
    if x.cmds.any (fun m => m.cid == cid && (!m.posted || (s.ctrl c).abortWaits q cid)) then
      (s1.bump Obj.CID_CONFLICTS c).queueCq c { sqid := q, cid := cid, status := 3, dw0 := 0, conflict := true }
    else
      let op := dw sqe 0 % 256
      let r := rangeOf op sqe
      let m : NvmCmd := { cid := cid, seq := s.storage.seq, sqe := sqe, opcode := op, nsid := dw sqe 1, slba := r.1, blocks := r.2 }
      let s2 := (s1.updSto (fun g => { g with seq := g.seq + 1 })).updSq c q (fun y => { y with cmds := y.cmds ++ [m] })
      s2.admitParcel (newParcel 3 (s.pairHash c q) 0 (s.ctrlFn c) nullHandle 64 (kindNvm c q cid))

/-- The host address of the submission entry at the head of queue q of controller c (R303). -/
def Dev.nvmAddr (s : Dev) (c q : Nat) : Nat := match s.sq? c q with | some x => x.base + 64 * x.head | none => 0

/-- NVME_COMMAND_FETCH (R303). -/
def execNvmeCommandFetch (c q sqe : Nat) (s : State) : Res :=
  onMainIf s (s.mayFetch c q) (fun s =>
    s.onSlot (s.ctrlFn c) (s.nvmAddr c q) 64 (.nvmSlot c q) (fun t s => (s.returnTag (s.linkOf (s.ctrlFn c)) t).nvmFetch c q sqe))

/-! ### Admin commands (R304) -/

/-- The outstanding admin command of controller c with a CID and an opcode whose row has not run yet. -/
def Dev.adm? (s : Dev) (c cid op : Nat) : Option NvmCmd :=
  if s.ctrlUp c then
    (match s.cmd? c 0 cid with | some m => if m.opcode == op && !m.started && !m.final then some m else none | none => none)
  else none

/-- Run an admin command: it starts, and has its effect; then what waited goes on. -/
def adminCmd (s : State) (c cid op : Nat) (f : Dev → NvmCmd → Dev) : Res :=
  match s.adm? c cid op with
  | some m => onMain s (fun s => (f (s.updCmd c 0 m.seq (fun y => { y with started := true })) m).pump)
  | none => ok s s.toDev

/-- Run an admin command whose data lie in the host: it starts once its tables have been read (R240, R305). -/
def adminData (s : State) (c cid op : Nat) (d : Dev → NvmCmd → HostData) (come : Bool) (f : Dev → NvmCmd → List (Nat × Nat) → Dev) : Res :=
  match s.adm? c cid op with
  | some m => onMain s (fun s => (s.withData c 0 m (d s m) come (fun gs t => f (t.updCmd c 0 m.seq (fun y => { y with started := true })) m gs)).pump)
  | none => ok s s.toDev

/-- CREATE_IO_CQ: identifier, size, contiguity and vector are checked, and the queue created (R301, R303). -/
def Dev.createCq (s : Dev) (c : Nat) (m : NvmCmd) : Dev :=
  let k := s.ctrl c
  let qid := dw m.sqe 10 % 65536
  let size := dw m.sqe 10 / 65536 + 1
  let v := dw m.sqe 11 / 65536
  let base := dw m.sqe 6 + dw m.sqe 7 * 2 ^ 32
  if qid = 0 ∨ k.ncq < qid ∨ (Tab.get? k.cqs qid).isSome = true then s.cmdDone c 0 m.seq 0x101 0
  else if size < 2 ∨ 4096 < size then s.cmdDone c 0 m.seq 0x102 0
  else if bit (dw m.sqe 11) 0 = false then s.cmdDone c 0 m.seq 0x2 0
  else if s.obj Obj.MSIX_VECTORS (s.ctrlFn c) ≤ v then s.cmdDone c 0 m.seq 0x108 0
  else
    (s.setCtrl c { k with cqs := Tab.ins k.cqs qid { base := base, size := size, vector := v, ien := bit (dw m.sqe 11) 1 } }).cmdDone c 0 m.seq 0 0

/-- CREATE_IO_CQ (R303). -/
def execCreateIoCq (c cid : Nat) (s : State) : Res := adminCmd s c cid 5 (fun s m => s.createCq c m)

/-- CREATE_IO_SQ: completion queue, identifier, size and contiguity are checked, and the queue created; its priority class is ignored
(R301, R303, R304). -/
def Dev.createSq (s : Dev) (c : Nat) (m : NvmCmd) : Dev :=
  let k := s.ctrl c
  let qid := dw m.sqe 10 % 65536
  let size := dw m.sqe 10 / 65536 + 1
  let cq := dw m.sqe 11 / 65536
  let base := dw m.sqe 6 + dw m.sqe 7 * 2 ^ 32
  if cq = 0 ∨ (Tab.get? k.cqs cq).isNone = true then s.cmdDone c 0 m.seq 0x100 0
  else if qid = 0 ∨ k.nsq < qid ∨ (Tab.get? k.sqs qid).isSome = true then s.cmdDone c 0 m.seq 0x101 0
  else if size < 2 ∨ 4096 < size then s.cmdDone c 0 m.seq 0x102 0
  else if bit (dw m.sqe 11) 0 = false then s.cmdDone c 0 m.seq 0x2 0
  else (s.setCtrl c { k with sqs := Tab.ins k.sqs qid { base := base, size := size, cq := cq } }).cmdDone c 0 m.seq 0 0

/-- CREATE_IO_SQ (R303). -/
def execCreateIoSq (c cid : Nat) (s : State) : Res := adminCmd s c cid 1 (fun s m => s.createSq c m)

/-- DELETE_IO_CQ: not while a submission queue names it. -/
def Dev.deleteCq (s : Dev) (c : Nat) (m : NvmCmd) : Dev :=
  let k := s.ctrl c
  let qid := dw m.sqe 10 % 65536
  if qid = 0 ∨ (Tab.get? k.cqs qid).isNone = true then s.cmdDone c 0 m.seq 0x101 0
  else if k.sqs.any (fun x => x.2.cq == qid && x.1 != 0) then s.cmdDone c 0 m.seq 0x10C 0
  else (s.setCtrl c { k with cqs := Tab.del k.cqs qid }).cmdDone c 0 m.seq 0 0

/-- DELETE_IO_CQ (R303). -/
def execDeleteIoCq (c cid : Nat) (s : State) : Res := adminCmd s c cid 4 (fun s m => s.deleteCq c m)

/-- DELETE_IO_SQ (R322): a FROZEN or THAWING queue, or one that freezes at the next edge, waits as THAW_SQ does; otherwise commands not started complete as aborted by the
deletion, and the queue is gone once none is outstanding. -/
def Dev.deleteSq (s : Dev) (c : Nat) (m : NvmCmd) : Dev :=
  let qid := dw m.sqe 10 % 65536
  match s.sq? c qid with
  | none => s.cmdDone c 0 m.seq 0x101 0
  | some x =>
    if qid = 0 ∨ (x.thaw.map Prod.fst) = some true ∨ x.st = 3 then s.cmdDone c 0 m.seq 0x101 0
    else if x.st = 1 ∨ x.st = 2 then s.setSq c qid { x with st := 2, thaw := some (true, m.cid), thawToo := x.thaw.map Prod.snd }
    else if x.freezeDue.isSome then s.setSq c qid { x with thaw := some (true, m.cid) }
    else
      (x.cmds.filter (fun y => !y.started && !y.final)).foldl (fun t y => t.cmdDone c qid y.seq 0x8 0)
        (s.setSq c qid { x with st := 3, thaw := some (true, m.cid) })

/-- DELETE_IO_SQ (R322). -/
def execDeleteIoSq (c cid : Nat) (s : State) : Res := adminCmd s c cid 0 (fun s m => s.deleteSq c m)

/-- Bytes with the reserved bits cleared (R10): each (first byte, number of bytes, mask) keeps the bits of its mask. -/
def keepBits (masks : List (Nat × Nat × Nat)) (p : List Nat) : List Nat :=
  p.zipIdx.map (fun b => (masks.filter (fun k => decide (k.1 ≤ b.2) && decide (b.2 < k.1 + k.2.1))).foldl (fun v k => v &&& k.2.2) b.1)

/-- An NVMe data page of n bytes: the bytes at the offsets that the manual or the standard's layout of its values fixes, zeros in what
the standard reserves (R10), and free bytes elsewhere (log entry 5: DESIGN CHOICE, safe). -/
def pageOf (n u : Nat) (masks : List (Nat × Nat × Nat)) (fields : List (Nat × List Nat)) : List Nat :=
  fields.foldl (fun p f => p.take f.1 ++ f.2 ++ p.drop (f.1 + f.2.length)) (keepBits masks (leBytes n u))

/-- Bytes of the Identify Controller data that are reserved, or that report what R300 and R304 leave out or do not name: zero, but for the fields
written over them. -/
def ctrlReserved : List (Nat × Nat × Nat) :=
  [(76, 1, 0), (92, 10, 0), (102, 9, 0), (128, 138, 0), (272, 8, 0), (312, 202, 0), (522, 14, 0), (536, 232, 0), (1024, 1024, 0)]

/-- Reserved bytes and bits of the Identify Namespace data, with the LBA formats that no namespace has. -/
def nsReserved : List (Nat × Nat × Nat) :=
  [(24, 1, 0x1F), (30, 1, 1), (33, 1, 0x1F), (83, 1, 0), (88, 4, 0), (96, 3, 0), (99, 1, 1), (104, 24, 0), (144, 240, 0)]

/-- Reserved bytes of a SMART / Health log. -/
def smartReserved : List (Nat × Nat × Nat) := [(0, 1, 0x3F), (7, 25, 0), (232, 280, 0)]

/-- The freeze log of a queue as page 0xC1 returns it (R323): no entries for a queue that has never frozen, or has thawed. -/
def freezeLog (q : Nat) (x : Sq) : List Nat :=
  let h := x.freezeTick % 2 ^ 64 * 2 ^ 448 + x.log.length * 2 ^ 416 + q * 2 ^ 400 + (if x.st = 3 then 0 else x.st) * 2 ^ 392 +
    ((x.log.head?.map FreezeEntry.cause).getD 0) * 2 ^ 384
  if x.st = 0 ∨ x.st = 3 then leBytes 64 (q * 2 ^ 400)
  else leBytes 64 (if x.log.isEmpty then q * 2 ^ 400 + (if x.st = 3 then 0 else x.st) * 2 ^ 392 else h) ++
    x.log.flatMap (fun e => leBytes 32 (e.slba % 2 ^ 64 * 2 ^ 192 + e.blocks % 2 ^ 32 * 2 ^ 160 + e.nsid * 2 ^ 128 + e.cid * 2 ^ 112 +
      e.cause * 2 ^ 104 + e.opcode * 2 ^ 96 + e.backend * 2 ^ 86 + e.settle % 2 ^ 64))

/-- The opcodes supported by controller c's admin queue or its I/O queues (R304). -/
def Dev.opcodes (s : Dev) (c : Nat) (admin : Bool) : List Nat :=
  if admin then [0, 1, 2, 4, 5, 6, 8, 9, 0xA, 0xC, 0xC2] ++ (if isPf (s.ctrlFn c) then [0xD, 0x15] else []) else [0, 1, 2, 8, 9]

/-- The bytes of a supported log page, or none (R304). -/
def Dev.logPage (s : Dev) (c lid lsi u : Nat) : Option (List Nat) :=
  let k := s.ctrl c
  match lid with
  | 0x01 => some (pageOf 4096 u ((64 * k.errors.length, 4096, 0) :: (List.range 64).flatMap (fun i =>
      [(64 * i + 15, 1, 7), (64 * i + 30, 2, 0), (64 * i + 42, 22, 0)])) (k.errors.zipIdx.map (fun e =>
      (64 * e.2, leBytes 8 (k.errors.length - e.2) ++ leBytes 2 e.1.2.1 ++ leBytes 2 e.1.1 ++ leBytes 2 (2 * e.1.2.2)))))
  | 0x02 => some (pageOf 512 u smartReserved [])
  | 0x03 => some (pageOf 512 u [(1, 7, 0), (16, 496, 0)] [(0, [1])])
  | 0x04 => some ((k.changedNs.flatMap (fun i => leBytes 4 (i + 1)) ++ List.replicate 4096 0).take 4096)
  | 0x05 =>
    let row (admin : Bool) (i : Nat) : Nat × List Nat :=
      (4 * (i + if admin then 0 else 256), if (s.opcodes c admin).contains i then [setBit (u / 256 ^ i % 32) 0, 0] else [0, 0, 0, 0])
    some (pageOf 4096 u [(2048, 2048, 0)] ((List.range 256).map (row true) ++ (List.range 256).map (row false)))
  | 0xC1 => (match s.sq? c lsi with | some x => some (freezeLog lsi x) | none => some (leBytes 64 (lsi * 2 ^ 400)))
  | _ => none

/-- The bytes that a Get Log Page asks for: NUMDL and NUMDU (R323). -/
def logLen (sqe : Nat) : Nat := 4 * (dw sqe 10 / 65536 + dw sqe 11 % 65536 * 65536 + 1)

/-- GET_LOG_PAGE (R304, R323). -/
def Dev.getLog (s : Dev) (c : Nat) (m : NvmCmd) (segs : List (Nat × Nat)) : Dev :=
  let lid := dw m.sqe 10 % 256
  let len := logLen m.sqe
  let off := dw m.sqe 12 + dw m.sqe 13 * 2 ^ 32
  let (u, s1) := s.fresh
  match s1.logPage c lid (dw m.sqe 11 / 65536) u with
  | none => s.cmdDone c 0 m.seq 0x109 0
  | some p =>
    let s2 := s1.writeSegs (s.ctrlFn c) segs (slice (p ++ List.replicate (len - p.length) 0) off len)
    let s3 := if lid = 4 then s2.setCtrl c { s2.ctrl c with changedNs := [] } else s2
    s3.cmdDone c 0 m.seq 0 0

/-- GET_LOG_PAGE (R323). -/
def execGetLogPage (c cid : Nat) (list : Option (List Nat)) (s : State) : Res :=
  adminData s c cid 2 (fun s m => s.dataAt c m (logLen m.sqe) 0 true (list.getD [])) list.isSome (fun s m gs => s.getLog c m gs)

/-- Blocks less one of a length of a namespace, as the atomicity fields report (R316). -/
def Dev.unitsOf (s : Dev) (i bytes : Nat) : Nat := bytes / s.dataSize i - 1

/-- The fields of Identify Namespace data that are common to all namespaces (R307): the formats, metadata apart or in extended LBAs, and protection
types 1, 2 and 3. -/
def nsCommon (u : Nat) : List (Nat × List Nat) :=
  [(24, [setBit (u % 32) 1]), (25, [3]), (27, [3]), (28, [7 + 8 * (u % 4)])] ++
    (List.range 4).map (fun f => (128 + 4 * f, leBytes 2 (lbaMeta f) ++ [if f < 2 then 9 else 12, u / 2 ^ (2 * f) % 4]))

/-- Identify Namespace data of namespace i (R307, R316). -/
def Dev.identifyNs (s : Dev) (i u : Nat) : List Nat :=
  match s.ns? i with
  | none => List.replicate 4096 0
  | some x =>
    let a := leBytes 2 (s.unitsOf i 262144)
    let b := leBytes 2 (s.unitsOf i 1048576)
    let flbas := s.obj Obj.LBA_FORMAT i + if x.extended then 16 else 0
    pageOf 4096 u nsReserved (nsCommon u ++ [(0, leBytes 8 x.blocks), (8, leBytes 8 x.blocks), (26, [flbas]),
      (29, [x.piType]), (34, a), (36, a), (40, b), (42, [0, 0]), (44, b)])

/-- The namespace identification descriptors of namespace i (R304): one UUID (log entry 176: DESIGN CHOICE, unsafe). -/
def nsDescriptors (i : Nat) : List Nat := [3, 16, 0, 0] ++ leBytes 16 (Config.nsUuid i) ++ List.replicate 4076 0

/-- Identify Controller data of controller c (R300, R301, R304): of optional features it reports Namespace Management on a PF, Namespace Attribute Changed
notices, one read-only firmware slot, the Commands Supported and Effects page, and SGLs of byte-aligned Data Block, Segment and Last Segment
descriptors. -/
def Dev.identifyCtrl (s : Dev) (c u : Nat) : List Nat :=
  let vwc := (s.nsOfCtrl c).any (fun i => !(s.cachedBacks i).isEmpty)
  let nqn := leBytes 224 (s.obj Obj.SUBNQN)
  pageOf 4096 u ctrlReserved [(0, leBytes 2 Config.vendorId), (77, [9]), (78, leBytes 2 (c + 1)), (80, leBytes 4 Config.nvmeVersion), (93, [1]), (111, [1]),
    (256, [if isPf (s.ctrlFn c) then 8 else 0, 0]), (258, [15]), (259, [3]), (260, [3]), (261, [2]), (262, [63]), (512, [0x66, 0x44]),
    (516, leBytes 4 (s.part.pick 32768 16384)), (520, [0x0C, 0]), (525, [if vwc then 1 else 0]), (526, leBytes 2 63), (528, leBytes 2 63), (536, [1]),
    (768, nqn ++ List.replicate 32 0)]

/-- A list of NSIDs above a given one, as Identify returns it. -/
def nsidList (l : List Nat) (nsid : Nat) : List Nat :=
  ((l.filter (fun i => decide (nsid < i + 1))).flatMap (fun i => leBytes 4 (i + 1)) ++ List.replicate 4096 0).take 4096

/-- The page that an Identify asks for, or the status that refuses it, as the NVMe specification has them (R301, R304). -/
def Dev.identifyPage (s : Dev) (c cns nsid u : Nat) : Except Nat (List Nat) :=
  let i := nsid - 1
  let valid := nsid != 0 && decide (nsid ≤ s.part.pick 32768 16384)
  match cns with
  | 0x00 =>
    if nsid = 0xFFFFFFFF ∧ isPf (s.ctrlFn c) = true then .ok (pageOf 4096 u (nsReserved ++ [(0, 24, 0)]) (nsCommon u))
    else if !valid then .error 0xB
    else if s.attached i c then .ok (s.identifyNs i u)
    else .ok (List.replicate 4096 0)
  | 0x01 => .ok (s.identifyCtrl c u)
  | 0x02 => if 0xFFFFFFFE ≤ nsid then .error 0xB else .ok (nsidList (s.nsOfCtrl c) nsid)
  | 0x03 => if valid && s.attached i c then .ok (nsDescriptors i) else .error 0xB
  | 0x10 => if 0xFFFFFFFE ≤ nsid then .error 0xB else .ok (nsidList (s.storage.nss.map Prod.fst) nsid)
  | 0x11 => if valid then .ok (s.identifyNs i u) else .error 0xB
  | _ => .error 0x2

/-- IDENTIFY (R301, R304). -/
def Dev.identify (s : Dev) (c : Nat) (m : NvmCmd) (segs : List (Nat × Nat)) : Dev :=
  let (u, s1) := s.fresh
  match s.identifyPage c (dw m.sqe 10 % 256) m.nsid u with
  | .error st => s.cmdDone c 0 m.seq st 0
  | .ok p => (s1.writeSegs (s.ctrlFn c) segs p).cmdDone c 0 m.seq 0 0

/-- IDENTIFY (R301). -/
def execIdentify (c cid : Nat) (list : Option (List Nat)) (s : State) : Res :=
  adminData s c cid 6 (fun s m => s.dataAt c m 4096 0 true (list.getD [])) list.isSome (fun s m gs => s.identify c m gs)

/-- Whether a backend operation of a command has been issued, in flight or not (R319, R321). -/
def NvmCmd.issuedAny (y : NvmCmd) : Bool := y.pieces.any (fun p => p.issued.isSome || p.first.isSome) || y.flushTick.isSome

/-- ABORT (R319): the outcomes of *Abort outcomes*, and the limit of 16 outstanding. -/
def Dev.abortNvm (s : Dev) (c : Nat) (m : NvmCmd) : Dev :=
  let q := dw m.sqe 10 % 65536
  let cid := dw m.sqe 10 / 65536
  let out := match s.sq? c 0 with | some x => (x.cmds.filter (fun y => y.opcode == 8 && !y.posted)).length | none => 0
  let no (t : Dev) : Dev := (t.bump Obj.ABORTS_NOT_DONE c).cmdDone c 0 m.seq 0 1
  if 16 < out then s.cmdDone c 0 m.seq 0x103 0
  else
    match s.cmd? c q cid with
    | none => no s
    | some y =>
      let issued := y.issuedAny
      if y.final || y.seq == m.seq || (issued && y.opcode != 2) || (q == 0 && y.started && y.opcode != 0xC) then no s
      else
        let s1 := if q = 0 ∧ y.opcode = 0xC then let k := s.ctrl c; s.setCtrl c { k with aers := k.aers.filter (fun a => a != cid) } else s
        ((s1.cmdDone c q y.seq 0x7 0).bump Obj.ABORTS_DONE c).cmdDone c 0 m.seq 0 0

/-- ABORT (R319). -/
def execAbortCmd (c cid : Nat) (s : State) : Res := adminCmd s c cid 8 (fun s m => s.abortNvm c m)

/-- I/O queues of the device pool not granted: submission (false) or completion (true) queues (R303). -/
def Dev.poolFree (s : Dev) (cq : Bool) : Nat :=
  s.part.pick 131072 65536 - s.storage.ctrls.foldl (fun a k => a + if cq then k.2.ncq else k.2.nsq) 0

/-- A number of queues granted as the Number of Queues feature reports it, one less than it is: for a grant of none the feature has no value, and its
field is a free value (R303; log entry 178: DESIGN CHOICE, safe). -/
def grantField (n u : Nat) : Nat := if n = 0 then u % 65536 else (n - 1) % 65536

/-- SET_FEATURES (R303, R304): Arbitration, Number of Queues, Interrupt Coalescing and Asynchronous Event Configuration; the Volatile
Write Cache feature is read only. -/
def Dev.setFeature (s : Dev) (c : Nat) (m : NvmCmd) : Dev :=
  let k := s.ctrl c
  let fid := dw m.sqe 10 % 256
  let v := dw m.sqe 11
  if fid = 7 then
    if k.sqs.any (fun x => x.1 != 0) || k.cqs.any (fun x => x.1 != 0) then s.cmdDone c 0 m.seq 0xC 0
    else
      let lim := s.obj Obj.IOQ_LIMIT c
      let ns := min (v % 65536 + 1) (min lim (s.poolFree false + k.nsq))
      let nc := min (v / 65536 + 1) (min lim (s.poolFree true + k.ncq))
      ((s.fresh.2.setCtrl c { k with nsq := ns, ncq := nc }).setObj Obj.IOQ_GRANTED c ns).cmdDone c 0 m.seq 0
        (grantField ns s.fresh.1 + grantField nc (s.fresh.1 / 65536) * 65536)
  else if fid = 1 ∨ fid = 8 ∨ fid = 0xB then (s.setCtrl c { k with feats := Tab.ins k.feats fid v }).cmdDone c 0 m.seq 0 0
  else if fid = 6 then s.cmdDone c 0 m.seq 0x10E 0
  else s.cmdDone c 0 m.seq 0x2 0

/-- SET_FEATURES (R303). -/
def execSetFeatures (c cid : Nat) (s : State) : Res := adminCmd s c cid 9 (fun s m => s.setFeature c m)

/-- GET_FEATURES (R303, R304). -/
def Dev.getFeature (s : Dev) (c : Nat) (m : NvmCmd) : Dev :=
  let k := s.ctrl c
  let fid := dw m.sqe 10 % 256
  if fid = 7 then s.fresh.2.cmdDone c 0 m.seq 0 (grantField k.nsq s.fresh.1 + grantField k.ncq (s.fresh.1 / 65536) * 65536)
  else if fid = 6 then s.cmdDone c 0 m.seq 0 (if (s.nsOfCtrl c).any (fun i => !(s.cachedBacks i).isEmpty) then 1 else 0)
  else if fid = 1 ∨ fid = 8 ∨ fid = 0xB then s.cmdDone c 0 m.seq 0 (Tab.getD k.feats fid (if fid = 0xB then 0x100 else 0))
  else s.cmdDone c 0 m.seq 0x2 0

/-- GET_FEATURES (R303). -/
def execGetFeatures (c cid : Nat) (s : State) : Res := adminCmd s c cid 0xA (fun s m => s.getFeature c m)

/-- ASYNC_EVENT_REQUEST (R301, R321): completed by an event that waits, held otherwise; a fifth is refused. -/
def Dev.aerCmd (s : Dev) (c : Nat) (m : NvmCmd) : Dev :=
  let k := s.ctrl c
  match k.events with
  | e :: es => (s.setCtrl c { k with events := es }).cmdDone c 0 m.seq 0 e
  | [] => if 4 ≤ k.aers.length then s.cmdDone c 0 m.seq 0x105 0 else s.setCtrl c { k with aers := k.aers ++ [m.cid] }

/-- ASYNC_EVENT_REQUEST (R321). -/
def execAsyncEventRequest (c cid : Nat) (s : State) : Res := adminCmd s c cid 0xC (fun s m => s.aerCmd c m)

/-! ### Namespaces (R306, R307) -/

/-- Slot runs in use: first slot and count. -/
def Dev.runs (s : Dev) : List (Nat × Nat) :=
  (s.storage.nss.map (fun e => (s.obj Obj.EXTENT_BASE e.1, s.extents e.1))) ++ s.storage.deleting.map (fun d => d.2)

/-- The lowest run of n contiguous slots at or above x that meets none of the runs in use, trying their ends, at most k of them (R306). -/
def freeRunIn (slots : Nat) (runs : List (Nat × Nat)) (n : Nat) : Nat → Nat → Option Nat
  | 0, _ => none
  | k + 1, x =>
    if slots < x + n then none
    else
      match runs.find? (fun r => meets r.1 r.2 x n) with
      | none => some x
      | some r => freeRunIn slots runs n k (r.1 + r.2)

/-- The lowest run of n contiguous free slots (R306). -/
def Dev.freeRun (s : Dev) (n : Nat) : Option Nat := freeRunIn (s.obj Obj.EXTENT_SLOTS) s.runs n (s.runs.length + 1) 0

/-- The intent bits of a run of slots are no longer known to be set (R314). -/
def Dev.forgetIntents (s : Dev) (base n : Nat) : Dev :=
  s.updSto (fun g => { g with
    intents := g.intents.filter (fun e => !decide (base ≤ e.1 ∧ e.1 < base + n))
    intentDue := g.intentDue.filter (fun e => !decide (base ≤ e.2 ∧ e.2 < base + n)) })

/-- A namespace's slots are emptied: every record unbacked (R306). -/
def Dev.clearSlots (s : Dev) (base n : Nat) : Dev :=
  ((List.range n).foldl (fun t e => t.setObj Obj.EXTENT (base + e) 0) s).forgetIntents base n

/-- Namespace i is created over a run of slots (R306). -/
def Dev.makeNs (s : Dev) (i base blocks lbaf creator : Nat) (ext : Bool) (pi : Nat) : Dev :=
  let n := ceilDiv (blocks * lbaData lbaf) 1048576
  let s1 := (((((s.setObj Obj.NS_STATE i 1).setObj Obj.NS_EXTENTS i n).setObj Obj.LBA_FORMAT i lbaf).setObj Obj.EXTENT_BASE i base).setObj
    Obj.NS_CREATOR i creator)
  (s1.setNs i { blocks := blocks, extended := ext, piType := pi }).clearSlots base n

/-- Namespace Attribute Changed on controller c (R307), as its Asynchronous Event Configuration allows. -/
def Dev.nsChanged (s : Dev) (c i : Nat) : Dev :=
  let k := s.ctrl c
  let s1 := s.setCtrl c { k with changedNs := if k.changedNs.contains i then k.changedNs else k.changedNs ++ [i] }
  if k.en && bit (Tab.getD k.feats 0xB 0x100) 8 then s1.asyncEvent c 0x040002 else s1

/-- Namespace i is deleted (R306): detached, absent, its slots waiting for its commands. -/
def Dev.dropNs (s : Dev) (i : Nat) : Dev :=
  let cs := s.attachList i
  let s1 := (List.range 16).foldl (fun t j => t.setObj Obj.ATTACH (16 * i + j) 0xFFFF) s
  let s2 := (s1.updSto (fun g => { g with deleting := g.deleting ++ [(i, s.obj Obj.EXTENT_BASE i, s.extents i)], nss := Tab.del g.nss i }))
  let s3 := (((s2.setObj Obj.NS_STATE i 0).setObj Obj.NS_EXTENTS i 0).setObj Obj.EXTENT_BASE i 0).setObj Obj.NS_CREATOR i 0xFFFF
  cs.foldl (fun t c => t.nsChanged c i) s3

/-- An absent namespace, the first from number x on, for R306 does not say which one a create takes (log entry 5: DESIGN CHOICE, safe). -/
def Dev.freeNs (s : Dev) (x : Nat) : Option Nat :=
  let n := s.part.pick 32768 16384
  ((List.range n).map (fun k => (x + k) % n)).find? (fun i => (s.ns? i).isNone && !s.storage.deleting.any (fun d => d.1 == i))

/-- A namespace of nsze blocks in a format is created for controller c, or there is no number or no run of slots for it (R306). -/
def Dev.nsCreate (s : Dev) (c seq nsze flbas prot : Nat) : Dev :=
  match s.fresh.2.freeNs s.fresh.1, s.freeRun (ceilDiv (nsze * lbaData (flbas % 16)) 1048576) with
  | none, _ => s.cmdDone c 0 seq 0x116 0
  | some _, none => s.cmdDone c 0 seq 0x115 0
  | some i, some base => (s.fresh.2.makeNs i base nsze (flbas % 16) (s.ctrlFn c) (bit flbas 4) prot).cmdDone c 0 seq 0 (i + 1)

/-- NAMESPACE_MANAGEMENT (R306): create from the data of the host's buffer, or delete. -/
def Dev.nsManage (s : Dev) (c : Nat) (m : NvmCmd) (data : List Nat) : Dev :=
  let sel := dw m.sqe 10 % 16
  if isPf (s.ctrlFn c) = false then s.cmdDone c 0 m.seq 0x1 0
  else if sel = 0 then
    let nsze := ofLE (slice data 0 8)
    let flbas := nth data 26
    let lbaf := flbas % 16
    if nsze ≠ ofLE (slice data 8 8) ∨ nsze = 0 ∨ 3 < lbaf ∨ 3 < nth data 29 % 8 ∨ (nth data 29 % 8 ≠ 0 ∧ lbaMeta lbaf = 0) then
      s.cmdDone c 0 m.seq 0x2 0
    else s.nsCreate c m.seq nsze flbas (nth data 29 % 8)
  else if sel = 1 then
    if m.nsid = 0xFFFFFFFF then ((s.storage.nss.map Prod.fst).foldl Dev.dropNs s).cmdDone c 0 m.seq 0 0
    else if m.nsid = 0 ∨ (s.ns? (m.nsid - 1)).isNone = true then s.cmdDone c 0 m.seq 0xB 0
    else (s.dropNs (m.nsid - 1)).cmdDone c 0 m.seq 0 0
  else s.cmdDone c 0 m.seq 0x2 0

/-- The data of a Namespace Management command (R306): of a creation alone. -/
def Dev.manageData (s : Dev) (c : Nat) (m : NvmCmd) : HostData :=
  if dw m.sqe 10 % 16 = 0 then (s.dataAt c m 4096 0 true []).taken else { tables := [], segs := .ok [] }

/-- NAMESPACE_MANAGEMENT (R306). -/
def execNamespaceManagement (c cid : Nat) (data : List Nat) (s : State) : Res :=
  adminData s c cid 0xD (fun s m => s.manageData c m) true
    (fun s m _ => s.nsManage c m data)

/-- One controller is attached to, or detached from, namespace i (R307). -/
def Dev.attachOne (s : Dev) (i c : Nat) (on : Bool) : Dev :=
  let j := (List.range 16).find? (fun j => s.obj Obj.ATTACH (16 * i + j) == if on then 0xFFFF else c)
  match j with
  | some j => (s.setObj Obj.ATTACH (16 * i + j) (if on then c else 0xFFFF)).nsChanged c i
  | none => s

/-- NAMESPACE_ATTACHMENT (R307): the controllers named are this controller and those of its PF's VFs. -/
def Dev.nsAttach (s : Dev) (c : Nat) (m : NvmCmd) (ids : List Nat) : Dev :=
  let i := m.nsid - 1
  let sel := dw m.sqe 10 % 16
  let n := s.ctrlFn c
  let cs := ids.map (fun x => x - 1)
  let legal (x : Nat) : Bool := decide (1 ≤ x) && (x - 1 == c || (s.vfsOf n).contains (s.ctrlFn (x - 1)))
  if isPf n = false then s.cmdDone c 0 m.seq 0x1 0
  else if m.nsid = 0 ∨ (s.ns? i).isNone = true then s.cmdDone c 0 m.seq 0xB 0
  else if 1 < sel then s.cmdDone c 0 m.seq 0x2 0
  else if ids.isEmpty || !ids.all legal then s.cmdDone c 0 m.seq 0x11C 0
  else if sel = 0 then
    if cs.any (fun x => s.attached i x) then s.cmdDone c 0 m.seq 0x118 0
    else if 16 < (s.attachList i).length + cs.length then s.cmdDone c 0 m.seq 0x11C 0
    else (cs.foldl (fun t x => t.attachOne i x true) s).cmdDone c 0 m.seq 0 0
  else if cs.any (fun x => !s.attached i x) then s.cmdDone c 0 m.seq 0x11A 0
  else (cs.foldl (fun t x => t.attachOne i x false) s).cmdDone c 0 m.seq 0 0

/-- NAMESPACE_ATTACHMENT (R307). -/
def execNamespaceAttachment (c cid : Nat) (cntlids : List Nat) (s : State) : Res :=
  adminData s c cid 0x15 (fun s m => (s.dataAt c m 4096 0 true []).taken) true (fun s m _ => s.nsAttach c m cntlids)

/-- NS_DELETE_FREE (R306): no command to a deleted namespace is outstanding, and its slots are free. -/
def execNsDeleteFree (i : Nat) (s : State) : Res :=
  onMainIf s (s.storage.deleting.any (fun d => d.1 == i) &&
      s.storage.ctrls.all (fun c => c.2.sqs.all (fun q => q.2.cmds.all (fun m => m.nsid != i + 1))))
    (fun s =>
      let s1 := (s.storage.deleting.filter (fun d => d.1 == i)).foldl (fun t d => t.clearSlots d.2.1 d.2.2) s
      (s1.setObj Obj.LBA_FORMAT i 2).updSto (fun g => { g with deleting := g.deleting.filter (fun d => d.1 != i) }))

/-! ### Thaw, freeze and unsupported commands (R304, R321 to R324) -/

/-- THAW_SQ (R324): a FROZEN queue becomes THAWING; any other is an invalid field. -/
def Dev.thawSq (s : Dev) (c : Nat) (m : NvmCmd) : Dev :=
  let q := dw m.sqe 10 % 65536
  match s.sq? c q with
  | some x => if x.st = 1 then s.setSq c q { x with st := 2, thaw := some (false, m.cid) } else s.cmdDone c 0 m.seq 0x2 0
  | none => s.cmdDone c 0 m.seq 0x2 0

/-- THAW_SQ (R324). -/
def execThawSq (c cid : Nat) (s : State) : Res := adminCmd s c cid 0xC2 (fun s m => s.thawSq c m)

/-- Whether a thawing queue's condition holds (R322): no command started before the freeze is left, and every logged piece has
settled. -/
def Dev.thawReady (s : Dev) (c q : Nat) : Bool :=
  match s.sq? c q with
  | some x => x.st == 2 && x.cmds.all (fun m => m.final) &&
      !s.storage.unsettled.any (fun u => u.ctrl == c && u.sqid == q) && x.log.all (fun e => decide (e.settle ≤ s.tick))
  | none => false

/-- THAW_SQ_COMPLETE (R322): the log clears, the queue is READY, or gone if a delete waited, and the commands that waited complete (log entry 157: DESIGN CHOICE, unsafe). -/
def Dev.thawDone (s : Dev) (c q : Nat) : Dev :=
  match s.sq? c q with
  | none => s
  | some x =>
    let del := (x.thaw.map Prod.fst).getD false
    let cids := x.thawToo.toList ++ (x.thaw.map Prod.snd).toList
    let s1 := if del then let k := s.ctrl c; s.setCtrl c { k with sqs := Tab.del k.sqs q }
      else s.setSq c q { x with st := 0, log := [], freezeDue := none, thaw := none, thawToo := none }
    (cids.foldl (fun t cid => match t.cmd? c 0 cid with | some m => t.cmdDone c 0 m.seq 0 0 | none => t) s1).pump

/-- THAW_SQ_COMPLETE (R322). -/
def execThawSqComplete (c q : Nat) (s : State) : Res := onMainIf s (s.thawReady c q) (fun s => s.thawDone c q)

/-- NVME_INVALID_OPCODE (R304): a fetched command with an unsupported opcode completes with Invalid Command Opcode. -/
def execNvmeInvalidOpcode (c q cid : Nat) (s : State) : Res :=
  match s.cmd? c q cid with
  | some m =>
    if !m.started && !m.final && !(s.opcodes c (q == 0)).contains m.opcode then onMain s (fun s => (s.cmdDone c q m.seq 0x1 0).pump) else ok s s.toDev
  | none => ok s s.toDev

/-- SQ_FREEZE (R321): at the first edge after an unknown outcome the queue is FROZEN: commands without an operation complete with C0h,
those of unknown outcome with C1h, and the host is told. -/
def Dev.sqFreeze (s : Dev) (c q : Nat) : Dev :=
  match s.sq? c q with
  | none => s
  | some x =>
    let s1 := s.setSq c q { x with st := if x.thaw.isSome then 2 else 1, freezeTick := s.tick, freezeDue := none }
    let s2 := x.cmds.foldl (fun t m =>
      if m.final then t
      else if m.unknown then t.cmdDone c q m.seq 0x40C1 0
      else if m.issuedAny then t
      else t.cmdDone c q m.seq 0xC0 0) s1
    let (u, s3) := s2.fresh
    (((s3.bump Obj.FROZEN_EVENTS c).storageLog c q 1 ((x.log.head?.map FreezeEntry.backend).getD 0)).asyncEvent c (7 + u % 256 * 2 ^ 8 + 0xC1 * 2 ^ 16)).pump

/-- SQ_FREEZE (R321). -/
def execSqFreeze (c q : Nat) (s : State) : Res :=
  onMainIf s (match s.sq? c q with
    | some x => (match x.freezeDue with | some t => decide (t < s.tick) && x.st == 0 | none => false)
    | none => false) (fun s => s.sqFreeze c q)

/-- INTERRUPT_COALESCING_TIMER (R304): the aggregation time of a held interrupt has run out. -/
def execInterruptCoalescingTimer (c q : Nat) (s : State) : Res :=
  onMainIf s (match Tab.get? (s.ctrl c).cqs q with
    | some x => decide (0 < x.pend ∧ x.pendTick + aggTicks ((s.ctrl c).coalesce q).2 ≤ s.tick)
    | none => false) (fun s => s.cqInterrupt c q)

/-! ### Enabling, disabling and shutting down (R301, R325) -/

/-- CONTROLLER_ENABLE: CC.EN is set, and the admin queues that AQA, ASQ and ACQ describe exist (R301). -/
def Dev.ctrlEnable (s : Dev) (c : Nat) : Dev :=
  let k := s.ctrl c
  let sq : Sq := { base := k.asq, size := bits k.aqa 11 0 + 1, cq := 0 }
  let cq : Cq := { base := k.acq, size := bits k.aqa 27 16 + 1 }
  let k1 : Ctrl := { aqa := k.aqa, asq := k.asq, acq := k.acq, cc := k.cc, intm := k.intm, en := true, rdy := true,
                     sqs := [(0, sq)], cqs := [(0, cq)] }
  (s.setCtrl c k1).setObj Obj.CTRL_STATE c 1

/-- Whether a controller can be enabled: it is presented by a present function, and CC.EN is 0 with no disable in progress. -/
def Dev.canEnable (s : Dev) (c : Nat) : Bool :=
  s.present (s.ctrlFn c) && s.fstate (s.ctrlFn c) != 6 && !(s.ctrl c).en && (s.ctrl c).ending.isNone

/-- CONTROLLER_ENABLE (R301). -/
def execControllerEnable (c : Nat) (s : State) : Res := onMainIf s (s.canEnable c) (fun s => s.ctrlEnable c)

/-- Fetching stops, and commands not started complete without a posting, with those of the admin queue that wait for an event or a thaw (R325); the
grants return where CC.EN goes to 0 (R303). -/
def Dev.ctrlStop (s : Dev) (c ending : Nat) : Dev :=
  let k := s.ctrl c
  let keep (q : Nat) (m : NvmCmd) : Bool := m.final || (q != 0 && m.started)
  let s1 := k.sqs.foldl (fun t x => (x.2.cmds.filter (fun m => !keep x.1 m)).foldl (fun u m => u.cmdFree c m) t) s
  let sqs := k.sqs.map (fun x => (x.1, { x.2 with cmds := x.2.cmds.filter (keep x.1), tail := x.2.head }))
  let k1 : Ctrl := { k with sqs := sqs, ending := some ending, aers := [], events := [] }
  let s2 := if ending = 1 then s1.setCtrl c { k1 with shst := 1 } else (s1.setCtrl c { k1 with nsq := 0, ncq := 0 }).setObj Obj.IOQ_GRANTED c 0
  s2.setObj Obj.CTRL_STATE c 2

/-- CONTROLLER_DISABLE (R325): CC.EN goes to 0. -/
def execControllerDisable (c : Nat) (s : State) : Res :=
  onMainIf s ((s.ctrl c).en && (s.ctrl c).ending != some 0) (fun s => s.ctrlStop c 0)

/-- CONTROLLER_SHUTDOWN (R325): a CC.SHN write; every volatile-cache backend of the attached namespaces is flushed. -/
def Dev.ctrlShutdown (s : Dev) (c : Nat) : Dev :=
  let bs := ((s.nsOfCtrl c).flatMap s.cachedBacks).eraseDups
  bs.foldl (fun t b => t.ownSend { op := .shutdown c, backend := b }) (s.ctrlStop c 1)

/-- CONTROLLER_SHUTDOWN (R325). -/
def execControllerShutdown (c : Nat) (s : State) : Res :=
  onMainIf s ((s.ctrl c).en && (s.ctrl c).ending.isNone && (s.ctrl c).shst == 0) (fun s => s.ctrlShutdown c)

/-- Whether a disable or shutdown can end (R325): every started command has ended, every unknown piece it left has settled, and the
flushes of a shutdown are done. -/
def Dev.endReady (s : Dev) (c : Nat) : Bool :=
  (s.ctrl c).ending.isSome && (s.ctrl c).sqs.all (fun x => x.2.cmds.all (fun m => m.final && !m.flying)) && !s.storage.unsettled.any (fun u => u.ctrl == c)
    && !s.storage.own.any (fun o => o.op == .shutdown c)

/-- CONTROLLER_DISABLE_DONE (R303, R325): CSTS.RDY clears, or CSTS.SHST reports completion; the grants return to the pool. -/
def Dev.ctrlEnd (s : Dev) (c : Nat) : Dev :=
  let k := s.ctrl c
  let keep : Ctrl := { aqa := k.aqa, asq := k.asq, acq := k.acq, cc := k.cc, intm := k.intm }
  let k1 : Ctrl := if k.ending = some 1 then { k with ending := none, rdy := k.rdy, shst := 2, nsq := 0, ncq := 0, sqs := [], cqs := [] }
    else keep
  ((s.setCtrl c k1).setObj Obj.CTRL_STATE c 0).setObj Obj.IOQ_GRANTED c 0

/-- CONTROLLER_DISABLE_DONE (R325). -/
def execControllerDisableDone (c : Nat) (s : State) : Res := onMainIf s (s.endReady c) (fun s => s.ctrlEnd c)

/-- A reset of the function that presents controller c acts as CC.EN = 0, with nothing more written to the host (R325); its registers
return to their values after reset. -/
def Dev.ctrlWipe (s : Dev) (n : Nat) : Dev :=
  match s.ctrlOfFn n with
  | none => s
  | some c =>
    let k := s.ctrl c
    if k.en then
      let s1 := s.ctrlStop c 0
      let quiet (x : Nat × Sq) : Nat × Sq := (x.1, { x.2 with cmds := (x.2.cmds.filter (fun m => !m.final || m.flying)).map (fun m => { m with posted := m.final }) })
      let k1 := s1.ctrl c
      s1.setCtrl c { k1 with sqs := k1.sqs.map quiet, cqs := k1.cqs.map (fun x => (x.1, { x.2 with waiting := [], pend := 0 })), mute := true, aqa := 0, asq := 0, acq := 0, cc := 0, intm := 0 }
    else s.setCtrl c { k with aqa := 0, asq := 0, acq := 0, cc := 0, intm := 0 }

/-- Whether the controller of function n has started commands that have not ended (R326). -/
def Dev.ctrlBusy (s : Dev) (n : Nat) : Bool :=
  match s.ctrlOfFn n with
  | some c => (s.ctrl c).sqs.any (fun x => x.2.cmds.any (fun m => !m.final && !(x.1 == 0 && m.opcode == 0xC)))
  | none => false

end Sys2Proof.Machine
end

