-- ==== Sys2Proof/Machine/Backends.lean ====
section
/-! DEFINITION. NVM commands and backends (R305, R308, R310 to R318, R320 to R322): the I/O commands, backend completions, lost and
returning paths, settlement, resynchronisation, intents, recovery and local drives. -/
namespace Sys2Proof.Machine

/-! ### NVM commands (R304, R305, R312, R317, R318) -/

/-- The outstanding I/O command of a queue with a CID and an opcode whose row has not run yet. -/
def Dev.io? (s : Dev) (c q cid op : Nat) : Option NvmCmd :=
  if q ≠ 0 then
    (match s.cmd? c q cid with | some m => if m.opcode == op && !m.started && !m.final then some m else none | none => none)
  else none

/-- Run an I/O command: it has its effect, and everything that can go on does. -/
def ioCmd (s : State) (c q cid op : Nat) (f : Dev → NvmCmd → Dev) : Res :=
  match s.io? c q cid op with
  | some m => onMain s (fun s => (f s m).pump)
  | none => ok s s.toDev

/-- The status that refuses a command's namespace or range before anything else: 0, Invalid Namespace or Format, Invalid Field for a
transfer above MDTS, LBA Out of Range, or Internal Error for a namespace whose key cannot be used. -/
def Dev.ioCheck (s : Dev) (c : Nat) (m : NvmCmd) (len : Nat) : Nat :=
  match s.ns? (m.nsid - 1) with
  | none => 0xB
  | some x =>
    if m.nsid = 0 ∨ s.attached (m.nsid - 1) c = false then 0xB
    else if 2097152 < len then 0x2
    else if x.blocks < m.slba + m.blocks then 0x80
    else if s.keyBad (m.nsid - 1) then 0x6
    else 0

/-- FLUSH (R318): to every backend of the namespace with a volatile write cache; for NSID FFFFFFFFh, of every attached namespace. -/
def Dev.nvmFlush (s : Dev) (c q : Nat) (m : NvmCmd) : Dev :=
  let is := if m.nsid = 0xFFFFFFFF then s.nsOfCtrl c else [m.nsid - 1]
  if m.nsid ≠ 0xFFFFFFFF ∧ (m.nsid = 0 ∨ (s.ns? (m.nsid - 1)).isNone = true ∨ s.attached (m.nsid - 1) c = false) then s.cmdDone c q m.seq 0xB 0
  else if is.any s.keyBad then s.cmdDone c q m.seq 0x6 0
  else
    match (is.flatMap s.cachedBacks).eraseDups with
    | [] => s.cmdDone c q m.seq 0 0
    | bs => s.updCmd c q m.seq (fun y => { y with started := true, toFlush := bs })

/-- FLUSH (R318). -/
def execFlushCmd (c q cid : Nat) (s : State) : Res := ioCmd s c q cid 0 (fun s m => s.nvmFlush c q m)

/-- Where the blocks of a Write or Read lie in the host: the metadata of a namespace that does not extend its blocks lie apart (R305, R307). -/
def Dev.blocksAt (s : Dev) (c : Nat) (m : NvmCmd) (ws : List Nat) : HostData :=
  let i := m.nsid - 1
  let gen := s.generates i m.sqe
  let ext := match s.ns? i with | some x => x.extended | none => false
  let sep := if ext || gen then 0 else m.blocks * s.metaSize i
  s.dataAt c m (s.xferLen i m.blocks gen - sep) sep false ws

/-- A Write takes a chain for its data, which a mover reads from the host, with the class 0 of the command's parcel (R305; log entry 60: DEDUCED, unsafe). -/
def Dev.writeTake (s : Dev) (c q : Nat) (m : NvmCmd) (segs : List (Nat × Nat)) : Dev :=
  let i := m.nsid - 1
  let n := s.ctrlFn c
  let len := s.xferLen i m.blocks (s.generates i m.sqe)
  let (r, s1) := s.alloc (ownerFunction n) len
  (s1.updCmd c q m.seq (fun y =>
    { y with started := true, reading := len, chain := r.handle, segs := segs, pieces := s1.split i (m.blocks + 1) m.slba m.blocks })).moverRead
    (s1.obj Obj.BUCKET_HOME (bucketOf (s1.pairHash c q))) 0 n segs (.nvm c q m.seq)

/-- NVM_WRITE (R305, R317): the command is checked; without a chain for its data it waits; its PRP lists or SGL segments are read, `list` being
what they hold, and its data follow. -/
def Dev.nvmWrite (s : Dev) (c q : Nat) (m : NvmCmd) (list : Option (List Nat)) : Dev :=
  let i := m.nsid - 1
  let len := s.xferLen i m.blocks (s.generates i m.sqe)
  let bad := s.ioCheck c m len
  let a := s.alloc (ownerFunction (s.ctrlFn c)) len
  if bad ≠ 0 then s.cmdDone c q m.seq bad 0
  else if a.1.status ≠ 0 then a.2
  else s.withData c q m (s.blocksAt c m (list.getD [])) list.isSome (fun gs t => t.writeTake c q m gs)

/-- NVM_WRITE (R317). -/
def execNvmWrite (c q cid : Nat) (list : Option (List Nat)) (s : State) : Res := ioCmd s c q cid 1 (fun s m => s.nvmWrite c q m list)

/-- NVM_READ (R305, R317): the command is checked, its PRP lists or SGL segments are read, and its pieces wait for what they must wait for. -/
def Dev.nvmRead (s : Dev) (c q : Nat) (m : NvmCmd) (list : Option (List Nat)) : Dev :=
  let i := m.nsid - 1
  let bad := s.ioCheck c m (s.xferLen i m.blocks (s.generates i m.sqe))
  if bad ≠ 0 then s.cmdDone c q m.seq bad 0
  else s.withData c q m (s.blocksAt c m (list.getD [])) list.isSome (fun gs t =>
    t.updCmd c q m.seq (fun y => { y with started := true, segs := gs, pieces := s.split i (m.blocks + 1) m.slba m.blocks }))

/-- NVM_READ (R317). -/
def execNvmRead (c q cid : Nat) (list : Option (List Nat)) (s : State) : Res := ioCmd s c q cid 2 (fun s m => s.nvmRead c q m list)

/-- WRITE_ZEROES (R312). -/
def Dev.writeZeroes (s : Dev) (c q : Nat) (m : NvmCmd) : Dev :=
  let bad := s.ioCheck c m 0
  if bad ≠ 0 then s.cmdDone c q m.seq bad 0
  else s.updCmd c q m.seq (fun y => { y with started := true, pieces := s.split (m.nsid - 1) (m.blocks + 1) m.slba m.blocks })

/-- WRITE_ZEROES (R312). -/
def execWriteZeroes (c q cid : Nat) (s : State) : Res := ioCmd s c q cid 8 (fun s m => s.writeZeroes c q m)

/-- DATASET_MANAGEMENT (R304, R312): reads its ranges and deallocates them; without the deallocate attribute it succeeds at once. -/
def Dev.datasetMgmt (s : Dev) (c q : Nat) (m : NvmCmd) (list : List Nat) (rs : List (Nat × Nat)) : Dev :=
  let i := m.nsid - 1
  let n := dw m.sqe 10 % 256 + 1
  let ranges := rs.take n
  let bad := s.ioCheck c m 0
  let out := match s.ns? i with | some x => ranges.any (fun r => decide (x.blocks < r.1 + r.2)) | none => false
  if bad ≠ 0 then s.cmdDone c q m.seq bad 0
  else if bit (dw m.sqe 11) 2 = false then s.cmdDone c q m.seq 0 0
  else s.withData c q m (s.dataAt c m (16 * n) 0 false list).taken true (fun _ t =>
    if out then t.cmdDone c q m.seq 0x80 0
    else if ranges.all (fun r => r.2 == 0) then t.cmdDone c q m.seq 0 0
    else t.updCmd c q m.seq (fun y => { y with started := true, pieces := ranges.flatMap (fun r => s.split i (r.2 + 1) r.1 r.2) }))

/-- DATASET_MANAGEMENT (R312). -/
def execDatasetManagement (c q cid : Nat) (x : DsmData) (s : State) : Res :=
  ioCmd s c q cid 9 (fun s m => s.datasetMgmt c q m x.list x.ranges)

/-! ### Completions from backends (R312, R318) -/

/-- A parcel of kind 0x04 for a backend's completion (R35, R37, R38), if the command it answers is known; of class 0 (log entry 60: DEDUCED, unsafe). -/
def Dev.bkParcel (s : Dev) (c q cid len : Nat) : Dev :=
  s.admitParcel (newParcel 4 (s.pairHash c q) 0 (s.ctrlFn c) nullHandle len (kindNvm c q cid))

/-- A piece's backend operation has ended, with a read's data (R312). Data of a command that has been aborted are discarded (R319). -/
def Dev.pieceEnd (s : Dev) (c q m j : Nat) (sec : Bool) (status : Nat) (data : List Nat) : Dev :=
  match s.cmdBy? c q m with
  | none => s
  | some y =>
    match y.pieces[j]? with
    | none => s
    | some p =>
      if (if sec then p.sec else p.pri) ≠ .inFlight then s
      else
        let s1 := if y.final || y.opcode != 2 || status != 0 then s
          else s.updCmd c q m (fun z => { z with got := Tab.ins z.got p.slba data })
        ((((s1.sideEnd c q m j sec (sideOf status)).bkParcel c q y.cid data.length).cmdEnd c q m).reap c q m).pump

/-- A flush of a command has ended on a backend: any failure is the command's status (R318). -/
def Dev.flushEnd (s : Dev) (b c q m status : Nat) : Dev :=
  match s.cmdBy? c q m with
  | none => s
  | some y =>
    if !y.flushing.contains b then s
    else
      let s1 := (s.updCmd c q m (fun z => { z with flushing := z.flushing.filter (fun x => x != b) })).bkParcel c q y.cid 0
      if status ≠ 0 then (s1.cmdDone c q m (status % 32768) 0).pump
      else if (y.flushing.filter (fun x => x != b)).isEmpty && y.toFlush.isEmpty then (s1.cmdDone c q m 0 0).pump
      else s1

/-- Whether every marked extent of a recovering namespace is IN_SYNC: NS_STATE returns to CREATED (R315). -/
def Dev.recovered (s : Dev) (i : Nat) : Dev :=
  match s.ns? i with
  | some x =>
    if s.obj Obj.NS_STATE i = 2 ∧ x.recover.isEmpty = true ∧ s.storage.own.all (fun o => match o.op with | .bitmap j _ => j != i | _ => true) = true
    then s.setObj Obj.NS_STATE i 1 else s
  | none => s

/-- An extent of a recovering namespace is marked SEC_STALE (R315). -/
def Dev.mark (s : Dev) (i x : Nat) : Dev :=
  match s.ns? i with
  | some y => (s.stale x).setNs i { y with recover := if y.recover.contains x then y.recover else y.recover ++ [x] }
  | none => s

/-- The mirrored extents of namespace i. -/
def Dev.mirrored (s : Dev) (i : Nat) : List Nat :=
  ((List.range (s.extents i)).map (fun e => s.obj Obj.EXTENT_BASE i + e)).filter (fun x =>
    bits (s.obj Obj.EXTENT x) 1 0 == 1 && bit (s.obj Obj.EXTENT x) 2)

/-- RECOVER = 1 applied for namespace i (R315): its intent bitmap is read, or, without one, every mirrored extent is marked. -/
def Dev.nsRecover (s : Dev) (i : Nat) : Dev :=
  let s1 := s.setObj Obj.NS_STATE i 2
  let b := s.obj Obj.INTENT_BACKEND i
  if b = 0xFFFF then ((s.mirrored i).foldl (fun t x => t.mark i x) s1).recovered i
  else
    ((List.range (ceilDiv (s.extents i) 32768)).foldl (fun t k => t.ownSend { op := .bitmap i k, backend := b }) s1).recovered i

/-- RESYNC_DONE (R313, R315): the copy has ended; a good one leaves the extent IN_SYNC, is counted and logged, and writes go on. -/
def Dev.resyncDone (s : Dev) (x : Nat) (good : Bool) : Dev :=
  let sb := bits (s.obj Obj.EXTENT x) 127 118
  let s1 := (s.updSto (fun g => { g with own := g.own.filter (fun o => o.op != .copy x) })).lingers x
  if !good then (s1.setSync x 1).pump
  else
    let s2 := ((s1.setSync x 0).bump Obj.RESYNC_EXTENTS sb).storageLog 0xFFFF 0 3 sb
    (match s2.nsOfSlot x with
      | some i => (match s2.ns? i with
        | some y => (s2.setNs i { y with recover := y.recover.filter (fun z => z != x) }).recovered i
        | none => s2)
      | none => s2).pump

/-- The end of an operation of the device itself (R313 to R315, R325). One that failed is sent again; what a copy read from the primary is written to
the secondary. -/
def Dev.ownEnd (s : Dev) (b : Nat) (op : BkOp) (status : Nat) (data : List Nat) : Dev :=
  match s.storage.own.find? (fun o => o.op == op && o.backend == b && o.live) with
  | none => s
  | some o =>
    let s1 := s.updSto (fun g => { g with own := g.own.erase o })
    match op with
    | .intent _ _ =>
      if status ≠ 0 then s1.ownSend o
      else
        let on := o.sets.foldl (fun t x => Tab.ins t x s.tick) s1.storage.intents
        (s1.updSto (fun g => { g with intents := o.clears.foldl (fun t x => Tab.del t x) on })).pump
    | .bitmap i k =>
      if status ≠ 0 then s1.ownSend o
      else
        let base := s.obj Obj.EXTENT_BASE i
        let marked (x : Nat) : Bool := decide (base + 32768 * k ≤ x ∧ x < base + 32768 * (k + 1)) && bit (nth data ((x - base) % 32768 / 8)) ((x - base) % 8)
        let xs := (s.mirrored i).filter marked
        (xs.foldl (fun t x => (t.mark i x).updSto (fun g => { g with intents := Tab.ins g.intents x s.tick })) s1).recovered i
    | .copy x =>
      if status ≠ 0 then s1.resyncDone x false
      else if o.writing then s1.resyncDone x true
      else
        let r := s.obj Obj.EXTENT x
        let sb := bits r 127 118
        (s1.updSto (fun g => { g with own := g.own ++ [{ o with backend := sb, writing := true, since := s.tick }] })).emit
          (.backend sb op 1 (bits r 255 192) (1048576 / max 1 (bits (s.obj Obj.BK_LBA_SIZE sb) 23 0)) false (data.take 1048576))
    | _ => s1

/-- BACKEND_COMPLETION (R312): a backend answers an operation, with a status, 0 for success, and a read's data. -/
def execBackendCompletion (b : Nat) (op : BkOp) (status : Nat) (data : List Nat) (s : State) : Res :=
  onMainIf s (s.live b) (fun s =>
    match op with
    | .piece c q m j sec =>
      (match (s.cmdBy? c q m).bind (fun y => y.pieces[j]?) with
       | some p => if (if sec then p.secBk else p.priBk) = b then s.pieceEnd c q m j sec status data else s
       | none => s)
    | .flush c q m => s.flushEnd b c q m status
    | _ => s.ownEnd b op status data)

/-! ### Paths (R310, R311) -/

/-- One command's operations on a lost backend (R311, R320): a read is to be issued again, counting from its first issue; a primary side
of a write-class piece becomes unknown, a secondary side likewise; a flush waits for the path. -/
def Dev.lostCmd (s : Dev) (b c q seq : Nat) (timeout : Bool) : Dev :=
  match s.cmdBy? c q seq with
  | none => s
  | some m =>
    let s1 := (List.range m.pieces.length).foldl (fun t j =>
      match m.pieces[j]? with
      | none => t
      | some p =>
        if p.pri = .inFlight ∧ p.priBk = b then
          if writeClass m.opcode then t.pieceUnknown c q m j (if timeout then 3 else if p.mirrored then 1 else 2)
          else
            t.updCmd c q seq (fun y => { y with pieces := updPiece y.pieces j (fun z => { z with pri := .absent, issued := none, held := z.held.or p.first }) })
        else if p.sec = .inFlight ∧ p.secBk = b then t.sideEnd c q seq j true .unknown
        else t) s
    if m.flushing.contains b then
      (s1.updCmd c q seq (fun y => { y with flushing := y.flushing.filter (fun x => x != b), toFlush := y.toFlush ++ [b] })).hold c q seq
    else (s1.cmdEnd c q seq).reap c q seq

/-- A backend's path is lost (R311): LOST, logged, counted, and a connection attempted again. -/
def Dev.pathLost (s : Dev) (b : Nat) (timeout : Bool) : Dev :=
  let s1 := (((s.setObj Obj.BK_STATE b 3).bump Obj.PATH_LOSSES b).storageLog 0xFFFF 0 2 b).setBack b { s.back b with lostTick := s.tick }
  let work := s.storage.ctrls.flatMap (fun c => c.2.sqs.flatMap (fun q => q.2.cmds.map (fun m => (c.1, q.1, m.seq))))
  let s2 := work.foldl (fun t w => t.lostCmd b w.1 w.2.1 w.2.2 timeout) s1
  let onB (x : Nat) : Bool := bits (s.obj Obj.EXTENT x) 117 108 == b || bits (s.obj Obj.EXTENT x) 127 118 == b
  let copies := s.storage.own.filterMap (fun o => match o.op with | .copy x => if onB x then some x else none | _ => none)
  let s3 := copies.foldl (fun t x => if t.sync x = 2 then t.setSync x 1 else t) s2
  let isCopy (o : OwnOp) : Bool := match o.op with | .copy x => copies.contains x | _ => false
  (s3.updSto (fun g => { g with own := (g.own.filter (fun o => !isCopy o)).map (fun o => if o.backend = b then { o with live := false } else o) })).pump
    |>.connect b

/-- Whether root port r has an NVMe drive that can be reached: one enumerated, and not gone by surprise or contained (R224). -/
def Dev.driveAt (s : Dev) (r : Nat) : Bool := Tab.get? s.storage.drives r == some true && !s.storage.contained.contains r

/-- The backends whose path is lost with backend b's: for a local drive, every LIVE one on its root port (R224, R311). -/
def Dev.lostWith (s : Dev) (b : Nat) : List Nat :=
  if s.obj Obj.BK_KIND b = 1 then
    (List.range 1024).filter (fun x => s.live x && s.obj Obj.BK_KIND x == 1 && s.obj Obj.BK_ROOT_PORT x == s.obj Obj.BK_ROOT_PORT b)
  else [b]

/-- The drive of a local backend is gone by surprise, or its root port contains it (R224, R311). -/
def Dev.driveGone (s : Dev) (b : Nat) : Dev :=
  let r := s.obj Obj.BK_ROOT_PORT b
  if s.obj Obj.BK_KIND b = 1 then s.updSto (fun g => { g with contained := if g.contained.contains r then g.contained else g.contained ++ [r] }) else s

/-- BACKEND_PATH_LOSS (R224, R311): a connection reset, a queue pair error, or the drive of a local backend gone, in use or not. -/
def execBackendPathLoss (b : Nat) (s : State) : Res :=
  onMainIf s (s.live b || (s.obj Obj.BK_KIND b == 1 && s.driveAt (s.obj Obj.BK_ROOT_PORT b))) (fun s =>
    (s.lostWith b).foldl (fun t x => t.pathLost x false) (s.driveGone b))

/-- The pieces whose backends are all LIVE are held for them no longer (R311). -/
def Dev.unheld (s : Dev) : Dev :=
  s.updSto (fun g => { g with ctrls := g.ctrls.map (fun c => (c.1, { c.2 with sqs := c.2.sqs.map (fun q => (q.1, { q.2 with cmds := q.2.cmds.map (fun m =>
    { m with pieces := m.pieces.map (fun p => if s.downFor p.slot (writeClass m.opcode) then p else { p with held := none }) }) })) })) })

/-- A backend reaches LIVE with what it reports, or INCAPABLE the first time (R310); what waited for it goes on (R311). -/
def Dev.backLive (s0 : Dev) (b ds ms blocks : Nat) (cache : Bool) (atomicBytes boundary : Nat) : Dev :=
  let s := s0.updSto (fun g => { g with contained := g.contained.filter (fun r => !(s0.obj Obj.BK_KIND b == 1 && r == s0.obj Obj.BK_ROOT_PORT b)) })
  let x := s.back b
  if !x.seen ∧ (atomicBytes < 262144 ∨ boundary % 1048576 ≠ 0) then (s.setObj Obj.BK_STATE b 4).storageLog 0xFFFF 0 5 b
  else
    let s1 := ((s.setObj Obj.BK_STATE b 2).setObj Obj.BK_LBA_SIZE b (ds % 2 ^ 24 + ms % 256 * 2 ^ 24)).setBack b
      { x with seen := true, cache := cache, blocks := blocks, kaSent := s.tick, kaSeen := s.tick }
    let wait := s1.storage.own.filter (fun o => o.backend == b && !o.live)
    let s2 := s1.updSto (fun g => { g with own := g.own.filter (fun o => !(o.backend == b && !o.live)) })
    (wait.foldl Dev.ownSend s2.unheld).pump

/-- BACKEND_LIVE (R310): the namespace's data and metadata bytes, blocks, write cache, power-fail atomic write and atomic boundary. -/
def execBackendLive (b dataBytes metaBytes blocks : Nat) (cache : Bool) (atomicBytes boundary : Nat) (s : State) : Res :=
  onMainIf s (s.obj Obj.BK_KIND b != 0 && (s.obj Obj.BK_STATE b == 1 || s.obj Obj.BK_STATE b == 3) &&
      (s.obj Obj.BK_KIND b != 1 || Tab.get? s.storage.drives (s.obj Obj.BK_ROOT_PORT b) == some true))
    (fun s => s.backLive b dataBytes metaBytes blocks cache atomicBytes boundary)

/-- KEEP_ALIVE (R310, R311): one is sent every KATO ÷ 2; `answered`: the last one has been. Unanswered for KATO, the path is lost. -/
def execKeepAlive (b : Nat) (answered : Bool) (s : State) : Res :=
  onMainIf s (s.live b && decide (2 ≤ s.obj Obj.BK_KIND b) && s.obj Obj.ROLE != 4 && decide ((s.back b).kaSent + s.obj Obj.KATO / 2 ≤ s.tick)) (fun s =>
    let x := s.back b
    let seen := if answered then s.tick else x.kaSeen
    if seen + s.obj Obj.KATO ≤ s.tick then s.pathLost b false
    else (s.setBack b { x with kaSent := s.tick, kaSeen := seen }).emit (.keepAlive b))

/-- Whether CMD_TIMEOUT has passed since a tick. -/
def Dev.cmdOld (s : Dev) (t : Option Nat) : Bool := t.any (fun t => decide (t + s.obj Obj.CMD_TIMEOUT ≤ s.tick))

/-- Whether a command of a host, or of the device itself, has been outstanding on backend b for CMD_TIMEOUT since its first issue (R311). -/
def Dev.cmdTimedOut (s : Dev) (b : Nat) : Bool :=
  s.storage.ctrls.any (fun c => c.2.sqs.any (fun q => q.2.cmds.any (fun m =>
    m.pieces.any (fun p => ((p.pri == .inFlight && p.priBk == b) || (p.sec == .inFlight && p.secBk == b)) && s.cmdOld p.first) ||
      (m.flushing.contains b && s.cmdOld m.flushTick)))) ||
    s.storage.own.any (fun o => o.backend == b && o.live && s.cmdOld (some o.since))

/-- BACKEND_CMD_TIMEOUT (R311): counted, and the path is lost. -/
def execBackendCmdTimeout (b : Nat) (s : State) : Res :=
  onMainIf s (s.live b && s.cmdTimedOut b) (fun s => (s.bump Obj.COMMAND_TIMEOUTS b).pathLost b true)

/-- Whether a command has been held for a backend that is not LIVE for CMD_TIMEOUT (R311); one that waits for an unknown piece to settle has no
bound (R322). -/
def Dev.heldOut (s : Dev) (c q cid : Nat) : Bool :=
  match s.cmd? c q cid with
  | some m => !m.final && !s.unsettledAt m &&
    (m.pieces.any (fun p => p.issued.isNone && s.downFor p.slot (writeClass m.opcode) && s.cmdOld p.held) ||
      (s.cmdOld m.held && m.toFlush.any (fun b => !s.live b)))
  | none => false

/-- HELD_COMMAND_TIMEOUT (R311): Internal Path Error, without DNR. -/
def execHeldCommandTimeout (c q cid : Nat) (s : State) : Res :=
  onMainIf s (s.heldOut c q cid) (fun s => match s.cmd? c q cid with | some m => (s.cmdDone c q m.seq 0x300 0).pump | none => s)

/-! ### Settlement, resynchronisation and intents (R313, R314, R320, R322) -/

/-- PIECE_SETTLE (R320, R322): every unknown piece whose edge S has come settles; an UNSETTLED extent with none left is SEC_STALE. -/
def Dev.settlePieces (s : Dev) : Dev :=
  let gone := s.storage.unsettled.filter (fun u => decide (u.settle ≤ s.tick))
  let left := s.storage.unsettled.filter (fun u => !decide (u.settle ≤ s.tick))
  let s1 := s.updSto (fun g => { g with unsettled := left })
  (gone.foldl (fun t u =>
    if u.mirrored && !left.any (fun v => v.slot == u.slot && v.mirrored) && t.sync u.slot == 3 then t.setSync u.slot 1 else t) s1).pump

/-- PIECE_SETTLE (R320). -/
def execPieceSettle (s : State) : Res :=
  onMainIf s (s.storage.unsettled.any (fun u => decide (u.settle ≤ s.tick))) Dev.settlePieces

/-- Whether the extent in slot x may start to be resynchronised (R313). -/
def Dev.resyncReady (s : Dev) (x : Nat) : Bool :=
  let r := s.obj Obj.EXTENT x
  bits r 1 0 == 1 && bit r 2 && s.sync x == 1 && s.live (bits r 117 108) && s.live (bits r 127 118) && s.forwards
    && !s.storage.unsettled.any (fun u => u.slot == x)

/-- RESYNC_START (R313): RESYNCING, and the copy starts. -/
def execResyncStart (x : Nat) (s : State) : Res :=
  onMainIf s (s.resyncReady x) (fun s => (s.setSync x 2).ownSend { op := .copy x, backend := bits (s.obj Obj.EXTENT x) 117 108 })

/-- RESYNC_DONE (R313): a copy that is being written to the secondary has ended, or one has failed. -/
def execResyncDone (x : Nat) (good : Bool) (s : State) : Res :=
  onMainIf s (s.sync x == 2 && (!good || s.storage.own.any (fun o => o.op == .copy x && o.writing))) (fun s => s.resyncDone x good)

/-- Whether the intent bit of slot x of namespace i may be cleared (R314). -/
def Dev.intentOld (s : Dev) (i x : Nat) : Bool :=
  (match Tab.get? s.storage.intents x with | some t => decide (t + s.obj Obj.INTENT_LINGER ≤ s.tick) | none => false)
    && s.sync x == 0 && s.forwards && !s.intentBusy i (intentBlock (x - s.obj Obj.EXTENT_BASE i))
    && s.storage.ctrls.all (fun c => c.2.sqs.all (fun q => q.2.cmds.all (fun m =>
        !writeClass m.opcode || m.final || m.pieces.all (fun p => p.slot != x))))

/-- INTENT_CLEAR (R314): the bit is cleared on the bitmap's backend. -/
def execIntentClear (x : Nat) (s : State) : Res :=
  match s.nsOfSlot x with
  | some i => onMainIf s (s.intentOld i x) (fun s =>
      s.ownSend { op := .intent i (intentBlock (x - s.obj Obj.EXTENT_BASE i)), backend := s.obj Obj.INTENT_BACKEND i, clears := [x] })
  | none => ok s s.toDev

/-! ### Local drives (R224, R310) -/

/-- Whether r numbers a root port in service: on a DOWNSTREAM controller, at the first lane of a port (R224, R310). -/
def Dev.rootPort (s : Dev) (r : Nat) : Bool :=
  decide (r < 8 * s.part.links) && s.obj Obj.LINK_MODE (r / 8) == 3 && r % 8 % max 1 (s.obj Obj.ROOT_PORT_WIDTH (r / 8)) == 0

/-- HOT_PLUG_INSERTION (R224, R310): a device is enumerated; one that is not an NVMe drive stays disabled and is logged. -/
def execHotPlugInsertion (r : Nat) (nvme : Bool) (s : State) : Res :=
  onMainIf s (s.rootPort r) (fun s =>
    let s1 := s.updSto (fun g => { g with drives := Tab.ins g.drives r nvme, contained := g.contained.filter (· != r) })
    if !nvme then s1.storageLog 0xFFFF 0 4 r
    else
      (List.range 1024).foldl (fun t b =>
        if t.obj Obj.BK_KIND b = 1 ∧ t.obj Obj.BK_ROOT_PORT b = r ∧ t.obj Obj.BK_STATE b = 0 then (t.setObj Obj.BK_STATE b 1).connect b else t) s1)

end Sys2Proof.Machine
end

