-- ==== Sys2Proof/Machine/HostQueues.lean ====
section
/-! DEFINITION. Descriptor queues (R253 to R268, R275, R276, R296): doorbells, work descriptors, jobs, completions, index writes, the
completions of reads, and dirty-page marks. -/
namespace Sys2Proof.Machine

/-! ### Completion entries (R266, R267) -/

/-- Whether a completion queue can take an entry (R266). -/
def Dev.cqRoom (s : Dev) (c : Queue) : Bool :=
  c.st == 1 && decide (s.qsub c c.prod c.cons + (if s.level7 then 1 else 0) < c.size)

/-- An index as written to the host: 32 bits at level 9, masked to the size at level 7 (R256, R276). -/
def Dev.indexOut (s : Dev) (q : Queue) (i : Nat) : Nat := i % s.qmod q

/-- The 32-byte completion entry of a job of work queue Q in a completion queue (R267). -/
def Dev.entryOf (s : Dev) (Q : Nat) (q c : Queue) (j : Job) : Nat :=
  let hi := match j.ts with
    | some t => t * 2 ^ 160
    | none => if Q = 0 then j.result * 2 ^ 128 else 0
  let tsv := if j.ts.isSome then 2 ^ 16 + (if s.level7 then 0 else bits j.desc 47 45) * 2 ^ 17 else 0
  hi + (if Q = 0 then 0 else j.hash % 2 ^ 32 * 2 ^ 128 + j.bytes % 2 ^ 32 * 2 ^ 96) + s.indexOut q j.index * 2 ^ 64 +
    (if Q = 0 then 0 else Q * 2 ^ 50) + j.status % 256 * 2 ^ 40 + j.count % 256 * 2 ^ 32 + tsv + j.csum * 2 ^ 9 + ofBool j.dropped * 2 ^ 8 +
    (1 - c.prod / c.size % 2)

/-- A job's completion entry is written to the queue's completion queue, with the interrupt it causes (R266, R267). -/
def Dev.writeEntry (s : Dev) (qk : Nat) (j : Job) : Dev :=
  let n := qk / 16384
  match s.queue? qk with
  | none => s
  | some q =>
    let ck := qkey n q.cq
    match s.queue? ck with
    | none => s
    | some c =>
      let s1 := s.hostWrite n (c.ring + 32 * (c.prod % c.size)) (leBytes 32 (s.entryOf (qk % 16384) q c j)) false
      let s2 := (s1.setQueue ck { c with prod := c.prod + 1, hwTick := s.tick, armed := false }).bump Obj.QJOBS q.g
      if q.cq = 1 then s2.intr n 0
      else if c.armed then s2.msix n c.vector
      else s2

/-- The oldest job of a work queue, if no descriptor read before it is still unused (R266). -/
def Queue.oldest (q : Queue) : Option Job :=
  match q.jobs with
  | [] => none
  | j :: js =>
    let m := js.foldl (fun a b => if b.index < a.index then b else a) j
    if q.held.all (fun h => decide (m.index < h.1)) then some m else none

/-- The queue without one of its jobs. -/
def Queue.without (q : Queue) (j : Job) : Queue := { q with jobs := q.jobs.filter (fun x => x.index != j.index) }

/-- Whether the next completion entry of a work queue can be posted (R245, R248, R266, R438, R500): its oldest job has its outcome, the completion
queue has room, and the function may write. -/
def Dev.postReady (s : Dev) (qk : Nat) : Bool :=
  let n := qk / 16384
  s.mayWrite n &&
  match s.queue? qk with
  | none => false
  | some q =>
    (q.st == 1 || (q.st == 2 && q.status != 0x11)) &&
    match q.oldest, s.queue? (qkey n q.cq) with
    | some j, some c => j.done && s.cqRoom c
    | _, _ => false

/-- One completion entry of a work queue is posted (R266). -/
def Dev.postOne (s : Dev) (qk : Nat) : Dev :=
  match s.queue? qk with
  | none => s
  | some q =>
    match q.oldest with
    | none => s
    | some j => (s.setQueue qk (q.without j)).writeEntry qk j

/-- The completion queue of a work queue. -/
def Dev.cqKey (s : Dev) (qk : Nat) : Nat := match s.queue? qk with | some q => qkey (qk / 16384) q.cq | none => qk

/-- The index of a work queue below which every descriptor has had its completion posted (R430). -/
def Queue.doneThrough (q : Queue) : Nat := ((q.jobs.map (fun j => j.index)) ++ q.held.map Prod.fst).foldl min q.cons

/-- X of a work queue once job j is posted (R430): below it, every descriptor has had its completion posted. -/
def Queue.through (q : Queue) (j : Job) : Nat := (q.without j).doneThrough

/-- The mirror message of a job's completion entry: the entry, the new W, and X of the work queue (R430). -/
def Dev.entryMsg (s : Dev) (qk : Nat) (q c : Queue) (j : Job) : MirrorMsg :=
  .entry (s.peerFn qk) q.cq ((c.prod + 1) % 2 ^ 32) (s.entryOf (qk % 16384) q c j) (qk % 16384) (q.through j % 2 ^ 32)

/-- Whether an entry of work queue qk may go on now (R430): on a mirrored queue, one entry of a completion queue at a time is with the
peer or waits to be written. -/
def Dev.postFree (s : Dev) (qk : Nat) : Bool :=
  let same (w : Nat) : Bool := s.cqKey w == s.cqKey qk
  !(s.twin.sent.any (fun x => match x.2 with | .post w _ => same w | _ => false)) && !(s.twin.acked.any (fun x => same x.1))

/-- The next entry of a work queue: written, or, on a mirrored queue, sent to the peer and written once that has acknowledged it (R430). -/
def Dev.postAct (s : Dev) (qk : Nat) : Dev :=
  match s.queue? qk, s.queue? (s.cqKey qk) with
  | some q, some c =>
    (match q.oldest with
     | none => s
     | some j =>
       if s.twin.acked.contains (qk, j.index) then
         ({ s with twin := { s.twin with acked := s.twin.acked.erase (qk, j.index) } }).postOne qk
       else if !(s.mirrors && s.queueMirrored qk) then s.postOne qk
       else if s.postFree qk then s.mirrorSync (s.entryMsg qk q c j) (.post qk j.index)
       else s)
  | _, _ => s

/-- COMPLETION_POST (R266, R430). -/
def execCompletionPost (n Q : Nat) (s : State) : Res := onMainIf s (s.postReady (qkey n Q)) (fun s => s.postAct (qkey n Q))

/-- Whether a queue's HW_INDEX is not what was written last, and can be written (R259, R266). -/
def Dev.hwOwed (s : Dev) (qk : Nat) : Bool :=
  match s.queue? qk with
  | some q => s.indexOut q (if q.type = 3 then q.prod else q.cons) != q.hw && (q.st == 1 || q.st == 2) && s.mayWrite (qk / 16384)
  | none => false

/-- Whether a queue's HW_INDEX is to be written: it changed in an earlier tick and is not what was written last (R259, R266). -/
def Dev.hwDue (s : Dev) (qk : Nat) : Bool :=
  s.hwOwed qk && match s.queue? qk with | some q => decide (q.hwTick < s.tick) | none => false

/-- HW_INDEX_WRITE (R259, R266, R276): 4 bytes at offset 8 of the index block. -/
def Dev.hwWrite (s : Dev) (qk : Nat) : Dev :=
  match s.queue? qk with
  | some q =>
    let i := s.indexOut q (if q.type = 3 then q.prod else q.cons)
    (s.setQueue qk { q with hw := i }).hostWrite (qk / 16384) (q.idx + 8) (leBytes 4 i) false
  | none => s

/-- HW_INDEX_WRITE (R259). -/
def execHwIndexWrite (n Q : Nat) (s : State) : Res := onMainIf s (s.hwDue (qkey n Q)) (fun s => s.hwWrite (qkey n Q))

/-! ### Doorbells (R232, R257 to R260, R267, R276) -/

/-- A queue enters FROZEN with a QSTATUS (R258, R260, R267, R268). -/
def Dev.freezeQueue (s : Dev) (qk status : Nat) : Dev :=
  match s.queue? qk with
  | some q => (if status = 0x20 then s.bump Obj.QOVERRUNS q.g else s).setQstate qk 2 status true
  | none => s

/-- Whether a producer value is good (R258, R276). -/
def Dev.goodProducer (s : Dev) (q : Queue) (v : Nat) : Bool :=
  if s.level7 then
    decide (v < q.size) && decide (s.qsub q q.prod q.cons ≤ s.qsub q v q.cons) && decide (s.qsub q v q.cons ≤ q.size - 1)
  else decide (s.qsub q v q.prod ≤ q.size - s.qsub q q.prod q.cons)

/-- The new index of a mirrored queue is mirrored, without waiting (R430). -/
def Dev.mirrorIndex (s : Dev) (qk : Nat) : Dev :=
  if s.mirrors && s.queueMirrored qk then
    match s.queue? qk with
    | some q => s.mirror (if q.type = 3 then .release (s.peerFn qk) (qk % 16384) (q.cons % 2 ^ 32) else .producer (s.peerFn qk) (qk % 16384) (q.prod % 2 ^ 32))
    | none => s
  else s

/-- A producer value or a release value is applied, or is an overrun (R258, R267). -/
def Dev.applyValue (s : Dev) (qk v : Nat) (arm : Bool) : Dev :=
  match s.queue? qk with
  | none => s
  | some q =>
    if q.type = 3 then
      if s.qsub q v q.cons ≤ s.qsub q q.prod q.cons then
        let q1 := { q with cons := q.cons + s.qsub q v q.cons }
        if arm then
          let s1 := s.setQueue qk { q1 with armed := true }
          (if s.qsub q q1.prod q1.cons ≠ 0 then s1.msix (qk / 16384) q.vector else s1).mirrorIndex qk
        else (s.setQueue qk q1).mirrorIndex qk
      else s.freezeQueue qk 0x20
    else if s.goodProducer q v then (s.setQueue qk { q with prod := q.prod + s.qsub q v q.prod }).mirrorIndex qk
    else s.freezeQueue qk 0x20

/-- A doorbell's effect on a READY queue: a refresh starts the read of SW_INDEX (R260). -/
def Dev.ring (s : Dev) (qk w : Nat) : Dev :=
  let type := bits w 31 24
  if type = 2 then
    match s.queue? qk with
    | some q =>
      (s.setQueue qk { q with refreshing := true }).issueReq
        { fn := qk / 16384, addr := q.idx, off := 0, bytes := if s.level7 then 2 else 4, why := .refresh qk q.life }
    | none => s
  else s.applyValue qk (w / 2 ^ 32 % 2 ^ 32) (type == 3 && qk % 16384 != 1)

/-- Doorbells held back are applied in order up to the next refresh, at most k of them; those of a queue QUIESCED or being quiesced stay recorded
(R257, R285). -/
def Dev.ringHeld (s : Dev) (qk : Nat) : Nat → Dev
  | 0 => s
  | k + 1 =>
    match s.queue? qk with
    | none => s
    | some q =>
      match q.bells with
      | [] => s
      | w :: ws =>
        if q.refreshing || q.st == 4 || (s.fn (qk / 16384)).quiesce.isSome then s
        else
          let s1 := s.setQueue qk { q with bells := ws }
          (if q.st = 1 then s1.ring qk w else s1.bump Obj.DOORBELLS_IGNORED q.g).ringHeld qk k

/-- Queues per doorbell page of a function (R232). -/
def qpp (n : Nat) : Nat := if isPf n then 8 else 2048

/-- Whether a doorbell word on a page is rejected (R232, R257): no queue of the page, an unlisted type, release-and-arm on a work queue, a
reserved bit, or VALUE above 16 bits at level 7. -/
def Dev.badBell (s : Dev) (n page w : Nat) : Bool :=
  let Q := w % 16384
  let type := bits w 31 24
  Q / qpp n != page || !(type == 1 || type == 2 || type == 3) || bits w 23 14 != 0 || (s.level7 && decide (65536 ≤ w / 2 ^ 32)) ||
    match s.queue? (qkey n Q) with
    | some q => type == 3 && q.type != 3
    | none => true

/-- A 64-bit write to a doorbell page (R232, R257, R472). -/
def Dev.doorbell (s : Dev) (n page w : Nat) : Dev :=
  if s.badBell n page w then s.bump Obj.DOORBELL_REJECTS n
  else
    let qk := qkey n (w % 16384)
    match s.queue? qk with
    | none => s
    | some q =>
      let s1 := s.bump Obj.DOORBELLS q.g
      if q.st = 2 ∨ q.st = 3 then s1.bump Obj.DOORBELLS_IGNORED q.g
      else if q.st = 4 ∨ q.refreshing = true ∨ (s.fn n).quiesce.isSome = true ∨ s.obj Obj.READINESS ≠ 3 then s1.setQueue qk { q with bells := q.bells ++ [w] }
      else s1.ring qk w

/-- Whether a function's BAR0 is reached: it is present and not being reset. -/
def Dev.barUp (s : Dev) (n : Nat) : Bool := s.present n && s.fstate n != 6 && s.obj Obj.LINK_STATE_8000 (s.linkOf n) == 4

/-- DOORBELL_VALUE (R258, R267): a doorbell write whose TYPE is 0x1, or one that is not listed. -/
def execDoorbellValue (n page w : Nat) (s : State) : Res :=
  onMainIf s (s.barUp n && bits w 31 24 != 2 && bits w 31 24 != 3) (fun s => s.doorbell n page w)

/-- DOORBELL_REFRESH (R260): a doorbell write of TYPE 0x2. -/
def execDoorbellRefresh (n page w : Nat) (s : State) : Res := onMainIf s (s.barUp n && bits w 31 24 == 2) (fun s => s.doorbell n page w)

/-- DOORBELL_RELEASE_ARM (R267): a doorbell write of TYPE 0x3. -/
def execDoorbellReleaseArm (n page w : Nat) (s : State) : Res := onMainIf s (s.barUp n && bits w 31 24 == 3) (fun s => s.doorbell n page w)

/-! ### Work descriptors (R259, R261 to R265, R275) -/

/-- Whether a queue's state lets its announced slots be read: READY, or FROZEN by an overrun (R268). -/
def Queue.fetching (q : Queue) : Bool := q.st == 1 || (q.st == 2 && q.status == 0x20)

/-- A job that has been read and has no chains yet: its mover takes them at a later edge. -/
def Job.chainless (j : Job) : Bool := !j.done && !j.mute && decide (0 < j.reading) && j.chains.isEmpty

/-- A descriptor queue read of slot C: the next descriptor's index, if the device may read one now (R245, R248, R259, R268, R285, R472,
R500); not while a job of the queue waits for its chains (log entry 156: DESIGN CHOICE, unsafe). -/
def Dev.mayRead (s : Dev) (n : Nat) (q : Queue) : Bool :=
  s.fetches && q.fetching && s.fstate n == 2 && (s.fn n).bme && (s.fn n).dstate == 0 && (s.fn n).quiesce.isNone &&
    q.stopping.isNone && decide (0 < s.qsub q q.prod q.cons) && !q.jobs.any Job.chainless

/-- Whether a parcel of a host queue is held at admission, so that the mover stops fetching for it (R42). -/
def Dev.queueHeld (s : Dev) (n Q : Nat) : Bool :=
  let mine (p : Parcel) : Bool := p.kind == 2 && hostJob p == (qkey n Q, (hostJob p).2)
  s.work.windowHeld.any mine || s.work.roomHeld.any (fun e => mine e.2.p)

/-- The fields of a SEND descriptor (R261, R275). -/
structure SendDesc where
  op : Nat
  addr : Nat
  len : Nat
  mss : Nat
  hdr : Nat
  tsReq : Bool
  csum : Bool
  lso : Bool
  indirect : Bool
  frags : Nat

/-- A work descriptor read by its level's layout (R261, R275); its reserved bits are ignored (R10). -/
def sendDesc (l7 : Bool) (d : Nat) : SendDesc :=
  if l7 then
    { op := bits d 39 32, addr := bits d 127 64, len := bits d 63 40, mss := 0, hdr := 0, tsReq := bit d 27, csum := bit d 26, lso := bit d 25,
      indirect := bit d 24, frags := bits d 23 15 }
  else
    { op := bits d 63 56, addr := bits d 255 192, len := bits d 191 160, mss := bits d 159 144, hdr := bits d 143 136, tsReq := bit d 51,
      csum := bit d 50, lso := bit d 49, indirect := bit d 48, frags := bits d 44 36 }

/-- Whether a fragment table is legal for a descriptor (R265). -/
def fragsOk (d : SendDesc) (t : List Nat) : Bool :=
  t.length == d.frags && d.addr % 16 == 0 && t.all (fun e => decide (1 ≤ bits e 63 32) && decide (bits e 63 32 ≤ 16777216)) &&
    t.foldl (fun a e => a + bits e 63 32) 0 == d.len

/-- Whether a SEND descriptor's fields are legal (R261 to R263, R275). -/
def sendOk (l7 : Bool) (d : SendDesc) : Bool :=
  d.op == 1 && decide (1 ≤ d.len) && decide (d.len ≤ 16777216) &&
    (if d.indirect then decide (1 ≤ d.frags) && decide (d.frags ≤ 256) else d.frags == 0) &&
    (if d.lso then !l7 && !d.tsReq && decide (64 ≤ d.mss) && decide (d.mss ≤ 9600) && decide (14 ≤ d.hdr) && decide (d.hdr ≤ 254) &&
        decide (d.hdr < d.len) && decide (ceilDiv (d.len - d.hdr) d.mss ≤ 2048)
      else decide (14 ≤ d.len) && decide (d.len ≤ 9728))

/-- The frame lengths of a SEND: one, or one for each segment (R262, R263). -/
def sendLens (d : SendDesc) : List Nat :=
  if d.lso then (List.range (ceilDiv (d.len - d.hdr) d.mss)).map (fun i => d.hdr + min d.mss (d.len - d.hdr - i * d.mss)) else [d.len]

/-- A chain for each length, all or none (R183, R185). -/
def Dev.allocAll (s : Dev) (o : Nat) : List Nat → Option (List Nat) × Dev
  | [] => (some [], s)
  | n :: ns =>
    let (r, s1) := s.alloc o n
    if r.status ≠ 0 then (none, s1)
    else
      match s1.allocAll o ns with
      | (some hs, s2) => (some (r.handle :: hs), s2)
      | (none, s2) => (none, (s2.bufFree o r.handle).2)

/-- A failed read of a slot freezes the queue: it is FROZEN with QSTATUS 0x10, in which no slot is read (R268). -/
def Dev.slotFrozen (s : Dev) (qk : Nat) : Dev := s.freezeQueue qk 0x10

/-- The bytes of a descriptor slot (R254). -/
def Dev.descBytes (s : Dev) : Nat := if s.level7 then 16 else 32

/-- The queue with its consumer index moved past a descriptor (R259). -/
def Dev.consume (s : Dev) (qk n : Nat) : Dev := s.updQueue qk (fun q => { q with cons := q.cons + n, hwTick := s.tick })

/-- Whether a low shelf keeps the mover from a submission of a class (R189): class 2 or 3, and a chain of its job would come from a shelf
that is low; where no shelf could serve it now, from the one that its length asks for first. -/
def Dev.lowHolds (s : Dev) (cls owner : Nat) (lens : List Nat) : Bool :=
  decide (2 ≤ cls) && lens.any (fun n => s.shelfLow ((s.servingShelf owner n).getD (if 65536 < n then 5 else fitShelf n)))

/-- A job takes its chains, and a mover reads its payload; where a chain cannot be had nothing is taken, and the mover tries again at the
next edge (*Error outcomes* of chapter 08). -/
def Dev.chainJob (s : Dev) (qk i : Nat) : Dev :=
  let n := qk / 16384
  match (s.queue? qk).bind (fun q => (q.job? i).map (fun j => (q, j))) with
  | none => s
  | some (q, j) =>
    match s.allocAll (ownerFunction n) (sendLens (sendDesc s.level7 j.desc)) with
    | (none, s1) => s1
    | (some hs, s1) =>
      (s1.updJob qk i (fun x => { x with chains := hs })).moverRead (s1.obj Obj.BUCKET_HOME (bucketOf (s1.pairHash n (qk % 16384)))) q.cls n j.segs
        (.job qk (i % 2 ^ 32))

/-- The jobs that wait for chains try again (*Error outcomes* of chapter 08). -/
def Dev.chainRetry (s : Dev) : Dev :=
  (s.hosts.queues.flatMap (fun e => (e.2.jobs.filter Job.chainless).map (fun j => (e.1, j.index)))).foldl (fun t x => t.chainJob x.1 x.2) s

/-- The descriptor read at C of queue qk becomes its next job (R259). -/
def Dev.putJob (s : Dev) (qk : Nat) (j : Job) : Dev := (s.consume qk 1).updQueue qk (fun q => { q with jobs := q.jobs ++ [j] })

/-- The read of the fragment table of the next slot has failed (R268): the tag of its descriptor returns, and its job ends with 0x11. -/
def Dev.fragsFailed (s : Dev) (qk : Nat) : Dev :=
  match s.queue? qk with
  | none => s
  | some q =>
    if q.fetching then (((s.readsGot (qk / 16384) (.slot qk)).readsGot (qk / 16384) (.frags qk)).putJob qk { index := q.cons }).jobFail qk q.cons 0x11
    else s

/-- A legal SEND takes its chains, and a mover reads its payload from its segments (R259, R262, R265). -/
def Dev.sendTake (s : Dev) (qk : Nat) (q : Queue) (desc : Nat) (segs : List (Nat × Nat)) : Dev :=
  let d := sendDesc s.level7 desc
  ((s.putJob qk { index := q.cons, desc := desc, reading := d.len, segs := segs, tsWait := d.tsReq }).addObj Obj.JOB_BYTES q.g
    d.len).chainJob qk q.cons

/-- SEND_JOB (R259, R261 to R265): a descriptor read at C with tag t is used; an illegal one, or one whose fragment table breaks R265, ends its
job; a legal one goes on. A fragment table is read first, its reads with tags of their own (R240), while the descriptor's stays out. -/
def Dev.sendJob (s : Dev) (n Q t desc : Nat) (frags : Option (List Nat)) : Dev :=
  let qk := qkey n Q
  match s.queue? qk with
  | none => s
  | some q =>
    let d := sendDesc s.level7 desc
    let done (u : Dev) : Dev := u.returnTag (s.linkOf n) t
    let bad (u : Dev) : Dev := ((done u).putJob qk { index := q.cons, desc := desc }).jobFail qk q.cons 1
    if !sendOk s.level7 d ∨ (d.indirect ∧ d.addr % 16 ≠ 0) then bad s
    else if d.indirect then
      s.onReads n [(d.addr, 16 * d.frags)] (.frags qk) frags.isSome (fun u =>
        if fragsOk d (frags.getD []) then (done u).sendTake qk q desc ((frags.getD []).map (fun e => (bits e 127 64, bits e 63 32))) else bad u)
    else (done s).sendTake qk q desc [(d.addr, d.len)]

/-- Whether a SEND descriptor waits for its shelf, so that the mover does not fetch it (R189). -/
def Dev.sendLow (s : Dev) (n : Nat) (q : Queue) (desc : Option Nat) : Bool :=
  match desc with
  | some d => let x := sendDesc s.level7 d; sendOk s.level7 x && s.lowHolds q.cls (ownerFunction n) (sendLens x)
  | none => false

/-- Where the slot at C of a queue lies in the host (R254). -/
def Dev.descAddr (s : Dev) (q : Queue) : Nat := q.ring + s.descBytes * (q.cons % q.size)

/-- SEND_JOB (R262): `desc` is what was read; none where its read failed, as `err` says. `frags` is the fragment table, none where its read is
issued only: its failure then comes as COMPLETION_TLP or COMPLETION_TIMEOUT. -/
def execSendJob (n Q : Nat) (desc : Option Nat) (err : Nat) (frags : Option (List Nat)) (s : State) : Res :=
  match s.queue? (qkey n Q) with
  | some q => onMainIf s (q.type == 1 && s.mayRead n q && !s.queueHeld n Q && !s.sendLow n q desc) (fun s =>
      s.onSlot n (s.descAddr q) s.descBytes (.slot (qkey n Q)) (fun t s =>
        match desc with
        | some d => s.sendJob n Q t d frags
        | none => if s.canFail n t err then (s.slotFail n t err).slotFrozen (qkey n Q) else s))
  | none => ok s s.toDev

/-- RECEIVE_DESCRIPTOR (R261, R264): a buffer is offered, or an illegal descriptor ends as a job of its own. -/
def Dev.receiveDesc (s : Dev) (n Q desc : Nat) : Dev :=
  let qk := qkey n Q
  match s.queue? qk with
  | none => s
  | some q =>
    let d := sendDesc s.level7 desc
    let good := d.op == 2 && decide (1 ≤ d.len) && decide (d.len ≤ 16777216) && !d.indirect && !d.lso && !d.csum && !d.tsReq &&
      d.frags == 0
    if good then (s.consume qk 1).updQueue qk (fun q' => { q' with held := q'.held ++ [(q.cons, desc)] })
    else ((s.consume qk 1).updQueue qk (fun q' => { q' with jobs := q'.jobs ++ [{ index := q.cons, desc := desc }] })).jobFail qk q.cons 1

/-- RECEIVE_DESCRIPTOR (R264): a queue holds at most 31 descriptors unused, as many as an image can name (R295; log entry 175: DEDUCED, unsafe). -/
def execReceiveDescriptor (n Q : Nat) (desc : Option Nat) (err : Nat) (s : State) : Res :=
  match s.queue? (qkey n Q) with
  | some q => onMainIf s (q.type == 2 && s.mayRead n q && decide (q.held.length < 31)) (fun s =>
      s.onSlot n (s.descAddr q) s.descBytes (.slot (qkey n Q)) (fun t s =>
        match desc with
        | some d => (s.returnTag (s.linkOf n) t).receiveDesc n Q d
        | none => if s.canFail n t err then (s.slotFail n t err).slotFrozen (qkey n Q) else s))
  | none => ok s s.toDev

/-- Where an LSO job's headers lie (R263): the IP header, whether IPv6, and the TCP header, if the first HDR_LEN bytes are such headers. -/
def lsoHeaders (hdr : Nat) (f : List Nat) : Option (Nat × Bool × Nat) :=
  match extractEth f 0 with
  | none => none
  | some e =>
    match e.ip with
    | none => none
    | some ip =>
      match ip.l4 with
      | none => none
      | some l4 =>
        if e.tcis.length ≤ 1 ∧ ip.proto = 6 ∧ (ip.v6 = false ∨ l4 = ip.off + 40) ∧ l4 + 4 * (nth f (l4 + 12) / 16) = hdr then some (ip.off, ip.v6, l4)
        else none

/-- The bytes of a TCP segment with its checksum computed (R263). -/
def tcpSum (f : List Nat) (ip : Nat) (v6 : Bool) (l4 : Nat) : List Nat :=
  let f0 := putAt f (l4 + 16) [0, 0]
  let n := f0.length - l4
  let addrs := if v6 then slice f0 (ip + 8) 32 else slice f0 (ip + 12) 8
  let sum := checksum16 (addrs ++ (if v6 then beBytes 4 n ++ [0, 0, 0, 6] else [0, 6] ++ beBytes 2 n) ++ f0.drop l4)
  putAt f0 (l4 + 16) (beBytes 2 sum)

/-- Segment i of `last + 1` of an LSO job: a copy of the headers, changed as R263 lists, and its payload. -/
def lsoSegment (hdrs : List Nat) (ip : Nat) (v6 : Bool) (l4 mss i last : Nat) (payload : List Nat) : List Nat :=
  let f := hdrs ++ payload
  let f1 := if v6 then putAt f (ip + 4) (beBytes 2 (f.length - ip - 40))
    else fixIpv4Sum (putAt (putAt f (ip + 2) (beBytes 2 (f.length - ip))) (ip + 4) (beBytes 2 ((be16 f (ip + 4) + i) % 65536))) ip (4 * (nth f ip % 16))
  let f2 := putAt f1 (l4 + 4) (beBytes 4 ((ofBE (slice f (l4 + 4) 4) + i * mss) % 2 ^ 32))
  let fl := nth f (l4 + 13)
  let fl1 := if i = 0 then fl else clearBit fl 7
  let fl2 := if i = last then fl1 else clearBit (clearBit fl1 0) 3
  tcpSum (putAt f2 (l4 + 13) [fl2]) ip v6 l4

/-- The frames of a SEND whose payload is all there: none where an LSO job breaks the rules of R263. -/
def sendFrames (d : SendDesc) (bs : List Nat) : Option (List (List Nat)) :=
  if d.lso then
    (lsoHeaders d.hdr bs).map (fun h =>
      let hdrs := bs.take d.hdr
      let n := ceilDiv (d.len - d.hdr) d.mss
      (List.range n).map (fun i => lsoSegment hdrs h.1 h.2.1 h.2.2 d.mss i (n - 1) (slice bs (d.hdr + i * d.mss) d.mss)))
  else some [bs]

/-- A job's payload is all there: its frames become parcels of kind 0x02, or it ends with 0x01 (R262, R263). -/
def Dev.jobStart (s : Dev) (qk i : Nat) : Dev :=
  let n := qk / 16384
  match (s.queue? qk).bind (fun q => (q.job? i).map (fun j => (q, j))) with
  | none => s
  | some (q, j) =>
    match sendFrames (sendDesc s.level7 j.desc) (j.parts.flatMap Prod.snd) with
    | none => s.jobFail qk i 1
    | some fs =>
      let s1 := s.updJob qk i (fun x => { x with parcels := fs.length, parts := [], chains := [], bytes := (sendDesc s.level7 j.desc).len })
      (fs.zip j.chains).foldl (fun t e =>
        (t.setChainData e.2 e.1).admitParcel
          { newParcel 2 (t.pairHash n (qk % 16384)) q.cls n e.2 (e.1.length + 4) (kindHost n (qk % 16384) i q.life) with
            send := some (q.g, if s.level7 then 0 else bits j.desc 47 45) }) s1

/-- Payload bytes of a job have arrived at an offset (R262). -/
def Dev.jobData (s : Dev) (qk i off : Nat) (bs : List Nat) : Dev :=
  match (s.queue? qk).bind (fun q => q.job? i) with
  | none => s
  | some j =>
    if j.done || j.reading == 0 then s
    else
      let s1 := s.updJob qk i (fun x => { x with parts := Tab.ins x.parts off bs, reading := x.reading - bs.length })
      if j.reading ≤ bs.length then s1.jobStart qk i else s1

/-! ### Completions of reads (R240 to R244, R260, R268) -/

/-- What a read was for has failed: a timeout, an error or poisoned data (R242, R243, R260, R268, R305). -/
def Dev.readFailed (s : Dev) (r : Req) : Dev :=
  match r.why with
  | .refresh qk life =>
    (match s.queue? qk with
     | some q => if q.refreshing && q.life == life then
         ((s.setQueue qk { q with refreshing := false }).freezeQueue qk 0x10).ringHeld qk q.bells.length else s
     | none => s)
  | .slot qk => (match s.queue? qk with | some q => if q.fetching then s.slotFrozen qk else s | none => s)
  | .nvmSlot _ _ => s
  | .frags qk => s.fragsFailed qk
  | .job qk i => s.jobFail qk i 0x11
  | .nvm c q m | .nvmList c q m => s.nvmDataFail c q m

/-- The bytes of a read have all arrived (R260, R262, R305); an index read for a queue that is QUIESCED now, or being quiesced, is recorded
before the doorbells that followed it (R257, R285). -/
def Dev.readDone' (s : Dev) (r : Req) (data : List Nat) : Dev :=
  match r.why with
  | .refresh qk life =>
    (match s.queue? qk with
     | some q =>
       let s1 := s.setQueue qk { q with refreshing := false }
       if !q.refreshing || q.life != life then s
       else if q.st = 4 ∨ (s.fn (qk / 16384)).quiesce.isSome = true then
         s1.setQueue qk { q with refreshing := false, bells := (ofLE data * 2 ^ 32 + 2 ^ 24 + qk % 16384) :: q.bells }
       else (if q.st = 1 then s1.applyValue qk (ofLE data) false else s1).ringHeld qk q.bells.length
     | none => s)
  | .slot _ | .nvmSlot _ _ | .frags _ | .nvmList _ _ _ => s
  | .job qk i => s.jobData qk i r.off data
  | .nvm c q m => s.nvmData c q m r.off data

/-- Whether a completion's status is an error: 1 unsupported request, 2 completer abort, 3 poisoned data. -/
def tlpError (status : Nat) : Bool := decide (1 ≤ status ∧ status ≤ 3)

/-- COMPLETION_TLP (R243, R244): a completion of link k with a tag, a byte count, a status (0 good, 1 UR, 2 CA, 3 poisoned) and data. -/
def Dev.completionTlp (s : Dev) (k tag bytes status : Nat) (data : List Nat) : Dev :=
  let l := s.link k
  match Tab.get? l.tags tag with
  | none => ((s.bump Obj.UNEXPECTED_COMPLETIONS k).aer (8 * k) aerUnexpected).linkErr (8 * k) tag 3 k
  | some t =>
    let left := t.req.bytes - min bytes t.req.bytes
    match t.quar with
    | some (_, timedOut) =>
      let s1 := if timedOut then (s.bump Obj.LATE_COMPLETIONS k).linkErr t.req.fn tag 2 k else s.bump Obj.RESET_DISCARDS k
      if status == 1 || status == 2 || left == 0 then s1.returnTag k tag
      else s1.setLink k { s1.link k with tags := Tab.ins (s1.link k).tags tag { t with req := { t.req with bytes := left } } }
    | none =>
      if tlpError status then
        let e := if status = 3 then aerPoisoned else if status = 1 then aerUnsupported else aerAbort
        (((s.aer t.req.fn e).linkErr t.req.fn tag (if status = 3 then 4 else 5) k).returnTag k tag).readFailed t.req
      else
        let have' := t.got ++ data.take (min bytes t.req.bytes)
        if left = 0 then (s.returnTag k tag).readDone' t.req have'
        else s.setLink k { l with tags := Tab.ins l.tags tag { t with req := { t.req with bytes := left }, got := have' } }

/-- COMPLETION_TLP (R243). -/
def execCompletionTlp (k tag bytes status : Nat) (data : List Nat) (s : State) : Res :=
  onMainIf s (decide (k < s.part.links) && decide (1 < s.obj Obj.LINK_STATE_8000 k)) (fun s => s.completionTlp k tag bytes status data)

/-- COMPLETION_TIMEOUT (R242): AER, the job's status, a record, the count, and the tag's quarantine. -/
def Dev.ctoAct (s : Dev) (k tag : Nat) (t : Tag) : Dev :=
  let l := s.link k
  let s1 := s.setLink k { l with tags := Tab.ins l.tags tag { t with quar := some (s.tick, true), got := [] } }
  (((s1.aer t.req.fn aerTimeout).linkErr t.req.fn tag 1 k).bump Obj.COMPLETION_TIMEOUTS k).readFailed t.req

/-- COMPLETION_TIMEOUT (R242). -/
def execCompletionTimeout (k tag : Nat) (s : State) : Res :=
  match s.timedOut? k tag with
  | some t => onMain s (fun s => s.ctoAct k tag t)
  | none => ok s s.toDev

/-- TAG_QUARANTINE_END (R244): 2T after the timeout or the cancellation. -/
def execTagQuarantineEnd (k tag : Nat) (s : State) : Res :=
  match Tab.get? (s.link k).tags tag with
  | some t =>
    (match t.quar with
     | some (q, _) => onMainIf s (decide (q + 2 * s.ctoTicks t.req.fn ≤ s.tick)) (fun s => s.returnTag k tag)
     | none => ok s s.toDev)
  | none => ok s s.toDev

/-! ### Dirty-page marks (R296) -/

/-- DIRTY_MARK (R296): the mark byte of the oldest page written by VF n in a tick that is over, by its PF; it waits while the PF may not
write. -/
def Dev.dirtyMark (s : Dev) (n : Nat) : Dev :=
  let f := s.fn n
  match f.dirty with
  | [] => s
  | j :: js => (((s.setFn n { f with dirty := js }).hostWrite (s.parentPf n) (s.obj Obj.DIRTY_MAP_ADDR n + j.1) [1] false)).bump Obj.DIRTY_MARKS n

/-- DIRTY_MARK (R296). -/
def execDirtyMark (n : Nat) (s : State) : Res :=
  onMainIf s ((s.fn n).dirty.head?.any (fun j => decide (j.2 < s.tick)) && s.mayWrite (s.parentPf n)) (fun s => s.dirtyMark n)

end Sys2Proof.Machine
end

