-- ==== Sys2Proof/Machine/HostFuncs.lean ====
section
/-! DEFINITION. Functions and links (R220 to R230, R239, R243 to R250, R284, R288 to R290): how a function is wiped or aborted, Bus Master
Enable, function-level reset, VF Enable, D states, host-link resets, training, readiness and link power. -/
namespace Sys2Proof.Machine

/-! ### Pieces of a function's state -/

/-- A VF's Letterbox (R279). -/
def Dev.box (s : Dev) (n : Nat) : Letterbox := Tab.getD s.hosts.boxes n {}

/-- The state with a Letterbox replaced. -/
def Dev.setBox (s : Dev) (n : Nat) (b : Letterbox) : Dev :=
  { s with hosts := { s.hosts with boxes := Tab.put {} s.hosts.boxes n b } }

/-- A Letterbox is emptied: counts zero and EPOCH one higher (R284). -/
def Dev.emptyBox (s : Dev) (n : Nat) : Dev :=
  let b := s.box n
  if isPf n then s else s.setBox n { b with tmSent := 0, tmAcked := 0, ttSent := 0, ttAcked := 0, epoch := (b.epoch + 1) % 256, changed := true }

/-- A Letterbox as a reset leaves it: emptied, its slots zero and its bucket full (R282, R284). -/
def Dev.resetBox (s : Dev) (n : Nat) : Dev :=
  let s1 := s.emptyBox n
  if isPf n then s1 else s1.setBox n { s1.box n with slots := [], tokens := 8, throttled := false }

/-- An open transaction of a session is discarded under R73. -/
def Dev.discardTxn (s : Dev) (key : Nat) : Dev :=
  match Tab.get? s.bureau.sessions key with
  | some ss =>
    if ss.txn.isSome then
      ({ s with bureau := { s.bureau with sessions := Tab.ins s.bureau.sessions key { ss with txn := none } } }).bump Obj.TXNS_DISCARDED
    else s
  | none => s

/-- The next number of a queue's life. -/
def Dev.newLife (s : Dev) : Nat × Dev := (s.hosts.lives + 1, { s with hosts := { s.hosts with lives := s.hosts.lives + 1 } })

/-- A queue is ABSENT: its device queue number and leaf are free, and chains taken for its jobs are freed (R183, R268). -/
def Dev.dropQueue (s : Dev) (qk : Nat) : Dev :=
  match s.queue? qk with
  | some q =>
    q.jobs.foldl (fun t j => t.freeChains (qk / 16384) j.chains)
      { s with hosts := { s.hosts with queues := Tab.del s.hosts.queues qk }
               twin := { s.twin with acked := s.twin.acked.filter (fun x => x.1 != qk) } }
  | none => s

/-- Acknowledged completion entries of a work queue that lives no longer are forgotten (R430). -/
def Dev.forgetPosts (s : Dev) (qk : Nat) : Dev := { s with twin := { s.twin with acked := s.twin.acked.filter (fun x => x.1 != qk) } }

/-- Every queue of a function is ABSENT (R246, R268). -/
def Dev.dropQueues (s : Dev) (n : Nat) : Dev := (s.queuesOf n).foldl (fun t e => t.dropQueue e.1) s

/-- The admin command of function n in progress ends with a status and RESULT (R270). -/
def Dev.adminDone (s : Dev) (n status result : Nat) : Dev :=
  let s1 := { s with hosts := { s.hosts with admin := Tab.del s.hosts.admin n } }
  s1.updQueue (qkey n 0) (fun q => { q with jobs := q.jobs.map (fun j => if j.done then j else { j with done := true, status := status, result := result }) })

/-- The admin command of function n in progress is forgotten: no completion is posted for it (R247, R285). -/
def Dev.adminDrop (s : Dev) (n : Nat) : Dev :=
  let s1 := { s with hosts := { s.hosts with admin := Tab.del s.hosts.admin n } }
  s1.updQueue (qkey n 0) (fun q => { q with jobs := q.jobs.filter (fun j => j.done) })

/-- The issuers of FUNCTION_ABORT or QUIESCE_FUNCTION commands in progress on function n (R247, R285). -/
def Dev.issuersOf (s : Dev) (n : Nat) : List Nat :=
  (s.hosts.admin.filter (fun e => match e.2 with | .abort t => t == n | .quiesce t => t == n | _ => false)).map Prod.fst

/-- Commands on function n in progress end: with a status to their issuers, or without a completion (R247, R285). -/
def Dev.endOn (s : Dev) (n : Nat) (status : Option Nat) : Dev :=
  let s1 := (s.issuersOf n).foldl (fun t m => match status with | some st => t.adminDone m st 0 | none => t.adminDrop m) s
  s1.setFn n { s1.fn n with abort := none, quiesce := none }

/-- Configuration registers of a function that a reset leaves: the sticky AER and PME bits, and Max_Payload_Size (PCI Express; log entry 22: PRESUMED, unsafe). -/
def Func.sticky (f : Func) : Func :=
  { aer := f.aer, pmeEn := f.pmeEn, pmeStatus := f.pmeStatus, mps := f.mps, dirty := f.dirty, ciGen := f.ciGen, ci := f.ci, ciDirty := true }

/-- NVMe commands of function n that were still reading their host data end with Data Transfer Error when the reads are cancelled (R305). -/
def Dev.nvmCancelled (s : Dev) (n : Nat) : Dev :=
  match s.ctrlOfFn n with
  | none => s
  | some c =>
    ((s.ctrl c).sqs.flatMap (fun q =>
      (q.2.cmds.filter (fun m => m.opcode != 2 && decide (0 < m.reading) && !m.final)).map (fun m => (q.1, m.seq)))).foldl
        (fun t x => t.nvmDataFail c x.1 x.2) s

/-- The reads of function n are cancelled (R243). -/
def Dev.cancelFn (s : Dev) (n : Nat) : Dev := (s.cancelReads n).nvmCancelled n

/-- A function's state is wiped (R246): its queues, interrupts, Letterbox, chains, open transaction, reads and snapshots go, its
configuration returns to its defaults, and its controller acts as disabled (R194, R289, R325). -/
def Dev.wipe (s : Dev) (n : Nat) : Dev :=
  let s1 := (((s.ctrlWipe n).cancelFn n).dropQueues n).dropTranslations n (fun _ => true)
  let s2 := { s1 with hosts := { s1.hosts with admin := Tab.del s1.hosts.admin n } }
  let s3 := (((s2.setFn n (s2.fn n).sticky).resetBox n).freeOwned (fun o => o == ownerFunction n)).discardTxn n
  s3.setObj Obj.SNAPSHOT_BYTES n 0

/-! ### Bus Master Enable (R245, R247) -/

/-- BME_SET (R247): a DISABLED function is ENABLED; pending vectors may be sent, and writes of a PF's VFs that waited for it (R296). -/
def Dev.bmeSet (s : Dev) (n : Nat) : Dev :=
  let s1 := s.setFn n { s.fn n with bme := true }
  let s2 := (if s.fstate n = 1 then s1.setFstate n 2 else s1).flushMsix n
  if isPf n then (s2.vfsOf n).foldl (fun t v => (t.flushWrites v).flushMsix v) s2 else s2

/-- Whether configuration writes of a function take effect (R229, R246). -/
def Dev.cfgUp (s : Dev) (n : Nat) : Bool := s.barUp n && (s.fn n).vfSince.isNone

/-- BME_SET (R247). -/
def execBmeSet (n : Nat) (s : State) : Res := onMainIf s (s.cfgUp n && !(s.fn n).bme) (fun s => s.bmeSet n)

/-- A QUIESCED queue whose SW_INDEX read is cancelled by a Bus Master Enable clear keeps its refresh doorbell recorded (R257, R260). -/
def Dev.recordRefresh (s : Dev) (n : Nat) : Dev :=
  (s.queuesOf n).foldl (fun t e =>
    if e.2.st = 4 ∧ e.2.refreshing = true then t.setQueue e.1 { e.2 with refreshing := false, bells := (2 * 2 ^ 24 + e.1 % 16384) :: e.2.bells } else t) s

/-- The data of NVMe reads that wait in the movers to be written for function n are discarded and counted (R245); their commands end with
Data Transfer Error (R305). -/
def Dev.discardData (s : Dev) (n : Nat) : Dev :=
  let outs := s.hosts.movers.flatMap (fun e => e.2.waits.filter (fun x => x.fn == n && x.toHost))
  let s1 : Dev := { s with hosts := { s.hosts with movers := s.hosts.movers.map (fun e => (e.1, { e.2 with waits := e.2.waits.filter (fun x => !(x.fn == n && x.toHost)) })) } }
  outs.foldl (fun t x => match x.why with | .nvm c q m => (t.bump Obj.BME_DISCARDS n).cmdDone c q m 0x4 0 | _ => t) s1

/-- BME_CLEAR (R245): counted; reads are cancelled, and the queues will enter STOPPED; a quiesce in progress ends with 0x11 (R285). -/
def Dev.bmeClear (s : Dev) (n : Nat) : Dev :=
  let s1 := ((s.setFn n { s.fn n with bme := false, stopDue := true }).bump Obj.BME_CLEARS n).cancelFn n
  let s2 := ((if (s.fn n).quiesce.isSome then s1.endOn n (some 0x11) else s1).discardWrites n).discardData n |>.recordRefresh n
  let s3 := match (s.fn n).abort with
    | some (i, t, before') => s2.setFn n { s2.fn n with abort := some (i, t, if before' = 2 then 3 else before') }
    | none => s2
  if s.fstate n = 2 then s3.setFstate n 3 else s3

/-- BME_CLEAR (R245). -/
def execBmeClear (n : Nat) (s : State) : Res := onMainIf s (s.cfgUp n && (s.fn n).bme) (fun s => s.bmeClear n)

/-- Writes of a queue that wait in the device (R245): completion entries of jobs that have their outcome, and an index not yet written. -/
def Dev.unwritten (s : Dev) (q : Queue) : Nat :=
  (q.jobs.filter (fun j => j.done && !j.mute)).length + ofBool (s.indexOut q (if q.type = 3 then q.prod else q.cons) != q.hw)

/-- A queue's jobs, none of which has an outcome reported any more (R245): those whose reads were cancelled are over, and their chains are
freed (R243). -/
def Dev.muteJobs (s : Dev) (qk : Nat) : Dev :=
  match s.queue? qk with
  | none => s
  | some q =>
    let cut (j : Job) : Bool := decide (0 < j.reading)
    ((q.jobs.filter cut).foldl (fun t j => t.freeChains (qk / 16384) j.chains) s).setQueue qk { q with
      refreshing := false, bells := []
      jobs := (q.jobs.filter (fun j => !j.done)).map (fun j =>
        if cut j then { j with mute := true, reading := 0, chains := [], parts := [] } else { j with mute := true }) }

/-- A function's READY and FROZEN queues enter STOPPED at the edge after Bus Master Enable is cleared (R245): jobs have no outcome
reported any more, and the writes that waited are counted. -/
def Dev.stopQueues (s : Dev) (n : Nat) : Dev :=
  let s1 := (s.queuesOf n).foldl (fun t e =>
    if e.2.st = 1 ∨ e.2.st = 2 then ((t.addObj Obj.BME_DISCARDS n (s.unwritten e.2)).muteJobs e.1).setQstate e.1 3 0 true
    else t) s
  s1.setFn n { s1.fn n with stopDue := false }

/-! ### Function-level reset (R246, R289) -/

/-- INITIATE_FLR (R246): every function concerned stops and is wiped; an FLR of a PF does the same to its VFs and clears VF Enable. -/
def Dev.flrOne (s : Dev) (n : Nat) : Dev :=
  let s1 := ((s.endOn n (some 0x11)).wipe n).setFstate n 6
  s1.setFn n { s1.fn n with flr := some s.tick }

/-- INITIATE_FLR (R246). -/
def Dev.initiateFlr (s : Dev) (n : Nat) : Dev :=
  let s1 := (s.flrOne n).bump Obj.FLRS n
  if isPf n then
    ((s.vfsOf n).filter (fun v => s.present v)).foldl (fun t v => let u := t.flrOne v; (u.setFn v { u.fn v with flr := none }).setFstate v 0) s1
  else s1

/-- INITIATE_FLR (R246). -/
def execInitiateFlr (n : Nat) (s : State) : Res := onMainIf s (s.cfgUp n) (fun s => s.initiateFlr n)

/-- FLR_COMPLETE (R230, R246, R247): the function is DISABLED and says it is ready; a FUNCTION_ABORT that met the reset completes. -/
def Dev.flrComplete (s : Dev) (n : Nat) : Dev :=
  let s1 := (s.setFn n { s.fn n with flr := none }).setFstate n 1
  (s1.endOn n (some 0)).emit (.linkMsg (s.linkOf n) n .functionReady)

/-- FLR_COMPLETE (R246). -/
def execFlrComplete (n : Nat) (s : State) : Res := onMainIf s (s.fstate n == 6 && fnInPart s.part n) (fun s => s.flrComplete n)

/-! ### FUNCTION_ABORT's work (R247) -/

/-- HW_INDEX of a queue that is reset to READY is written (R270). -/
def Dev.zeroIndex (s : Dev) (qk st : Nat) : Dev := if st = 1 then s.hwWrite qk else s

/-- A queue back in its state after QUEUE_RESET, in a state (R247, R270): indices zero, a completion queue armed, and the device's part of the
index block written, HW_INDEX with it where the function may write. -/
def Dev.resetQueue (s : Dev) (qk st : Nat) : Dev :=
  let (life, s1) := s.newLife
  (s1.updQueue qk (fun q =>
    { g := q.g, type := q.type, log2 := q.log2, ring := q.ring, idx := q.idx, leaf := q.leaf, cq := q.cq, vector := q.vector, cls := q.cls,
      ro := q.ro, armed := q.type == 3 && qk % 16384 != 1, life := life })).forgetPosts qk |>.zeroIndex qk st |>.setQstate qk st 0 true

/-- Every outcome known, and every entry posted that the completion queue and Bus Master Enable allow; the rest are discarded and counted
(R247, R270): at most k entries. The count of entries discarded comes back. -/
def Dev.postAll (s : Dev) (qk : Nat) : Nat → Nat × Dev
  | 0 => (0, s)
  | k + 1 =>
    match s.queue? qk with
    | none => (0, s)
    | some q =>
      match q.oldest with
      | none => (0, s)
      | some j =>
        let room := match s.queue? (qkey (qk / 16384) q.cq) with | some c => s.cqRoom c | none => false
        let s1 := s.setQueue qk (q.without j)
        if j.mute then s1.postAll qk k
        else if room && s.mayWrite (qk / 16384) then
          let told (t : Dev) : Dev :=
            match s.queue? (qkey (qk / 16384) q.cq) with
            | some c => if s.mirrors && s.queueMirrored qk && !s.twin.acked.contains (qk, j.index) then t.mirror (s.entryMsg qk q c j) else t
            | none => t
          ((told { s1 with twin := { s1.twin with acked := s1.twin.acked.erase (qk, j.index) } }).writeEntry qk j).postAll qk k
        else let (d, s2) := (s1.bump Obj.COMPLETIONS_DISCARDED q.g).postAll qk k; (d + 1, s2)

/-- A queue's outstanding jobs, and descriptors read and not used, all end with 0x11 (R247, R268). -/
def Dev.abortJobs (s : Dev) (qk : Nat) : Dev :=
  match s.queue? qk with
  | none => s
  | some q =>
    let jobs := q.jobs.map (fun j => { j with done := true, status := 0x11, reading := 0, tsWait := false, chains := [], parts := [] })
    let held : List Job := q.held.map (fun h => { index := h.1, desc := h.2, done := true, status := 0x11 })
    (q.jobs.foldl (fun t j => t.freeChains (qk / 16384) j.chains) s).setQueue qk { q with jobs := jobs ++ held, held := [], refreshing := false, bells := [] }

/-- The work of FUNCTION_ABORT on function n but for an issuer's own admin queues (R194, R247): jobs end with 0x11, reads are cancelled,
queues are reset. -/
def Dev.abortFn (s : Dev) (n : Nat) (own : Bool) : Dev :=
  let ks := ((s.queuesOf n).map Prod.fst).filter (fun k => !own || decide (1 < k % 16384))
  let s1 := ks.foldl (fun t k => (t.abortJobs k)) s
  let s2 := ks.foldl (fun t k => match t.queue? k with | some q => (t.postAll k (q.jobs.length + 1)).2 | none => t) s1
  let s3 := ks.foldl (fun t k => match t.queue? k with
    | some q => if q.st = 4 then t else t.resetQueue k (if (t.fn n).bme then 1 else 3)
    | none => t) (s2.cancelFn n)
  let s4 := if own then s3 else { s3 with hosts := { s3.hosts with admin := Tab.del s3.hosts.admin n } }
  (s4.freeOwned (fun o => o == ownerFunction n)).discardTxn n

/-! ### VF Enable (R226, R230, R290) -/

/-- VF_ENABLE_SET (R230): the PF's VFs come into being, DISABLED. -/
def Dev.vfEnableSet (s : Dev) (n : Nat) : Dev :=
  let s1 := s.setFn n { s.fn n with vfEnable := true }
  (s.vfsOf n).foldl (fun t v => (t.setFstate v 1).setFn v { (t.setFstate v 1).fn v with vfSince := some t.tick, dstate := 0 }) s1

/-- VF_ENABLE_SET (R230). -/
def execVfEnableSet (n : Nat) (s : State) : Res := onMainIf s (isPf n && s.cfgUp n && !(s.fn n).vfEnable) (fun s => s.vfEnableSet n)

/-- VF_READY (R230): a VF is ready, and says so. -/
def execVfReady (n : Nat) (s : State) : Res :=
  onMainIf s (!isPf n && s.present n && (s.fn n).vfSince.isSome) (fun s =>
    (s.setFn n { s.fn n with vfSince := none }).emit (.linkMsg (s.linkOf n) n .functionReady))

/-- A tenant log record (R299). -/
def Dev.tenantLog (s : Dev) (n kind reason count : Nat) : Dev :=
  s.log Obj.TENANT_ENTRY 256 (s.tick % 2 ^ 64 * 2 ^ 64 + n * 2 ^ 48 + s.parentPf n * 2 ^ 32 + kind * 2 ^ 24 + reason * 2 ^ 16 + count % 65536)

/-- One VF is ABSENT (R284, R290): one that was not quiesced is aborted, logged and counted. Commands on it end without a completion. -/
def Dev.vfGone (s : Dev) (v : Nat) : Dev :=
  let st := s.fstate v
  let s1 := s.endOn v none
  let s2 := if st = 2 ∨ st = 3 ∨ st = 5 then ((s1.abortFn v false).tenantLog v 1 0 0).bump Obj.UNQUIESCED_REMOVALS v else s1
  (s2.wipe v).setFstate v 0

/-- VF_ENABLE_CLEAR (R290): every VF of the PF is ABSENT. -/
def Dev.vfEnableClear (s : Dev) (n : Nat) : Dev :=
  let s1 := s.setFn n { s.fn n with vfEnable := false }
  ((s.vfsOf n).filter (fun v => s.present v)).foldl Dev.vfGone s1

/-- VF_ENABLE_CLEAR (R290). -/
def execVfEnableClear (n : Nat) (s : State) : Res := onMainIf s (isPf n && s.cfgUp n && (s.fn n).vfEnable) (fun s => s.vfEnableClear n)

/-! ### Power management (R248 to R250) -/

/-- D_STATE_CHANGE (R248): 0 D0, 3 D3hot; in D0 again the writes and interrupts held pending are sent, and the reads that waited go on. -/
def Dev.dState (s : Dev) (n d : Nat) : Dev :=
  let s1 := s.setFn n { s.fn n with dstate := d }
  if d = 0 then ((s1.flushWrites n).flushMsix n).drainAll (s.linkOf n) else s1

/-- D_STATE_CHANGE (R248): D3cold, 4, is reached while PERSTh_N holds the link in RESET. -/
def execDStateChange (n d : Nat) (s : State) : Res :=
  onMainIf s (if d = 4 then fnInPart s.part n && s.obj Obj.LINK_STATE_8000 (s.linkOf n) == 1 else s.cfgUp n && (d == 0 || d == 3))
    (fun s => s.dState n d)

/-- ATS_INVALIDATE (R239): the translations of a range of function n's pages are given up, and the completion is sent. A request takes its
translation as it is issued, so those issued have used it and no later one does. -/
def execAtsInvalidate (r : PageRange) (s : State) : Res :=
  onMainIf s (s.cfgUp r.fn) (fun s =>
    (s.dropTranslations r.fn (fun p => decide (r.page ≤ p ∧ p < r.page + r.pages))).emit (.linkMsg (s.linkOf r.fn) r.fn .invalidateDone))

/-- PME_TURN_OFF (R249): answered with PME_TO_Ack, and the link goes on to L2. -/
def execPmeTurnOff (k : Nat) (s : State) : Res :=
  onMainIf s (decide (k < s.part.links) && s.obj Obj.LINK_STATE_8000 k == 4) (fun s =>
    (s.setLink k { s.link k with power := 4 }).emit (.linkMsg k (8 * k) .pmeToAck))

/-- Whether a link may enter a power state (R249): L0 always; L1 and its substates as Link Control enables them; a narrower L0p width
while L0P_ENABLE is 1, the host enables L0p, and the link runs in FLIT mode. -/
def Dev.powerOk (s : Dev) (k power width : Nat) : Bool :=
  let l := s.link k
  let full := bits (s.obj Obj.LINK_STATUS k) 12 8
  (match power with
    | 0 => true
    | 1 => bit l.aspm 1
    | 2 => bit l.aspm 1 && bit l.l1ss 0
    | 3 => bit l.aspm 1 && bit l.l1ss 1
    | _ => false) &&
  (width == 0 || (s.flag Obj.L0P_ENABLE k && l.l0pEn && s.flit k && [1, 2, 4, 8].contains width && decide (width < full)))

/-- LINK_POWER_STATE_CHANGE (R249): the power state, and the L0p width, 0 for full; CLKREQh_N is released in the L1 substates and asserted
outside them. -/
def execLinkPowerStateChange (k power width : Nat) (s : State) : Res :=
  onMainIf s (decide (k < s.part.links) && s.obj Obj.LINK_STATE_8000 k == 4 && s.powerOk k power width) (fun s =>
    let req (p : Nat) : Bool := p != 2 && p != 3
    let s1 := s.setLink k { s.link k with power := power, l0p := width }
    if req (s.link k).power == req power then s1 else s1.emit (.clkreq (k / 2) (req power)))

/-! ### Link states (R220, R229, R230) -/

/-- The upstream link of pair h, if it holds one (R220). -/
def Dev.upLink? (s : Dev) (h : Nat) : Option Nat :=
  [2 * h, 2 * h + 1].find? (fun k => s.obj Obj.LINK_MODE k == 1 || s.obj Obj.LINK_MODE k == 2)

/-- Whether PERSTh_N of link k's pair is asserted. -/
def Dev.perst (s : Dev) (k : Nat) : Bool := (s.link (k / 2 * 2)).perst

/-- Whether link k's pair has its reference (R223, R489). -/
def Dev.refclk (s : Dev) (k : Nat) : Bool := !bit (s.obj Obj.SIDEBAND_STATUS) (14 + k / 2)

/-- Training begins (R229). -/
def Dev.train (s : Dev) (k : Nat) : Dev := (s.setObj Obj.LINK_STATE_8000 k 2).setLink k { s.link k with since := s.tick }

/-- A link in RESET whose PERSTh_N is released, with the reference present, trains (R229, R489). -/
def Dev.leaveReset (s : Dev) (k : Nat) : Dev :=
  if s.obj Obj.LINK_STATE_8000 k = 1 ∧ s.perst k = false ∧ s.refclk k = true ∧ (s.link k).resetDue.isNone = true then s.train k else s

/-- A host-link reset is due at the next edge (R229); a cause that ends in RESET outweighs one that ends in TRAINING. -/
def Dev.dueReset (s : Dev) (k : Nat) (toTraining : Bool) : Dev :=
  let l := s.link k
  match l.resetDue with
  | none => s.setLink k { l with resetDue := some (toTraining, s.tick) }
  | some (_, t) => if toTraining then s else s.setLink k { l with resetDue := some (false, t) }

/-- The PERSTh_N pin changes. -/
def Dev.setPerst (s : Dev) (h : Nat) (v : Bool) : Dev := s.setLink (2 * h) { s.link (2 * h) with perst := v }

/-- PERST_ASSERT (R229): the pair's upstream link, if it has left RESET, will be reset. -/
def execPerstAssert (h : Nat) (s : State) : Res :=
  always s (fun s => if 2 * h < s.part.links then
    let s1 := s.setPerst h true
    match s1.upLink? h with
    | some k => if s1.power.up && decide (2 ≤ s1.obj Obj.LINK_STATE_8000 k) then s1.dueReset k false else s1
    | none => s1
  else s)

/-- PERST_RELEASE (R229). -/
def execPerstRelease (h : Nat) (s : State) : Res :=
  always s (fun s => if 2 * h < s.part.links then
    let s1 := s.setPerst h false
    match s1.upLink? h with
    | some k => if s1.power.up then s1.leaveReset k else s1
    | none => s1
  else s)

/-- HOT_RESET (R229). -/
def execHotReset (k : Nat) (s : State) : Res :=
  onMainIf s (decide (k < s.part.links) && decide (3 ≤ s.obj Obj.LINK_STATE_8000 k)) (fun s => s.dueReset k true)

/-- DL_DOWN (R229). -/
def execDlDown (k : Nat) (s : State) : Res :=
  onMainIf s (decide (k < s.part.links) && decide (3 ≤ s.obj Obj.LINK_STATE_8000 k)) (fun s => s.dueReset k true)

/-- The leaves of a port that hold frames. -/
def Dev.leavesOf (s : Dev) (P : Nat) : List Nat :=
  (s.sched.leaves.filter (fun e => !e.2.frames.isEmpty && s.leafPort? e.1 == some P)).map Prod.fst

/-- Frames dequeued to a port and not finished there are given up (R229). -/
def Dev.dropFifo (s : Dev) (P : Nat) : Dev :=
  let fs := Tab.getD s.sched.fifos P []
  fs.foldl (fun t x => (t.jobLost x.f).releaseCopy x.f) { s with sched := { s.sched with fifos := Tab.del s.sched.fifos P } }

/-- HOST_LINK_RESET (R228, R229): every function of the link is wiped and ABSENT, configuration returns to its defaults, the link's port is
flushed, and every tag returns at once. -/
def Dev.linkReset (s : Dev) (k : Nat) (toTraining : Bool) : Dev :=
  let fs := (s.fnsOfLink k).filter (fun n => s.present n)
  let s0 := ((s.leavesOf (32 + k)).foldl Dev.flushJobs s).dropFifo (32 + k)
  let s1 := fs.foldl (fun t n => ((t.endOn n none).wipe n).setFstate n 0) s0
  let s3 := fs.foldl (fun t n => t.setFn n { (t.fn n).sticky with mps := 128, dirty := [] }) s1
  let l := s3.link k
  let s4 := (s3.setLink k { l with resetDue := none, tags := [], waits := [], atc := [], power := 0, l0p := 0, aspm := 0, l1ss := 0, l0pEn := false }).bump Obj.HOST_LINK_RESETS k
  let s5 := (s4.setObj Obj.LINK_STATE_8000 k 1).setObj Obj.LINK_STATUS k 0
  if toTraining then (if s5.refclk k then s5.train k else s5) else s5.leaveReset k

/-- Whether the edge of a link's reset has come (R229). -/
def Dev.resetReady (s : Dev) (k : Nat) : Bool :=
  match (s.link k).resetDue with | some (_, t) => decide (t < s.tick) | none => false

/-- HOST_LINK_RESET (R229). -/
def execHostLinkReset (k : Nat) (s : State) : Res :=
  onMainIf s (s.resetReady k) (fun s => s.linkReset k (match (s.link k).resetDue with | some (b, _) => b | none => false))

/-- The widest width of a link mode, in lanes (R220). -/
def linkLanes (mode : Nat) : Nat := if mode = 1 then 16 else 8

/-- Whether LINK_STATUS bits are a result training can have (R222): a generation up to MAX_SPEED, and a width of the mode. -/
def Dev.trained (s : Dev) (k status : Nat) : Bool :=
  let gen := bits status 15 13
  let w := bits status 12 8
  decide (3 ≤ gen) && decide (gen ≤ s.obj Obj.MAX_SPEED k) && [1, 2, 4, 8, 16].contains w && decide (w ≤ linkLanes (s.obj Obj.LINK_MODE k)) &&
    bits status 7 2 == 0

/-- DL_ACTIVE (R222, R229): the link is NOT_READY, with what training found. -/
def execDlActive (k status : Nat) (s : State) : Res :=
  onMainIf s (decide (k < s.part.links) && s.obj Obj.LINK_STATE_8000 k == 2 && s.trained k status) (fun s =>
    (s.setObj Obj.LINK_STATE_8000 k 3).setObj Obj.LINK_STATUS k status)

/-- LINK_TRAINING_TIMEOUT (R229): 196,608 ticks without DL_Active. -/
def execLinkTrainingTimeout (k : Nat) (s : State) : Res :=
  onMainIf s (decide (k < s.part.links) && s.obj Obj.LINK_STATE_8000 k == 2 && decide ((s.link k).since + 196608 ≤ s.tick)) (fun s =>
    (s.train k).bump Obj.TRAIN_FAILS k)

/-- FUNCTIONS_READY (R229, R230, R247): the link is ACTIVE, and its PFs within PF_COUNT are DISABLED. -/
def Dev.functionsReady (s : Dev) (k : Nat) : Dev :=
  let s1 := (List.range (s.obj Obj.PF_COUNT k)).foldl (fun t f =>
    let n := 8 * k + f
    if t.fstate n = 0 then (t.setFn n { t.fn n with dstate := 0 }).setFstate n 1 else t) (s.setObj Obj.LINK_STATE_8000 k 4)
  s1.emit (.linkMsg k (8 * k) .deviceReady)

/-- FUNCTIONS_READY (R230). -/
def execFunctionsReady (k : Nat) (s : State) : Res :=
  onMainIf s (decide (k < s.part.links) && s.obj Obj.LINK_STATE_8000 k == 3) (fun s => s.functionsReady k)

/-- PCIE_REFCLK_ABSENT (R489): bit 14 + h of SIDEBAND_STATUS is set, and the pair stays in RESET or enters it. -/
def Dev.refclkLost (s : Dev) (h : Nat) : Dev :=
  let s1 := (s.setObj Obj.SIDEBAND_STATUS 0 (setBit (s.obj Obj.SIDEBAND_STATUS) (14 + h))).notify 0x10B4 Obj.SIDEBAND_STATUS (14 + h)
  match s1.upLink? h with
  | some k => if 2 ≤ s1.obj Obj.LINK_STATE_8000 k then s1.dueReset k false else s1
  | none => s1

/-- PCIE_REFCLK_ABSENT (R489). -/
def execPcieRefclkAbsent (h : Nat) (s : State) : Res :=
  onMainIf s (decide (2 * h < s.part.links) && !bit (s.obj Obj.SIDEBAND_STATUS) (14 + h)) (fun s => s.refclkLost h)

/-- PCIE_REFCLK_RETURN (R489): the bit clears, and the pair may leave RESET. -/
def execPcieRefclkReturn (h : Nat) (s : State) : Res :=
  onMainIf s (decide (2 * h < s.part.links) && bit (s.obj Obj.SIDEBAND_STATUS) (14 + h)) (fun s =>
    let s1 := s.setObj Obj.SIDEBAND_STATUS 0 (clearBit (s.obj Obj.SIDEBAND_STATUS) (14 + h))
    match s1.upLink? h with
    | some k => s1.leaveReset k
    | none => s1)

/-- Whether a management frame matches WAKE_MODE (R250): a magic packet carrying MGMT_MAC, or the pattern under its mask. -/
def Dev.wakeMatch (s : Dev) (f : List Nat) : Bool :=
  match s.obj Obj.WAKE_MODE with
  | 1 =>
    let mac := leBytes 6 (s.obj Obj.MGMT_MAC)
    let magic := List.replicate 6 0xFF ++ (List.replicate 16 mac).flatten
    (List.range f.length).any (fun i => (f.drop i).take 102 == magic)
  | 2 =>
    let p := leBytes 128 (s.obj Obj.WAKE_PATTERN)
    decide (64 ≤ f.length) && (List.range 64).all (fun i => ((nth f i) &&& (nth p (64 + i))) == nth p i)
  | _ => false

/-- WAKE_EVENT (R250): with the main rails down, an MCTP request (none) or a matching management frame asserts WAKEh_N on the pairs
selected. -/
def execWakeEvent (frame : Option (List Nat)) (s : State) : Res :=
  let hit := match frame with | none => true | some f => s.wakeMatch f
  always s (fun s => if s.power.vaux && !s.power.main && hit then
    ((List.range (s.part.links / 2)).filter (fun h => bit (s.obj Obj.WAKE_PAIRS) h)).foldl (fun t h => t.emit (.wake h)) s
  else s)

end Sys2Proof.Machine
end

