-- ==== Sys2Proof/Machine/Letterbox.lean ====
section
/-! DEFINITION. The Letterbox (R279 to R284): control writes, slots, tokens and the status word. -/
namespace Sys2Proof.Machine

/-- The Letterbox status word (R280). -/
def Letterbox.word (b : Letterbox) : Nat :=
  ofBool b.throttled * 2 ^ 40 + b.epoch % 256 * 2 ^ 32 + b.ttAcked % 256 * 2 ^ 24 + b.ttSent % 256 * 2 ^ 16 + b.tmAcked % 256 * 2 ^ 8 + b.tmSent % 256

/-- Messages that a direction holds (R279). -/
def heldOf (sent acked : Nat) : Nat := (sent + 256 - acked % 256) % 256

/-- Whether slot i of a direction holds an unacknowledged message (R279, R281). -/
def slotHeld (sent acked i : Nat) : Bool := (List.range (heldOf sent acked)).any (fun k => (acked + k) % 8 == i)

/-- VF n's index within its PF (R226). -/
def Dev.vfIndex (s : Dev) (n : Nat) : Nat := n - 64 - s.vfBase (s.parentPf n)

/-- VF n's status word is written to its PF's status area, if that is enabled (R280, R283). -/
def Dev.boxStatus (s : Dev) (n : Nat) : Dev :=
  let p := s.parentPf n
  let a := (s.fn p).lbAddr
  let s1 := s.setBox n { s.box n with changed := false }
  if bit a 0 then s1.hostWrite p (a / 4096 * 4096 + 8 * s.vfIndex n) (leBytes 8 (s.box n).word) false else s1

/-- The VF that a control write of function f concerns: itself, or the VF whose index a PF's write names (R280). -/
def Dev.boxOf (s : Dev) (f w : Nat) : Option Nat :=
  if isPf f then
    let i := bits w 43 32
    if i < s.obj Obj.VF_BUDGET f then
      let n := 64 + s.vfBase f + i
      if s.present n then some n else none
    else none
  else if s.present f then some f else none

/-- A Letterbox control write of function f (R280 to R283): sends and acknowledges, whole or not at all. One that names no enabled VF counts
at the PF that wrote it (log entry 154: DESIGN CHOICE, unsafe). -/
def Dev.boxControl (s : Dev) (f w : Nat) : Dev :=
  let tenant := !isPf f
  let send := bits w 15 8
  let ack := bits w 7 0
  let reserved := if tenant then w / 65536 != 0 else bits w 63 44 != 0 || bits w 31 16 != 0
  match s.boxOf f w with
  | none => s.bump Obj.LB_REJECTS f
  | some n =>
    let b := s.box n
    let (sent, acked, osent, oacked) := if tenant then (b.tmSent, b.tmAcked, b.ttSent, b.ttAcked) else (b.ttSent, b.ttAcked, b.tmSent, b.tmAcked)
    if reserved || decide (8 < heldOf sent acked + send) || decide (heldOf osent oacked < ack) then s.bump Obj.LB_REJECTS n
    else if tenant && decide (b.tokens < send) then
      (s.setBox n { b with throttled := true, changed := b.changed || !b.throttled }).bump Obj.LB_THROTTLED n
    else
      let b1 : Letterbox := if tenant then { b with tmSent := (b.tmSent + send) % 256, ttAcked := (b.ttAcked + ack) % 256, tokens := b.tokens - send }
        else { b with ttSent := (b.ttSent + send) % 256, tmAcked := (b.tmAcked + ack) % 256 }
      let s1 := s.setBox n { b1 with changed := b.changed || b1.word != b.word }
      if send = 0 then s1
      else if tenant then ((s1.addObj Obj.LB_SENT n send).boxStatus n).intr (s.parentPf n) 1
      else (s1.addObj Obj.LB_RECEIVED n send).intr n 1

/-- LB_SEND (R281): a control write of function n that sends messages; `w` is the word written. -/
def execLbSend (n w : Nat) (s : State) : Res := onMainIf s (s.barUp n && bits w 15 8 != 0) (fun s => s.boxControl n w)

/-- LB_ACK (R281): a control write of function n that only acknowledges. -/
def execLbAck (n w : Nat) (s : State) : Res := onMainIf s (s.barUp n && bits w 15 8 == 0) (fun s => s.boxControl n w)

/-- LB_TOKEN_REFILL (R282): one token at each edge whose tick is a multiple of LB_INTERVAL. -/
def execLbTokenRefill (n : Nat) (s : State) : Res :=
  let b := s.box n
  onMainIf s (!isPf n && fnInPart s.part n && s.tick % max 1 (s.obj Obj.LB_INTERVAL n) == 0 && b.refilled != s.tick) (fun s =>
    s.setBox n { b with tokens := min 8 (b.tokens + 1), throttled := false, refilled := s.tick, changed := b.changed || b.throttled })

/-- A write of bytes to a Letterbox at an offset by function f, for VF n (R281): false if it is discarded. -/
def Dev.boxWrite (s : Dev) (f n off : Nat) (bs : List Nat) : Dev :=
  let b := s.box n
  let i := off / 64
  let tenant := !isPf f
  let mine := if tenant then decide (i < 8) else decide (8 ≤ i)
  let held := if tenant then slotHeld b.tmSent b.tmAcked i else slotHeld b.ttSent b.ttAcked (i - 8)
  if mine && !held then
    s.setBox n { b with slots := Tab.put 0 b.slots i (ofLE (putAt (leBytes 64 (Tab.getD b.slots i 0)) (off % 64) bs)) }
  else s.bump Obj.BAR_ERRORS f

/-- A read of bytes of a Letterbox: slot reads are always served (R281). -/
def Dev.boxRead (s : Dev) (n off size : Nat) : Nat := ofLE (slice (leBytes 64 (Tab.getD (s.box n).slots (off / 64) 0)) (off % 64) size)

end Sys2Proof.Machine
end

