-- ==== Sys2Proof/Machine/AdminQueue.lean ====
section
/-! DEFINITION. The admin queue (R253, R254, R268 to R272, R285 to R288): enabling it, creating, destroying and resetting queues,
FUNCTION_ABORT, quiescing and resuming, and reassigning a VF. -/
namespace Sys2Proof.Machine

/-! ### Running admin commands (R270, R271) -/

/-- The opcodes of *Admin commands* (R270). -/
def adminOpcodes : List Nat := [0x01, 0x02, 0x03, 0x10, 0x11, 0x12, 0x20, 0x21, 0x22, 0x30, 0x31, 0x32, 0x33]

/-- OPCODE of an admin descriptor (R271, R272). -/
def adminOp (desc : Nat) : Nat := bits desc 63 56

/-- ARG of an admin descriptor (R271). -/
def adminArg (desc : Nat) : Nat := bits desc 47 32

/-- Whether a buffer of an admin descriptor is legal (R271). -/
def bufOk (addr len : Nat) : Bool := addr % 8 == 0 && len % 8 == 0 && decide (len ≤ 1048576)

/-- Whether an admin descriptor's buffers are legal (R271); CREATE_QUEUE has its own layout (R272), and reserved bits are ignored (R10). -/
def adminDescOk (desc : Nat) : Bool :=
  adminOp desc == 1 || (bufOk (bits desc 255 192) (bits desc 191 160) && bufOk (bits desc 159 96) (bits desc 95 64))

/-- Whether function n's admin queue can start a command now (R270, R275). -/
def Dev.adminReady (s : Dev) (n : Nat) : Bool :=
  match s.queue? (qkey n 0) with
  | some q => q.type == 0 && s.mayRead n q && (Tab.get? s.hosts.admin n).isNone && q.jobs.all (fun j => j.done) &&
      decide ((if s.level7 then 2 else 1) ≤ s.qsub q q.prod q.cons)
  | none => false

/-- The descriptor is read, and the command becomes the queue's job (R259, R270, R275). -/
def Dev.adminRead (s : Dev) (n desc : Nat) : Dev :=
  let k := if s.level7 then 2 else 1
  (s.updQueue (qkey n 0) (fun q => { q with jobs := q.jobs ++ [{ index := q.cons, count := k, desc := desc }] })).consume (qkey n 0) k

/-- The host address of function n's next admin descriptor (R259). -/
def Dev.adminAddr (s : Dev) (n : Nat) : Nat := match s.queue? (qkey n 0) with | some q => s.descAddr q | none => 0

/-- The slot of an admin command is read with a tag (R240), and the command goes on. -/
def Dev.adminSlot (s : Dev) (n desc : Nat) (f : Dev → Dev) : Dev :=
  s.onSlot n (s.adminAddr n) 32 (.slot (qkey n 0)) (fun t s => f ((s.returnTag (s.linkOf n) t).adminRead n desc))

/-- Run an admin command of function n with one of some opcodes; `manager`: only a Manager may issue it (R270). -/
def adminRun (s : State) (n desc : Nat) (op : Nat) (manager : Bool) (f : Dev → Dev) : Res :=
  onMainIf s (s.adminReady n && adminOp desc == op) (fun s =>
    s.adminSlot n desc (fun s1 =>
      if !adminDescOk desc then s1.adminDone n 0x01 0
      else if manager && !isPf n then s1.adminDone n 0x40 0
      else f s1))

/-- The admin command of function n goes on as an operation in progress. -/
def Dev.adminBegin (s : Dev) (n : Nat) (op : AdminOp) : Dev :=
  { s with hosts := { s.hosts with admin := Tab.ins s.hosts.admin n op } }

/-- ADMIN_INVALID_OPCODE (R270): an unlisted opcode completes with 0x01. -/
def execAdminInvalidOpcode (n desc : Nat) (s : State) : Res :=
  onMainIf s (s.adminReady n && !adminOpcodes.contains (adminOp desc)) (fun s =>
    s.adminSlot n desc (fun s => s.adminDone n 0x01 0))

/-! ### Enabling (R269) -/

/-- ADMIN_ENABLE (R269): a write of ENABLE = 1, applied at the next edge. -/
def execAdminEnable (n : Nat) (s : State) : Res :=
  onMainIf s (s.barUp n && !(s.fn n).adminEn) (fun s => s.setFn n { s.fn n with adminDue := true })

/-- ADMIN_DISABLE (R269): both admin queues are ABSENT; a command already started runs to its end, and its completion is not posted. -/
def Dev.adminDisable (s : Dev) (n : Nat) : Dev :=
  let off (t : Dev) (Q : Nat) : Dev := (t.setQstate (qkey n Q) 0 0 false).dropQueue (qkey n Q)
  (off (off s 0) 1).setFn n { s.fn n with adminEn := false, adminDue := false }

/-- ADMIN_DISABLE (R269). -/
def execAdminDisable (n : Nat) (s : State) : Res := onMainIf s (s.barUp n && ((s.fn n).adminEn || (s.fn n).adminDue)) (fun s => s.adminDisable n)

/-- Whether a device queue number is free. -/
def Dev.gFree (s : Dev) (g : Nat) : Bool := !s.hosts.queues.any (fun e => e.2.g == g)

/-- The first free device queue number at or after g, wrapping at m. -/
def Dev.findG (s : Dev) (m : Nat) : Nat → Nat → Nat
  | 0, g => g
  | k + 1, g => if s.gFree g then g else s.findG m k ((g + 1) % m)

/-- A device queue number for a new queue: which free one is not specified, so the search starts at a free value (R253). -/
def Dev.takeG (s : Dev) : Nat × Dev :=
  let (u, s1) := s.fresh
  let m := s.part.pick 262144 131072
  (s1.findG m s1.hosts.queues.length (u % m), s1)

/-- A queue is created, READY, with its indices zero (R268). -/
def Dev.addQueue (s : Dev) (qk : Nat) (q : Queue) : Nat × Dev :=
  let (g, s1) := s.takeG
  let (life, s2) := s1.newLife
  (g, (s2.setQueue qk { q with g := g, life := life, armed := q.type == 3 && qk % 16384 != 1 }).setQstate qk 1 0 false)

/-- A write of ENABLE = 1 is applied at its edge (R68, R269): both admin queues are READY and a session begins, or it fails with ERROR.
A transaction still open in the session before ends with it (log entry 158: DESIGN CHOICE, unsafe). -/
def Dev.adminApply (s : Dev) (n : Nat) : Dev :=
  let f := s.fn n
  let k0 := bits f.adminSizes 3 0
  let k1 := bits f.adminSizes 11 8
  let bad := !(decide (6 ≤ k0 ∧ k0 ≤ 12) && decide (6 ≤ k1 ∧ k1 ≤ 12) && f.adminSq % 4096 == 0 && f.adminCq % 4096 == 0 && f.adminIdx % 128 == 0)
  let err := if bad then 1 else if !f.bme then 0x40 else 0
  let s1 := s.setFn n { f with adminDue := false, adminErr := err, adminEn := err == 0 }
  if err ≠ 0 then s1
  else
    let s2 := (s1.addQueue (qkey n 0) { g := 0, type := 0, log2 := k0, ring := f.adminSq, idx := f.adminIdx, cq := 1 }).2
    let s3 := (s2.addQueue (qkey n 1) { g := 0, type := 3, log2 := k1, ring := f.adminCq, idx := f.adminIdx + 64 }).2
    let ss : Session := { who := if isPf n then .manager else .tenant, fn := n }
    let s4 := { s3 with bureau := { s3.bureau with sessions := Tab.ins s3.bureau.sessions n ss } }
    if s4.fstate n = 3 then s4.setFstate n 2 else s4

/-! ### Creating queues (R254, R272) -/

/-- The leaves of function n, ascending (R295). -/
def Dev.fnLeaves (s : Dev) (n : Nat) : List Nat :=
  ((s.objs.filter (fun e => e.1 / 2 ^ 32 == Obj.NODE_FUNCTION && e.2 == n)).map (fun e => e.1 % 2 ^ 32)).filter (fun q => decide (q < 262144))

/-- A queue's 64-byte context (*Queue context*): of the doorbells recorded, the last value and whether a refresh came after it. -/
def Dev.queueCtx (s : Dev) (qk : Nat) (q : Queue) : Nat :=
  let values := q.bells.filter (fun w => bits w 31 24 != 2)
  let later := (q.bells.reverse.takeWhile (fun w => bits w 31 24 == 2)).length
  let ordinal := if q.type = 2 then ((s.fnLeaves (qk / 16384)).findIdx? (· == q.leaf)).getD 0 else 0
  q.ring % 2 ^ 64 * 2 ^ 448 + q.idx / 64 % 2 ^ 58 * 2 ^ 390 + ordinal * 2 ^ 372 + q.cq * 2 ^ 358 + q.vector * 2 ^ 347 + q.cls * 2 ^ 345 + ofBool q.ro * 2 ^ 344 +
    q.log2 * 2 ^ 339 + q.type * 2 ^ 336 + q.st * 2 ^ 328 + q.status * 2 ^ 320 + q.prod % 2 ^ 32 * 2 ^ 288 + q.cons % 2 ^ 32 * 2 ^ 256 +
    (match values.getLast? with | some w => w / 2 ^ 32 % 2 ^ 32 * 2 ^ 224 + 2 ^ 223 | none => 0) + ofBool (decide (0 < later)) * 2 ^ 222 +
    qk % 16384 * 2 ^ 208 + ofBool q.armed * 2 ^ 207

/-- The queue that a context describes, on function n: its leaf is found by its ordinal (R293), and its doorbells are recorded again. -/
def Dev.ctxQueue (s : Dev) (n ctx : Nat) : Queue :=
  let Q := bits ctx 221 208
  let type := bits ctx 338 336
  let page := Q
  let value := if bit ctx 223 then [bits ctx 255 224 * 2 ^ 32 + 2 ^ 24 + page] else []
  let again := if bit ctx 222 then [2 * 2 ^ 24 + page] else []
  { g := 0, type := type, st := bits ctx 335 328, log2 := bits ctx 343 339, ring := bits ctx 511 448, idx := bits ctx 447 390 * 64,
    leaf := if type = 2 then nth (s.fnLeaves n) (bits ctx 389 372) else 0, cq := bits ctx 371 358, vector := bits ctx 357 347,
    cls := bits ctx 346 345, ro := bit ctx 344, status := bits ctx 327 320, prod := bits ctx 319 288 + 2 ^ 32, cons := bits ctx 287 256 + 2 ^ 32,
    armed := bit ctx 207, hw := if type = 3 then bits ctx 319 288 else bits ctx 287 256, bells := value ++ again }

/-- A queue is installed as it stands, under a fresh device queue number (R293, R430). -/
def Dev.installQueue (s : Dev) (qk : Nat) (q : Queue) : Dev :=
  let (g, s1) := s.takeG
  let (life, s2) := s1.newLife
  s2.setQueue qk { q with g := g, life := life, stTick := s.tick }

/-- CREATE_QUEUE or DESTROY_QUEUE of function n is done: it completes, or, on a mirrored function, once the peer has acknowledged a
message (R430). -/
def Dev.adminPeer (s : Dev) (n qk result : Nat) (m : MirrorMsg) : Dev :=
  if s.mirrors && s.queueMirrored qk then
    (s.mirrorSync m (.admin n result)).adminBegin n .peer
  else s.adminDone n 0 result

/-- Queues of function n in existence. -/
def Dev.queuesInUse (s : Dev) (n : Nat) : Nat := (s.queuesOf n).length

/-- The status of a CREATE_QUEUE at its edge: 0, 0x01 or 0x41 (R254, R272). -/
def Dev.createStatus (s : Dev) (n desc : Nat) : Nat :=
  let Q := bits desc 47 32
  let type := bits desc 82 80
  let k := bits desc 87 83
  let leaf := bits desc 133 116
  let bad := decide (Q < 2 ∨ 16384 ≤ Q) || (s.queue? (qkey n Q)).isSome || !(type == 1 || type == 2 || type == 3) || decide (k < 6 ∨ 16 < k) ||
    bits desc 255 192 % 4096 != 0 ||
    (type != 3 && (match s.queue? (qkey n (bits desc 115 102)) with | some c => c.type != 3 | none => true)) ||
    (type == 3 && decide (s.obj Obj.MSIX_VECTORS n ≤ bits desc 101 91)) ||
    (type == 2 && (s.leafPort? leaf != some (32 + s.linkOf n) || s.obj Obj.NODE_FUNCTION leaf != n ||
      s.hosts.queues.any (fun e => e.2.type == 2 && e.2.leaf == leaf)))
  if bad then 0x01
  else if s.obj Obj.QUEUE_LIMIT n ≤ s.queuesInUse n ∨ s.part.pick 262144 131072 ≤ s.hosts.queues.length then 0x41
  else 0

/-- CREATE_QUEUE at its edge (R272): the queue is created and g returned in RESULT [255:224]. -/
def Dev.createApply (s : Dev) (n desc : Nat) : Dev :=
  let st := s.createStatus n desc
  if st ≠ 0 then s.adminDone n st 0
  else
    let (g, s1) := s.addQueue (qkey n (bits desc 47 32))
      { g := 0, type := bits desc 82 80, log2 := bits desc 87 83, ring := bits desc 255 192, idx := bits desc 191 134 * 64, leaf := bits desc 133 116,
        cq := bits desc 115 102, vector := bits desc 101 91, cls := bits desc 90 89, ro := bit desc 88 }
    let qk := qkey n (bits desc 47 32)
    s1.adminPeer n qk (g * 2 ^ 96)
      (.create (s1.peerFn qk) (qk % 16384) (match s1.queue? qk with | some q => s1.queueCtx qk q | none => 0))

/-- CREATE_QUEUE (R272). -/
def execCreateQueue (n desc : Nat) (s : State) : Res := adminRun s n desc 0x01 false (fun s => s.adminBegin n (.create desc))

/-! ### Destroying and resetting queues (R270) -/

/-- Jobs read but not started end with 0x11: receive descriptors not used, and sends of which a mover has read nothing yet (R270). -/
def Dev.endUnstarted (s : Dev) (qk : Nat) : Dev :=
  match s.queue? qk with
  | none => s
  | some q =>
    let n := qk / 16384
    let waits (j : Job) : Bool := j.chainless || s.hosts.movers.any (fun m => m.2.waits.any (fun x =>
      x.why == .job qk (j.index % 2 ^ 32) && x.off == 0))
    let idle := q.jobs.filter (fun j => !j.done && waits j)
    let held : List Job := q.held.map (fun h => { index := h.1, desc := h.2, done := true, status := 0x11, mute := q.st == 3 })
    let drop (x : Xfer) : Bool := idle.any (fun j => x.why == .job qk (j.index % 2 ^ 32))
    let cut (m : Nat × Mover) : Nat × Mover := (m.1, { m.2 with waits := m.2.waits.filter (fun x => !drop x) })
    let s1 := { s with hosts := { s.hosts with movers := s.hosts.movers.map cut } }
    let fail (j : Job) : Job := if !j.done && waits j then { j with done := true, status := 0x11, reading := 0, tsWait := false, chains := [] } else j
    let s2 := idle.foldl (fun t j => t.freeChains n j.chains) s1
    s2.setQueue qk { q with jobs := q.jobs.map fail ++ held, held := [] }

/-- DESTROY_QUEUE or QUEUE_RESET is accepted (R270): fetching stops. -/
def Dev.stopBegin (s : Dev) (n desc : Nat) (destroy : Bool) : Dev :=
  let Q := adminArg desc
  let qk := qkey n Q
  if 16384 ≤ Q then s.adminDone n 0x40 0 else
  match s.queue? qk with
  | none => s.adminDone n 0x01 0
  | some q =>
    let named := q.type == 3 && s.hosts.queues.any (fun e => e.1 / 16384 == n && e.2.type != 3 && e.2.cq == Q)
    if Q < 2 ∨ (destroy = true ∧ named = true) ∨ q.st = 4 ∧ destroy = false then s.adminDone n 0x01 0
    else ((s.setQueue qk { q with stopping := some destroy }).endUnstarted qk).adminBegin n (.stop qk)

/-- DESTROY_QUEUE (R270). -/
def execDestroyQueue (n desc : Nat) (s : State) : Res := adminRun s n desc 0x02 false (fun s => s.stopBegin n desc true)

/-- QUEUE_RESET (R270). -/
def execQueueReset (n desc : Nat) (s : State) : Res := adminRun s n desc 0x03 false (fun s => s.stopBegin n desc false)

/-- Whether a stopping queue must still wait for a mirrored entry to go to the peer and be written (R430). -/
def Dev.stopWaits (s : Dev) (qk : Nat) : Bool := s.mirrors && s.queueMirrored qk && s.postReady qk

/-- A queue that is stopping and has every outcome posts its entries, or discards those that its completion queue cannot take, and is then
ABSENT or READY (R270); the number discarded is RESULT's low word. -/
def Dev.stopStep (s : Dev) (n qk : Nat) : Dev :=
  match s.queue? qk with
  | none => s.adminDone n 0 0
  | some q =>
    if q.jobs.all (fun j => j.done || (j.mute && j.parcels == 0)) && !s.stopWaits qk then
      let (d, s1) := s.postAll qk (q.jobs.length + 1)
      if q.stopping = some true then
        let t := if q.type = 2 then s1.flushJobs q.leaf else s1
        ((t.setQstate qk 0 0 false).dropQueue qk).adminPeer n qk d (.destroy (s.peerFn qk) (qk % 16384))
      else (s1.resetQueue qk (if (s.fn n).bme then 1 else 3)).adminDone n 0 d
    else s

/-! ### FUNCTION_ABORT (R247) -/

/-- FUNCTION_ABORT is accepted (R247): the target's work is done at once, and the command waits for its end. -/
def Dev.abortBegin (s : Dev) (n desc : Nat) : Dev :=
  let t := adminArg desc
  if t ≠ n ∧ !(s.vfsOf n).contains t then s.adminDone n 0x40 0
  else
    let st := s.fstate t
    if st ≠ 2 ∧ st ≠ 3 ∧ st ≠ 6 then s.adminDone n 0x01 0
    else
      let s1 := (s.adminBegin n (.abort t)).bump Obj.FUNCTION_ABORTS t
      if st = 6 then s1
      else
        let s2 := s1.abortFn t (t == n)
        (s2.setFn t { s2.fn t with abort := some (n, s.tick, st) }).setFstate t 5

/-- FUNCTION_ABORT (R247). -/
def execFunctionAbort (n desc : Nat) (s : State) : Res := adminRun s n desc 0x20 true (fun s => s.abortBegin n desc)

/-- FUNCTION_ABORT_DONE (R247): the target returns to its state before the abort, and the command completes. -/
def Dev.abortDone (s : Dev) (n : Nat) : Dev :=
  match (s.fn n).abort with
  | none => s
  | some (_, _, before') => (s.endOn n (some 0)).setFstate n before'

/-- FUNCTION_ABORT_DONE (R247). -/
def execFunctionAbortDone (n : Nat) (s : State) : Res := onMainIf s ((s.fn n).abort.isSome && s.fstate n == 5) (fun s => s.abortDone n)

/-! ### Quiescing and resuming (R285 to R287) -/

/-- QUIESCE_FUNCTION is accepted (R285): fetching stops, and the open transaction is discarded. -/
def Dev.quiesceBegin (s : Dev) (n desc : Nat) : Dev :=
  let t := adminArg desc
  if !(s.vfsOf n).contains t then s.adminDone n 0x40 0
  else if s.fstate t = 2 ∨ s.fstate t = 3 then
    ((((s.setFn t { s.fn t with quiesce := some (n, s.tick) }).discardTxn t).bump Obj.QUIESCES t)).adminBegin n (.quiesce t)
  else s.adminDone n 0x01 0

/-- QUIESCE_FUNCTION (R285). -/
def execQuiesceFunction (n desc : Nat) (s : State) : Res := adminRun s n desc 0x21 true (fun s => s.quiesceBegin n desc)

/-- Whether no work of VF n is left in flight (R285, R326): with Bus Master Enable, every entry is posted that is still reported; without it, no
parcel is left. -/
def Dev.vfIdle (s : Dev) (n : Nat) : Bool :=
  (Tab.get? s.hosts.admin n).isNone && !s.ctrlBusy n &&
    (s.queuesOf n).all (fun e => e.2.jobs.all (fun j => j.parcels == 0 && j.reading == 0 && (j.mute || !(s.fn n).bme)))

/-- VF n and its READY queues enter QUIESCED, their HW_INDEX written where it is owed (R259), and the command completes with a number of
jobs ended by force (R285, R286). -/
def Dev.quiesceEnd (s : Dev) (n forced : Nat) : Dev :=
  let issuers := s.issuersOf n
  let s0 := (s.queuesOf n).foldl (fun t e => if t.hwOwed e.1 then t.hwWrite e.1 else t) s
  let s1 := (s.queuesOf n).foldl (fun t e => if e.2.st = 1 then t.setQstate e.1 4 0 false else t) s0
  let s2 := (s1.setFn n { s1.fn n with quiesce := none }).setFstate n 4
  let s3 := match s2.ctrlOfFn n with
    | some c => if (s2.ctrl c).en then s2.setObj Obj.CTRL_STATE c 3 else s2
    | none => s2
  issuers.foldl (fun t m => t.adminDone m 0 (forced % 65536 * 2 ^ 32)) s3

/-- QUIESCE_COMPLETE (R285): the edge after nothing of the VF remains in flight. -/
def execQuiesceComplete (n : Nat) (s : State) : Res :=
  onMainIf s (match (s.fn n).quiesce with | some (_, t) => decide (t < s.tick) && s.vfIdle n | none => false) (fun s => s.quiesceEnd n 0)

/-- The completion entries of a queue that its completion queue has room for are posted, at most k of them; the others wait (R266). -/
def Dev.postFit (s : Dev) (qk : Nat) : Nat → Dev
  | 0 => s
  | k + 1 => if s.postReady qk then (s.postAct qk).postFit qk k else s

/-- QUIESCE_BOUND (R286): jobs still unfinished end with 0x11, are counted and logged, and the quiesce completes. -/
def Dev.quiesceForce (s : Dev) (n : Nat) : Dev :=
  let ks := (s.queuesOf n).map Prod.fst
  let left (t : Dev) : Nat := ks.foldl (fun a k => a + match t.queue? k with | some q => (q.jobs.filter (fun j => !j.done)).length | none => 0) 0
  let num := left s
  let s1 := ks.foldl (fun t k => match t.queue? k with
    | some q => (q.jobs.filter (fun j => !j.done)).foldl (fun u j => u.jobFail k j.index 0x11) t
    | none => t) s
  let s2 := ks.foldl (fun t k => match t.queue? k with | some q => t.postFit k (q.jobs.length + 1) | none => t) s1
  let s3 := { s2 with hosts := { s2.hosts with admin := Tab.del s2.hosts.admin n } }
  ((s3.tenantLog n 2 0 num).addObj Obj.QUIESCE_FORCED n num).quiesceEnd n num

/-- QUIESCE_BOUND (R286): 3,907 ticks after acceptance. -/
def execQuiesceBound (n : Nat) (s : State) : Res :=
  onMainIf s (match (s.fn n).quiesce with | some (_, t) => decide (t + 3907 ≤ s.tick) | none => false) (fun s => s.quiesceForce n)

/-- A QUIESCED VF whose queues run again at the next edge (R287). -/
def execResumeFunction (n desc : Nat) (s : State) : Res :=
  adminRun s n desc 0x22 true (fun s =>
    let t := adminArg desc
    if !(s.vfsOf n).contains t then s.adminDone n 0x40 0
    else if s.fstate t = 4 ∧ (s.fn t).bme = true then s.adminBegin n (.resume t)
    else s.adminDone n 0x01 0)

/-- QUIESCED queues of VF n are READY, and recorded doorbells are applied in arrival order (R287, R294). -/
def Dev.runQueues (s : Dev) (n : Nat) : Dev :=
  let ks := ((s.queuesOf n).filter (fun e => e.2.st == 4)).map Prod.fst
  let s1 := ks.foldl (fun t k => t.setQstate k 1 0 false) s
  ks.foldl (fun t k => match t.queue? k with | some q => t.ringHeld k q.bells.length | none => t) s1

/-- RESUME_FUNCTION at its edge (R287). -/
def Dev.resumeApply (s : Dev) (n t : Nat) : Dev :=
  if s.fstate t = 4 ∧ (s.fn t).bme = true then
    let s1 := (s.runQueues t).setFstate t 2
    let s2 := match s1.ctrlOfFn t with | some c => if (s1.ctrl c).en then s1.setObj Obj.CTRL_STATE c 1 else s1 | none => s1
    s2.adminDone n 0 0
  else s.adminDone n 0x01 0

/-! ### Reassigning a VF (R288) -/

/-- A change of VF_ASSIGN applied to a present VF (R288): queues destroyed, snapshot discarded, the VF wiped and DISABLED, and its frames on
receive leaves dropped. -/
def Dev.reassign (s : Dev) (n : Nat) : Dev :=
  let s1 := ((s.queuesOf n).filter (fun e => e.2.type == 2)).foldl (fun t e => t.flushJobs e.2.leaf) s
  let s2 := (s.queuesOf n).foldl (fun t e => t.setQstate e.1 0 0 false) s1
  (s2.wipe n).setFstate n 1

end Sys2Proof.Machine
end

