-- ==== Sys2Proof/Machine/Parse.lean ====
section
/-! DEFINITION. The parse graph (chapter 05): node records, the walk, the parse result's word, record checks and the bank check. -/
namespace Sys2Proof.Machine

/-! ### Node records (R114 to R116) -/

/-- A key extract (R114). -/
structure Extract where
  en : Bool
  src : Nat
  len : Nat
  dst : Nat
  deriving DecidableEq, Repr

/-- A node head (R114). -/
structure NodeHead where
  flagsSet : Nat
  extracts : List Extract
  advMax : Nat
  advMin : Nat
  advScale : Nat
  advWidth : Nat
  advOffset : Nat
  advConst : Nat
  advKind : Nat
  defaultNext : Nat
  selWidth : Nat
  selOffset : Nat
  arcCount : Nat
  slot : Nat
  slotEn : Bool
  valid : Bool
  deriving DecidableEq, Repr

/-- A key extract read from its 24 bits. -/
def extractOf (v : Nat) : Extract :=
  { en := bit v 23, src := bits v 22 14, len := bits v 13 10 + 1, dst := bits v 5 0 }

/-- A node head read from its 256 bits (R114). -/
def nodeHead (v : Nat) : NodeHead :=
  { flagsSet := bits v 255 240
    extracts := [extractOf (bits v 151 128), extractOf (bits v 175 152), extractOf (bits v 199 176), extractOf (bits v 223 200)]
    advMax := bits v 127 118, advMin := bits v 117 108, advScale := bits v 107 100, advWidth := bits v 99 96 + 1
    advOffset := bits v 95 84, advConst := bits v 83 74, advKind := bits v 73 73, defaultNext := bits v 72 64
    selWidth := bits v 63 58, selOffset := bits v 57 46, arcCount := bits v 45 41, slot := bits v 40 37
    slotEn := bit v 36, valid := bit v 0 }

/-- An arc (R115). -/
structure Arc where
  value : Nat
  mask : Nat
  next : Nat
  deriving DecidableEq, Repr

/-- Arc k of an arc block (R115). -/
def arcOf (v k : Nat) : Arc :=
  { value := bits v (96 * k + 95) (96 * k + 64), mask := bits v (96 * k + 63) (96 * k + 32), next := bits v (96 * k + 8) (96 * k) }

/-- The arcs of a node in use: those below ARC_COUNT (R115). -/
def arcsOf (v n : Nat) : List Arc := (List.range n).map (arcOf v)

/-- The next node: the lowest-numbered matching arc, else DEFAULT_NEXT; a SEL_WIDTH of 0 consults no arc (R114, R115). -/
def nextNode (h : NodeHead) (arcs : List Arc) (sel : Nat) : Nat :=
  if h.selWidth = 0 then h.defaultNext
  else ((arcs.find? (fun a => sel &&& a.mask == a.value)).map Arc.next).getD h.defaultNext

/-! ### The walk (R113, R117 to R120) -/

/-- Flag bits of STATUS_FLAGS (R122). -/
abbrev pfTruncated : Nat := 0
abbrev pfVisits : Nat := 1
abbrev pfBytes : Nat := 2
abbrev pfMalformed : Nat := 3
abbrev pfUnknown : Nat := 4
abbrev pfBeyond : Nat := 5
abbrev pfExtended : Nat := 6

/-- The parse result with a status flag set. -/
def ParseResult.flag (r : ParseResult) (i : Nat) : ParseResult := { r with status := setBit r.status i }

/-- A field of w bits at bit offset o from header start h, most significant bit first (R113). -/
def fieldAt (frame : List Nat) (h o w : Nat) : Nat :=
  if w = 0 then 0
  else
    let first := h + o / 8
    let last := h + (o + w - 1) / 8
    let v := ofBE (slice frame first (last + 1 - first))
    (v >>> (8 * (last + 1 - h) - (o + w))) % 2 ^ w

/-- The byte after the last one a field touches; a field of no bits touches none. -/
def fieldEnd (h o w : Nat) : Nat := if w = 0 then 0 else h + (o + w - 1) / 8 + 1

/-- Where a walk stands. -/
structure Walk where
  res : ParseResult
  code : Nat
  h : Nat
  stop : Bool := false
  /-- The walker needs a byte of the frame that has not arrived yet (R120). -/
  park : Bool := false
  deriving DecidableEq, Repr

/-- One extract of a visited node (R118, R119): bytes at or beyond 512 skip it; bytes beyond the frame are zero. -/
def copyExtract (frame : List Nat) (len h : Nat) (r : ParseResult) (x : Extract) : ParseResult :=
  if !x.en then r
  else if 512 < h + x.src + x.len then (r.flag pfTruncated).flag pfBytes
  else
    let bytes := (List.range x.len).map (fun i => let o := h + x.src + i; if o < len then nth frame o else 0)
    let r1 := if len < h + x.src + x.len then r.flag pfBeyond else r
    { r1 with key := (putAt64 r1.key x.dst bytes).take 64 }
where
  /-- The key with bytes written at an offset. -/
  putAt64 (k : List Nat) (o : Nat) (b : List Nat) : List Nat := k.take o ++ b ++ k.drop (o + b.length)

/-- The end of what bytes [a, b) need beyond byte 255 of a frame of `len` bytes: 0 if nothing (R120). -/
def rangeReach (len a b : Nat) : Nat := if max a 256 < min b len then min b len else 0

/-- The last byte beyond 255 a node reads of a frame of `len` bytes, plus one: 0 if none (R120). -/
def nodeReach (hd : NodeHead) (h len : Nat) : Nat :=
  ([rangeReach len (h + hd.selOffset / 8) (fieldEnd h hd.selOffset hd.selWidth),
      if hd.advKind = 1 then rangeReach len (h + hd.advOffset / 8) (fieldEnd h hd.advOffset hd.advWidth) else 0]
    ++ (hd.extracts.filter (fun x => x.en && decide (h + x.src + x.len ≤ 512))).map
      (fun x => rangeReach len (h + x.src) (h + x.src + x.len))).foldl max 0

/-- One step of the walk at a node of the graph (R117). `arrived` is how many bytes of the frame are there; `len` its length. A field beyond
byte 512 and beyond the frame too is truncation only (R118, R119; log entry 163: DESIGN CHOICE, unsafe). -/
def walkStep (heads arcs : Nat → Nat) (frame : List Nat) (arrived len : Nat) (w : Walk) : Walk :=
  if w.stop || w.park || decide (0x100 ≤ w.code) then { w with stop := w.stop || decide (0x100 ≤ w.code) }
  else
    let hd := nodeHead (heads w.code)
    if w.res.visits = 24 then { w with res := (w.res.flag pfTruncated).flag pfVisits, stop := true }
    else
      let fe := max (fieldEnd w.h hd.selOffset hd.selWidth)
        (if hd.advKind = 1 then fieldEnd w.h hd.advOffset hd.advWidth else 0)
      if 512 < fe then { w with res := (w.res.flag pfTruncated).flag pfBytes, stop := true }
      else if len < fe then { w with res := w.res.flag pfBeyond, stop := true }
      else
        let reach := nodeReach hd w.h len
        if 0 < reach ∧ arrived < min 512 len ∧ arrived < reach then { w with park := true }
        else
          let r0 := if 0 < reach then w.res.flag pfExtended else w.res
          let r1 := { r0 with visits := r0.visits + 1, lastNode := w.code, userFlags := r0.userFlags ||| hd.flagsSet,
                              slots := if hd.slotEn then r0.slots.set hd.slot (some w.h) else r0.slots }
          let r2 := hd.extracts.foldl (copyExtract frame len w.h) r1
          let nxt := nextNode hd (arcsOf (arcs w.code) hd.arcCount) (fieldAt frame w.h hd.selOffset hd.selWidth)
          let adv := if hd.advKind = 1 then fieldAt frame w.h hd.advOffset hd.advWidth * hd.advScale + hd.advConst else hd.advConst
          if hd.advKind = 1 ∧ ¬ (hd.advMin ≤ adv ∧ adv ≤ hd.advMax) then { w with res := r2.flag pfMalformed, stop := true }
          else if 512 < w.h + adv then { w with res := (r2.flag pfTruncated).flag pfBytes, stop := true }
          else
            let r3 := if len < w.h + adv then r2.flag pfBeyond else r2
            { w with res := { r3 with payload := min (w.h + adv) len }, code := nxt, h := w.h + adv }

/-- At most k steps of the walk. -/
def walkRun (heads arcs : Nat → Nat) (frame : List Nat) (arrived len : Nat) : Nat → Walk → Walk
  | 0, w => w
  | k + 1, w =>
    let w' := walkStep heads arcs frame arrived len w
    if w'.stop || w'.park then w' else walkRun heads arcs frame arrived len k w'

/-- The walk of a frame from a start code on a bank (R117): 25 steps suffice, since the 25th visit stops it. -/
def walkFrame (p : Part) (o : Tab Nat) (frame : List Nat) (arrived len start bank : Nat) : Walk :=
  let heads := fun n => objAt p o Obj.NODE_HEAD (256 * bank + n)
  let arcs := fun n => objAt p o Obj.NODE_ARCS (256 * bank + n)
  let w := walkRun heads arcs frame arrived len 26
    { res := { bank := bank, lastNode := start }, code := start, h := 0 }
  if w.code = 0x101 ∧ ¬ w.park then { w with res := w.res.flag pfUnknown } else w

/-- The parse result of a parcel that is not walked (R111). -/
def unwalked : ParseResult := { status := 2 ^ pfUnknown, lastNode := 0x101 }

/-- The 128-byte parse result as one number (R122). -/
def ParseResult.word (r : ParseResult) : Nat :=
  ofLE r.key * 2 ^ 512
    + ofLE (r.slots.flatMap (fun s => match s with | some o => leBytes 2 (0x8000 + o) | none => [0, 0])) * 2 ^ 256
    + r.userFlags * 2 ^ 240 + r.status * 2 ^ 224 + r.payload * 2 ^ 214 + r.visits * 2 ^ 209 + r.bank * 2 ^ 208
    + r.lastNode * 2 ^ 199

/-- A drawer counts a finished walk (R128). -/
def Dev.countWalk (s : Dev) (d : Nat) (r : ParseResult) : Dev :=
  let c (t : Dev) (i oid : Nat) : Dev := if bit r.status i then t.bump oid d else t
  c (c (c (c (c ((s.bump Obj.WALKS d).addObj Obj.VISITS d r.visits) pfTruncated Obj.TRUNCATED) pfMalformed Obj.MALFORMED)
    pfUnknown Obj.UNKNOWN) pfBeyond Obj.BEYOND_FRAME) pfExtended Obj.EXTENDED

/-! ### Record checks (R126) and the bank check (R125) -/

/-- Whether a next-node code is legal (R116). -/
def legalCode (c : Nat) : Bool := decide (c ≤ 0x101)

/-- Whether a node head may be staged (R126). -/
def nodeHeadOk (v : Nat) : Bool :=
  let h := nodeHead v
  bits v 239 224 == 0 && bits v 35 1 == 0 && decide (h.selWidth ≤ 32) && decide (h.selOffset + h.selWidth ≤ 4096)
    && decide (h.advOffset + h.advWidth ≤ 4096) && decide (h.advConst ≤ 512) && decide (h.advMax ≤ 512)
    && decide (h.advMin ≤ h.advMax) && decide (h.arcCount ≤ 16) && legalCode h.defaultNext
    && h.extracts.all (fun x => !x.en || (decide (x.src + x.len ≤ 512) && decide (x.dst + x.len ≤ 64)))
    && [bits v 137 134, bits v 161 158, bits v 185 182, bits v 209 206].all (· == 0)

/-- Whether an arc block may be staged (R126). -/
def nodeArcsOk (v : Nat) : Bool :=
  (List.range 16).all (fun k =>
    let a := arcOf v k
    bits v (96 * k + 31) (96 * k + 9) == 0 && legalCode a.next && a.value &&& a.mask == a.value)

/-- Whether a source of START_NODE is one the part has: a port, or a host link at 32 + k (R111, R125). -/
def sourceExists (p : Part) (s : Nat) : Bool := decide (s < p.ports) || decide (32 ≤ s ∧ s < 32 + p.links)

/-- The first failure of the bank check of bank b over an object store, as CHECK_FAULT encodes it (R125, R127). -/
def bankFault (p : Part) (o : Tab Nat) (b : Nat) : Option Nat :=
  let okNode (c : Nat) : Bool := decide (0x100 ≤ c) || (nodeHead (objAt p o Obj.NODE_HEAD (256 * b + c))).valid
  let starts := ((List.range 40).filter (sourceExists p)).filterMap (fun s =>
    let c := objAt p o Obj.START_NODE (40 * b + s)
    if okNode c then none else some (1 * 2 ^ 24 + s * 2 ^ 16 + c))
  let nodes := (List.range 256).flatMap (fun n =>
    let h := nodeHead (objAt p o Obj.NODE_HEAD (256 * b + n))
    if !h.valid then []
    else
      let arcs := objAt p o Obj.NODE_ARCS (256 * b + n)
      ((List.range h.arcCount).filterMap (fun k =>
          if okNode (arcOf arcs k).next then none else some (2 * 2 ^ 24 + k * 2 ^ 16 + n)))
        ++ (if okNode h.defaultNext then [] else [3 * 2 ^ 24 + n]))
  (starts ++ nodes).head?

end Sys2Proof.Machine
end

