-- ==== Sys2Proof/Machine/Classify.lean ====
section
/-! DEFINITION. Classification (chapter 06, R129 to R143): the classifier input, range comparators, rule tables, action records and
their merging, rewrite templates, and the record checks. -/
namespace Sys2Proof.Machine

/-! ### The classifier input (R129, R130) -/

/-- A comparator record (R130). -/
structure Comparator where
  hi : Nat
  lo : Nat
  en : Bool
  reqEn : Bool
  reqSlot : Nat
  w32 : Bool
  offset : Nat
  deriving DecidableEq, Repr

/-- A comparator read from its 96 bits (R130). -/
def comparatorOf (v : Nat) : Comparator :=
  { hi := bits v 95 64, lo := bits v 63 32, en := bit v 31, reqEn := bit v 12, reqSlot := bits v 11 8, w32 := bit v 7,
    offset := bits v 6 0 }

/-- What comparator yields on input bytes and the parse result's slots (R130). -/
def Comparator.yields (c : Comparator) (input : List Nat) (slots : List (Option Nat)) : Bool :=
  let f := ofBE (slice input c.offset (if c.w32 then 4 else 2))
  c.en && (!c.reqEn || ((slots.getD c.reqSlot none).isSome)) && decide (c.lo ≤ f ∧ f ≤ c.hi)

/-- Bytes 0 to 111 of the classifier input (R129). -/
def inputHead (p : Parcel) (pr : ParseResult) (pat : PatternResult) (tag : Nat) : List Nat :=
  pr.key ++ beBytes 2 p.source ++ beBytes 2 pr.userFlags ++ beBytes 2 pr.status ++ [p.kind, p.cls]
    ++ beBytes 3 (pat.ids.headD 0) ++ [pat.count] ++ beBytes 2 tag ++ [0, 0] ++ leBytes 32 pat.classes

/-- The comparators an object store configures: those whose record is not all zero, with their numbers. -/
def comparators (o : Tab Nat) : List (Nat × Comparator) :=
  (o.filter (fun e => e.1 / 2 ^ 32 == Obj.COMPARATOR)).map (fun e => (e.1 % 2 ^ 32, comparatorOf e.2))

/-- The classifier input: the head, with the range vector as the list of comparators that yield 1 (R129). -/
structure ClsInput where
  head : List Nat
  ones : List Nat
  deriving DecidableEq, Repr

/-- The classifier input built for one lookup (R129). -/
def clsInput (o : Tab Nat) (p : Parcel) (pr : ParseResult) (pat : PatternResult) (tag : Nat) : ClsInput :=
  let h := inputHead p pr pat tag
  { head := h, ones := ((comparators o).filter (fun c => c.2.yields h pr.slots)).map Prod.fst }

/-- Input byte j (R129). -/
def ClsInput.byte (i : ClsInput) (j : Nat) : Nat :=
  if j < 112 then nth i.head j
  else (i.ones.filter (fun c => c / 8 == j - 112)).foldl (fun a c => setBit a (c % 8)) 0

/-- A table key: key byte j is input byte `selector j`; 0xFFFF gives zero (R131). -/
def tableKey (i : ClsInput) (keyMap n : Nat) : List Nat :=
  (List.range n).map (fun j => let sel := bits keyMap (16 * j + 15) (16 * j); if sel = 0xFFFF then 0 else i.byte sel)

/-! ### Rule lookup (R132 to R137) -/

/-- A rule slot's fields (R133). -/
structure Rule where
  key : Nat
  arg : Nat
  action : Nat
  argUse : Nat
  prio : Nat
  group : Nat
  valid : Bool
  deriving DecidableEq, Repr

/-- The rule in slot r of an object store (R133): RULE_DATA is bits [511:64], RULE_HEAD bits [63:0]. -/
def ruleAt (p : Part) (o : Tab Nat) (r : Nat) : Rule :=
  let d := objAt p o Obj.RULE_DATA r
  let h := objAt p o Obj.RULE_HEAD r
  { key := bits d 447 64, arg := bits d 63 32, action := bits d 31 20, argUse := bits d 19 16, prio := bits h 63 40,
    group := bits h 3 1, valid := bit h 0 }

/-- The bucket of a rule of group g of table t with a key (R133). -/
def ruleBucket (p : Part) (o : Tab Nat) (t g key : Nat) : Nat :=
  objAt p o Obj.SLOT_BASE t / 4
    + crc32c (objAt p o Obj.GROUP_SEED (8 * t + g)) (leBytes 48 key) % (objAt p o Obj.SLOT_COUNT t / 4)

/-- The winner among a bucket's slots and the best so far: larger PRIORITY, then lower slot number (R134). -/
def betterRule (best : Option (Nat × Rule)) (r : Nat × Rule) : Option (Nat × Rule) :=
  match best with
  | none => some r
  | some b => if b.2.prio < r.2.prio ∨ (b.2.prio = r.2.prio ∧ r.1 < b.1) then some r else some b

/-- A lookup in table t over at most `budget` groups (R134, R135): the winner with its slot, and the buckets probed. A table without slots is
not probed and misses, whatever its GROUPS (R133; log entry 166: DESIGN CHOICE, unsafe). -/
def ruleLookup (p : Part) (o : Tab Nat) (t : Nat) (key : Nat) (budget : Nat) : Option (Nat × Rule) × List Nat :=
  if objAt p o Obj.SLOT_COUNT t = 0 then (none, [])
  else
    ((List.range (objAt p o Obj.GROUPS t)).take budget).foldl (fun acc g =>
      let mk := key &&& objAt p o Obj.GROUP_MASK (8 * t + g)
      let b := ruleBucket p o t g mk
      let best := [0, 1, 2, 3].foldl (fun best i =>
        let r := ruleAt p o (4 * b + i)
        if r.valid && r.group == g && r.key == mk then betterRule best (4 * b + i, r) else best) acc.1
      (best, acc.2 ++ [b])) (none, [])

/-- The drawer holding bucket b for an executing drawer, under RULE_PLACEMENT (R132). -/
def bucketDrawer (p : Part) (placement b d : Nat) : Nat :=
  match placement with
  | 0 => d
  | 1 => 16 * (d / 16) + b % 16
  | _ => b % p.drawers

/-- Whether a probe of bucket b is served from the GDDR6 master copy (R137): its holding drawer is fenced, and with CABINET placement so are
the holding drawers of the other cabinets. -/
def Dev.probesMaster (s : Dev) (d placement b : Nat) : Bool :=
  placement != 0 && !s.inService (bucketDrawer s.part placement b d) &&
    !(placement == 1 && (List.range s.part.cabinets).any (fun c => s.inService (16 * c + b % 16)))

/-- Probes whose holding drawer is fenced count in FENCED_BUCKET_READS (R137); the bucket read is the same. -/
def Dev.countProbes (s : Dev) (d placement : Nat) (bs : List Nat) : Dev :=
  let n := (bs.filter (fun b => !s.inService (bucketDrawer s.part placement b d))).length
  if placement = 0 then s else s.addObj Obj.FENCED_BUCKET_READS d n

/-! ### Actions (R138, R139) -/

/-- An action record's fields (R138). -/
structure ActionRec where
  leaf : Nat
  policer : Nat
  sa : Nat
  rewrite : Nat
  counter : Nat
  mirror : Nat
  nextTable : Nat
  patternSet : Nat
  punt : Nat
  ops : Nat
  deriving DecidableEq, Repr

/-- An action record read from its 256 bits (R138). -/
def actionOf (v : Nat) : ActionRec :=
  { leaf := bits v 255 238, policer := bits v 237 222, sa := bits v 221 198, rewrite := bits v 197 186, counter := bits v 185 166,
    mirror := bits v 165 158, nextTable := bits v 157 154, patternSet := bits v 153 150, punt := bits v 149 142, ops := bits v 12 0 }

/-- The record with ARG replacing the field that ARG_USE names, cut to the field's width (R139, R133). -/
def ActionRec.withArg (a : ActionRec) (argUse arg : Nat) : ActionRec :=
  match argUse with
  | 1 => { a with leaf := arg % 2 ^ 18 }
  | 2 => { a with policer := arg % 2 ^ 16 }
  | 3 => { a with sa := arg % 2 ^ 24 }
  | 4 => { a with counter := arg % 2 ^ 20 }
  | 5 => { a with rewrite := arg % 2 ^ 12 }
  | _ => a

/-- The values one action sets (R139). -/
def ActionRec.sets (a : ActionRec) (arg : Nat) : Actions :=
  let op (i : Nat) : Bool := bit a.ops i
  { disp := if op 0 then 1 else if op 1 then 2 else if op 8 then 3 else if op 9 then 4 else 0
    leaf := if op 0 || op 3 then some a.leaf else none
    policer := if op 4 then some a.policer else none
    sa := if op 6 then some a.sa else none
    rewrite := if op 5 then some a.rewrite else none
    mirror := if op 2 then some a.mirror else none
    punt := if op 8 then some a.punt else none
    storageArg := if op 9 then arg else 0
    counts := if op 7 then [a.counter] else [] }

/-- A later action overriding an earlier one field by field (R139, R164 OVERRIDE). -/
def Actions.override (e l : Actions) : Actions :=
  { disp := if l.disp = 0 then e.disp else l.disp
    leaf := l.leaf.orElse (fun _ => e.leaf)
    policer := l.policer.orElse (fun _ => e.policer)
    sa := l.sa.orElse (fun _ => e.sa)
    rewrite := l.rewrite.orElse (fun _ => e.rewrite)
    mirror := l.mirror.orElse (fun _ => e.mirror)
    punt := l.punt.orElse (fun _ => e.punt)
    storageArg := if l.disp = 4 then l.storageArg else e.storageArg
    counts := e.counts ++ l.counts }

/-- A later action filling only what no earlier action set (R164 FILL). -/
def Actions.fill (e l : Actions) : Actions :=
  { disp := if e.disp = 0 then l.disp else e.disp
    leaf := e.leaf.orElse (fun _ => l.leaf)
    policer := e.policer.orElse (fun _ => l.policer)
    sa := e.sa.orElse (fun _ => l.sa)
    rewrite := e.rewrite.orElse (fun _ => l.rewrite)
    mirror := e.mirror.orElse (fun _ => l.mirror)
    punt := e.punt.orElse (fun _ => l.punt)
    storageArg := if e.disp = 0 then l.storageArg else e.storageArg
    counts := e.counts ++ l.counts }

/-- ACTION_META of the final values (R139). -/
def Actions.metaWord (a : Actions) : Nat :=
  a.rewrite.getD 0 * 2 ^ 52 + a.policer.getD 0 * 2 ^ 36 + a.mirror.getD 0 * 2 ^ 28 + a.sa.getD 0 * 16
    + ofBool a.policer.isSome * 8 + ofBool a.rewrite.isSome * 4 + ofBool a.sa.isSome * 2 + ofBool a.mirror.isSome

/-! ### Rewrite templates (R140) -/

/-- Lengths written at the offsets of the inserted IP and UDP headers (R140): `b` is the frame after insertion, `at` where the
inserted bytes start. -/
def fixLengths (b : List Nat) (at' ipAt udpAt : Nat) : List Nat :=
  let ip := at' + ipAt
  let udp := at' + udpAt
  let stop := b.length
  let v6 := nth b ip / 16 == 6
  let b1 := putAt b (udp + 4) (beBytes 2 (stop - udp))
  let b2 := putAt b1 (udp + 6) [0, 0]
  if v6 then
    let b3 := putAt b2 (ip + 4) (beBytes 2 (stop - (ip + 40)))
    let pseudo := slice b3 (ip + 8) 32 ++ beBytes 4 (stop - udp) ++ [0, 0, 0, 17]
    let c := checksum16 (pseudo ++ slice b3 udp (stop - udp))
    putAt b3 (udp + 6) (beBytes 2 (if c = 0 then 0xFFFF else c))
  else
    let b3 := putAt b2 (ip + 2) (beBytes 2 (stop - ip))
    fixIpv4Sum b3 ip (4 * (nth b3 ip % 16))

/-- The frame after the deletion and the insertion of a rewrite template (R140), with where its lengths go under FIX_LEN; none when the
template names a slot that is not VALID. -/
def rewriteParts (v : Nat) (pr : ParseResult) (frame : List Nat) : Option (List Nat × Option (Nat × Nat × Nat)) :=
  let slot (i : Nat) : Option Nat := pr.slots.getD i none
  match slot (bits v 247 244) with
  | none => none
  | some at' =>
    let del : Option Nat :=
      if !bit v 239 then some at'
      else if bit v 238 then some pr.payload
      else slot (bits v 243 240)
    match del with
    | none => none
    | some d =>
      let ins := leBytes (min 96 (bits v 255 248)) (bits v 1023 256)
      let b := frame.take at' ++ ins ++ frame.drop (max at' d)
      some (b, if bit v 237 then some (at', bits v 231 224, bits v 223 216) else none)

/-- A frame with the lengths of FIX_LEN written (R140). -/
def fixFrame (b : List Nat) (fix : Option (Nat × Nat × Nat)) : List Nat :=
  match fix with | some x => fixLengths b x.1 x.2.1 x.2.2 | none => b

/-- The frame after a rewrite template (R140), or none when the template names a slot that is not VALID. -/
def rewriteFrame (v : Nat) (pr : ParseResult) (frame : List Nat) : Option (List Nat) :=
  (rewriteParts v pr frame).map (fun x => fixFrame x.1 x.2)

/-! ### Record checks (R130, R138, R133, R131, R140) -/

/-- Whether a comparator record may be staged (R130). -/
def comparatorOk (v : Nat) : Bool :=
  let c := comparatorOf v
  decide (c.offset + (if c.w32 then 4 else 2) ≤ 80) && decide (c.lo ≤ c.hi)
    && (c.w32 || (decide (c.lo ≤ 0xFFFF) && decide (c.hi ≤ 0xFFFF))) && bits v 30 13 == 0

/-- Whether an action record may be staged (R138). -/
def actionOk (v : Nat) : Bool :=
  let ops := bits v 12 0
  decide ((([0, 1, 8, 9] : List Nat).filter (fun i => bit ops i)).length ≤ 1)
    && (!(bit ops 11 || bit ops 12) || bit ops 10) && !(bit ops 11 && bit ops 12) && bits v 141 13 == 0

/-- Whether RULE_DATA may be staged: ARG_USE not a hole, no reserved bit (R133, R75). -/
def ruleDataOk (v : Nat) : Bool := decide (bits v 19 16 ≤ 5) && bits v 15 0 == 0

/-- Whether RULE_HEAD may be staged: no reserved bit (R75). -/
def ruleHeadOk (v : Nat) : Bool := bits v 39 4 == 0

/-- Whether a key map's n selectors are legal (R131). -/
def keyMapOk (n v : Nat) : Bool :=
  (List.range n).all (fun j => let x := bits v (16 * j + 15) (16 * j); decide (x ≤ 1135) || x == 0xFFFF)

/-- Whether a rewrite template may be staged (R153). -/
def templateOk (v : Nat) : Bool := decide (bits v 255 248 ≤ 96) && bits v 236 232 == 0 && bits v 215 0 == 0

/-- RULE_SLOTS of a placement (R132). -/
def ruleSlots (p : Part) : Nat → Nat
  | 0 => 8192 | 1 => 131072 | _ => p.pick 524288 262144

/-- The valid rules of an object store: slots whose RULE_HEAD has VALID (R134). -/
def validRules (o : Tab Nat) : List (Nat × Nat) :=
  (o.filter (fun e => e.1 / 2 ^ 32 == Obj.RULE_HEAD && e.2 % 2 == 1)).map (fun e => (e.1 % 2 ^ 32, e.2))

/-- The table whose slot range holds slot r (R133). -/
def tableOfSlot (p : Part) (o : Tab Nat) (r : Nat) : Option Nat :=
  (List.range 16).find? (fun t =>
    decide (objAt p o Obj.SLOT_BASE t ≤ r ∧ r < objAt p o Obj.SLOT_BASE t + objAt p o Obj.SLOT_COUNT t))

/-- VALID_RULES of table t (R153). -/
def validRulesOf (p : Part) (o : Tab Nat) (t : Nat) : Nat :=
  ((validRules o).filter (fun r => tableOfSlot p o r.1 == some t)).length

/-- Whether group g of table t holds a valid rule (R143). -/
def groupInUse (p : Part) (o : Tab Nat) (t g : Nat) : Bool :=
  (validRules o).any (fun r => tableOfSlot p o r.1 == some t && bits r.2 3 1 == g)

end Sys2Proof.Machine
end

