-- ==== Sys2Proof/Machine/Tables.lean ====
section
/-! DEFINITION. Exact-match tables, learning and ageing (chapter 07): entries, hot records, the sorter's lookups, commands, table
commits, generations, and the sweep. -/
namespace Sys2Proof.Machine

/-! ### Tables, buckets and entries (R155, R156) -/

/-- The entry size of table t in bytes (R158). -/
def Dev.emSize (s : Dev) (t : Nat) : Nat := 32 * 2 ^ s.obj Obj.ENTRY_SIZE t

/-- Slots of a bucket of table t (R156). -/
def Dev.emSlots (s : Dev) (t : Nat) : Nat := 256 / s.emSize t

/-- The candidate buckets of a key of table t, b_0 first, each once (R156). -/
def Dev.emBuckets (s : Dev) (t key : Nat) : List Nat :=
  let n := s.obj Obj.BUCKET_COUNT t
  if n = 0 then []
  else
    let k := leBytes (s.obj Obj.KEY_BYTES t) key
    let b0 := s.obj Obj.BUCKET_BASE t + crc32c (s.obj Obj.SEED0 t) k % n
    let b1 := s.obj Obj.BUCKET_BASE t + crc32c (s.obj Obj.SEED1 t) k % n
    if b0 = b1 then [b0] else [b0, b1]

/-- The place of slot i of bucket b. -/
def emPlace (b i : Nat) : Nat := 8 * b + i

/-- The VALID entry at a place. -/
def Dev.emEntry? (s : Dev) (place : Nat) : Option EmEntry := Tab.get? s.em.entries place

/-- Whether an entry is current (R171). -/
def Dev.emCurrent (s : Dev) (e : EmEntry) : Bool :=
  e.bport == 0x1FFF || e.gen == (if e.static then s.obj Obj.STATIC_GEN e.bport else s.obj Obj.DYN_GEN e.bport)

/-- The places of table t's candidate buckets for a key, b_0 before b_1 and the lower slot first (R167). -/
def Dev.emPlaces (s : Dev) (t key : Nat) : List Nat :=
  (s.emBuckets t key).flatMap (fun b => (List.range (s.emSlots t)).map (emPlace b))

/-- The VALID, current entry of a key of table t (R161). -/
def Dev.emFind (s : Dev) (t key : Nat) : Option (Nat × EmEntry) :=
  (s.emPlaces t key).findSome? (fun pl =>
    match s.emEntry? pl with
    | some e => if e.key == key && s.emCurrent e then some (pl, e) else none
    | none => none)

/-- The first slot a new entry of a key may take: not VALID, or stale (R167). -/
def Dev.emSlotFor (s : Dev) (t key : Nat) : Option Nat :=
  (s.emPlaces t key).find? (fun pl => match s.emEntry? pl with | some e => !s.emCurrent e | none => true)

/-- Whether table t learns: LEARN_ENABLE, and KIND 1 whatever it holds (R157, R158). -/
def Dev.learns (s : Dev) (t : Nat) : Bool := s.obj Obj.KIND t == 1 && s.flag Obj.LEARN_ENABLE t

/-- The current quantum (R175). -/
def Dev.quantum (s : Dev) : Nat := s.tick / 2 ^ s.obj Obj.AGE_QUANTUM % 65536

/-- The generation of a bridge port that a new entry takes (R167). -/
def Dev.genFor (s : Dev) (bport : Nat) (static : Bool) : Nat :=
  if bport = 0x1FFF then 0 else if static then s.obj Obj.STATIC_GEN bport else s.obj Obj.DYN_GEN bport

/-- The table a place belongs to (R155). -/
def Dev.emTableOf (s : Dev) (place : Nat) : Option Nat :=
  (List.range 64).find? (fun t =>
    decide (s.obj Obj.BUCKET_BASE t ≤ place / 8 ∧ place / 8 < s.obj Obj.BUCKET_BASE t + s.obj Obj.BUCKET_COUNT t))

/-! ### Hot records (R159, R160) -/

/-- The bytes of a hot record of table t: 16⌈(KEY_BYTES + 8) ÷ 16⌉ (R159). -/
def Dev.hotBytes (s : Dev) (t : Nat) : Nat := 16 * ceilDiv (s.obj Obj.KEY_BYTES t + 8) 16

/-- Where an entry of table t in bucket b is cached for a lookup by drawer d: cabinet and set (R159), unless that cabinet is fenced
(R497) or the table is not cached. -/
def Dev.hotSet (s : Dev) (t b d : Nat) : Option Nat :=
  let c := if s.obj Obj.CACHE_MODE t = 1 then d / 16 else b % s.part.cabinets
  let set := if s.obj Obj.CACHE_MODE t = 1 then b % 16384 else b / s.part.cabinets % 16384
  if s.obj Obj.CACHE_MODE t = 0 ∨ s.obj Obj.CABINET_STATE c = 1 then none else some (16384 * c + set)

/-- The records of a set, most recently used first. -/
def Dev.hotRecs (s : Dev) (set : Nat) : List HotRec := Tab.getD s.em.hot set []

/-- The state with a set's records replaced. -/
def Dev.setHot (s : Dev) (set : Nat) (l : List HotRec) : Dev :=
  { s with em := { s.em with hot := Tab.put [] s.em.hot set l } }

/-- The state with an entry written. -/
def Dev.setEntry (s : Dev) (place : Nat) (e : EmEntry) : Dev :=
  { s with em := { s.em with entries := Tab.ins s.em.entries place e } }

/-- An entry's HIT bit is set. -/
def Dev.setHit (s : Dev) (place : Nat) : Dev :=
  match s.emEntry? place with
  | some e => s.setEntry place { e with hit := true }
  | none => s

/-- Records evicted from a set have their HIT merged into their entries (R160). -/
def Dev.mergeHits (s : Dev) (rs : List HotRec) : Dev :=
  (rs.filter HotRec.hit).foldl (fun t r => t.setHit r.place) s

/-- The longest prefix of records that fits in 1,024 bytes, and the rest: the least recently used leave (R159). -/
def hotFit : Nat → List HotRec → List HotRec × List HotRec
  | _, [] => ([], [])
  | room, r :: rs =>
    if r.bytes ≤ room then let (a, b) := hotFit (room - r.bytes) rs; (r :: a, b) else ([], r :: rs)

/-- A hot record is filled on the miss that read its entry (R159). -/
def Dev.hotFill (s : Dev) (t d place : Nat) (e : EmEntry) : Dev × Bool :=
  match s.hotSet t (place / 8) d with
  | none => (s, false)
  | some set =>
    if 0x0FFFFFFF < e.arg then (s, false)
    else
      let r : HotRec := { table := t, place := place, bytes := s.hotBytes t, hit := (s.hotRecs set).any (fun x => x.place == place && x.hit) }
      let (keep, out) := hotFit 1024 (r :: (s.hotRecs set).filter (fun x => x.place != place))
      ((s.mergeHits out).setHot set keep, true)

/-- Every hot record of an entry is invalidated, with HIT merged into the entry if it is still there (R160). -/
def Dev.hotDrop (s : Dev) (place : Nat) (keepHit : Bool) : Dev :=
  let gone := s.em.hot.flatMap (fun e => e.2.filter (fun r => r.place == place))
  let s1 := if keepHit then s.mergeHits gone else s
  { s1 with em := { s1.em with hot :=
      (s1.em.hot.map (fun e => (e.1, e.2.filter (fun r => r.place != place)))).filter (fun e => !e.2.isEmpty) } }

/-- Every hot record whose entry belongs to a bridge port is removed, its HIT merged into an entry that is still current (R160, R172). -/
def Dev.hotFlush (s : Dev) (bport : Nat) : Dev :=
  let of (r : HotRec) : Bool := match s.emEntry? r.place with | some e => e.bport == bport | none => true
  let live (r : HotRec) : Bool := match s.emEntry? r.place with | some e => s.emCurrent e | none => false
  let s1 := s.mergeHits ((s.em.hot.flatMap Prod.snd).filter (fun r => of r && live r))
  { s1 with em := { s1.em with
      hot := (s.em.hot.map (fun e => (e.1, e.2.filter (fun r => !of r)))).filter (fun e => !e.2.isEmpty)
      flushes := s.em.flushes.filter (fun f => f.1 != bport) } }

/-! ### Writing and removing entries -/

/-- The entry at a place is removed: VALID clears, its records go, and the counts follow (R156, R160, R170). -/
def Dev.emRemove (s : Dev) (place : Nat) : Dev :=
  match s.emEntry? place with
  | none => s
  | some e =>
    let s1 := s.hotDrop place false
    let s2 := { s1 with em := { s1.em with entries := Tab.del s1.em.entries place } }
    let s3 := match s.emTableOf place with | some t => s2.drop1 Obj.ENTRIES t | none => s2
    if e.learned then s3.drop1 Obj.LEARNED e.bport else s3

/-- An entry is written at a place of table t, taking the place of any stale one (R167). -/
def Dev.emWrite (s : Dev) (t place : Nat) (e : EmEntry) : Dev :=
  ((s.emRemove place).setEntry place e).bump Obj.ENTRIES t

/-! ### Command records (R165 to R168) -/

/-- The result record of a command (R165). -/
def emResult (status outcome returned cursor entries : Nat) : Nat :=
  entries * 2 ^ 128 + (cursor % 2 ^ 64) * 2 ^ 64 + (returned % 256) * 2 ^ 56 + (outcome % 256) * 2 ^ 48 + (status % 256) * 2 ^ 40 + 1

/-- Whether a bridge port number is absent from the part (R169). -/
def bportAbsent (p : Part) (b : Nat) : Bool :=
  !(decide (b < p.ports) || decide (32 ≤ b ∧ b < 32 + 8 * p.links) || decide (96 ≤ b ∧ b < 96 + p.vfs))

/-- Whether a command record is INVALID (R168, *Command outcomes*): reserved bits are those of the record, of NEXT's cursor and of the
entry bits that INSERT's RESULT spells. -/
def Dev.emInvalid (s : Dev) (r : Nat) : Bool :=
  let op := bits r 7 0
  let t := bits r 23 16
  let bp := bits r 63 51
  let reserved := bits r 1023 64 != 0 || bits r 50 40 != 0 || bits r 31 24 != 0 || bits r 15 11 != 0
  if op = 0 ∨ 5 < op then true
  else if op = 5 then reserved || bp == 0x1FFF || bportAbsent s.part bp
  else
    reserved || decide (64 ≤ t) || s.obj Obj.BUCKET_COUNT t == 0
      || bits r 2047 1152 / 2 ^ (8 * s.obj Obj.KEY_BYTES t) != 0
      || (op == 2 && ((bp != 0x1FFF && bportAbsent s.part bp) || decide (5 < bits r 1139 1136) || bits r 1103 1088 != 0))
      || (op == 4 && (bits r 39 32 == 0 || decide (240 / s.emSize t < bits r 39 32) || bits r 1086 1055 != 0))

/-- The entry as the 32, 64 or 128 bytes of its format (R156). -/
def EmEntry.word (e : EmEntry) : Nat :=
  e.key * 2 ^ 128 + e.action * 2 ^ 116 + e.argUse * 2 ^ 112 + e.arg * 2 ^ 80 + e.stamp * 2 ^ 48 + e.gen * 2 ^ 32
    + e.bport * 2 ^ 19 + ofBool e.hit * 8 + ofBool e.static * 4 + ofBool e.learned * 2 + 1

/-- The entry as a reader sees it, with HIT merged from its hot records. -/
def Dev.emView (s : Dev) (place : Nat) (e : EmEntry) : EmEntry :=
  { e with hit := e.hit || s.em.hot.any (fun h => h.2.any (fun r => r.place == place && r.hit)) }

/-- SEARCH of a record (R166). -/
def Dev.emSearch (s : Dev) (r : Nat) : Nat :=
  if s.emInvalid r then emResult 0x01 7 0 0 0
  else
    match s.emFind (bits r 23 16) (bits r 2047 1152) with
    | some (pl, e) => emResult 0 0 1 0 (s.emView pl e).word
    | none => emResult 0 1 0 0 0

/-- A cursor position: END, bucket offset in 28 bits and slot (R168). -/
def emCursor (fin : Bool) (off slot : Nat) : Nat := ofBool fin * 2 ^ 63 + off % 2 ^ 28 * 8 + slot

/-- NEXT of a record (R168): at most 64 buckets, at most COUNT entries. -/
def Dev.emNext (s : Dev) (r : Nat) : Nat :=
  if s.emInvalid r then emResult 0x01 7 0 0 0
  else
    let t := bits r 23 16
    let want := bits r 39 32
    let n := s.obj Obj.BUCKET_COUNT t
    let base := s.obj Obj.BUCKET_BASE t
    let off := bits r 1054 1027
    let slot := bits r 1026 1024
    if n ≤ off ∨ bit r 1087 = true then emResult 0 4 0 (emCursor true off slot) 0
    else
      let stop := min n (off + 64)
      let live := s.em.entries.filter (fun e =>
        decide (emPlace (base + off) slot ≤ e.1 ∧ e.1 < emPlace (base + stop) 0) && s.emCurrent e.2)
      let got := live.take want
      let data := (got.map (fun e => (s.emView e.1 e.2).word)).foldr (fun w acc => w + 2 ^ (8 * s.emSize t) * acc) 0
      let last := (got.getLast?).map Prod.fst
      let (o, sl) := if got.length = want then
          match last with
          | some pl => if pl % 8 + 1 = s.emSlots t then (pl / 8 + 1 - base, 0) else (pl / 8 - base, pl % 8 + 1)
          | none => (stop, 0)
        else (stop, 0)
      let fin := decide (n ≤ o)
      emResult 0 (if fin then 4 else 0) got.length (emCursor fin o sl) data

/-- INSERT of a record, applied at an edge (R167). -/
def Dev.emInsert (s : Dev) (r : Nat) : Nat × Dev :=
  let t := bits r 23 16
  let key := bits r 2047 1152
  let bp := bits r 63 51
  let static := bit r 8
  let res := bits r 1151 1088
  let e : EmEntry :=
    { key := key, action := bits res 63 52, argUse := bits res 51 48, arg := bits res 47 16, stamp := s.quantum,
      gen := s.genFor bp static, bport := bp, hit := false, static := static, learned := false }
  match s.emFind t key with
  | some (pl, _) => if bit r 9 then (emResult 0 0 0 0 0, s.emWrite t pl e) else (emResult 0x01 2 0 0 0, s)
  | none =>
    match s.emSlotFor t key with
    | some pl => (emResult 0 0 0 0 0, s.emWrite t pl e)
    | none => (emResult 0x41 3 0 0 0, s.bump Obj.INSERT_FULL t)

/-- DELETE of a record, applied at an edge (R166). -/
def Dev.emDelete (s : Dev) (r : Nat) : Nat × Dev :=
  match s.emFind (bits r 23 16) (bits r 2047 1152) with
  | some (pl, _) => (emResult 0 0 0 0 0, s.emRemove pl)
  | none => (emResult 0 1 0 0 0, s)

/-- FLUSH_BY_PORT of a record, applied at an edge (R171, R172). `dyn` and `sta` list the ports whose generations this edge has
already incremented. Records still due from an earlier flush keep their deadline. -/
def Dev.emFlush (s : Dev) (r : Nat) (dyn sta : List Nat) : Nat × Dev × List Nat × List Nat :=
  let b := bits r 63 51
  let both := !bit r 10
  let gap (g base : Nat) : Nat := (g + 65536 - base) % 65536
  if 32768 ≤ gap (s.obj Obj.DYN_GEN b) (s.obj Obj.DYN_BASE b)
      ∨ (both = true ∧ sta.contains b = false ∧ 32768 ≤ gap (s.obj Obj.STATIC_GEN b) (s.obj Obj.STATIC_BASE b)) then
    (emResult 0x41 5 0 0 0, s, dyn, sta)
  else
    let s1 := if dyn.contains b then s else s.bump Obj.DYN_GEN b
    let s2 := if both && !sta.contains b then s1.bump Obj.STATIC_GEN b else s1
    let s3 := if s2.em.flushes.any (fun f => f.1 == b) then s2
      else { s2 with em := { s2.em with flushes := (b, s.tick + 16) :: s2.em.flushes } }
    (emResult 0 0 0 0 0, s3, b :: dyn, if both then b :: sta else sta)

/-- A command's result reaches its issuer (R165): the command port's result record, or record seq mod 2^16 of the waiting response to
request seq / 2^16 of a session. -/
def Dev.emAnswer (s : Dev) (viaPort : Bool) (who seq res : Nat) : Dev :=
  if viaPort then ({ s with em := { s.em with results := Tab.ins s.em.results who res } }).portDone who
  else
    let fill (e : (RespRec × Bool) × Nat) : RespRec × Bool :=
      if e.2 = seq % 65536 then ({ e.1.1 with status := bits res 47 40, bytes := leBytes 256 res }, true) else e.1
    let put (r : Reply) : Reply :=
      if r.key = who ∧ r.seq = seq / 65536 then { r with records := r.records.zipIdx.map fill } else r
    ({ s with bureau := { s.bureau with replies := s.bureau.replies.map put } }).setObj Obj.EM_COMMAND 0 res

/-- A command is served or accepted (R166): SEARCH, NEXT and a bad opcode at once, the others at the next edge, where it is also found
whether they are INVALID. -/
def Dev.emAccept (s : Dev) (viaPort : Bool) (who seq r : Nat) : Dev :=
  let mine (o : EmOp) : Bool := match o with | .command true w _ _ => w == who | _ => false
  let busy := viaPort && (s.em.ops.any (fun o => mine o.2) || s.tableSent (fun _ o => mine o))
  if busy then s
  else
    match bits r 7 0 with
    | 1 => s.emAnswer viaPort who seq (s.emSearch r)
    | 4 => s.emAnswer viaPort who seq (s.emNext r)
    | op =>
      if op = 0 ∨ 5 < op then s.emAnswer viaPort who seq (emResult 0x01 7 0 0 0) else
      let s1 := if viaPort then { s with em := { s.em with results := Tab.ins s.em.results who 0 } } else s
      s1.emQueue (if op = 5 then s.anyTableMirrors else s.tableMirrors (bits r 23 16)) (.command r) (.command viaPort who seq r)

/-! ### Learning (R169, R170) -/

/-- The entry that a learn or move writes (R169). -/
def Dev.learnedEntry (s : Dev) (t key b : Nat) : EmEntry :=
  { key := key, action := s.obj Obj.LEARN_ACTION t, argUse := 1, arg := s.obj Obj.BPORT_LEAF b, stamp := s.quantum,
    gen := s.obj Obj.DYN_GEN b, bport := b, hit := false, static := false, learned := true }

/-- A learn applied at an edge (R169): like an INSERT, with LEARNED = 1. A table whose KIND has ceased to be 1 takes none (R157). -/
def Dev.emLearn (s : Dev) (t key b : Nat) : Dev :=
  let e := s.learnedEntry t key b
  if s.obj Obj.KIND t ≠ 1 then s.drop1 Obj.LEARNED b
  else
    match s.emFind t key with
    | some _ => s.drop1 Obj.LEARNED b
    | none =>
      match s.emSlotFor t key with
      | some pl => s.emWrite t pl e
      | none => (s.bump Obj.INSERT_FULL t).drop1 Obj.LEARNED b

/-- A move applied at an edge (R169): the entry is written as for a learn, and LEARNED moves with it. A port that has come to its limit
since the lookup takes none (R170; log entry 133: DEDUCED, unsafe). -/
def Dev.emMove (s : Dev) (t key b : Nat) : Dev :=
  match s.emFind t key with
  | none => s
  | some (pl, e) =>
    if e.static || e.bport == b || s.obj Obj.KIND t != 1 then s
    else if s.obj Obj.LEARN_LIMIT b ≤ s.obj Obj.LEARNED b then s.bump Obj.LIMIT_HITS b
    else ((s.emWrite t pl (s.learnedEntry t key b)).bump Obj.MOVES b).bump Obj.LEARNED b

/-- A removal by the active's sweep reaches the copy (R432): the key's entry goes, current or stale. -/
def Dev.emGone (s : Dev) (t key : Nat) (aged : Bool) : Dev :=
  match (s.emPlaces t key).find? (fun pl => match s.emEntry? pl with | some e => e.key == key | none => false) with
  | some pl => (s.emRemove pl).bump (if aged then Obj.AGED_OUT else Obj.RECLAIMED)
  | none => s

/-- A learn whose lookup and application are one, for bridge port b (*Learning outcomes*, R293): whether it is refused, for full buckets or
LEARN_LIMIT, and the state. -/
def Dev.learnNow (s : Dev) (t key b : Nat) : Bool × Dev :=
  let room := decide (s.obj Obj.LEARNED b < s.obj Obj.LEARN_LIMIT b)
  match s.emFind t key with
  | some (_, e) =>
    if e.bport = b then (false, s)
    else if e.static then (false, s.bump Obj.STATIC_CONFLICTS t)
    else if room then (false, s.emMove t key b)
    else (true, s.bump Obj.LIMIT_HITS b)
  | none => if room then ((s.emSlotFor t key).isNone, (s.bump Obj.LEARNED b).emLearn t key b) else (true, s.bump Obj.LIMIT_HITS b)

/-- A key of a restored VF is learned for its bridge port, or refused (R293); what the RESTORE_STATE that waits for it counts is brought up to
date. -/
def Dev.emRestore (s : Dev) (n t key : Nat) : Dev :=
  let (refused, s1) := s.learnNow t key (96 + (n - 64))
  let tell (e : Nat × AdminOp) : Nat × AdminOp := match e.2 with
    | .restore v k r => if v = n then (e.1, .restore v (k - 1) (r + ofBool refused)) else e
    | _ => e
  { s1 with hosts := { s1.hosts with admin := s1.hosts.admin.map tell } }

/-- A removal by the sweep, decided at its visit, applied at an edge (R173, R174), unless another operation has written the place since.
It is mirrored (R432). -/
def Dev.emSweepRemove (s : Dev) (t place : Nat) (aged : Bool) (seen : EmEntry) : Dev :=
  match s.emEntry? place with
  | none => s
  | some e =>
    if { e with hit := seen.hit } ≠ seen then s
    else
      let s1 := s.emRemove place
      let s2 := if s.tableMirrors t then s1.mirror (.remove t e.key aged) else s1
      s2.bump (if aged then Obj.AGED_OUT else Obj.RECLAIMED)

/-- One accepted operation at its edge, within the budget of 256 (R166): `n` operations applied so far, `dyn` and `sta` as in
`emFlush`; operations kept for a later edge are returned. -/
def Dev.emApplyOne (acc : Dev × Nat × List Nat × List Nat × List (Nat × EmOp)) (o : Nat × EmOp) :
    Dev × Nat × List Nat × List Nat × List (Nat × EmOp) :=
  let (s, n, dyn, sta, keep) := acc
  match o.2 with
  | .remove t pl aged seen => (s.emSweepRemove t pl aged seen, n, dyn, sta, keep)
  | .gone t k aged => (s.emGone t k aged, n, dyn, sta, keep)
  | .restored f t k => if 256 ≤ n then (s, n, dyn, sta, keep ++ [o]) else (s.emRestore f t k, n + 1, dyn, sta, keep)
  | .mirrored r =>
    if 256 ≤ n then (s, n, dyn, sta, keep ++ [o])
    else if s.emInvalid r then (s, n, dyn, sta, keep)
    else
      match bits r 7 0 with
      | 2 => ((s.emInsert r).2, n + 1, dyn, sta, keep)
      | 3 => ((s.emDelete r).2, n + 1, dyn, sta, keep)
      | _ => let (_, s1, d', t') := s.emFlush r dyn sta; (s1, n + 1, d', t', keep)
  | .command vp w q r =>
    if 256 ≤ n then (s, n, dyn, sta, keep ++ [o])
    else if s.emInvalid r then (s.emAnswer vp w q (emResult 0x01 7 0 0 0), n, dyn, sta, keep)
    else
      match bits r 7 0 with
      | 2 => let (x, s1) := s.emInsert r; (s1.emAnswer vp w q x, n + 1, dyn, sta, keep)
      | 3 => let (x, s1) := s.emDelete r; (s1.emAnswer vp w q x, n + 1, dyn, sta, keep)
      | _ => let (x, s1, d', t') := s.emFlush r dyn sta; (s1.emAnswer vp w q x, n + 1, d', t', keep)
  | .learn t k b =>
    if 256 ≤ n then ((s.bump Obj.LEARN_DEFERRED).drop1 Obj.LEARNED b, n, dyn, sta, keep) else (s.emLearn t k b, n + 1, dyn, sta, keep)
  | .move t k b =>
    if 256 ≤ n then (s.bump Obj.LEARN_DEFERRED, n, dyn, sta, keep) else (s.emMove t k b, n + 1, dyn, sta, keep)

/-- TABLE_COMMIT_APPLY: step 2's table commits, those accepted before this edge, in acceptance order (R25, R166), then the hot records due
for removal (R172). -/
def Dev.tableCommits (s : Dev) : Dev :=
  let ops := s.em.ops.filter (fun o => decide (o.1 < s.tick))
  let s0 := { s with em := { s.em with ops := s.em.ops.filter (fun o => !decide (o.1 < s.tick)) } }
  let (s1, n, _, _, keep) := ops.foldl Dev.emApplyOne (s0, 0, [], [], [])
  let sn := if n = 0 then s1 else s1.setObj Obj.LAST_COMMIT_TICK 0 s1.tick
  let s2 := { sn with em := { sn.em with ops := keep ++ sn.em.ops } }
  (s2.em.flushes.filter (fun f => decide (f.2 ≤ s2.tick))).foldl (fun t f => t.hotFlush f.1) s2

/-! ### The sweep (R172 to R175) -/

/-- Buckets of all tables (R174). -/
def Dev.sweepTotal (s : Dev) : Nat := (List.range 64).foldl (fun a t => a + s.obj Obj.BUCKET_COUNT t) 0

/-- One VALID entry the sweep visits (R174). -/
def Dev.sweepEntry (t : Nat) (s : Dev) (pe : Nat × EmEntry) : Dev :=
  match s.emEntry? pe.1 with
  | none => s
  | some e =>
    let push (o : EmOp) : Dev := { s with em := { s.em with ops := s.em.ops ++ [(s.tick, o)] } }
    let q := s.quantum
    if !s.emCurrent e then push (.remove t pe.1 false e)
    else if (s.emView pe.1 e).hit then
      let s1 := s.setEntry pe.1 { e with stamp := q, hit := false }
      { s1 with em := { s1.em with hot := s1.em.hot.map (fun h =>
          (h.1, h.2.map (fun r => if r.place == pe.1 then { r with hit := false } else r))) } }
    else if s.flag Obj.AGE_ENABLE t then
      if !e.static && decide (s.obj Obj.AGE_LIMIT t ≤ (q + 65536 - e.stamp) % 65536) then push (.remove t pe.1 true e) else s
    else s.setEntry pe.1 { e with stamp := q }

/-- The generations in force, by bridge port. -/
def Dev.gensOf (s : Dev) (oid : Nat) : Tab Nat :=
  (s.objs.filter (fun e => e.1 / 2 ^ 32 == oid)).map (fun e => (e.1 % 2 ^ 32, e.2))

/-- A pass begins (R172): the generations in force are noted. -/
def Dev.sweepBegin (s : Dev) : Dev :=
  if s.em.sweepPos = (0, 0) then { s with em := { s.em with passDyn := s.gensOf Obj.DYN_GEN, passStatic := s.gensOf Obj.STATIC_GEN } } else s

/-- The end of a full pass (R172): the bases take the generations in force when the pass began. -/
def Dev.sweepPassEnd (s : Dev) : Dev :=
  let take (oid : Nat) (gens : Tab Nat) (s : Dev) : Dev :=
    (s.gensOf oid ++ gens).foldl (fun t e => t.setObj oid e.1 (Tab.getD gens e.1 0)) s
  let s1 := take Obj.DYN_BASE s.em.passDyn s
  let s2 := take Obj.STATIC_BASE s.em.passStatic s1
  { s2 with em := { s2.em with sweepPos := (0, 0) } }

/-- The entries of buckets [lo, hi) of table t are visited (R174). -/
def Dev.sweepRange (s : Dev) (t lo hi : Nat) : Dev :=
  let base := s.obj Obj.BUCKET_BASE t
  (s.em.entries.filter (fun e => decide (emPlace (base + lo) 0 ≤ e.1 ∧ e.1 < emPlace (base + hi) 0))).foldl (Dev.sweepEntry t) s

/-- A table's share of a tick's sweep (R174): `acc` holds the visits left, and where the sweep has stopped, if it has. -/
def sweepTable (pos : Nat × Nat) (acc : Nat × Option (Nat × Nat) × Dev) (t : Nat) : Nat × Option (Nat × Nat) × Dev :=
  let s := acc.2.2
  if t < pos.1 ∨ acc.2.1.isSome = true then acc
  else
    let off := if t = pos.1 then pos.2 else 0
    let n := s.obj Obj.BUCKET_COUNT t
    let m := min acc.1 (n - off)
    (acc.1 - m, if off + m < n then some (t, off + m) else none, s.sweepRange t off (off + m))

/-- SWEEP: a tick's visit of 128 buckets, in ascending table and bucket order (R174). -/
def Dev.sweep (s : Dev) : Dev :=
  let r := (List.range 64).foldl (sweepTable s.em.sweepPos) (128, none, s.sweepBegin)
  match r.2.1 with
  | some p => { r.2.2 with em := { r.2.2.em with sweepPos := p } }
  | none => r.2.2.sweepPassEnd

/-- SWEEP_PASS (R174). -/
def Dev.sweepPass (s : Dev) : Nat := ceilDiv s.sweepTotal 128

/-! ### The sorter's lookups (R161 to R164, R169) -/

/-- The key of lookup instance j for a classifier input (R161), as a number. -/
def emKey (p : Part) (o : Tab Nat) (i : ClsInput) (j t : Nat) : Nat :=
  let n := objAt p o Obj.KEY_BYTES t
  ofLE (tableKey i (objAt p o Obj.EM_KEY_MAP j) n) &&& objAt p o Obj.EM_KEY_MASK j % 2 ^ (8 * n)

/-- Whether a lookup of a key of table t by drawer d finds its hot record, and where the entry is (R162). -/
def Dev.hotFind (s : Dev) (t key d : Nat) : Option (Nat × Nat × EmEntry) :=
  (s.emBuckets t key).findSome? (fun b =>
    match s.hotSet t b d with
    | none => none
    | some set => (s.hotRecs set).findSome? (fun r =>
        if r.table = t ∧ r.place / 8 = b then
          match s.emEntry? r.place with
          | some e => if e.key == key && s.emCurrent e then some (set, r.place, e) else none
          | none => none
        else none))

/-- A hot record is used: it becomes the most recently used of its set, with HIT set if the hit refreshes (R159, R163). -/
def Dev.hotTouch (s : Dev) (set place : Nat) (refresh : Bool) : Dev :=
  let l := s.hotRecs set
  match l.find? (fun r => r.place == place) with
  | none => s
  | some r => s.setHot set ({ r with hit := r.hit || refresh } :: l.filter (fun x => x.place != place))

/-- What one lookup found, and whether it was served from a hot record. -/
structure EmLook where
  found : Option (Nat × EmEntry)
  cached : Bool
  deriving DecidableEq, Repr

/-- One lookup of table t for a key by drawer d (R161 to R163), counted; `refresh` applies to a hit the caller lets refresh. A `cold` one has found
no hot record and read both buckets. -/
def Dev.emLookup (s : Dev) (t key d : Nat) (cold : Bool) (refresh : EmEntry → Bool) : EmLook × Dev :=
  let s0 := s.bump Obj.LOOKUPS_5000 t
  match (if cold then none else s.hotFind t key d) with
  | some (set, pl, e) =>
    ({ found := some (pl, e), cached := true }, ((s0.hotTouch set pl (refresh e)).bump Obj.HITS t).bump Obj.CACHE_HITS t)
  | none =>
    match s.emFind t key with
    | none => ({ found := none, cached := false }, s0)
    | some (pl, e) =>
      let (s1, filled) := (s0.bump Obj.HITS t).hotFill t d pl e
      let s2 := if refresh e then
          (if filled then match s1.hotSet t (pl / 8) d with | some set => s1.hotTouch set pl true | none => s1
           else s1.setHit pl)
        else s1
      ({ found := some (pl, e), cached := false }, s2)

/-- The bridge port of a parcel's source (R169): a network frame's port, or a host submission's function. -/
def bportOf (kind source : Nat) : Nat :=
  if kind = 1 then source else if source < 64 then 32 + source else 96 + (source - 64)

/-- A learn or move is accepted (R166, R169), by a table that still learns (R157): learns of one table and key in a tick become one. A learn for a
port that has come to its limit since the lookup is none (R170; log entry 133: DEDUCED, unsafe). -/
def Dev.emPush (s : Dev) (o : EmOp) : Dev :=
  match o with
  | .learn t k b =>
    if !s.learns t then s else
    let same (x : Nat) (y : EmOp) : Bool := x == s.tick && (match y with | .learn t' k' _ => t' == t && k' == k | _ => false)
    if s.em.ops.any (fun x => same x.1 x.2) || s.tableSent same then s
    else if s.obj Obj.LEARN_LIMIT b ≤ s.obj Obj.LEARNED b then s.bump Obj.LIMIT_HITS b
    else (s.bump Obj.LEARNED b).emQueue (s.tableMirrors t) (.learn t k b) (.learn t k b)
  | .move t k b => if s.learns t then s.emQueue (s.tableMirrors t) (.move t k b) (.move t k b) else s
  | o => s.emQueue false (.bulk 0) o

/-- What LIMIT_MODE does to a parcel whose port is at its limit (R170): none, drop, or flood. -/
inductive LimitOut where
  | none | drop | flood
  deriving DecidableEq, Repr

/-- The learning outcome of a LEARN-role lookup (R169): the operation to accept once the FCS has passed, and the limit's effect. -/
def Dev.learnOutcome (s : Dev) (t key b : Nat) (look : EmLook) : Option EmOp × LimitOut × Dev :=
  let room := decide (s.obj Obj.LEARNED b < s.obj Obj.LEARN_LIMIT b)
  let lim : LimitOut := if s.obj Obj.LIMIT_MODE b = 0 then .drop else .flood
  match look.found with
  | some (_, e) =>
    if e.bport = b then (none, .none, s)
    else if e.static then (none, .none, s.bump Obj.STATIC_CONFLICTS t)
    else if room then (some (.move t key b), .none, s)
    else (none, lim, s.bump Obj.LIMIT_HITS b)
  | none => if room then (some (.learn t key b), .none, s) else (none, lim, s.bump Obj.LIMIT_HITS b)

/-! ### Meanings -/

/-- SEARCH by a thread's command port (R165, R166). -/
def execSearch (h rec : Nat) (s : State) : Res :=
  onMainIf s (decide (h < s.part.threads)) (fun s => s.emAccept true h 0 (putBits rec 7 0 1))

/-- INSERT by a thread's command port (R165, R167). -/
def execInsert (h rec : Nat) (s : State) : Res :=
  onMainIf s (decide (h < s.part.threads)) (fun s => s.emAccept true h 0 (putBits rec 7 0 2))

/-- DELETE by a thread's command port (R165, R166). -/
def execDelete (h rec : Nat) (s : State) : Res :=
  onMainIf s (decide (h < s.part.threads)) (fun s => s.emAccept true h 0 (putBits rec 7 0 3))

/-- NEXT by a thread's command port (R165, R168). -/
def execNextEntry (h rec : Nat) (s : State) : Res :=
  onMainIf s (decide (h < s.part.threads)) (fun s => s.emAccept true h 0 (putBits rec 7 0 4))

/-- FLUSH_BY_PORT by a thread's command port (R165, R171). -/
def execFlushByPort (h rec : Nat) (s : State) : Res :=
  onMainIf s (decide (h < s.part.threads)) (fun s => s.emAccept true h 0 (putBits rec 7 0 5))

/-- SWEEP: one tick's visits (R174). -/
def execSweep (s : State) : Res := onMain s Dev.sweep

end Sys2Proof.Machine
end

