-- ==== Sys2Proof/Machine/Sorter.lean ====
section
/-! DEFINITION. The sorter (R41, R43, R111, R112, R134 to R141, R161 to R170): taking a parcel, its walk, lookups and actions, and the
handing of parcels to the matcher, the slice, the threads and the rack. -/
namespace Sys2Proof.Machine

/-! ### Sources and frames -/

/-- The instance of the source-bound objects for a parcel (R111): its port, or 32 + its host link. A host submission that carries no frame has
none. A parcel of these kinds that a thread has created is taken by its SOURCE, the thread's drawer, in the same way (log entry 164: DESIGN CHOICE, unsafe). -/
def Dev.srcInst (s : Dev) (p : Parcel) : Option Nat :=
  if p.kind = 1 then (if p.source < s.part.ports then some p.source else none)
  else if p.kind = 2 then (if p.handle ≠ nullHandle ∧ s.linkOf p.source < s.part.links then some (32 + s.linkOf p.source) else none)
  else none

/-- How many bytes of a chain's frame have arrived (R120). -/
def Dev.arrived (s : Dev) (h : Nat) : Nat :=
  match (s.eth.ports.filterMap (fun e => e.2.rx)).find? (fun r => r.chain == h) with
  | some r => r.arrived
  | none => (s.chainData h).length

/-- Whether a frame carries a SecTAG (IEEE 802.1AE: EtherType 0x88E5 after the addresses). -/
def hasSecTag (f : List Nat) : Bool := be16 f 12 == 0x88E5

/-- Whether the SecY of port p validates a frame it receives (R106, R336). -/
def Dev.secured (s : Dev) (p : Nat) (f : List Nat) : Bool :=
  decide (p < s.part.ports) && s.flag Obj.MACSEC_ENABLE p && s.obj Obj.VALIDATE_FRAMES p != 0 && hasSecTag f

/-- Whether the sorter passes a network parcel to the slice before its walk (R112, R336): the SecY has bound it. -/
def Parcel.needsMacsecRx (p : Parcel) : Bool := p.kind == 1 && p.sec.isSome

/-- An object's value in force when a parcel was admitted in tick a (R107). -/
def Dev.objAsOf (s : Dev) (a oid inst : Nat) : Nat :=
  match (s.eth.saHist.filter (fun h => h.2.1 == okey oid inst && decide (a < h.1))).getLast? with
  | some h => h.2.2
  | none => s.obj oid inst

/-! ### Handing on -/

/-- A parcel is handed to the cipher slice of drawer d (R336). -/
def Dev.toSlice (s : Dev) (d : Nat) (c : SorterCtx) (walk : Bool) : Dev :=
  { s with cipher := { s.cipher with
      jobs := Tab.ins s.cipher.jobs d (Tab.getD s.cipher.jobs d [] ++ [{ cls := c.p.cls, work := .parcel c walk }]) } }

/-- The Ethernet port of a leaf, if it transmits on one. -/
def Dev.ethOf (s : Dev) (q : Nat) : Option Nat := (s.leafPort? q).bind (fun P => if P < 32 then some P else none)

/-- The mirror session's Ethernet port, if a parcel has a mirror copy and that port has MACSEC_ENABLE (R106, R139). -/
def Dev.copyPort (s : Dev) (p : Parcel) : Option Nat :=
  ((mirrorOf p.actMeta).bind (fun m => s.ethOf (s.obj Obj.MIRROR_LEAF m))).bind (fun P => if s.flag Obj.MACSEC_ENABLE P then some P else none)

/-- A parcel its engines have finished with waits for the rack (R51, R95). -/
def Dev.toFins (s : Dev) (c : SorterCtx) : Dev := { s with work := { s.work with fins := s.work.fins ++ [c] } }

/-- A parcel ends with a drop for a reason and status (R43, R139, R336, *Poison and MAC failure outcomes*). -/
def SorterCtx.dropped (c : SorterCtx) (reason status : Nat) : SorterCtx :=
  { c with punt := false, p := { c.p with disp := 2, dropReason := reason, status := status } }

/-- A parcel is punted to its executing drawer's punt FIFO (R139), unless its frame has turned out bad (R95). -/
def Dev.toPunt (s : Dev) (c : SorterCtx) : Dev :=
  if s.rxEnd c.p.handle = .bad then s.toFins (c.dropped 5 0) else
  ({ s with work := { s.work with
      punts := Tab.ins s.work.punts c.p.exec (Tab.getD s.work.punts c.p.exec [] ++
        [{ seq := s.work.seq, p := c.p, ingress := c.ingress, reason := c.acts.punt.getD 0, pr := c.pr, pat := c.pat }])
      seq := s.work.seq + 1 } } : Dev).wakeDrawer c.p.exec

/-- A parcel goes on after its last engine: to a thread if punted, else to the rack. -/
def Dev.engineDone (s : Dev) (c : SorterCtx) : Dev := if c.punt then s.toPunt c else s.toFins c

/-! ### The action stage (R139, R140) -/

/-- COUNT: packets and bytes added to a counter pair, remembered for two ticks (R139, R509). A read includes every packet, those of ticks
t − 1 and t too (log entry 165: DESIGN CHOICE, unsafe). -/
def Dev.countPair (s : Dev) (len c : Nat) : Dev :=
  let s1 := (s.bump Obj.COUNT_PACKETS c).addObj Obj.COUNT_BYTES c len
  { s1 with work := { s1.work with recent := (s1.tick, c, len) :: s1.work.recent } }

/-- Whether a frame is held until its tail has arrived for a leaf that it leaves on (R95): it carries MACsec, or its egress port is slower.
Cut-through runs between Ethernet ports (R32): a frame for any other egress is held too (log entry 19: DEDUCED, unsafe). -/
def Dev.holdsFor (s : Dev) (p : Parcel) (leaf : Nat) : Bool :=
  match s.ethOf leaf with
  | some P => s.flag Obj.MACSEC_ENABLE P || (p.kind == 1 && decide (modeRate (s.obj Obj.PORT_MODE P) < modeRate (s.obj Obj.PORT_MODE p.source)))
  | none => true

/-- Whether a frame is held until its tail has arrived (R95): it needs another engine or carries MACsec, as received, or one of its copies must
be held. -/
def Dev.mustHold (s : Dev) (p : Parcel) (leaf : Nat) : Bool :=
  bit p.actMeta 1 || (p.kind == 1 && hasSecTag (s.frameOf p)) || s.holdsFor p leaf ||
    (match mirrorOf p.actMeta with | some m => s.holdsFor p (s.obj Obj.MIRROR_LEAF m) | none => false)

/-- Whether a parcel goes to the slice before it retires: SA_V, unless a slice has seen to that, or a frame, its mirror copy included, sent on a
port with MACSEC_ENABLE (R336). -/
def Dev.needsSlice (s : Dev) (c : SorterCtx) : Bool :=
  (bit c.p.actMeta 1 && !c.sealed) || (!c.punt && (s.copyPort c.p).isSome)
    || ((c.p.disp == 1 || c.p.disp == 4) && (match s.ethOf c.p.leaf with | some P => s.flag Obj.MACSEC_ENABLE P | none => false))

/-- A parcel whose disposition has been given goes to the slice if it must (R139, R336), and then to the rack. -/
def Dev.sliceThenFins (s : Dev) (d : Nat) (c : SorterCtx) : Dev :=
  if s.needsSlice c then s.toSlice d { c with hold := true } false else s.toFins c

/-- The rewrite of the action stage (R140): none when its template names a slot that is not VALID. The lengths of a frame still arriving are
written once it has ended (log entry 140: DEDUCED, unsafe). -/
def Dev.rewriteCtx (s : Dev) (c : SorterCtx) : Option (Parcel × Dev) :=
  match c.acts.rewrite with
  | none => some (c.p, s)
  | some r =>
    if c.p.handle = nullHandle then some (c.p, s)
    else
      let v := objAt s.part c.cfg Obj.REWRITE_TEMPLATE r
      if s.rxEnd c.p.handle = .arriving then
        (rewriteParts v c.pr (s.frameOf c.p)).map (fun x =>
          let (p1, s1) := s.putFrame c.p x.1
          match x.2 with
          | some fix => (p1, { s1 with eth := { s1.eth with fixes := Tab.ins s1.eth.fixes c.p.handle fix } })
          | none => (p1, s1))
      else (rewriteFrame v c.pr (s.frameOf c.p)).map (s.putFrame c.p)

/-- *Action outcomes* for a parcel's final values (R139). COUNT adds the frame's length with its FCS, as it is before the rewrite (log entry
168: DESIGN CHOICE, unsafe). A rewrite in place, and the parcel that STORAGE creates, cannot be repeated, so
IDEMPOTENT clears (R36; log entry 26: DESIGN CHOICE, unsafe). -/
def Dev.applyActions (s : Dev) (d : Nat) (c : SorterCtx) : Dev :=
  let s0 := c.acts.counts.foldl (fun t i => t.countPair (t.frameLen c.p) i) s
  let leaf := c.acts.leaf.getD c.p.leaf
  let p0 := { c.p with leaf := leaf, actMeta := c.acts.metaWord }
  match s0.rewriteCtx { c with p := p0 } with
  | none => (s0.bump Obj.REWRITE_FAILED d).toFins ({ c with p := p0 }.dropped 5 0)
  | some (p1, s1) =>
    let hold := c.hold || s0.mustHold p0 leaf || (Tab.get? s1.eth.fixes p1.handle).isSome
    let p1 := { p1 with idem := p1.idem && c.acts.rewrite.isNone && c.acts.disp != 4 }
    match c.acts.disp with
    | 1 =>
      let c1 := { c with p := { p1 with disp := 1 }, hold := hold }
      s1.sliceThenFins d c1
    | 2 => s1.sliceThenFins d ({ c with p := p1, hold := hold }.dropped 1 0)
    | 3 =>
      let c1 := { c with p := p1, hold := true, punt := true }
      if s1.needsSlice c1 then s1.toSlice d c1 false else s1.toPunt c1
    | 4 =>
      if s1.rxEnd p1.handle = .bad then s1.toFins ({ c with p := p1 }.dropped 5 0) else
      let s2 := s1.admitParcel { newParcel 4 p1.flowHash p1.cls p1.source p1.handle p1.length c.acts.storageArg with
        shared := p1.shared, ce := p1.ce }
      s2.sliceThenFins d { c with p := { p1 with disp := 3 }, hold := hold }
    | _ => (s1.bump Obj.NO_DISPOSITION d).sliceThenFins d ({ c with p := p1, hold := hold }.dropped 1 0)

/-! ### Lookups -/

/-- One rule lookup (R134, R135): counted, with the rule's action or MISS_ACTION; the answer has the action with ARG in place, ARG, and the
buckets probed. -/
def Dev.ruleStage (s : Dev) (d : Nat) (c : SorterCtx) (t budget : Nat) : (ActionRec × Nat × Nat) × Dev :=
  let o := c.cfg
  let inp := clsInput o c.p c.pr c.pat c.tag
  let key := ofLE (tableKey inp (objAt s.part o Obj.KEY_MAP t) 48)
  let (win, probed) := ruleLookup s.part o t key budget
  let s1 := (s.bump Obj.LOOKUPS_4010 t).countProbes d (objAt s.part o Obj.RULE_PLACEMENT 0) probed
  let s2 := if objAt s.part o Obj.GROUPS t > budget then s1.bump Obj.BUDGET_CUT d else s1
  match win with
  | some (slot, r) =>
    ((((actionOf (objAt s.part o Obj.ACTION r.action)).withArg r.argUse r.arg), r.arg, probed.length), s2.bump Obj.RULE_HITS slot)
  | none =>
    (((actionOf (objAt s.part o Obj.ACTION (objAt s.part o Obj.MISS_ACTION t))), 0, probed.length), s2.bump Obj.MISSES t)

/-- One exact-match lookup k of a parcel of source inst (R161 to R163, R169): its supplied action, what the limit does, and the state. -/
def Dev.emOne (s : Dev) (c : SorterCtx) (inst k : Nat) : Option (Bool × EmLook × Nat) × LimitOut × Dev :=
  let o := c.cfg
  let j := 2 * inst + k
  let t := objAt s.part o Obj.EM_TABLE j
  if t = 0xFF then (none, .none, s)
  else
    let learnRole := objAt s.part o Obj.EM_ROLE j == 1
    let b := bportOf c.p.kind c.p.source
    let refresh := objAt s.part o Obj.EM_REFRESH j == 1
    let key := emKey s.part o (clsInput o c.p c.pr c.pat c.tag) j t
    if s.obj Obj.BUCKET_COUNT t = 0 then
      (some (learnRole, { found := none, cached := false }, j), .none, s.bump Obj.LOOKUPS_5000 t)
    else
      let learns := learnRole && s.flag Obj.BPORT_LEARN b && s.learns t && key % 2 == 0
        && !bit c.pr.status pfTruncated && !bit c.pr.status pfBeyond && s.rxEnd c.p.handle != .bad
      let (look, s1) := s.emLookup t key c.p.exec (c.cold.getD k false) (fun e => refresh && (!learns || e.bport == b))
      if learns then
        let (op, lim, s2) := s1.learnOutcome t key b look
        let s3 := match op with
          | none => s2
          | some x =>
            if s2.rxEnd c.p.handle = .arriving then
              { s2 with em := { s2.em with waiting := s2.em.waiting ++ [(c.p.handle, x)] } }
            else s2.emPush x
        (some (learnRole, look, j), lim, s3)
      else (some (learnRole, look, j), .none, s1)

/-- The action a FORWARD-role lookup supplies (R163, R170); `flood` makes it supply EM_MISS_ACTION. -/
def Dev.emSupply (s : Dev) (c : SorterCtx) (flood : Bool) (x : Bool × EmLook × Nat) : Option Actions :=
  let (learnRole, look, j) := x
  if learnRole then none
  else
    let miss : Option Actions :=
      let a := objAt s.part c.cfg Obj.EM_MISS_ACTION j
      if a = 0xFFFF then none else some ((actionOf (objAt s.part c.cfg Obj.ACTION a)).sets 0)
    match look.found with
    | some (_, e) =>
      if flood then miss
      else some (((actionOf (objAt s.part c.cfg Obj.ACTION e.action)).withArg e.argUse e.arg).sets e.arg)
    | none => miss

/-- Both exact-match lookups and the merging of what they supply (R161 to R164, R170), then the action stage. -/
def Dev.emStage (s : Dev) (d : Nat) (c : SorterCtx) : Dev :=
  match s.srcInst c.p with
  | none => s.applyActions d c
  | some inst =>
    let (x0, l0, s0) := s.emOne c inst 0
    let (x1, l1, s1) := s0.emOne c inst 1
    let flood := decide (l0 = .flood) || decide (l1 = .flood)
    let dropIt := decide (l0 = .drop) || decide (l1 = .drop)
    let merge (a : Actions) (x : Option (Bool × EmLook × Nat)) : Actions :=
      match x with
      | none => a
      | some y =>
        match s1.emSupply c flood y with
        | none => a
        | some b => if objAt s.part c.cfg Obj.EM_MERGE y.2.2 = 1 then a.fill b else a.override b
    let acts := merge (merge c.acts x0) x1
    let wrote := s1.em.ops.length + s1.em.waiting.length + s1.twin.sent.length != s.em.ops.length + s.em.waiting.length + s.twin.sent.length
    s1.applyActions d { c with acts := if dropIt then { acts with disp := 2 } else acts, p := { c.p with idem := c.p.idem && !wrote } }

/-- Whether a lookup of the parcel reads GDDR6: a table with buckets and no hot record of the key (R162). -/
def Dev.emMisses (s : Dev) (c : SorterCtx) (inst k : Nat) : Bool :=
  let o := c.cfg
  let t := objAt s.part o Obj.EM_TABLE (2 * inst + k)
  t != 0xFF && s.obj Obj.BUCKET_COUNT t != 0
    && (s.hotFind t (emKey s.part o (clsInput o c.p c.pr c.pat c.tag) (2 * inst + k) t) c.p.exec).isNone

/-- Context k is parked on a lookup's reads (R137, R162). -/
def Dev.parkOn (s : Dev) (k : Nat) (c : SorterCtx) (a : Await) : Dev :=
  { s with work := { s.work with ctxs := Tab.ins s.work.ctxs k { c with stage := .lookup, await := a, parkTick := s.tick } } }

/-- After the rule lookups: the exact-match lookups, parked in context k if one reads GDDR6 (R162). Context none: the parcel comes
from the matcher and is given any free context of its drawer, or proceeds at once (log entry 18: DESIGN CHOICE, safe). -/
def Dev.toEm (s : Dev) (d : Nat) (key : Option Nat) (c : SorterCtx) : Dev :=
  match s.srcInst c.p, key with
  | some inst, some k =>
    let cold := [s.emMisses c inst 0, s.emMisses c inst 1]
    if cold.any id then s.parkOn k { c with cold := cold } .em else s.emStage d c
  | _, _ => s.emStage d c

/-- The free context of drawer d with the lowest number. -/
def Dev.freeCtx (s : Dev) (d : Nat) : Option Nat := [3 * d, 3 * d + 1, 3 * d + 2].find? (fun k => (Tab.get? s.work.ctxs k).isNone)

/-- Whether a rule lookup in table t reads a bucket's GDDR6 master copy (R137). -/
def Dev.readsMaster (s : Dev) (d : Nat) (c : SorterCtx) (t budget : Nat) : Bool :=
  let o := c.cfg
  let key := ofLE (tableKey (clsInput o c.p c.pr c.pat c.tag) (objAt s.part o Obj.KEY_MAP t) 48)
  (ruleLookup s.part o t key budget).2.any (s.probesMaster d (objAt s.part o Obj.RULE_PLACEMENT 0))

/-- The second rule lookup in table t, its buckets read (R134, R135, R139). -/
def Dev.secondRules (s : Dev) (d : Nat) (key : Option Nat) (c : SorterCtx) (t : Nat) : Dev :=
  let ((a, arg, n), s1) := s.ruleStage d c t (8 - c.probes)
  s1.toEm d key { c with acts := c.acts.override (a.sets arg), probes := c.probes + n }

/-- The second rule lookup in table t, parked if it reads a master copy (R137). -/
def Dev.secondLookup (s : Dev) (d : Nat) (key : Option Nat) (c : SorterCtx) (t : Nat) : Dev :=
  match key with
  | some k => if s.readsMaster d c t (8 - c.probes) then s.parkOn k c (.second t) else s.secondRules d key c t
  | none => s.secondRules d key c t

/-- A scan job is handed to the executing drawer's matcher (R147). -/
def Dev.toMatcher (s : Dev) (d : Nat) (c : SorterCtx) (pset table : Nat) (stream : Bool) : Dev :=
  let job : ScanJob :=
    { c := { c with hold := true }, table := table, pset := pset, bank := 0, stream := stream, started := false, running := false, parked := false,
      pos := 0, auto := {}, hits := [], first := 0, stop := 0, flags := 0, base := 0, ident := 0 }
  { s with pats := { s.pats with jobs := Tab.ins s.pats.jobs d (Tab.getD s.pats.jobs d [] ++ [job]) } }

/-- The first rule lookup, in table t, its buckets read, and what follows it (R134, R139, R147). -/
def Dev.firstRules (s : Dev) (d : Nat) (key : Option Nat) (c : SorterCtx) (t : Nat) : Dev :=
  let ((a, arg, n), s1) := s.ruleStage d c t 8
  let c1 := { c with acts := a.sets arg, probes := n }
  if bit a.ops 10 then
    let c2 := { c1 with tag := bits arg 15 0 }
    if bit a.ops 11 || bit a.ops 12 then s1.toMatcher d c2 a.patternSet a.nextTable (bit a.ops 12)
    else s1.secondLookup d key c2 a.nextTable
  else s1.toEm d key c1

/-- FIRST_TABLE of a parcel's source, in its classification's configuration (R134). -/
def Dev.firstTable (s : Dev) (c : SorterCtx) (inst : Nat) : Nat := objAt s.part c.cfg Obj.FIRST_TABLE inst

/-- The first rule lookup, if the parcel makes one (R111, R134), parked if it reads a master copy (R137). -/
def Dev.firstLookup (s : Dev) (d : Nat) (key : Option Nat) (c : SorterCtx) : Dev :=
  match s.srcInst c.p with
  | none => (s.bump Obj.NO_DISPOSITION d).toFins (c.dropped 1 0)
  | some inst =>
    let t := s.firstTable c inst
    if t = 0xFF then s.toEm d key c
    else
      match key with
      | some k => if s.readsMaster d c t 8 then s.parkOn k c .first else s.firstRules d key c t
      | none => s.firstRules d key c t

/-! ### The walk -/

/-- The next-header value that announces the header at l4 of an IPv6 packet whose next header at o is nh: extension headers before it are passed
over (R262), at most k of them. -/
def nextHeaderAt (f : List Nat) (l4 : Nat) : Nat → Nat → Nat → Nat
  | 0, nh, _ => nh
  | k + 1, nh, o => if l4 ≤ o then nh else nextHeaderAt f l4 k (nth f o) (o + if nh = 44 then 8 else 8 * (nth f (o + 1) + 1))

/-- CSUM of a SEND (R262): the IPv4 header checksum and the L4 checksum of the headers at slots 2 and 3. -/
def insertSums (pr : ParseResult) (f : List Nat) : List Nat :=
  match pr.slots.getD 2 none, pr.slots.getD 3 none with
  | some ip, some l4 =>
    let v6 := nth f ip / 16 == 6
    let f1 := if v6 then f else fixIpv4Sum f ip (4 * (nth f ip % 16))
    let stop := if v6 then ip + 40 + be16 f (ip + 4) else ip + be16 f (ip + 2)
    let proto := if v6 then nextHeaderAt f l4 8 (nth f (ip + 6)) (ip + 40) else nth f (ip + 9)
    let at' := if proto = 6 then l4 + 16 else l4 + 6
    let f2 := putAt f1 at' [0, 0]
    let addrs := if v6 then slice f2 (ip + 8) 32 else slice f2 (ip + 12) 8
    let n := stop - l4
    let sum := checksum16 (addrs ++ (if v6 then beBytes 4 n ++ [0, 0, 0, proto] else [0, proto] ++ beBytes 2 n) ++ slice f2 l4 n)
    if proto = 6 ∨ proto = 17 then putAt f2 at' (beBytes 2 (if proto = 17 ∧ sum = 0 then 0xFFFF else sum)) else f1
  | _, _ => f

/-- Whether the job of a host submission asks for checksums (R261, R262, R275). -/
def Dev.wantsSums (s : Dev) (p : Parcel) : Bool :=
  p.kind == 2 &&
    (match (s.jobOf? p).bind (fun k => s.queue? k.1) with
     | some q => (match q.job? (hostJob p).2 with
        | some j => if s.level7 then bit j.desc 26 else bit j.desc 50
        | none => false)
     | none => false)

/-- The walk of a parcel from its start node (R111, R117, R120), and the classification after it, on the configuration of the tick in which it
starts (R141); context k is parked while header bytes are still arriving. -/
def Dev.walkCtx (s : Dev) (d k : Nat) (c : SorterCtx) : Dev :=
  match s.srcInst c.p with
  | none => (s.bump Obj.CLASSIFIED d).firstLookup d (some k) { c with pr := unwalked }
  | some inst =>
    let f := s.frameOf c.p
    let bank := objAt s.part c.cfg Obj.ACTIVE_BANK 0
    let start := objAt s.part c.cfg Obj.START_NODE (40 * bank + inst)
    let w := walkFrame s.part c.cfg f (s.arrived c.p.handle) f.length start bank
    if w.park then { s with work := { s.work with ctxs := Tab.ins s.work.ctxs k { c with stage := .header, parkTick := s.tick } } }
    else
      let s1 := (s.countWalk d w.res).bump Obj.CLASSIFIED d
      let s2 := if s1.wantsSums c.p then s1.setChainData c.p.handle (insertSums w.res f) else s1
      s2.firstLookup d (some k) { c with pr := w.res, cfg := s.objs }

/-! ### SORTER_TAKE -/

/-- SORTER_TAKE: context i of drawer d takes the oldest parcel of kind 0x01 or 0x02 of the lowest class (R41, R111, R112). -/
def Dev.sorterTake (s : Dev) (d i : Nat) : Dev :=
  match s.headOf d [1, 2] with
  | none => s
  | some e =>
    let s1 := s.removeQ d e.seq
    let c : SorterCtx := { p := e.p, ingress := e.ingress.orElse (fun _ => some e.p), takeTick := s.tick, cfg := s.objs }
    match e.kept with
    | some pr => (s1.bump Obj.CLASSIFIED d).firstLookup d (some (3 * d + i)) { c with pr := pr }
    | none =>
      if !e.clear && e.p.needsMacsecRx then s1.toSlice d { c with hold := true } true
      else s1.walkCtx d (3 * d + i) { c with hold := e.clear }

/-- Whether context i of drawer d may take a parcel (R41, R43, R52). -/
def Dev.sorterReady (s : Dev) (d i : Nat) : Bool :=
  s.inService d && decide (i < 3) && (Tab.get? s.work.ctxs (3 * d + i)).isNone && !s.rackBlocked d
    && (s.headOf d [1, 2]).isSome

/-- SORTER_TAKE (R41). -/
def execSorterTake (d i : Nat) (s : State) : Res := onMainIf s (s.sorterReady d i) (fun s => s.sorterTake d i)

/-- The parked context with a key, if it is parked on a stage. -/
def Dev.parked? (s : Dev) (k : Nat) (st : Stage) : Option SorterCtx :=
  match Tab.get? s.work.ctxs k with
  | some c => if c.stage = st then some c else none
  | none => none

/-- A context is left. -/
def Dev.leaveCtx (s : Dev) (k : Nat) : Dev := { s with work := { s.work with ctxs := Tab.del s.work.ctxs k } }

/-- Further bytes of a frame's data arrive (R120, R187): they take their place at the end of what has arrived, and buffers fill. -/
def Dev.arriveBytes (s : Dev) (h : Nat) (more : List Nat) : Dev :=
  match s.eth.ports.find? (fun e => match e.2.rx with | some r => r.chain == h | none => false) with
  | some (p, port) =>
    match port.rx with
    | some r =>
      let data := s.chainData h
      let lack := r.held - 4 - r.arrived
      let new := more.take lack
      let s1 := (s.setChainData h (putAt data (data.length - lack) new)).fillTo h (r.arrived + new.length)
      { s1 with eth := { s1.eth with ports := Tab.ins s1.eth.ports p { port with rx := some { r with arrived := r.arrived + new.length } } } }
    | none => s
  | none => s

/-- PARSE_EXTEND_RESUME: bytes up to 511 have arrived, and the parked walk resumes from its start with them (R120). -/
def Dev.parseResume (s : Dev) (d k : Nat) (more : List Nat) : Dev :=
  match s.parked? k .header with
  | none => s
  | some c => ((s.arriveBytes c.p.handle more).leaveCtx k).walkCtx d k c

/-- PARSE_EXTEND_RESUME (R120). -/
def execParseExtendResume (d i : Nat) (more : List Nat) (s : State) : Res :=
  onMainIf s (decide (i < 3) && (s.parked? (3 * d + i) .header).isSome) (fun s => s.parseResume d (3 * d + i) more)

/-- A record of the memory error log (R460). -/
def memErrRec (addr tick who kind ch : Nat) : Nat :=
  (addr % 2 ^ 48) * 2 ^ 80 + (tick % 2 ^ 32) * 2 ^ 48 + (who % 65536) * 2 ^ 32 + kind * 2 ^ 24 + ch % 64 * 2 ^ 18

/-- An uncorrectable GDDR6 read on a channel (R449, R459, R460). -/
def Dev.memPoison (s : Dev) (ch addr who : Nat) : Dev :=
  ((s.bump Obj.UNCORRECTABLE ch).log Obj.MEMORY_ERROR_ENTRY 256 (memErrRec addr s.tick who 2 ch)).notify 0x1093 Obj.UNCORRECTABLE ch

/-- A read of a line that needed correction (R449, R460): counted, and recorded at most once per channel per 2^20 ticks. -/
def Dev.memCorrected (s : Dev) (addr who : Nat) : Dev :=
  let ch := channelOf s.part addr
  let s1 := s.bump Obj.CORRECTED ch
  let due := match Tab.get? s.cores.eccTick ch with | some t => decide (t + 2 ^ 20 ≤ s.tick) | none => true
  if due then
    ({ s1 with cores := { s1.cores with eccTick := Tab.ins s1.cores.eccTick ch s1.tick } }).log Obj.MEMORY_ERROR_ENTRY 256
      (memErrRec (lineOf addr) s.tick who 1 ch)
  else s1

/-- A read of a line that cannot be corrected (R449): poisoned until it is written again. -/
def Dev.memLost (s : Dev) (addr who : Nat) : Dev :=
  let s1 := s.memPoison (channelOf s.part addr) (lineOf addr) who
  if s1.isPoisoned addr then s1 else { s1 with cores := { s1.cores with poisoned := lineOf addr :: s1.cores.poisoned } }

/-- A MAC failure on the line of an address (R456, R460), kind 3, or 4 for a fetch: the line is poisoned. -/
def Dev.macFail (s : Dev) (a who kind : Nat) : Dev :=
  let l := lineOf a
  let ch := channelOf s.part a
  let s1 := (s.bump Obj.MAC_FAILURES ch).log Obj.MEMORY_ERROR_ENTRY 256 (memErrRec l s.tick who kind ch)
  if s1.isPoisoned a then s1 else { s1 with cores := { s1.cores with poisoned := l :: s1.cores.poisoned } }

/-- A line that a unit reads from GDDR6 (R449, R456): `err` gives an error's kind and address: 1 corrected; 3 a MAC failure, of a protected
region; any other uncorrectable. Answers whether the data are good. -/
def Dev.lineRead (s : Dev) (secure : Bool) (who : Nat) (err : Option (Nat × Nat)) : Bool × Dev :=
  match err with
  | none => (true, s)
  | some (k, a) =>
    if k = 1 then (true, s.memCorrected a who)
    else (false, if k = 3 ∧ secure = true then s.macFail a who 3 else s.memLost a who)

/-- The reads of master copies that a parked rule lookup has made are counted, though their data are not used (R137). -/
def Dev.countReads (s : Dev) (d : Nat) (c : SorterCtx) : Dev :=
  let o := c.cfg
  let probes (t budget : Nat) : Dev :=
    let key := ofLE (tableKey (clsInput o c.p c.pr c.pat c.tag) (objAt s.part o Obj.KEY_MAP t) 48)
    s.countProbes d (objAt s.part o Obj.RULE_PLACEMENT 0) (ruleLookup s.part o t key budget).2
  match c.await with
  | .em => s
  | .first => (match s.srcInst c.p with | some inst => probes (s.firstTable c inst) 8 | none => s)
  | .second t => probes t (8 - c.probes)

/-- A parked lookup goes on with what it has read (R137, R162). -/
def Dev.lookupOn (s : Dev) (d k : Nat) (c : SorterCtx) : Dev :=
  match c.await with
  | .em => s.emStage d c
  | .first => (match s.srcInst c.p with | some inst => s.firstRules d (some k) c (s.firstTable c inst) | none => s.firstLookup d (some k) c)
  | .second t => s.secondRules d (some k) c t

/-- GDDR6_LOOKUP_RETURN: the data of a parked lookup or probe returns, and it goes on (R137, R162); poisoned data drops the parcel (R449,
R456). The requester is the drawer's sorter (R183). -/
def Dev.lookupReturn (s : Dev) (d k : Nat) (err : Option (Nat × Nat)) : Dev :=
  match s.parked? k .lookup with
  | none => s
  | some c =>
    let (good, s1) := (s.leaveCtx k).lineRead false d err
    if good then s1.lookupOn d k c else (s1.countReads d c).toFins (c.dropped 5 0x41)

/-- GDDR6_LOOKUP_RETURN (R162, R449). -/
def execGddr6LookupReturn (d i : Nat) (err : Option (Nat × Nat)) (s : State) : Res :=
  onMainIf s (decide (i < 3) && (s.parked? (3 * d + i) .lookup).isSome) (fun s => s.lookupReturn d (3 * d + i) err)

/-- LOOKUP_TIMEOUT: a lookup outstanding for 2,048 DCLK cycles, two ticks, ends its parcel (R43, R460). Which of a lookup's lines
is outstanding is not said: the record's address is a free value (log entry 184: DESIGN CHOICE, unsafe). -/
def Dev.lookupTimeout (s : Dev) (d k : Nat) : Dev :=
  match s.parked? k .lookup with
  | none => s
  | some c =>
    let (x, s1) := ((s.leaveCtx k).countReads d c).fresh
    let a := lineOf (x % 2 ^ 48)
    (s1.log Obj.MEMORY_ERROR_ENTRY 256 (memErrRec a s.tick d 5 (channelOf s.part a))).toFins (c.dropped 2 0x41)

/-- LOOKUP_TIMEOUT (R43). -/
def execLookupTimeout (d i : Nat) (s : State) : Res :=
  onMainIf s (decide (i < 3) && (match s.parked? (3 * d + i) .lookup with | some c => decide (c.parkTick + 2 ≤ s.tick) | none => false))
    (fun s => s.lookupTimeout d (3 * d + i))

/-! ### PARCEL_FINISH (R51, R95) -/

/-- The parcel of a bad frame is dropped whole, its mirror copy too (R95). -/
def SorterCtx.bad (c : SorterCtx) : SorterCtx :=
  let c1 := if c.p.disp = 2 then c else c.dropped 5 0
  { c1 with p := { c1.p with actMeta := clearBit c1.p.actMeta 0 } }

/-- A parcel comes to the rack: a frame that turned out bad before its release is dropped whole (R94, R95). -/
def Dev.parcelFinish (s : Dev) (c : SorterCtx) : Dev :=
  let c1 := if s.rxEnd c.p.handle = .bad then c.bad else c
  s.finishAll (c.eng.getD c.p.exec) { p := c1.p, owner := c.owner.getD ownerRack, ingress := c.ingress }

/-- PARCEL_FINISH e: the e-th parcel that its engines have finished with comes to the rack, unless it must wait for its tail (R51, R95). -/
def execParcelFinish (e : Nat) (s : State) : Res :=
  onMainIf s (match s.work.fins[e]? with | some c => !(c.hold && s.rxEnd c.p.handle == .arriving) | none => false)
    (fun s => match s.work.fins[e]? with
      | some c => ({ s with work := { s.work with fins := s.work.fins.eraseIdx e } }).parcelFinish c
      | none => s)

end Sys2Proof.Machine
end

