-- ==== Sys2Proof/Machine/Drawers.lean ====
section
/-! DEFINITION. Work stealing (R46 to R48), parcels on threads (R44, R45, R395 to R397): taking, retiring, yielding and overruns. -/
namespace Sys2Proof.Machine

/-! ### Work stealing (R46 to R48) -/

/-- Whether drawer d was idle in the tick that the last edge closed (R46). -/
def Dev.idle (s : Dev) (d : Nat) : Bool := !Tab.getD s.work.wasBusy d false

/-- The stealable backlog of a drawer (R46). -/
def stealable (q : List QEntry) : Nat := (q.filter (fun e => e.p.stealable)).length

/-- The waiting parcels of drawer d that an edge's stealing sees (R24, R47): those that waited at the end of the tick that it closed, less
what thieves have taken. -/
def Dev.edgeQueue (s : Dev) (d : Nat) : List QEntry := (Tab.get? s.work.backlogs d).getD []

/-- The victim with the largest backlog above a threshold, the lower number on ties (R47). -/
def pickVictim (cands : List (Nat × Nat)) (threshold : Nat) : Option Nat :=
  (cands.foldl (fun (b : Option (Nat × Nat)) c =>
    if threshold < c.2 ∧ (match b with | some x => decide (x.2 < c.2) | none => true) = true then some c else b) none).map Prod.fst

/-- The victim of an idle drawer d (R47): a sibling, or, with its whole cabinet idle, a drawer of another cabinet. -/
def Dev.victim (s : Dev) (d : Nat) : Option Nat :=
  let back (v : Nat) : Nat × Nat := (v, stealable (s.edgeQueue v))
  let sib := (s.serviceDrawers.filter (fun v => v != d && v / 16 == d / 16)).map back
  let own := if s.flag Obj.STEAL_ENABLE then pickVictim sib (s.obj Obj.STEAL_THRESHOLD) else none
  match own with
  | some v => some v
  | none =>
    if s.flag Obj.XCAB_STEAL_ENABLE && (s.serviceDrawers.filter (fun v => v / 16 == d / 16)).all s.idle then
      pickVictim ((s.serviceDrawers.filter (fun v => v / 16 != d / 16)).map back) (s.obj Obj.XCAB_STEAL_THRESHOLD)
    else none

/-- n parcels of drawer v go to drawer d (R48): stealable ones in class order, oldest first; each keeps the parcel as admitted (R55). -/
def Dev.steal (s : Dev) (d v n : Nat) : Dev :=
  let waits (e : QEntry) : Bool := (s.queue v).any (fun x => x.seq == e.seq)
  let chosen := ((s.edgeQueue v).filter (fun e => e.p.stealable)).take n
  let take := chosen.filter waits
  let s0 := { s with work := { s.work with
    backlogs := Tab.ins s.work.backlogs v ((s.edgeQueue v).filter (fun e => !chosen.any (fun x => x.seq == e.seq))) } }
  let s1 := s0.setQueueOf v ((s.queue v).filter (fun e => !take.any (fun x => x.seq == e.seq)))
  let s2 := take.foldl (fun t e => t.pushQueue d
    { e with p := { e.p with stolen := true, stealable := false, exec := d }, ingress := e.ingress.orElse (fun _ => some e.p) }) s1
  let s3 := (s2.addObj Obj.STEALS_IN d take.length).addObj Obj.STEALS_OUT v take.length
  if v / 16 = d / 16 then s3 else s3.addObj Obj.XCAB_STEALS_IN d take.length

/-- WORK_STEAL: step 5 considers each in-service idle drawer in ascending order (R47). -/
def Dev.workSteal (s : Dev) : Dev :=
  s.serviceDrawers.foldl (fun t d =>
    if s.idle d then
      match t.victim d with
      | some v => t.steal d v (min (stealable (t.edgeQueue v) / 2) (t.obj Obj.STEAL_MAX))
      | none => t
    else t) s

/-! ### Parcels on threads (R395, R396) -/

/-- Slot s of thread h. -/
def Dev.slot? (s : Dev) (h i : Nat) : Option Slot := Tab.get? s.work.slots (4 * h + i)

/-- The state with a slot filled or freed. -/
def Dev.setSlot (s : Dev) (h i : Nat) (x : Option Slot) : Dev :=
  { s with work := { s.work with slots := match x with | some y => Tab.ins s.work.slots (4 * h + i) y | none => Tab.del s.work.slots (4 * h + i) } }

/-- The device address of slot i of thread h, globally and by the local alias (R395). -/
def slotAddr (h i : Nat) : Nat := 0x000100000000 + h / 32 * 0x200000 + 0x1F0000 + 0x200 * (4 * (h % 32) + i)
/-- The local-alias address of slot i of thread h (R33, R395). -/
def slotAlias (h i : Nat) : Nat := 0x1F0000 + 0x200 * (4 * (h % 32) + i)

/-- A pattern result as the 64 bytes that a thread reads (R149). -/
def PatternResult.word (r : PatternResult) : Nat :=
  r.pset % 16 * 2 ^ 60 + r.scanned % 2 ^ 16 * 2 ^ 64 + r.flags % 256 * 2 ^ 80 + min 255 r.count * 2 ^ 88
    + (r.ids.take 8).zipIdx.foldl (fun a x => a + x.1 % 2 ^ 20 * 2 ^ (96 + 20 * x.2)) 0 + r.classes * 2 ^ 256

/-- The ingress record of a parcel whose chain was received with a capture (R369): the raw capture and eight TIME96 stamps. -/
def Dev.ingressRec (s : Dev) (p : Parcel) : List Nat :=
  match Tab.get? s.postmark.caps p.handle with
  | some c => leBytes 8 c.raw ++ c.stamps.flatMap (fun x => leBytes 12 (time96 x))
  | none => List.replicate 104 0

/-- TAKE by thread h (R396): the answer is the local-alias address of the slot, or 0. The slot's bytes are written by the caller. -/
def Dev.take (s : Dev) (h : Nat) : Option (Nat × Slot) × Dev :=
  let d := h / 32
  match [0, 1, 2, 3].find? (fun i => (s.slot? h i).isNone), s.takes h with
  | some i, some x =>
    let (sl, s1) : Slot × Dev := match x with
      | .punt it =>
        ({ p := it.p, ingress := it.ingress, takeTick := s.tick, overdue := false, reason := it.reason, pr := it.pr, pat := it.pat },
         { s with work := { s.work with
             punts := Tab.put [] s.work.punts d ((Tab.getD s.work.punts d []).filter (fun y => y.seq != it.seq)) } })
      | .queued e =>
        ({ p := e.p, ingress := e.ingress.orElse (fun _ => some e.p), takeTick := s.tick, overdue := false, reason := 0, pr := {}, pat := {} },
         s.removeQ d e.seq)
    let s2 := { s1 with work := { s1.work with overrun := s1.work.overrun.erase (4 * h + i) } }
    (some (i, sl), s2.setSlot h i (some sl))
  | _, _ => (none, s)

/-- The bytes of a slot as TAKE fills it (*Thread slot*). -/
def Dev.slotBytes (s : Dev) (x : Slot) : List Nat :=
  leBytes 64 x.p.word ++ leBytes 128 x.pr.word ++ leBytes 64 x.pat.word ++ s.ingressRec x.p

/-- The parcel of a slot with the engine-written fields as the thread left them in the slot's bytes (R35, R396). IDEMPOTENT and STEALABLE can
only be cleared there: what an engine has cleared since, and a stolen parcel's STEALABLE, stay 0 (R36, R45, R48). -/
def Parcel.engineFields (p q : Parcel) : Parcel :=
  { p with kindData := q.kindData, actMeta := q.actMeta, leaf := q.leaf, dropReason := q.dropReason, disp := q.disp, status := q.status,
           yielded := q.yielded, idem := p.idem && q.idem, stealable := p.stealable && q.stealable }

/-- STATUS of thread h's parcel port. -/
def Dev.setPortStatus (s : Dev) (h v : Nat) : Dev := s.setHart h { s.hart h with portStatus := v }

/-- A RETIRE or YIELD of slot i that cannot be applied (R396): 0x11 after an overrun drop, 0x01 for an empty slot. -/
def Dev.slotError (s : Dev) (h i : Nat) : Dev :=
  if s.work.overrun.contains (4 * h + i) then s.setPortStatus h 0x11 else s.setPortStatus h 0x01

/-- RETIRE of slot i with a disposition (R190, R396), `w` being the descriptor in the slot's bytes. A frame that the thread sends on a port
with MACSEC_ENABLE, or under an SA that it names, goes through the drawer's slice first (R106, R336; log entry 172: DESIGN CHOICE, unsafe). -/
def Dev.retireSlot (s : Dev) (h i disp w : Nat) : Dev :=
  match s.slot? h i with
  | none => s.slotError h i
  | some x =>
    if disp = 0 ∨ 4 < disp then s.setPortStatus h 0x01
    else
      let p := { x.p.engineFields (parcelOf w) with disp := disp }
      let s1 := (s.setSlot h i none).setPortStatus h 0
      let c : SorterCtx := { p := p, ingress := x.ingress, takeTick := s.tick, cfg := [], pr := x.pr, hold := true, owner := some (ownerThread h),
                             sealed := decide (x.p.kind ≤ 2) && bit x.p.actMeta 1 }
      if s1.needsSlice c && p.handle != nullHandle then s1.toSlice (h / 32) c false
      else s1.finishAll (engineThread h) { p := p, owner := ownerThread h, ingress := x.ingress }

/-- YIELD of slot i (R45, R396): the parcel returns to the tail of its class FIFO with YIELDED = 1; a network or host parcel keeps its
parse result for the sorter (R112). It enters though queue and overflow be full (log entry 127: DESIGN CHOICE, unsafe). -/
def Dev.yieldSlot (s : Dev) (h i w : Nat) : Dev :=
  match s.slot? h i with
  | none => s.slotError h i
  | some x =>
    let d := h / 32
    let p := { x.p.engineFields (parcelOf w) with yielded := true }
    let s1 := (s.setSlot h i none).setPortStatus h 0
    ({ s1 with work := { s1.work with
        queues := Tab.ins s1.work.queues d (s1.queue d ++
          [{ seq := s1.work.seq, p := p, kept := if p.kind ≤ 2 then some x.pr else none, ingress := x.ingress }])
        seq := s1.work.seq + 1
        busy := Tab.ins s1.work.busy d true } } : Dev).wakeDrawer d

/-! ### Overruns (R44, R397) -/

/-- THREAD_OVERRUN_TRAP: two edges after the take, OVERDUE and mip.OVERRUN are set (R44, R397). -/
def Dev.overrunTrap (s : Dev) (h i : Nat) : Dev :=
  match s.slot? h i with
  | none => s
  | some x =>
    (((s.setSlot h i (some { x with overdue := true })).bump Obj.OVERRUNS (h / 32)).bump Obj.OVERRUN_TRAPS h).raise h 21

/-- Whether slot i of thread h has reached its overrun edge (R44). -/
def Dev.trapDue (s : Dev) (h i : Nat) : Bool :=
  match s.slot? h i with | some x => !x.overdue && decide (x.takeTick + 2 ≤ s.tick) | none => false

/-- THREAD_OVERRUN_TRAP (R44): slot s of thread h. -/
def execThreadOverrunTrap (h s : Nat) (st : State) : Res := onMainIf st (st.trapDue h s && decide (s < 4)) (fun t => t.overrunTrap h s)

/-- OVERRUN_DROP: the monitor retires the parcel with drop, reason 0x03 and status 0x11, and frees the slot (R44, R397). -/
def Dev.overrunDrop (s : Dev) (h i : Nat) : Dev :=
  match s.slot? h i with
  | none => s
  | some x =>
    let s1 := (s.setSlot h i none).bump Obj.OVERRUNS (h / 32)
    let s2 := { s1 with work := { s1.work with overrun := s1.work.overrun ++ [4 * h + i] } }
    (s2.finishAll (engineMonitor (h / 32)) { p := { x.p with disp := 2, dropReason := 3, status := 0x11 }, owner := ownerRack }).wakeDrawer (h / 32)

/-- Whether slot i of thread h is held to the edge after its overrun edge (R44). -/
def Dev.dropDue (s : Dev) (h i : Nat) : Bool :=
  match s.slot? h i with | some x => x.overdue && decide (x.takeTick + 3 ≤ s.tick) | none => false

/-- OVERRUN_DROP (R44): slot s of thread h. -/
def execOverrunDrop (h s : Nat) (st : State) : Res := onMainIf st (st.dropDue h s && decide (s < 4)) (fun t => t.overrunDrop h s)

/-- Step 1's overrun actions at an edge (R24, R44). -/
def Dev.overruns (s : Dev) : Dev :=
  let s1 := s.work.slots.foldl (fun t e => if t.dropDue (e.1 / 4) (e.1 % 4) then t.overrunDrop (e.1 / 4) (e.1 % 4) else t) s
  s1.work.slots.foldl (fun t e => if t.trapDue (e.1 / 4) (e.1 % 4) then t.overrunTrap (e.1 / 4) (e.1 % 4) else t) s1

end Sys2Proof.Machine
end

