-- ==== Sys2Proof/Machine/Transforms.lean ====
section
/-! DEFINITION. The transforms of parcels (R106, R107, R336, R337, R342 to R345): MACsec in both directions and IPsec ESP. -/
namespace Sys2Proof.Machine

/-- What a transform does to a parcel: its frame continues changed, or the parcel is dropped with a status, counted in a drawer counter or
none. -/
inductive Transformed where
  | frame (f : List Nat)
  | drop (status : Nat) (counter : Option Nat)
  deriving DecidableEq, Repr

/-- A parcel whose key or SA is missing, or not permitted: counted in KEY_ABSENT (R336, R349). -/
def Transformed.noKey : Transformed := .drop 0 (some Obj.KEY_ABSENT)

/-! ### MACsec (R106, R107; the SecTAG of IEEE 802.1AE) -/

/-- A SecTAG: TCI and AN, the short length, the packet number's low 32 bits, the SCI, and the tag's bytes after the addresses. -/
structure SecTag where
  tci : Nat
  sl : Nat
  pn : Nat
  sci : List Nat
  len : Nat
  deriving DecidableEq, Repr

/-- The SecTAG of a frame; without an explicit SCI the frame's source address and port 1 stand for it. -/
def secTag (f : List Nat) : SecTag :=
  let tci := nth f 14
  let sc := bit tci 5
  { tci := tci, sl := nth f 15 % 64, pn := ofBE (slice f 16 4), sci := if sc then slice f 20 8 else slice f 6 6 ++ [0, 1],
    len := if sc then 16 else 8 }

/-- Whether a cipher suite is an XPN suite (R106). -/
def isXpn (suite : Nat) : Bool := suite == 2 || suite == 3

/-- The KIND of key a cipher suite takes (R106, R349). -/
def suiteKind (suite : Nat) : Nat := if suite % 2 = 0 then 1 else 2

/-- The nonce of a frame (IEEE 802.1AE): SCI and PN, or the XPN suites' own. -/
def secNonce (suite handle : Nat) (sci : List Nat) (pn : Nat) : List Nat :=
  if isXpn suite then fit 12 (Config.xpnNonce handle (ofBE sci) pn) else sci ++ beBytes 4 (pn % 2 ^ 32)

/-- The receive SC of port p with an SCI (R107), the lowest of several. -/
def Dev.rxSc (s : Dev) (p : Nat) (sci : List Nat) : Option Nat :=
  ((s.objs.filter (fun e => e.1 / 2 ^ 32 == Obj.RX_SC_PORT && e.2 == p)).map (fun e => e.1 % 2 ^ 32)).find?
    (fun i => leBytes 8 (s.obj Obj.RX_SCI i) == sci)

/-- The 64-bit packet number that the low 32 bits stand for, given the next one expected (R106, the XPN suites). -/
def recoverPn (next lo : Nat) : Nat :=
  let hi := next / 2 ^ 32
  let n := next % 2 ^ 32
  if lo < n ∧ 2 ^ 31 < n - lo then (hi + 1) * 2 ^ 32 + lo else hi * 2 ^ 32 + lo

/-- The key of an SA's packet number: its index and its key handle (R107). -/
def saKey (i handle : Nat) : Nat := handle * 2 ^ 20 + i

/-- What the SecY of port p finds for a frame it receives (R107): none where it does not validate the frame; else its SCI's SA and key
handle, its packet number and the replay check. -/
def Dev.secBind (s : Dev) (p : Nat) (f : List Nat) : Option SecBind :=
  if s.secured p f then
    let t := secTag f
    match s.rxSc p t.sci with
    | none => some { sa := none, pn := t.pn, late := false }
    | some sc =>
      let i := 4 * sc + t.tci % 4
      let h := s.obj Obj.RX_SA_KEY i
      let next := Tab.getD s.eth.rxPn (saKey i h) 1
      let pn := if isXpn (s.obj Obj.CIPHER_SUITE p) then recoverPn next t.pn else t.pn
      some { sa := some (i, h), pn := pn, late := decide (pn + s.obj Obj.REPLAY_WINDOW p < next) }
  else none

/-- The transmit SA of a frame sent on port P: its index and key handle (R107). -/
def Dev.txSa (s : Dev) (P : Nat) (p : Parcel) : Nat × Nat :=
  let i := 4 * P + s.objAsOf p.admitTick Obj.TX_AN P
  (i, s.objAsOf p.admitTick Obj.TX_SA_KEY i)

/-- The secured data of a MACsec frame, between its SecTAG and its ICV. -/
def secData (f : List Nat) : List Nat :=
  let t := secTag f
  let body := f.drop (12 + t.len)
  if t.sl = 0 then body.take (body.length - 16) else body.take t.sl

/-- A MACsec frame with SecTAG and ICV removed, its data as received (R106, R112). -/
def secStrip (f : List Nat) : List Nat := f.take 12 ++ secData f

/-- Whether a received frame that cannot be validated goes on as it is (R106): VALIDATE_FRAMES is Check, and the frame's C bit says that its
data is unchanged (log entry 139: PRESUMED, unsafe). -/
def Dev.secPasses (s : Dev) (p : Parcel) : Bool :=
  s.obj Obj.VALIDATE_FRAMES p.source == 1 && !bit (secTag (s.frameOf p)).tci 2

/-- The bytes at the start of a MACsec frame's data that are not encrypted (R106): all of them where its E bit is 0. -/
def Dev.secClear (s : Dev) (port : Nat) (f : List Nat) : Nat :=
  let n := (secData f).length
  if bit (secTag f).tci 3 then min n (s.obj Obj.CONF_OFFSET port) else n

/-- A received MACsec frame is validated and decrypted (R106, R107, R337), with the packet number and the replay check of its admission. The
replay check is made once more when the frame has been validated, as IEEE 802.1AE has it, so that no packet number is accepted twice within the
window's lower edge (log entry 169: PRESUMED, unsafe). -/
def Dev.macsecRx (s : Dev) (p : Parcel) (i handle : Nat) (k : KeyRec) : Transformed × Dev :=
  let f := s.frameOf p
  let t := secTag f
  let suite := s.obj Obj.CIPHER_SUITE p.source
  let b : SecBind := p.sec.getD { sa := none, pn := t.pn, late := false }
  let pn := b.pn
  let next := Tab.getD s.eth.rxPn (saKey i handle) 1
  let body := f.drop (12 + t.len)
  let data := secData f
  let icv := slice body data.length 16
  let off := s.secClear p.source f
  let aad := f.take (12 + t.len) ++ data.take off
  let nonce := secNonce suite handle t.sci pn
  let ct := data.drop off
  if k.kind ≠ suiteKind suite ∨ k.permits 1 2 = false then (if s.secPasses p then .frame (secStrip f) else .noKey, s)
  else if b.late then (.drop 1 (some Obj.REPLAY_DROPS), s)
  else if bit t.tci 7 ∨ pn = 0 ∨ icv ≠ tagOf k nonce aad ct 16 then
    if s.secPasses p && !bit t.tci 7 then (.frame (secStrip f), s.bump Obj.ICV_FAILS p.exec) else (.drop 1 (some Obj.ICV_FAILS), s)
  else if pn + s.obj Obj.REPLAY_WINDOW p.source < next then (.drop 1 (some Obj.REPLAY_DROPS), s)
  else
    (.frame (f.take 12 ++ data.take off ++ aeadOpen k nonce aad ct),
      { s with eth := { s.eth with rxPn := Tab.ins s.eth.rxPn (saKey i handle) (max next (pn + 1)) } })

/-- A frame sent on a port with MACSEC_ENABLE is protected (R106, R107): its packet number is allocated, PN_THRESHOLD is notified, and an
exhausted SA drops it. -/
def Dev.macsecTx (s : Dev) (P : Nat) (f : List Nat) (i handle : Nat) (k : KeyRec) : Transformed × Dev :=
  let suite := s.obj Obj.CIPHER_SUITE P
  let pn := Tab.getD s.eth.txPn (saKey i handle) 1
  let last := if isXpn suite then 2 ^ 64 - 1 else 2 ^ 32 - 1
  if k.kind ≠ suiteKind suite ∨ k.permits 1 2 = false then (.noKey, s)
  else if last < pn then (.drop 1 (some Obj.SEQ_EXHAUSTED), s.bump Obj.MACSEC_TX_PN_EXHAUSTED P)
  else
    let data := f.drop 12
    let sci := leBytes 6 (s.obj Obj.PORT_MAC P) ++ [0, 1]
    let tag := [0x88, 0xE5, 0x2C + i % 4, if data.length < 48 then data.length else 0] ++ beBytes 4 (pn % 2 ^ 32) ++ sci
    let off := min data.length (s.obj Obj.CONF_OFFSET P)
    let aad := f.take 12 ++ tag ++ data.take off
    let nonce := secNonce suite handle sci pn
    let ct := aeadSeal k nonce aad (data.drop off)
    let s1 := { s with eth := { s.eth with txPn := Tab.ins s.eth.txPn (saKey i handle) (pn + 1) } }
    let s2 := if s.obj Obj.PN_THRESHOLD P ≤ pn + 1 ∧ s.eth.pnNotified.contains (saKey i handle) = false then
        ({ s1 with eth := { s1.eth with pnNotified := saKey i handle :: s1.eth.pnNotified } }).notify 0x2007 Obj.PN_THRESHOLD P
      else s1
    (.frame (f.take 12 ++ tag ++ data.take off ++ ct ++ tagOf k nonce aad ct 16), s2)

/-! ### ESP (R342 to R345) -/

/-- The fields of an SA record (R342). -/
structure Sa where
  seq : Nat
  spi : Nat
  threshold : Nat
  window : Nat
  icv : Nat
  nextHdr : Nat
  espDelta : Nat
  espSlot : Nat
  ipSlot : Nat
  ipDelta : Nat
  proto : Nat
  inbound : Bool
  esn : Bool
  tunnel : Bool
  valid : Bool
  map : Nat
  iv : List Nat
  deriving DecidableEq, Repr

/-- An SA record read from its 128 bytes (R342). STATIC_IV's most significant byte is the first of `iv` (log entry 171: DEDUCED, unsafe). -/
def saOf (v : Nat) : Sa :=
  { map := bits v 1023 512, seq := bits v 511 448, spi := bits v 447 416, iv := beBytes 12 (bits v 415 320), threshold := bits v 319 256,
    window := bits v 255 240, icv := bits v 239 232, nextHdr := bits v 231 224, espDelta := bits v 223 216, espSlot := bits v 215 212,
    ipSlot := bits v 211 208, ipDelta := bits v 207 200, proto := bits v 199 196, inbound := bit v 195, esn := bit v 194, tunnel := bit v 193,
    valid := bit v 192 }

/-- Handles below this have an SA record (R342, R347). -/
abbrev saHandles : Nat := 1048576

/-- The valid SA record of a handle (R342). -/
def Dev.sa? (s : Dev) (h : Nat) : Option Sa :=
  if h < saHandles then let a := saOf (s.obj Obj.SA h); if a.valid then some a else none else none

/-- Whether two SA records differ in nothing but what the slice writes (R342). -/
def Sa.like (a b : Sa) : Bool := { a with seq := b.seq, map := b.map } == b

/-- An SA record's 128 bytes with SEQ and REPLAY_MAP as the slice leaves them (R342). -/
def saPut (v seq map : Nat) : Nat := putBits (putBits v 511 448 seq) 1023 512 map

/-- The SA record with which a job works (R346): that of the handle, or, where a commit has changed that since the job began, the one it began
with. -/
def Dev.saFor (s : Dev) (j : SliceJob) (h : Nat) : Option Sa :=
  match j.sa with
  | some (g, v) => if g = h && !(saOf (s.obj Obj.SA h)).like (saOf v) then (if (saOf v).valid then some (saOf v) else none) else s.sa? h
  | none => s.sa? h

/-- SA h with its SEQ and REPLAY_MAP changed by the slice (R342). An SA that a commit has replaced lives on in the jobs that began with it
(R346). -/
def Dev.setSa (s : Dev) (h : Nat) (a : Sa) (seq map : Nat) : Dev :=
  if (saOf (s.obj Obj.SA h)).like a then s.setObj Obj.SA h (saPut (s.obj Obj.SA h) seq map)
  else
    let job (j : SliceJob) : SliceJob :=
      match j.sa with
      | some (g, v) => if g = h && (saOf v).like a then { j with sa := some (g, saPut v seq map) } else j
      | none => j
    s.updCipher (fun c => { c with jobs := c.jobs.map (fun e => (e.1, e.2.map job)) })

/-- ESP's AAD (RFC 4106, RFC 7634): SPI and the 32-bit or extended sequence number. -/
def espAad (a : Sa) (seq : Nat) : List Nat := beBytes 4 a.spi ++ if a.esn then beBytes 8 seq else beBytes 4 (seq % 2 ^ 32)

/-- ESP's nonce (RFC 4106, RFC 7634): the salt and the 8-byte IV. -/
def espNonce (a : Sa) (iv : List Nat) : List Nat := a.iv.take 4 ++ iv

/-- Where the packet of the IP header at an offset ends. -/
def ipEnd (f : List Nat) (ip : Nat) : Nat := if nth f ip / 16 = 6 then ip + 40 + be16 f (ip + 4) else ip + be16 f (ip + 2)

/-- The protocol or next header of the IP header at an offset. -/
def ipProto (f : List Nat) (ip : Nat) : Nat := if nth f ip / 16 = 6 then nth f (ip + 6) else nth f (ip + 9)

/-- The IP header at an offset with its length for a packet that ends at `stop`, its protocol, and its checksum rewritten (R343, R344). -/
def ipRewrite (f : List Nat) (ip stop proto : Nat) : List Nat :=
  if nth f ip / 16 = 6 then putAt (putAt f (ip + 4) (beBytes 2 (stop - ip - 40))) (ip + 6) [proto]
  else fixIpv4Sum (putAt (putAt f (ip + 2) (beBytes 2 (stop - ip))) (ip + 9) [proto]) ip (4 * (nth f ip % 16))

/-- The ESP and IP header offsets of an SA in a parcel (R342), if their slots are VALID. -/
def Sa.places (a : Sa) (pr : ParseResult) : Option (Nat × Nat) :=
  match pr.slots.getD a.espSlot none, pr.slots.getD a.ipSlot none with
  | some e, some i => some (e + a.espDelta, i + a.ipDelta)
  | _, _ => none

/-- What ESP seals of a frame: its data from the ESP offset to the packet's end, the padding and the trailer (R343). -/
def espPlain (a : Sa) (f : List Nat) (e ip : Nat) : List Nat :=
  let inner := slice f e (ipEnd f ip - e)
  let pad := (4 - (inner.length + 2) % 4) % 4
  inner ++ (List.range pad).map (· + 1) ++ [pad, if a.nextHdr = 0 then ipProto f ip else a.nextHdr]

/-- A frame with its protected data sealed in ESP under a sequence number (R343). -/
def espOut (a : Sa) (k : KeyRec) (f : List Nat) (e ip seq : Nat) : List Nat :=
  let stop := ipEnd f ip
  let plain := espPlain a f e ip
  let iv := beBytes 8 seq
  let ct := aeadSeal k (espNonce a iv) (espAad a seq) plain
  let esp := beBytes 4 a.spi ++ beBytes 4 (seq % 2 ^ 32) ++ iv ++ ct ++ tagOf k (espNonce a iv) (espAad a seq) ct a.icv
  ipRewrite (f.take e ++ esp ++ f.drop stop) ip (e + esp.length) 50

/-- SA h's sequence space is exhausted (R343): SEQ_EXHAUSTED is notified once. -/
def Dev.seqSpent (s : Dev) (h : Nat) : Dev :=
  if s.cipher.spent.contains h then s
  else (s.updCipher (fun g => { g with spent := h :: g.spent })).notify 0xA004 Obj.SA h

/-- SA h's SEQ moves to `seq` and its replay map to `map` (R342, R345): SA_SEQ_NOTICE where SEQ reaches SEQ_THRESHOLD. -/
def Dev.seqMove (s : Dev) (h : Nat) (a : Sa) (seq map : Nat) : Dev :=
  let s1 := s.setSa h a seq map
  if a.seq < a.threshold ∧ a.threshold ≤ seq then s1.notify 0xA003 Obj.SA h else s1

/-- Outbound ESP (R343, R345): a number is allocated, SA_SEQ_NOTICE is raised at SEQ_THRESHOLD, and an exhausted SA drops the frame and is
notified once. -/
def Dev.espSend (s : Dev) (c : SorterCtx) (h : Nat) (a : Sa) (k : KeyRec) : Transformed × Dev :=
  match a.places c.pr with
  | none => (.drop 1 none, s)
  | some (e, ip) =>
    let seq := a.seq + 1
    if (if a.esn then 2 ^ 64 else 2 ^ 32) ≤ seq then (.drop 1 (some Obj.SEQ_EXHAUSTED), s.seqSpent h)
    else (.frame (espOut a k (s.frameOf c.p) e ip seq), s.seqMove h a seq a.map)

/-- The sequence number that a received one stands for (R344; RFC 4303 Appendix A with ESN). -/
def espSeq (a : Sa) (lo : Nat) : Nat :=
  if a.esn then
    let th := a.seq / 2 ^ 32
    let tl := a.seq % 2 ^ 32
    let w := max 1 a.window
    if w - 1 ≤ tl then (if tl - (w - 1) ≤ lo then th * 2 ^ 32 + lo else (th + 1) * 2 ^ 32 + lo)
    else if 2 ^ 32 + tl - (w - 1) ≤ lo then (th + 2 ^ 32 - 1) % 2 ^ 32 * 2 ^ 32 + lo else th * 2 ^ 32 + lo
  else lo

/-- Whether a sequence number fails the replay check (R344). -/
def Sa.replayed (a : Sa) (seq : Nat) : Bool :=
  a.window != 0 && (decide (seq + a.window ≤ a.seq) || (decide (seq ≤ a.seq) && bit a.map (a.seq - seq)))

/-- REPLAY_MAP and SEQ after accepting a number (R342, R344). -/
def Sa.mark (a : Sa) (seq : Nat) : Nat × Nat :=
  if a.seq < seq then (seq, (a.map * 2 ^ min 512 (seq - a.seq) + 1) % 2 ^ 512) else (a.seq, setBit a.map (a.seq - seq) % 2 ^ 512)

/-- Inbound ESP (R344): the checks in order, then the frame with the ESP parts removed. -/
def Dev.espReceive (s : Dev) (c : SorterCtx) (h : Nat) (a : Sa) (k : KeyRec) : Transformed × Dev :=
  match a.places c.pr with
  | none => (.drop 1 none, s)
  | some (e, ip) =>
    let f := s.frameOf c.p
    let stop := ipEnd f ip
    let seq := espSeq a (ofBE (slice f (e + 4) 4))
    let iv := slice f (e + 8) 8
    let ct := slice f (e + 16) (stop - e - 16 - a.icv)
    if ofBE (slice f e 4) ≠ a.spi then (.drop 1 (some Obj.SPI_MISMATCH), s)
    else if a.replayed seq then (.drop 1 (some Obj.REPLAY_DROPS), s)
    else if stop < e + 18 + a.icv ∨ slice f (stop - a.icv) a.icv ≠ tagOf k (espNonce a iv) (espAad a seq) ct a.icv then
      (.drop 1 (some Obj.ICV_FAILS), s)
    else
      let (q, m) := a.mark seq
      let plain := aeadOpen k (espNonce a iv) (espAad a seq) ct
      let pad := nth plain (plain.length - 2)
      let nh := nth plain (plain.length - 1)
      let data := plain.take (plain.length - 2 - pad)
      let out := if a.tunnel then f.take ip ++ data ++ f.drop stop
        else ipRewrite (f.take e ++ data ++ f.drop stop) ip (e + data.length) nh
      (.frame out, s.seqMove h a q m)

/-! ### Choosing the transform (R336) -/

/-- The transform a parcel takes: a received MACsec frame's SA index and handle, a transmit port with its SA, the same for its mirror copy, or
an ESP handle. -/
inductive Which where
  | rx (i h : Nat)
  | tx (P i h : Nat)
  | copy (P i h : Nat)
  | esp (h : Nat)
  deriving DecidableEq, Repr

/-- The key handle of a transform. -/
def Which.handle : Which → Nat
  | .rx _ h => h
  | .tx _ _ h => h
  | .copy _ _ h => h
  | .esp h => h

/-- SA_HANDLE of an ACTION_META (R139). -/
def saHandle (m : Nat) : Nat := bits m 27 4

/-- The transforms of a parcel in order (R336): before the walk, the received MACsec frame's; else ESP under SA_V, and then MACsec for a
mirror copy and for a frame sent on a port with MACSEC_ENABLE. None where a received frame's SCI names no SC. The mirror copy of a punted parcel
waits for the thread's disposition. -/
def Dev.transforms (s : Dev) (c : SorterCtx) (walk : Bool) : List (Option Which) :=
  if walk then [(c.p.sec.bind SecBind.sa).map (fun x => .rx x.1 x.2)]
  else
    (if bit c.p.actMeta 1 && !c.sealed then [some (.esp (saHandle c.p.actMeta))] else []) ++
    (match s.copyPort c.p with
     | some P => if c.punt then [] else let (i, h) := s.txSa P c.p; [some (.copy P i h)]
     | none => []) ++
    (match s.ethOf c.p.leaf with
     | some P => if (c.p.disp == 1 || c.p.disp == 4) && s.flag Obj.MACSEC_ENABLE P then let (i, h) := s.txSa P c.p; [some (.tx P i h)] else []
     | none => [])

/-- The bytes of a parcel's mirror copy before its own transform (R139). -/
def Dev.copyFrame (s : Dev) (p : Parcel) : List Nat :=
  let f := s.frameOf p
  match mirrorOf p.actMeta with
  | some m => if s.obj Obj.MIRROR_TRUNCATE m = 0 then f else f.take (s.obj Obj.MIRROR_TRUNCATE m - 4)
  | none => f

/-- The bytes that a transform encrypts or decrypts (R333). -/
def Dev.protected' (s : Dev) (c : SorterCtx) (a? : Option Sa) : Which → Nat
  | .rx _ _ => let f := s.frameOf c.p; (secData f).length - s.secClear c.p.source f
  | .tx P _ _ => (s.frameOf c.p).length - 12 - s.obj Obj.CONF_OFFSET P
  | .copy P _ _ => (s.copyFrame c.p).length - 12 - s.obj Obj.CONF_OFFSET P
  | .esp _ =>
    match a?, a?.bind (fun a => a.places c.pr) with
    | some a, some (e, ip) =>
      let f := s.frameOf c.p
      if a.inbound then ipEnd f ip - e - 16 - a.icv else (espPlain a f e ip).length
    | _, _ => 0

/-- A parcel that an engine is to change in a way that cannot be repeated (R36). -/
def SorterCtx.spent (c : SorterCtx) : SorterCtx := { c with p := { c.p with idem := false } }

/-- A transform's work on a parcel with its key and the SA of its handle (R336, R337): each clears IDEMPOTENT first, an outbound one for the
number it allocates, an inbound one for the frame that it replaces and the replay state that it moves (R36; log entry 26: DESIGN CHOICE, unsafe). -/
def Dev.transform (s : Dev) (c : SorterCtx) (k : KeyRec) (a? : Option Sa) : Which → Transformed × SorterCtx × Dev
  | .rx i h => let (r, s1) := s.macsecRx c.p i h k; (r, c.spent, s1)
  | .tx P i h => let (r, s1) := s.macsecTx P (s.frameOf c.p) i h k; (r, c.spent, s1)
  | .copy P i h => let (r, s1) := s.macsecTx P (s.copyFrame c.p) i h k; (r, c.spent, s1)
  | .esp h =>
    match a? with
    | none => (.noKey, c, s)
    | some a =>
      if a.proto ≠ 1 ∨ k.permits (aeadOf k.kind) 1 = false then (.noKey, c, s)
      else if a.inbound then let (r, s1) := s.espReceive c h a k; (r, c.spent, s1)
      else let (r, s1) := s.espSend c h a k; (r, c.spent, s1)

end Sys2Proof.Machine
end

