-- ==== Sys2Proof/Machine/CipherJobs.lean ====
section
/-! DEFINITION. The cipher slices (R331 to R341, R346, R350 to R352): thread jobs, parcel jobs, key-cache misses, randomness, suspension
and alarms. -/
namespace Sys2Proof.Machine

/-! ### A slice's jobs -/

/-- The jobs of drawer d's slice, in order of arrival. -/
def Dev.sliceJobs (s : Dev) (d : Nat) : List SliceJob := Tab.getD s.cipher.jobs d []

/-- The state with the jobs of drawer d's slice replaced. -/
def Dev.setSliceJobs (s : Dev) (d : Nat) (l : List SliceJob) : Dev := s.updCipher (fun c => { c with jobs := Tab.put [] c.jobs d l })

/-- Job i of drawer d's slice replaced. -/
def Dev.setSliceJob (s : Dev) (d i : Nat) (j : SliceJob) : Dev := s.setSliceJobs d ((s.sliceJobs d).set i j)

/-- Job i of drawer d's slice leaves it. -/
def Dev.dropSliceJob (s : Dev) (d i : Nat) : Dev := s.setSliceJobs d ((s.sliceJobs d).eraseIdx i)

/-- Whether a job waits for nothing but its turn. -/
def SliceJob.ready (j : SliceJob) : Bool := !j.keyMiss && j.rngSince.isNone

/-- The place of the job whose turn is next: of the lowest class, the first (R41, R346). -/
def pickJob (l : List SliceJob) : Option Nat :=
  ((List.range 4).filterMap (fun c => l.findIdx? (fun j => j.ready && j.cls == c))).head?

/-- Whether job i of drawer d may run now: it runs already, or the slice runs none and its turn has come (R332). -/
def Dev.sliceTurn (s : Dev) (d i : Nat) : Bool :=
  let l := s.sliceJobs d
  match l[i]? with
  | some j => j.running || (!l.any SliceJob.running && pickJob l == some i)
  | none => false

/-! ### Randomness (R333 to R335) -/

/-- Drawer d's random bit generator. -/
def Dev.drbg (s : Dev) (d : Nat) : Drbg := Tab.getD s.cipher.drbgs d {}

/-- Whether the entropy source of cabinet c has failed (R334). -/
def Dev.rngFault (s : Dev) (c : Nat) : Bool := bit (s.obj Obj.RNG_STATE) c

/-- Whether drawer d's generator gives output: its reseed is not due, or its source can serve it (R334). -/
def Dev.rngOn (s : Dev) (d : Nat) : Bool :=
  !s.rngFault (d / 16) || decide (s.tick < (s.drbg d).reseeded + s.obj Obj.RESEED_INTERVAL)

/-- Up to n bytes of randomness are taken for a masked datapath (R333, R334): all of them while the generator gives output, else what its
buffer still holds. The answer says how many. -/
def Dev.takeRng (s : Dev) (d n : Nat) : Nat × Dev :=
  if s.rngOn d then (n, s)
  else
    let g := s.drbg d
    (min n g.buffer, s.updCipher (fun c => { c with drbgs := Tab.ins c.drbgs d { g with buffer := g.buffer - n } }))

/-! ### Thread jobs (R331, R338 to R341) -/

/-- The fields of a cipher job record (R338). -/
structure JobRec where
  buffer : Nat
  off : Nat
  len : Nat
  aadOff : Nat
  tagOff : Nat
  du : Nat
  iv : Nat
  key : Nat
  aadLen : Nat
  ctx : Nat
  tagLen : Nat
  alg : Nat
  last : Bool
  first : Bool
  dec : Bool
  op : Nat

/-- A cipher job record read from its 64 bytes (R338); its reserved bits are ignored (R10). -/
def jobRec (r : Nat) : JobRec :=
  { buffer := givenHandle (bits r 511 480), off := bits r 479 448, len := bits r 447 416, aadOff := bits r 415 384, tagOff := bits r 383 352,
    du := bits r 351 320, iv := bits r 319 192, key := bits r 191 168, aadLen := bits r 167 152, ctx := bits r 151 143, tagLen := bits r 135 128,
    alg := bits r 127 120, last := bit r 107, first := bit r 106, dec := bit r 105, op := bits r 7 0 }

/-- What a thread job answers: STATUS, DETAIL, BYTES and SEQ (R338). -/
structure JobOut where
  status : Nat
  detail : Nat := 0
  bytes : Nat := 0
  seq : Nat := 0

/-- The 16-byte result record, DONE set (R338). -/
def JobOut.word (o : JobOut) : Nat := o.seq % 2 ^ 64 * 2 ^ 64 + o.bytes % 2 ^ 32 * 2 ^ 32 + o.status * 2 ^ 24 + o.detail * 2 ^ 16 + 1

/-- Whether the tag length suits the algorithm (R331); XTS has none. -/
def tagLenOk (alg n : Nat) : Bool :=
  match alg with
  | 1 => n == 4 || n == 8 || decide (12 ≤ n ∧ n ≤ 16)
  | 2 => true
  | 3 => decide (4 ≤ n ∧ n ≤ 16)
  | 4 => n == 16
  | 5 => decide (16 ≤ n ∧ n ≤ 32)
  | 6 => decide (24 ≤ n ∧ n ≤ 48)
  | _ => true

/-- The plaintext limit of a message (R331); none: no limit. -/
def msgLimit (alg : Nat) : Option Nat := match alg with | 1 => some (2 ^ 36 - 32) | 4 => some (2 ^ 38 - 64) | _ => none

/-- Whether an algorithm is an AEAD. -/
def isAead (alg : Nat) : Bool := alg == 1 || alg == 4

/-- Whether an algorithm is masked, and so takes randomness (R333). -/
def isMasked (alg : Nat) : Bool := decide (1 ≤ alg ∧ alg ≤ 4) || alg == 7

/-- The bytes that a chain's buffers hold (R181). -/
def Chain.room (h : Nat) (c : Chain) : Nat := c.bufs.length * shelfSize (shelfOf h)

/-- Whether a job record keeps within *Algorithms* and its chain (R331, R338), `prev` being the bytes of the message's earlier jobs. -/
def JobRec.fits (j : JobRec) (room prev : Nat) : Bool :=
  decide (1 ≤ j.alg ∧ j.alg ≤ 7) && decide (j.len ≤ 16777216) && decide (j.off + j.len ≤ room) &&
    (j.alg == 2 || j.du == 0) &&
    (if j.alg = 2 then j.first && j.last && decide (16 ≤ j.du) && decide (j.du ≤ 16777216) && decide (0 < j.len) && j.len % j.du == 0
     else if j.alg = 7 then j.first && j.last
     else (!j.last || (tagLenOk j.alg j.tagLen && decide (j.tagOff + j.tagLen ≤ room))) &&
       (j.first && decide (j.aadOff + j.aadLen ≤ room) || !j.first && j.aadLen == 0) && (j.first && j.last || decide (j.ctx < 448)) &&
       (match msgLimit j.alg with | some m => decide (prev + j.len ≤ m) | none => true))

/-- Bytes [off, off + n) of a chain; a byte that nothing has written reads 0. -/
def Dev.chainBytes (s : Dev) (h off n : Nat) : List Nat := fit n (slice (s.chainData h) off n)

/-- Bytes written into a chain at an offset. -/
def Dev.putChain (s : Dev) (h off : Nat) (bs : List Nat) : Dev :=
  let d := s.chainData h
  s.setChainData h (putAt (d ++ List.replicate (off + bs.length - d.length) 0) off bs)

/-- One message context slot of drawer d (R339). -/
def Dev.msg? (s : Dev) (d i : Nat) : Option MsgCtx := Tab.get? s.cipher.msgs (448 * d + i)

/-- The state with a message context slot filled or freed. -/
def Dev.setMsg (s : Dev) (d i : Nat) (m : Option MsgCtx) : Dev :=
  s.updCipher (fun c => { c with msgs := match m with | some x => Tab.ins c.msgs (448 * d + i) x | none => Tab.del c.msgs (448 * d + i) })

/-- A message with this job's input added (R339): the saved context, or a new one. -/
def JobRec.message (j : JobRec) (s : Dev) (k : KeyRec) (m : Option MsgCtx) : MsgCtx :=
  let x : MsgCtx := m.getD { key := k, alg := j.alg, decrypt := j.dec, iv := leBytes 12 j.iv, aad := s.chainBytes j.buffer j.aadOff j.aadLen, input := [] }
  { x with input := x.input ++ s.chainBytes j.buffer j.off j.len }

/-- An AEAD job (R339, R340); one whose tag does not match outputs zeros, which BYTES counts (log entry 153: DEDUCED, unsafe). -/
def Dev.aeadJob (s : Dev) (d : Nat) (j : JobRec) (k : KeyRec) (m : Option MsgCtx) : JobOut × Dev :=
  let x := j.message s k m
  let prev := x.input.length - j.len
  let out := if x.decrypt then aeadOpen x.key x.iv x.aad x.input else aeadSeal x.key x.iv x.aad x.input
  let ct := if x.decrypt then x.input else out
  let tag := tagOf x.key x.iv x.aad ct j.tagLen
  let given := s.chainBytes j.buffer j.tagOff j.tagLen
  let s1 := s.putChain j.buffer j.off (out.drop prev)
  if !j.last then ({ status := 0, bytes := j.len }, s1.setMsg d j.ctx (some x))
  else
    let s2 := if j.first then s1 else s1.setMsg d j.ctx none
    if !x.decrypt then ({ status := 0, bytes := j.len }, s2.putChain j.buffer j.tagOff tag)
    else if given = tag then ({ status := 0, bytes := j.len }, s2)
    else ({ status := 1, detail := 2, bytes := j.len }, s2.putChain j.buffer j.off (List.replicate j.len 0))

/-- A CMAC or HMAC job (R339): a tag is written, or verified. -/
def Dev.macJob (s : Dev) (d : Nat) (j : JobRec) (k : KeyRec) (m : Option MsgCtx) : JobOut × Dev :=
  let x := j.message s k m
  if !j.last then ({ status := 0 }, s.setMsg d j.ctx (some x))
  else
    let tag := fit j.tagLen (Config.macTag x.alg x.key.material x.input)
    let s1 := if j.first then s else s.setMsg d j.ctx none
    if !x.decrypt then ({ status := 0, bytes := j.tagLen }, s1.putChain j.buffer j.tagOff tag)
    else if s.chainBytes j.buffer j.tagOff j.tagLen = tag then ({ status := 0 }, s1)
    else ({ status := 1, detail := 2 }, s1)

/-- The nonce of a TLS record (R341): STATIC_IV XOR the padded sequence number. -/
def tlsNonce (a : Sa) (seq : Nat) : List Nat := a.iv.zipWith (fun x y => x ^^^ y) (beBytes 12 seq)

/-- A TLS job (R341): a record is sealed or opened with the SA's next sequence number; a failed one outputs zeros (log entry 153: DEDUCED, unsafe). -/
def Dev.tlsJob (s : Dev) (d : Nat) (j : JobRec) (k : KeyRec) (a : Sa) : JobOut × Dev :=
  let n := j.len
  if 2 ^ 64 - 1 ≤ a.seq then ({ status := 0x41, detail := 8 }, (s.seqSpent j.key).bump Obj.SEQ_EXHAUSTED d)
  else if !j.dec then
    let room := match s.chain? j.buffer with | some c => c.room j.buffer | none => 0
    if 16385 < n ∨ n = 0 then ({ status := 1, detail := 9 }, s)
    else if room < j.off + n + 21 then ({ status := 1, detail := 1 }, s)
    else
      let hdr := [23, 3, 3] ++ beBytes 2 (n + 16)
      let nonce := tlsNonce a a.seq
      let ct := aeadSeal k nonce hdr (s.chainBytes j.buffer (j.off + 5) n)
      ({ status := 0, bytes := n + 21, seq := a.seq },
        (s.seqMove j.key a (a.seq + 1) a.map).putChain j.buffer j.off (hdr ++ ct ++ tagOf k nonce hdr ct 16))
  else
    let rec' := s.chainBytes j.buffer j.off n
    let hdr := rec'.take 5
    let m := n - 21
    if n < 22 ∨ 16385 < m ∨ hdr ≠ [23, 3, 3] ++ beBytes 2 (n - 5) then ({ status := 1, detail := 9 }, s)
    else
      let nonce := tlsNonce a a.seq
      let ct := slice rec' 5 m
      let s1 := s.seqMove j.key a (a.seq + 1) a.map
      if slice rec' (5 + m) 16 = tagOf k nonce hdr ct 16 then
        ({ status := 0, bytes := m, seq := a.seq }, s1.putChain j.buffer (j.off + 5) (aeadOpen k nonce hdr ct))
      else ({ status := 1, detail := 2, bytes := m, seq := a.seq }, s1.putChain j.buffer (j.off + 5) (List.replicate m 0))

/-- The use bit a thread's job needs of its key (R349). -/
def JobRec.use (j : JobRec) : Nat := if j.alg = 7 then 3 else 0

/-- What refuses a thread job before it needs its key (R331, R338, R339): STATUS and DETAIL, or none. -/
def Dev.jobRefused (s : Dev) (h : Nat) (j : JobRec) : Option JobOut :=
  let d := h / 32
  let m := s.msg? d j.ctx
  let prev := if j.first then 0 else match m with | some x => x.input.length | none => 0
  let bad : JobOut := { status := 1, detail := 1 }
  let slot : JobOut := { status := 1, detail := 7 }
  if s.alarmed d then some { status := 0x11, detail := 5 }
  else if j.op = 2 then (if j.ctx < 448 then (if m.isNone then some slot else none) else some bad)
  else if j.op ≠ 1 then some bad
  else
    match s.chain? j.buffer with
    | none => some { status := 0x40 }
    | some c =>
      if c.owner ≠ ownerThread h ∧ c.shares = 0 then some { status := 0x40 }
      else if !j.fits (c.room j.buffer) prev then some bad
      else if j.first && j.last then none
      else if j.first = m.isSome then some slot
      else none

/-- The work of a thread job that nothing refused, with its key and the SA of its handle (R338 to R341, R346). -/
def Dev.jobWork (s : Dev) (h : Nat) (j : JobRec) (k : KeyRec) (a? : Option Sa) : JobOut × Dev :=
  let d := h / 32
  let m := if j.first then none else s.msg? d j.ctx
  match j.alg with
  | 2 =>
    let bs := s.chainBytes j.buffer j.off j.len
    ({ status := 0, bytes := j.len }, s.putChain j.buffer j.off (xtsRun j.dec k.material j.du (j.len / max 1 j.du) j.iv bs))
  | 7 =>
    match a? with
    | some a => if a.proto = 2 then s.tlsJob d j k a else ({ status := 0x40, detail := 4 }, s)
    | none => ({ status := 0x40, detail := 4 }, s)
  | _ => if isAead j.alg then s.aeadJob d j k m else s.macJob d j k m

/-- A thread job ends: its result is written with DONE last, and it leaves the slice. -/
def Dev.jobEnd (s : Dev) (h i : Nat) (o : JobOut) (data : Nat) : Dev :=
  let d := h / 32
  let s1 := ((s.dropSliceJob d i).bump Obj.CJOBS d).addObj Obj.CBYTES d data
  (s1.updCipher (fun c => { c with results := Tab.ins c.results h o.word })).portDone h

/-! ### Parcel jobs (R336, R337) -/

/-- A parcel leaves the slice with a drop (R335, R337, R351): reason 0x05 and a status. -/
def Dev.parcelDropped (s : Dev) (d i : Nat) (c : SorterCtx) (status : Nat) : Dev :=
  ((s.dropSliceJob d i).bump Obj.CJOBS d).toFins { c.dropped 5 status with eng := some (engineSlice d) }

/-- A parcel goes on after its transforms (R336): to the sorter ahead of its class, or to its disposition. -/
def Dev.parcelOnward (s : Dev) (d i : Nat) (c : SorterCtx) (walk : Bool) : Dev :=
  let s1 := ((s.dropSliceJob d i).bump Obj.CJOBS d).addObj Obj.CBYTES d (s.frameOf c.p).length
  if walk then s1.pushFront d { seq := 0, p := c.p, clear := true, ingress := c.ingress }
  else s1.engineDone { c with eng := some (engineSlice d) }

/-! ### Running a job -/

/-- The key handle a job needs next, and whether it names one at all (R336, R338). -/
def Dev.jobHandle (s : Dev) (j : SliceJob) : Option Nat :=
  match j.work with
  | .thread _ r => some (jobRec r).key
  | .parcel c walk => ((s.transforms c walk)[j.stage]?.bind id).map Which.handle

/-- Bytes rounded up to whole blocks. -/
def wholeBlocks (block n : Nat) : Nat := (n + block - 1) / block * block

/-- Bytes of randomness a job takes in all (R333): those of the whole AES or ChaCha20 blocks that its protected data lie in. -/
def Dev.jobRandom (s : Dev) (j : SliceJob) (k : KeyRec) : Nat :=
  let block := if k.kind = 5 then 64 else 16
  match j.work with
  | .thread _ r => let x := jobRec r; if isMasked x.alg then wholeBlocks block x.len else 0
  | .parcel c walk =>
    match (s.transforms c walk)[j.stage]?.bind id with
    | some w => wholeBlocks block (s.protected' c (s.saFor j w.handle) w)
    | none => 0

/-- A parcel has had job j's transform (R336): it goes on to its next one, at place `stage` of those that it still has, or leaves the slice. -/
def Dev.nextStage (s : Dev) (d i stage : Nat) (j : SliceJob) (c : SorterCtx) (walk : Bool) : Dev :=
  if stage < (s.transforms c walk).length then
    s.setSliceJob d i { j with work := .parcel c walk, stage := stage, key := none, running := false, rng := 0, sa := none }
  else s.parcelOnward d i c walk

/-- The mirror copy that job j is to protect is dropped (R106; log entry 172: DESIGN CHOICE, unsafe), and its parcel goes on without it. -/
def Dev.dropCopy (s : Dev) (d i : Nat) (j : SliceJob) (c : SorterCtx) (walk : Bool) (n : Option Nat) : Dev :=
  let s1 := match n with | some oid => s.bump oid d | none => s
  s1.nextStage d i j.stage j { c with p := { c.p with actMeta := clearBit c.p.actMeta 0 } } walk

/-- Whether job j's transform is that of its parcel's mirror copy. -/
def Dev.copies (s : Dev) (c : SorterCtx) (walk : Bool) (j : SliceJob) : Bool :=
  match (s.transforms c walk)[j.stage]?.bind id with | some (.copy _ _ _) => true | _ => false

/-- A job ends for want of a usable key (R331, R336, R349): `denied` where the key is not permitted. A received MACsec frame may go on
without its SecTAG and ICV (R106), and then cannot be reissued (R36). -/
def Dev.jobNoKey (s : Dev) (d i : Nat) (j : SliceJob) (denied : Bool) : Dev :=
  match j.work with
  | .thread h _ => s.jobEnd h i (if denied then { status := 0x40, detail := 4 } else { status := 1, detail := 3 }) 0
  | .parcel c walk =>
    if walk && s.secPasses c.p then
      let (p1, s1) := s.putFrame c.p (secStrip (s.frameOf c.p))
      s1.parcelOnward d i { c with p := { p1 with idem := false } } walk
    else if s.copies c walk j then s.dropCopy d i j c walk (some Obj.KEY_ABSENT)
    else (s.bump Obj.KEY_ABSENT d).parcelDropped d i c 0

/-- A job whose key and randomness are there runs to its end (R336, R338); a parcel with a further transform goes on to it. -/
def Dev.jobFinish (s : Dev) (d i : Nat) (j : SliceJob) (k : KeyRec) : Dev :=
  match j.work with
  | .thread h r =>
    let x := jobRec r
    if !k.permits x.alg x.use then s.jobNoKey d i j true
    else let (o, s1) := s.jobWork h x k (s.saFor j x.key); s1.jobEnd h i o x.len
  | .parcel c walk =>
    match (s.transforms c walk)[j.stage]?.bind id with
    | none => s.jobNoKey d i j false
    | some w =>
      let (r, c1, s1) := s.transform c k (s.saFor j w.handle) w
      match r with
      | .drop st n =>
        if s.copies c walk j then s1.dropCopy d i j c1 walk n
        else (match n with | some oid => s1.bump oid d | none => s1).parcelDropped d i c1 st
      | .frame f =>
        if s.copies c walk j then s1.nextStage d i (j.stage + 1) j { c1 with p := { c1.p with copy := some f } } walk
        else
          let (p2, s2) := s1.putFrame c1.p f
          s2.nextStage d i (j.stage + 1) j { c1 with p := p2 } walk

/-- A job that holds its key starts, runs on, or, with `fin`, runs to its end on the randomness that its data take (R333, R334): without any it
waits. A job that ends takes what it needs then (log entry 170: DESIGN CHOICE, unsafe). -/
def Dev.sliceWork (s : Dev) (d i : Nat) (j : SliceJob) (k : KeyRec) (fin : Bool) : Dev :=
  let need := s.jobRandom j k - j.rng
  if fin then
    let (n, s1) := s.takeRng d need
    if n < need then s1.setSliceJob d i { j with rng := j.rng + n, rngSince := some s.tick, running := false }
    else s1.jobFinish d i j k
  else if need ≠ 0 ∧ s.rngOn d = false ∧ (s.drbg d).buffer = 0 then s.setSliceJob d i { j with rngSince := some s.tick, running := false }
  else s.setSliceJob d i { j with running := true, suspended := false }

/-- Job i of drawer d's slice starts or goes on (R332 to R336, R346, R350): it is refused, parks for its key, waits for randomness, runs on
(`fin` false), or ends. -/
def Dev.sliceStep (s : Dev) (d i : Nat) (j : SliceJob) (fin : Bool) : Dev :=
  match j.key with
  | some (_, k) => s.sliceWork d i j k fin
  | none =>
    match s.jobHandle j with
    | none => s.jobNoKey d i j false
    | some h =>
      match s.key? h with
      | none => s.jobNoKey d i j false
      | some k =>
        if !s.cached d h then (s.setSliceJob d i { j with keyMiss := true, running := false }).bump Obj.KEY_MISSES d
        else (s.cacheKey d h).sliceWork d i
          { j with key := some (h, k), sa := if h < saHandles then some (h, s.obj Obj.SA h) else none } k fin

/-- What keeps a job from any work at its start: an alarm, a refusal of a thread's record, or a frame that turned out bad (R95, R339, R351). -/
def Dev.sliceRun (s : Dev) (d i : Nat) (fin : Bool) : Dev :=
  match (s.sliceJobs d)[i]? with
  | none => s
  | some j =>
    match j.work with
    | .thread h r =>
      (match s.jobRefused h (jobRec r) with
       | some o => if j.running then s.sliceStep d i j fin else s.jobEnd h i o 0
       | none =>
         if (jobRec r).op = 2 then (s.setMsg d (jobRec r).ctx none).jobEnd h i { status := 0 } 0 else s.sliceStep d i j fin)
    | .parcel c _ =>
      if s.alarmed d then s.parcelDropped d i c 0x11
      else if s.rxEnd c.p.handle = .bad then s.parcelDropped d i c 0
      else s.sliceStep d i j fin

/-- Whether job i of drawer d may be run by a command now: its turn has come, its slice works, its frame is whole, and a slice that keeps a
finished parcel starts no other (R52, R95, R332). -/
def Dev.sliceGo (s : Dev) (d i : Nat) : Bool :=
  s.inService d && decide (1 ≤ s.obj Obj.SLICE_STATE d ∧ s.obj Obj.SLICE_STATE d ≤ 2) && s.sliceTurn d i &&
    (match (s.sliceJobs d)[i]? with
     | some j =>
       (match j.work with
        | .parcel c _ => s.rxEnd c.p.handle != .arriving && (j.key.isSome || j.stage != 0 || !s.rackBlocked (engineSlice d))
        | .thread _ _ => true)
     | none => false)

/-- The place of thread h's job in its slice. -/
def Dev.threadJob (s : Dev) (h : Nat) : Option Nat :=
  (s.sliceJobs (h / 32)).findIdx? (fun j => match j.work with | .thread x _ => x == h | _ => false)

/-- A thread writes a job record (R338): it joins the slice, unless the previous one lacks DONE. A thread's job has class 3 (log entry 23: DEDUCED, unsafe). -/
def Dev.jobWritten (s : Dev) (h rec : Nat) : Dev :=
  if (s.threadJob h).isSome then s
  else
    let d := h / 32
    (s.setSliceJobs d (s.sliceJobs d ++ [{ cls := 3, work := .thread h rec }])).updCipher (fun c => { c with results := Tab.ins c.results h 0 })

/-- RUN or RELEASE of a thread (R338, R339): the record is written, and its job runs if its turn has come; `fin`: to its end. -/
def Dev.threadRun (s : Dev) (h rec : Nat) (fin : Bool) : Dev :=
  let s1 := s.jobWritten h rec
  match s1.threadJob h with
  | some i => if s1.sliceGo (h / 32) i then s1.sliceRun (h / 32) i fin else s1
  | none => s1

/-- RUN (R338): a job record with OPCODE 0x01. -/
def execRunCipher (h rec : Nat) (fin : Bool) (s : State) : Res :=
  onMainIf s (decide (h < s.part.threads) && s.inService (h / 32)) (fun s => s.threadRun h (putBits rec 7 0 1) fin)

/-- RELEASE (R339): a job record with OPCODE 0x02. -/
def execRelease (h rec : Nat) (s : State) : Res :=
  onMainIf s (decide (h < s.part.threads) && s.inService (h / 32)) (fun s => s.threadRun h (putBits rec 7 0 2) true)

/-- Whether job i of drawer d's slice is a parcel's. -/
def Dev.parcelJob (s : Dev) (d i : Nat) : Bool :=
  match ((s.sliceJobs d)[i]?).map SliceJob.work with | some (.parcel _ _) => true | _ => false

/-- CIPHER_PARCEL_JOB (R336): the slice works on parcel job i, to its end if `fin`. -/
def execCipherParcelJob (d i : Nat) (fin : Bool) (s : State) : Res :=
  onMainIf s (s.parcelJob d i && s.sliceGo d i) (fun s => s.sliceRun d i fin)

/-! ### Suspension, key misses and randomness -/

/-- Work as a suspension leaves it: a parcel is yielded, and not stealable, for its context lies in the drawer store (R45, R346). -/
def SliceWork.yield (w : SliceWork) : SliceWork :=
  match w with
  | .parcel c walk => .parcel { c with p := { c.p with yielded := true, stealable := false } } walk
  | .thread h r => .thread h r

/-- CIPHER_SUSPEND (R346): the running job gives way to a waiting job of a lower class, and goes to the tail of its class; with every
suspension slot in use it runs on, and that is counted. -/
def Dev.cipherSuspend (s : Dev) (d : Nat) : Dev :=
  let l := s.sliceJobs d
  match l.findIdx? SliceJob.running with
  | none => s
  | some i =>
    match l[i]? with
    | none => s
    | some j =>
      if !l.any (fun x => !x.running && x.ready && decide (x.cls < j.cls)) then s
      else if 64 ≤ (l.filter (fun x => x.suspended)).length then s.bump Obj.SUSPEND_WITHHELD d
      else (s.setSliceJobs d (l.eraseIdx i ++ [{ j with running := false, suspended := true, work := j.work.yield }])).bump Obj.SUSPENSIONS d

/-- Step 1's budget check of the slices (R23, R43, R346). -/
def Dev.cipherBudgets (s : Dev) : Dev := s.serviceDrawers.foldl Dev.cipherSuspend s

/-- KEY_CACHE_MISS_RETURN (R350, R449): the key record is read and unwrapped into the cache, or is poisoned and counts as empty; the job
resumes. -/
def Dev.keyReturn (s : Dev) (d i : Nat) (err : Option (Nat × Nat)) : Dev :=
  match (s.sliceJobs d)[i]? with
  | none => s
  | some j =>
    let j1 := { j with keyMiss := false }
    let (good, s1) := (s.setSliceJob d i j1).lineRead true (ownerSlice d) err
    if good then
      let s2 := match s1.jobHandle j1 with | some h => s1.cacheKey d h | none => s1
      if s2.sliceGo d i then s2.sliceRun d i true else s2
    else s1.jobNoKey d i j1 false

/-- KEY_CACHE_MISS_RETURN (R350). -/
def execKeyCacheMissReturn (d i : Nat) (err : Option (Nat × Nat)) (s : State) : Res :=
  onMainIf s (s.inService d && match (s.sliceJobs d)[i]? with | some j => j.keyMiss | none => false) (fun s => s.keyReturn d i err)

/-- RNG_WAIT_TIMEOUT (R335): the job ends with 0x41. -/
def Dev.rngTimeout (s : Dev) (d i : Nat) (j : SliceJob) : Dev :=
  match j.work with
  | .thread h _ => s.jobEnd h i { status := 0x41, detail := 6 } 0
  | .parcel c _ => s.parcelDropped d i c 0x41

/-- Whether a job has waited for randomness for 2,048 ticks (R335). -/
def SliceJob.starved (j : SliceJob) (tick : Nat) : Bool := match j.rngSince with | some t => decide (t + 2048 ≤ tick) | none => false

/-- RNG_WAIT_TIMEOUT (R335). -/
def execRngWaitTimeout (d i : Nat) (s : State) : Res :=
  match (s.sliceJobs d)[i]? with
  | some j => onMainIf s (j.starved s.tick) (fun s => s.rngTimeout d i j)
  | none => ok s s.toDev

/-- DRBG_RESEED (R334): the generator takes fresh entropy, its buffer fills, and jobs that waited for randomness may run. -/
def Dev.reseed (s : Dev) (d : Nat) : Dev :=
  let s1 := s.updCipher (fun c => { c with drbgs := Tab.ins c.drbgs d { reseeded := s.tick, buffer := 4096 } })
  s1.setSliceJobs d ((s1.sliceJobs d).map (fun j => { j with rngSince := none }))

/-- DRBG_RESEED (R334): the cabinet's source has not failed. -/
def execDrbgReseed (d : Nat) (s : State) : Res := onMainIf s (s.inService d && !s.rngFault (d / 16)) (fun s => s.reseed d)

/-- RNG_FAULT (R334): the source of cabinet c fails a health test. -/
def execRngFault (c : Nat) (s : State) : Res :=
  onMainIf s (decide (c < s.part.cabinets) && !s.rngFault c) (fun s =>
    (s.setObj Obj.RNG_STATE 0 (setBit (s.obj Obj.RNG_STATE) c)).notify 0xA002 Obj.RNG_STATE c)

/-- RNG_RECOVER (R334): the source passes its start-up test. -/
def execRngRecover (c : Nat) (s : State) : Res :=
  onMainIf s (decide (c < s.part.cabinets) && s.rngFault c) (fun s => s.setObj Obj.RNG_STATE 0 (clearBit (s.obj Obj.RNG_STATE) c))

/-! ### Alarms and tests (R351, R352, R354) -/

/-- A record of the alarm log (R354). -/
def alarmRec (tick value sensor d before' : Nat) : Nat :=
  tick % 2 ^ 64 * 2 ^ 64 + value % 2 ^ 32 * 2 ^ 32 + sensor % 256 * 2 ^ 24 + d % 256 * 2 ^ 8 + before' % 256

/-- Every job of drawer d's slice ends with 0x11 (R351), at most k of them. -/
def Dev.alarmJobs (s : Dev) (d : Nat) : Nat → Dev
  | 0 => s
  | k + 1 =>
    match (s.sliceJobs d).head? with
    | none => s
    | some j =>
      (match j.work with
       | .thread h _ => s.jobEnd h 0 { status := 0x11, detail := 5 } 0
       | .parcel c _ => s.parcelDropped d 0 c 0x11).alarmJobs d k

/-- ALARM_TRIP (R351): keys, generators and contexts are erased, and every slice is ALARMED. The key table itself reads EMPTY from the next
edge. Light and fault injection have the value 0 (R354). -/
def Dev.alarmTrip (s : Dev) (d sensor value : Nat) : Dev :=
  let s1 := s.log Obj.ALARM_ENTRY 64 (alarmRec s.tick (if sensor ≤ 3 then value else 0) sensor d (s.obj Obj.SLICE_STATE d))
  let s2 := (List.range s.part.drawers).foldl (fun t e => if t.obj Obj.SLICE_STATE e ≤ 2 then t.setObj Obj.SLICE_STATE e 2 else t) s1
  let s3 := (List.range s.part.drawers).foldl (fun t e => t.alarmJobs e (t.sliceJobs e).length) s2
  let s4 := s3.updCipher (fun c => { c with kek := none, tks := [], cache := [], msgs := [], drbgs := [] })
  s4.notify 0xA001 Obj.SLICE_STATE (sensor * 256 + d)

/-- ALARM_TRIP (R351). -/
def execAlarmTrip (d sensor value : Nat) (s : State) : Res :=
  onMainIf s (s.inService d && decide (1 ≤ sensor ∧ sensor ≤ 5)) (fun s => s.alarmTrip d sensor value)

/-- KAT_DONE (R352): the slice is READY, or its drawer is fenced with cause 0x02 at the next edge (R54). -/
def Dev.katDone (s : Dev) (d : Nat) (pass : Bool) : Dev :=
  if pass then s.setObj Obj.SLICE_STATE d 1
  else if (Tab.get? s.work.fence d).isSome then s
  else { s with work := { s.work with fence := Tab.ins s.work.fence d { cause := 2, detect := s.tick } } }

/-- KAT_DONE (R352). -/
def execKatDone (d : Nat) (pass : Bool) (s : State) : Res := onMainIf s (s.inService d && s.obj Obj.SLICE_STATE d == 0) (fun s => s.katDone d pass)

/-- At an edge (R334, R351): ticks spent waiting for randomness are counted, and a key table that can no longer be unwrapped reads EMPTY. -/
def Dev.cipherEdge (s : Dev) : Dev :=
  let s1 := s.serviceDrawers.foldl (fun t d => if (t.sliceJobs d).any (fun j => j.rngSince.isSome) then t.bump Obj.RNG_STALL_TICKS d else t) s
  if s1.cipher.kek.isNone && !s1.cipher.keys.isEmpty then s1.updCipher (fun c => { c with keys := [] }) else s1

end Sys2Proof.Machine
end

