-- ==== Sys2Proof/Machine/Match.lean ====
section
/-! DEFINITION. Payload patterns (chapter 06, R144 to R152): images and banks, packet and stream scans, and the pattern result. -/
namespace Sys2Proof.Machine

/-! ### Images (R145) -/

/-- The 256-byte chunks of bank B = 2S + b, by chunk number. -/
def Dev.image (s : Dev) (B : Nat) : List (Nat × Nat) :=
  (s.pats.images.filter (fun e => e.1 / 2 ^ 20 == B)).map (fun e => (e.1 % 2 ^ 20, e.2))

/-- Bytes [a, b) of an image; bytes never written are zero. -/
def imageBytes (im : List (Nat × Nat)) (a b : Nat) : List Nat :=
  (List.range (b - a)).map (fun i =>
    let o := a + i
    match im.find? (fun e => e.1 == o / 256) with
    | some e => bits e.2 (8 * (o % 256) + 7) (8 * (o % 256))
    | none => 0)

/-- The image header as one number: bytes 0 to 63 (R145). -/
def imageHead (im : List (Nat × Nat)) : Nat := ofLE (imageBytes im 0 64)

/-- Whether an image passes the check of R145. -/
def imageOk (im : List (Nat × Nat)) : Bool :=
  let h := imageHead im
  let len := bits h 463 432
  bits h 511 480 == 0x50530001 && bits h 479 464 == 1 && decide (len ≤ 134217728)
    && crc32c 0 (imageBytes im 64 len) == bits h 399 368

/-- VERIFY_DONE: the check of bank B ends (R145). -/
def Dev.verifyDone (s : Dev) (B : Nat) : Dev :=
  let im := s.image B
  let s1 := { s with pats := { s.pats with verifying := s.pats.verifying.filter (· != B) } }
  if imageOk im then
    ((s1.setObj Obj.BANK_STATE B 2).setObj Obj.BANK_PATTERNS B (bits (imageHead im) 431 400)).setObj Obj.BANK_TAG B
      (bits (imageHead im) 367 336)
  else s1.setObj Obj.BANK_STATE B 3

/-- VERIFY_DONE (R145). -/
def execVerifyDone (S b : Nat) (s : State) : Res :=
  onMainIf s (decide (b < 2) && s.pats.verifying.contains (2 * S + b)) (fun s => s.verifyDone (2 * S + b))

/-- Every scan job of the device. -/
def Dev.scanJobs (s : Dev) : List ScanJob := s.pats.jobs.flatMap Prod.snd

/-- BANK_DRAIN_DONE: a DRAINING bank becomes LOADED once every scan begun on it has ended (R146). -/
def execBankDrainDone (S b : Nat) (s : State) : Res :=
  onMainIf s (decide (b < 2) && s.obj Obj.BANK_STATE (2 * S + b) == 5
      && !s.scanJobs.any (fun j => j.started && j.bank == 2 * S + b))
    (fun s => s.setObj Obj.BANK_STATE (2 * S + b) 2)

/-! ### Jobs -/

/-- The scan jobs of drawer d. -/
def Dev.jobsOf (s : Dev) (d : Nat) : List ScanJob := Tab.getD s.pats.jobs d []

/-- The state with drawer d's scan jobs replaced. -/
def Dev.setJobs (s : Dev) (d : Nat) (l : List ScanJob) : Dev :=
  { s with pats := { s.pats with jobs := Tab.put [] s.pats.jobs d l } }

/-- The stream contexts of drawer d, least recently used first. -/
def Dev.streamsOf (s : Dev) (d : Nat) : List StreamCtx := Tab.getD s.pats.streams d []

/-- The state with drawer d's stream contexts replaced, counted in CONTEXTS_IN_USE. -/
def Dev.setStreams (s : Dev) (d : Nat) (l : List StreamCtx) : Dev :=
  ({ s with pats := { s.pats with streams := Tab.put [] s.pats.streams d l } }).setObj Obj.CONTEXTS_IN_USE d l.length

/-- A flow's context is lost (R152). -/
def Dev.markLost (s : Dev) (ident : Nat) : Dev := { s with pats := { s.pats with lost := ident :: s.pats.lost } }

/-- A stream context is released, and its bucket's pin count falls (R38, R150). -/
def Dev.releaseStream (s : Dev) (d : Nat) (x : StreamCtx) : Dev :=
  (s.setStreams d ((s.streamsOf d).filter (fun y => y.ident != x.ident))).drop1 Obj.BUCKET_PINNED x.bucket

/-- Expired contexts of drawer d are freed (R152). -/
def Dev.expireStreams (s : Dev) (d : Nat) : Dev :=
  ((s.streamsOf d).filter (fun x =>
    decide (s.obj Obj.STREAM_IDLE x.pset ≤ (s.tick + 2 ^ 32 - x.lastTick) % 2 ^ 32))).foldl (fun t x => t.releaseStream d x) s

/-- A context becomes the most recently used of its drawer. -/
def Dev.touchStream (s : Dev) (d : Nat) (x : StreamCtx) : Dev :=
  s.setStreams d ((s.streamsOf d).filter (fun y => y.ident != x.ident) ++ [x])

/-- A new context is created, evicting the least recently used when all 4,096 are in use (R152). -/
def Dev.createStream (s : Dev) (d : Nat) (x : StreamCtx) : Dev :=
  let s1 := match s.streamsOf d with
    | y :: _ => if 4096 ≤ (s.streamsOf d).length then
        ((s.releaseStream d y).markLost y.ident).bump Obj.STREAM_EVICTIONS d else s
    | [] => s
  (s1.setStreams d (s1.streamsOf d ++ [x])).bump Obj.BUCKET_PINNED x.bucket

/-- The contexts of a bucket that leaves drawer d are lost (R152). -/
def Dev.loseBucket (s : Dev) (d b : Nat) : Dev :=
  ((s.streamsOf d).filter (fun x => x.bucket == b)).foldl (fun t x => (t.releaseStream d x).markLost x.ident) s

/-- The identity of a parcel's flow (R150). -/
def streamIdent (c : SorterCtx) : Nat := c.p.flowHash * 2 ^ 32 + crc32c 0 c.pr.key

/-- Flags of the pattern result (R149). -/
abbrev fOverflow : Nat := 0
abbrev fLimit : Nat := 1
abbrev fNoSet : Nat := 2
abbrev fOoo : Nat := 3
abbrev fRetrans : Nat := 4
abbrev fOverlap : Nat := 5
abbrev fStart : Nat := 6
abbrev fRestart : Nat := 7
/-- Model's own marks on a job: a FIN releases the context after the scan; the limit cut the segment. -/
abbrev fFin : Nat := 8
abbrev fCut : Nat := 9

/-- The active bank of set S, if it is ACTIVE (R147). -/
def Dev.activeBank (s : Dev) (S : Nat) : Option Nat :=
  let B := 2 * S + s.obj Obj.PSET_ACTIVE_BANK S
  if s.obj Obj.BANK_STATE B = 4 then some B else none

/-- The window of a scan from byte a of a frame: its end, and whether the frame goes beyond it (R147). -/
def Dev.scanWindow (s : Dev) (S a len : Nat) : Nat × Bool :=
  let lim := s.obj Obj.SCAN_LIMIT S
  (max a (min len (a + lim)), decide (a + lim < len))

/-- A job that scans nothing: the flag it sets. -/
def ScanJob.skip (j : ScanJob) (i : Nat) : ScanJob := { j with started := true, running := true, flags := setBit j.flags i, first := 0, stop := 0 }

/-- How a job starts in packet mode on bank B (R147). -/
def Dev.startPacket (s : Dev) (j : ScanJob) (B len : Nat) : ScanJob :=
  let a := j.c.pr.payload
  let (e, cut) := s.scanWindow j.pset a len
  { j with started := true, running := true, bank := B, first := a, stop := e, auto := {},
           flags := if cut then setBit j.flags fLimit else j.flags }

/-- How a job starts in stream mode on bank B (R150 to R152). -/
def Dev.startStream (s : Dev) (d : Nat) (j0 : ScanJob) (B : Nat) (f : List Nat) : ScanJob × Dev :=
  if j0.c.p.exec ≠ j0.c.p.home then (j0.skip fOoo, s.bump Obj.STREAM_OOO d)
  else
    match j0.c.pr.slots.getD (s.obj Obj.STREAM_SLOT j0.pset) none with
    | none => (j0.skip fOoo, s.bump Obj.STREAM_OOO d)
    | some tcp =>
      let id := streamIdent j0.c
      let seq := ofBE (slice f (tcp + 4) 4)
      let fl := nth f (tcp + 13)
      let a := j0.c.pr.payload
      let L := f.length - a
      let s0 := s.expireStreams d
      let ctx := (s0.streamsOf d).find? (fun x => x.ident == id)
      let j := { j0 with ident := id, bank := B, flags := if bit fl 0 then setBit j0.flags fFin else j0.flags }
      if bit fl 2 then
        ({ j with started := true, running := true }, match ctx with | some x => s0.releaseStream d x | none => s0)
      else
        let run (j : ScanJob) (a : Nat) (auto : ScanPos) (base : Nat) : ScanJob :=
          let (e, cut) := s.scanWindow j.pset a f.length
          { j with started := true, running := true, first := a, stop := e, auto := auto, base := base,
                   flags := if cut then setBit (setBit j.flags fLimit) fCut else j.flags }
        let start : ScanPos := {}
        let next := (seq + L + (if bit fl 1 then 1 else 0)) % 2 ^ 32
        match ctx with
        | none =>
          let lost := s0.pats.lost.contains id
          let x : StreamCtx := { ident := id, bucket := bucketOf j.c.p.flowHash, classes := 0, auto := start, nextSeq := next,
                                 lastTick := s.tick % 2 ^ 32, pset := j.pset, bank := B }
          let s1 := { s0 with pats := { s0.pats with lost := s0.pats.lost.filter (· != id) } }
          let s2 := s1.createStream d x
          (run { j with flags := setBit j.flags (if lost then fRestart else fStart) } a start 0,
            if lost then s2.bump Obj.STREAM_RESTARTS d else s2)
        | some x =>
          let x' := { x with lastTick := s.tick % 2 ^ 32 }
          if x.bank ≠ B ∨ x.pset ≠ j.pset then
            (run { j with flags := setBit j.flags fRestart } a start 0,
              (s0.touchStream d { x' with bank := B, pset := j.pset, classes := 0, auto := start, nextSeq := next }).bump
                Obj.STREAM_RESTARTS d)
          else
            let dd := (seq + 2 ^ 32 - x.nextSeq) % 2 ^ 32
            let stop := (seq + L) % 2 ^ 32
            if dd = 0 then (run j a x.auto x.classes, s0.touchStream d { x' with nextSeq := (x.nextSeq + L) % 2 ^ 32 })
            else if dd < 2 ^ 31 then ({ (j.skip fOoo) with base := x.classes }, s0.bump Obj.STREAM_OOO d)
            else
              let ahead := (stop + 2 ^ 32 - x.nextSeq) % 2 ^ 32
              if 0 < ahead ∧ ahead < 2 ^ 31 then
                (run { j with flags := setBit j.flags fOverlap } (a + (2 ^ 32 - dd)) x.auto x.classes,
                  s0.touchStream d { x' with nextSeq := stop })
              else ({ (j.skip fRetrans) with base := x.classes }, (s0.touchStream d x').bump Obj.STREAM_OOO d)

/-- A job starts its scan (R146, R147): on the set's active bank, or with NO_SET. -/
def Dev.startJob (s : Dev) (d : Nat) (j : ScanJob) : ScanJob × Dev :=
  let f := s.frameOf j.c.p
  match s.activeBank j.pset with
  | none => (j.skip fNoSet, s)
  | some B => if j.stream then s.startStream d j B f else (s.startPacket j B f.length, s)

/-- The last n elements of a list. -/
def lastOf (n : Nat) (l : List Nat) : List Nat := l.drop (l.length - n)

/-- Whether a pattern of 1 to 256 bytes matches with its last byte the last one scanned (R144, R147): a floating pattern anywhere, an anchored
one only where it starts at the first byte. -/
def patternEnds (p : Config.Pattern) (count : Nat) (seen : List Nat) : Bool :=
  decide (1 ≤ p.bytes.length ∧ p.bytes.length ≤ 256) && decide (p.bytes.length ≤ count)
    && (!p.anchored || p.bytes.length == count) && lastOf p.bytes.length seen == p.bytes

/-- The automaton over some bytes from a position (R147, R149): the patterns matched as (id, class, bytes scanned at the match's end), and the
position after the last byte. -/
def scanBytes (ps : List Config.Pattern) : ScanPos → List Nat → Nat → List (Nat × Nat × Nat) × ScanPos
  | a, [], _ => ([], a)
  | a, b :: bs, n =>
    let seen := a.tail ++ [b]
    let now := (ps.filter (fun p => patternEnds p (a.count + 1) seen)).map (fun p => (p.id % 2 ^ 20, p.cls % 256, n + 1))
    let (rest, e) := scanBytes ps { count := a.count + 1, tail := lastOf 255 seen } bs (n + 1)
    (now ++ rest, e)

/-- n bytes of a job are scanned (R147, R149). -/
def Dev.advance (s : Dev) (j : ScanJob) (n : Nat) : ScanJob :=
  let bytes := slice (s.frameOf j.c.p) (j.first + j.pos) n
  let (hits, a) := scanBytes (Config.patterns (s.image j.bank)) j.auto bytes j.pos
  { j with pos := j.pos + bytes.length, auto := a, hits := j.hits ++ hits }

/-- Matches in the order of the pattern result: by the offset at which they end, then by id; each pattern once (R149). -/
def orderHits (l : List (Nat × Nat × Nat)) : List (Nat × Nat × Nat) :=
  let sorted := l.mergeSort (fun a b => decide (a.2.2 < b.2.2) || (a.2.2 == b.2.2 && decide (a.1 ≤ b.1)))
  sorted.foldl (fun acc h => if acc.any (fun x => x.1 == h.1) then acc else acc ++ [h]) []

/-- The pattern result of a finished job (R149). -/
def ScanJob.result (j : ScanJob) : PatternResult :=
  let hs := orderHits j.hits
  let classes := (j.hits.map (fun h => h.2.1 % 256)).foldl setBit j.base
  { classes := classes, ids := (hs.take 8).map Prod.fst, count := min 255 hs.length,
    flags := (if 8 < hs.length then setBit j.flags fOverflow else j.flags) % 256, scanned := j.pos, pset := j.pset }

/-- A stream's context takes what the scan left (R150, R151). -/
def Dev.streamEnd (s : Dev) (d : Nat) (j : ScanJob) : Dev :=
  match (s.streamsOf d).find? (fun x => x.ident == j.ident) with
  | none => s
  | some x =>
    if !j.stream || j.stop == 0 then (if j.stream && bit j.flags fFin && j.stop != 0 then s.releaseStream d x else s)
    else
      let x1 := { x with auto := if bit j.flags fCut then {} else j.auto, classes := j.result.classes }
      let s1 := s.touchStream d x1
      if bit j.flags fFin then s1.releaseStream d x1 else s1

/-- A finished job leaves the matcher, and the sorter makes the parcel's second lookup (R147, R149). -/
def Dev.endJob (s : Dev) (d i : Nat) (j : ScanJob) : Dev :=
  let s1 := s.setJobs d ((s.jobsOf d).eraseIdx i)
  let s2 := s1.streamEnd d j
  let s3 := if j.stop = 0 then s2 else (s2.bump Obj.SCANS d).addObj Obj.SCANNED_BYTES d j.pos
  s3.secondLookup d (s3.freeCtx d) { j.c with pat := j.result } j.table

/-- PATTERN_SCAN: job i of drawer d starts or goes on, to its end or to an automaton line missing from the cabinet cache after some bytes
(R147, R148). -/
def Dev.patternScan (s : Dev) (d i : Nat) (miss : Option Nat) : Dev :=
  match (s.jobsOf d)[i]? with
  | none => s
  | some j0 =>
    if s.rxEnd j0.c.p.handle = .bad then
      (s.setJobs d ((s.jobsOf d).eraseIdx i)).toFins { j0.c.dropped 5 0 with eng := some (engineMatcher d) }
    else
      let (j1, s1) := if j0.started then ({ j0 with running := true }, s) else s.startJob d j0
      let left := j1.stop - j1.first - j1.pos
      match miss with
      | some n =>
        if n < left then
          (s1.setJobs d ((s1.jobsOf d).set i { (s1.advance j1 n) with parked := true })).bump Obj.MATCH_CACHE_MISSES d
        else s1.endJob d i (s1.advance j1 left)
      | none => s1.endJob d i (s1.advance j1 left)

/-- Whether job j of drawer d may go on or start: four scan contexts, class order, one job of a flow at a time, and the frame whole
(R43, R95, R148), and a matcher that keeps a finished parcel starts none (R52). -/
def Dev.scanReady (s : Dev) (d : Nat) (j : ScanJob) : Bool :=
  let l := s.jobsOf d
  s.inService d && !j.parked && s.rxEnd j.c.p.handle != .arriving && (j.started || !s.rackBlocked (engineMatcher d)) &&
    (j.running || (decide ((l.filter (fun x => x.running)).length < 4)
      && !l.any (fun x => !x.running && decide (x.c.p.cls < j.c.p.cls))
      && !(j.stream && l.any (fun x => x.running && x.stream && streamIdent x.c == streamIdent j.c))))

/-- PATTERN_SCAN (R147). -/
def execPatternScan (d i : Nat) (miss : Option Nat) (s : State) : Res :=
  onMainIf s (match (s.jobsOf d)[i]? with | some j => s.scanReady d j | none => false) (fun s => s.patternScan d i miss)

/-- MATCHER_CACHE_MISS_RETURN: the missing line arrives; poisoned data ends the scan with NO_SET (R148, R449). A matcher has no
owner id (R183): the requester of the record is a free value (log entry 184: DESIGN CHOICE, unsafe). -/
def Dev.missReturn (s : Dev) (d i : Nat) (err : Option (Nat × Nat)) : Dev :=
  match (s.jobsOf d)[i]? with
  | none => s
  | some j =>
    let (who, s0) := s.fresh
    let (good, s1) := s0.lineRead false (who % 65536) err
    if good then s1.setJobs d ((s1.jobsOf d).set i { j with parked := false })
    else s1.endJob d i { j with parked := false, flags := setBit j.flags fNoSet, stop := 0, hits := [] }

/-- MATCHER_CACHE_MISS_RETURN (R148). -/
def execMatcherCacheMissReturn (d i : Nat) (err : Option (Nat × Nat)) (s : State) : Res :=
  onMainIf s (match (s.jobsOf d)[i]? with | some j => j.parked | none => false) (fun s => s.missReturn d i err)

/-- A running job of drawer d that waits for nothing. -/
def Dev.matcherRuns (s : Dev) (d i : Nat) : Bool := match (s.jobsOf d)[i]? with | some j => j.running && !j.parked | none => false

/-- MATCHER_SUSPEND: at an edge the running job i stops after n more bytes, and gives way to a waiting parcel of a lower class (R43); its parcel
then is yielded, and not stealable, for its automaton position lies in the drawer store (R45). -/
def Dev.matcherSuspend (s : Dev) (d i n : Nat) : Dev :=
  match (s.jobsOf d)[i]? with
  | none => s
  | some j =>
    let j1 := s.advance j (min n (j.stop - j.first - j.pos))
    let lower := (s.jobsOf d).any (fun x => !x.running && decide (x.c.p.cls < j.c.p.cls))
    let c := if lower then { j1.c with p := { j1.c.p with yielded := true, stealable := false } } else j1.c
    s.setJobs d ((s.jobsOf d).set i { j1 with running := !lower, c := c })

/-- Step 1's budget check of the matchers (R23, R43): every running job is suspended; how far it came in the tick, a matter of timing, is a
free value (log entry 5: DESIGN CHOICE, safe). -/
def Dev.matcherBudgets (s : Dev) : Dev :=
  s.pats.jobs.foldl (fun t e => (List.range e.2.length).foldl (fun u i =>
    if u.matcherRuns e.1 i then let (n, u1) := u.fresh; u1.matcherSuspend e.1 i n else u) t) s

end Sys2Proof.Machine
end

