-- ==== Sys2Proof/Machine/Memory.lean ====
section
/-! DEFINITION. Memory by device physical address (R33, R446 to R456): the regions of GDDR6, bytes of the stores and of GDDR6, and
poisoned lines. -/
namespace Sys2Proof.Machine

/-! ### Bytes -/

/-- The byte at an address of a memory; an unlisted address reads 0. -/
def memGet : List Host.Cell → Nat → BitVec 8
  | [], _ => 0#8
  | (k, v) :: t, a => if a = k then v else memGet t a

/-- The memory with a byte listed at an address. -/
def memIns : List Host.Cell → Nat → BitVec 8 → List Host.Cell
  | [], a, b => [(a, b)]
  | (k, v) :: t, a, b =>
    if a = k then (a, b) :: t
    else if a < k then (a, b) :: (k, v) :: t
    else (k, v) :: memIns t a b

/-- The memory with a byte at an address; a byte of 0 is not listed. -/
def memPut (m : List Host.Cell) (a : Nat) (b : BitVec 8) : List Host.Cell :=
  if b = 0#8 then m.filter (fun c => c.1 != a) else memIns m a b

/-- Every address of the memory is above a bound and the addresses rise, and no listed byte is 0. -/
def memAbove : Nat → List Host.Cell → Bool
  | _, [] => true
  | n, (k, v) :: t => decide (n < k) && v != 0#8 && memAbove k t

/-- The canonical form: addresses rise strictly, and no listed byte is what an unlisted address reads as. -/
def Memory.wf : List Host.Cell → Bool
  | [] => true
  | (k, v) :: t => v != 0#8 && memAbove k t

/-- The byte at an address of the device's memory. -/
def Dev.byte (s : Dev) (a : Nat) : Nat := (memGet s.mem a).toNat

/-- The state with a byte of memory written. -/
def Dev.putByte (s : Dev) (a b : Nat) : Dev := { s with mem := memPut s.mem a (BitVec.ofNat 8 b) }

/-- n bytes from an address. -/
def Dev.bytesAt (s : Dev) (a n : Nat) : List Nat := (List.range n).map (fun i => s.byte (a + i))

/-- The state with bytes written from an address. -/
def Dev.putBytes (s : Dev) : Nat → List Nat → Dev
  | _, [] => s
  | a, b :: bs => (s.putByte a b).putBytes (a + 1) bs

/-! ### Buffers as memory (R179) -/

/-- The buffer that holds an address, with the offset in it. -/
def Dev.bufAt (s : Dev) (a : Nat) : Option (Nat × Nat) :=
  ([0, 1, 2, 3, 4, 5].find? (fun f =>
    decide (s.shelfAddr f ≤ a ∧ a < s.shelfAddr f + s.obj Obj.SHELF_BUFFERS f * shelfSize f))).map
    (fun f => (handleOf f ((a - s.shelfAddr f) / shelfSize f), (a - s.shelfAddr f) % shelfSize f))

/-- The chain and the offset in its data of an address in a held buffer. -/
def Dev.chainAt (s : Dev) (a : Nat) : Option (Nat × Nat) :=
  match s.bufAt a with
  | none => none
  | some (h, o) =>
    (s.shelves.chains.findSome? (fun e => (e.2.bufs.idxOf? h).map (fun i => (e.1, i * shelfSize (shelfOf h) + o))))

/-- The buffer whose record holds an address, with the offset in the record (R179): a shelf's records follow its buffers. -/
def Dev.recordAt (s : Dev) (a : Nat) : Option (Nat × Nat) :=
  let base (f : Nat) : Nat := s.shelfAddr f + s.obj Obj.SHELF_BUFFERS f * shelfSize f
  ([0, 1, 2, 3, 4, 5].find? (fun f => decide (base f ≤ a ∧ a < base f + s.obj Obj.SHELF_BUFFERS f * 16))).map
    (fun f => (handleOf f ((a - base f) / 16), (a - base f) % 16))

/-- Bytes of a chain's data that are there: of a frame still arriving, those that have arrived. -/
def Dev.dataHeld (s : Dev) (h : Nat) (c : Chain) : Nat :=
  match (s.eth.ports.filterMap (fun e => e.2.rx)).find? (fun r => r.chain == h) with
  | some r => c.data.length - (r.held - 4 - r.arrived)
  | none => c.data.length

/-- The fields of a buffer record as its 16 bytes (R181). -/
def recordWord (next owner shares fill state head tick : Nat) : Nat :=
  next % 2 ^ 32 * 2 ^ 96 + owner % 2 ^ 16 * 2 ^ 80 + shares % 2 ^ 16 * 2 ^ 64 + fill % 2 ^ 17 * 2 ^ 47 + state % 8 * 2 ^ 44 + head % 2 * 2 ^ 43 +
    tick % 2 ^ 32

/-- STATE of a chain (R181, R191): 1 HELD, 2 SHARED, 3 DEFERRED. -/
def Chain.state (c : Chain) : Nat := if c.deferred then 3 else if 0 < c.shares then 2 else 1

/-- The record of buffer b in the chain with head h (R181). LAST_OWNER and SHARES of a buffer that is no head read as in R196 (log entry 141: DESIGN CHOICE, unsafe). -/
def Dev.chainRecord (s : Dev) (h : Nat) (c : Chain) (b : Nat) : Option Nat :=
  match c.bufs.idxOf? b with
  | some i =>
    let size := shelfSize (shelfOf h)
    let head := b == h
    some (recordWord (c.bufs.getD (i + 1) nullHandle) (if head then c.owner else 0xFFFF) (if head then c.shares else 0)
      (min size (s.dataHeld h c - i * size)) c.state (ofBool head) c.allocTick)
  | none => if c.reserved.contains b then some (recordWord nullHandle 0xFFFF 0 0 4 0 c.allocTick) else none

/-- The record of buffer b (R181): a free buffer's is as at reset (log entry 141: DESIGN CHOICE, unsafe). -/
def Dev.bufferRecord (s : Dev) (b : Nat) : Nat :=
  (s.shelves.chains.findSome? (fun e => s.chainRecord e.1 e.2 b)).getD (recordWord nullHandle 0xFFFF 0 0 0 0 0)

/-- Whether an address lies in region r of GDDR6. -/
def Dev.inRegion (s : Dev) (r a : Nat) : Bool := decide (s.regionBase r ≤ a ∧ a < s.regionBase r + s.regionBytes r)

/-- A byte by physical address: of a buffer's record, of the chain that holds it, of a volatile block (region 9, R308), of the extent table
(region 10, R306), or of memory. -/
def Dev.load1 (s : Dev) (a : Nat) : Nat :=
  match s.recordAt a with
  | some (b, o) => s.bufferRecord b / 256 ^ o % 256
  | none =>
    match s.chainAt a with
    | some (h, o) => nth (s.chainData h) o
    | none =>
      if s.inRegion 9 a then Tab.getD s.storage.volatile (a - s.regionBase 9) 0
      else if s.inRegion 10 a then s.obj Obj.EXTENT ((a - s.regionBase 10) / 32) / 256 ^ ((a - s.regionBase 10) % 32) % 256
      else s.byte a

/-- The state with a byte stored by physical address. The fields of a buffer's record are the manager's, and a store to one changes nothing
(R181; log entry 141: DESIGN CHOICE, unsafe). -/
def Dev.store1 (s : Dev) (a b : Nat) : Dev :=
  if (s.recordAt a).isSome then s
  else
    match s.chainAt a with
    | some (h, o) =>
      match s.chain? h with
      | some c => s.setChain h { c with data := putAt (c.data ++ List.replicate (o - c.data.length) 0) o [b] }
      | none => s
    | none =>
      if s.inRegion 9 a then
        { s with storage := { s.storage with volatile := Tab.put 0 s.storage.volatile (a - s.regionBase 9) (b % 256) } }
      else if s.inRegion 10 a then
        let x := (a - s.regionBase 10) / 32
        s.setObj Obj.EXTENT x (ofLE (putAt (leBytes 32 (s.obj Obj.EXTENT x)) ((a - s.regionBase 10) % 32) [b % 256]))
      else s.putByte a b

/-- n bytes by physical address. -/
def Dev.loadN (s : Dev) (a n : Nat) : List Nat := (List.range n).map (fun i => s.load1 (a + i))

/-- The state with bytes stored by physical address. -/
def Dev.storeN (s : Dev) : Nat → List Nat → Dev
  | _, [] => s
  | a, b :: bs => (s.store1 a b).storeN (a + 1) bs

end Sys2Proof.Machine
end

