-- ==== Sys2Proof/Machine/Postmark.lean ====
section
/-! DEFINITION. The postmark unit's corrections and pins (R359 to R365, R374 to R377). -/
namespace Sys2Proof.Machine

/-! ### Corrections (R359 to R365) -/

/-- A correction of time base e is refused (R363): a flag, REFUSALS and a notification with the value refused. -/
def Dev.tbRefuse (s : Dev) (e flagBit code v : Nat) : Dev :=
  ((s.setObj Obj.TB_FLAGS e (setBit (s.obj Obj.TB_FLAGS e) flagBit)).bump Obj.REFUSALS e).notify code Obj.TB_FLAGS (e + v % 2 ^ 160 * 2 ^ 64)

/-- ARM (R364): the time base is ARMED, and the refusal flags clear. -/
def Dev.tbArm (s : Dev) (e : Nat) : Dev :=
  (s.setObj Obj.TB_STATE e 0).setObj Obj.TB_FLAGS e (s.obj Obj.TB_FLAGS e / 8 * 8)

/-- SET (R360, R363) with a value of 20 bytes: the status and the state. -/
def Dev.tbSet (s : Dev) (e v : Nat) : Nat × Dev :=
  let A := v / 2 ^ 96 % 2 ^ 64
  if s.obj Obj.TB_STATE e ≠ 0 then (1, s.tbRefuse e 1 0xB002 v)
  else if s.tick < A ∨ A + 2 ^ 20 < s.tick then (1, s)
  else
    let b := s.tb e
    (0, (s.setTb e { b with val := ofTime96 (v % 2 ^ 96) + (((s.tick - A) * 512 * nsUnit : Nat) : Int), slew := 0 }).setObj Obj.TB_STATE e 1)

/-- ADJ_FREQ (R361): FREQ is replaced by the value, clamped before; FREQ_CLAMPED where it was. -/
def Dev.tbFreq (s : Dev) (e v : Nat) (clamped : Bool) : Dev :=
  let s1 := s.setTb e { s.tb e with freq := toSigned 64 v }
  if clamped then s1.setObj Obj.TB_FLAGS e (setBit (s1.obj Obj.TB_FLAGS e) 2) else s1

/-- ADJ_PHASE (R362, R363): added to the remaining slew, or refused beyond JUMP_THRESHOLD. -/
def Dev.tbPhase (s : Dev) (e v : Nat) : Nat × Dev :=
  let left : Rat := (s.tb e).slew + (toSigned 64 v : Rat) / 65536
  let lim : Rat := (s.obj Obj.JUMP_THRESHOLD e : Rat)
  if lim < left ∨ left < -lim then (1, s.tbRefuse e 0 0xB001 v) else (0, s.setTb e { s.tb e with slew := left })

/-- The session key that stands for drawer d's correction port among accepted writes (R359, R365). -/
def portKey (d : Nat) : Nat := 0x30000 + d

/-- The object, value, and whether the value was clamped, of a correction record; none where its OPCODE is none, or its TIME no TIME96 (R62, R361, R365). The
reserved bits, and TIME where the operation has none, are ignored (R10). -/
def corrValue (op rec : Nat) : Option (Nat × Nat × Bool) :=
  let arg := bits rec 255 192
  let time := bits rec 191 96
  match op with
  | 1 => if time96Ok time then some (Obj.TB_SET, time + arg * 2 ^ 96, false) else none
  | 2 =>
    let v := clampInt (-65536000000) 65536000000 (toSigned 64 arg)
    some (Obj.TB_ADJ_FREQ, ofSigned 64 v, v != toSigned 64 arg)
  | 3 => some (Obj.TB_ADJ_PHASE, arg, false)
  | _ => none

/-- The result record of a correction port, DONE set (R365). -/
def corrResult (tick status : Nat) : Nat := tick % 2 ^ 64 * 2 ^ 64 + status % 256 * 2 ^ 24 + 1

/-- The correction of drawer d that thread h wrote ends: the result is written with DONE last (R365). -/
def Dev.corrDone (s : Dev) (d h status : Nat) : Dev :=
  ({ s with postmark := { s.postmark with
      results := Tab.ins s.postmark.results d (corrResult s.tick status)
      busy := s.postmark.busy.filter (· != d) } }).portDone h

/-- What a correction record asks for (R365): the items to apply, or the status with which the edge refuses it: where its time base admits no
threads, and otherwise where its OPCODE or its TIME is no legal value. -/
def Dev.corrItems (s : Dev) (op rec : Nat) : List Staged × Option Nat :=
  let e := bits rec 10 8
  if s.obj Obj.TB_THREADS e ≠ 1 then ([], some 0x40)
  else
    match corrValue op rec with
    | none => ([], some 0x01)
    | some (oid, v, c) => ([{ oid := oid, inst := e, written := if op = 2 then bits rec 255 192 else v, value := v, clamped := c }], none)

/-- Thread h writes a correction record (R365): it is applied or refused at the next edge in its turn (R359). -/
def Dev.correction (s : Dev) (h op rec : Nat) : Dev :=
  let d := h / 32
  if s.postmark.busy.contains d then s
  else
    let x := s.corrItems op rec
    let a : Accepted :=
      { key := portKey d, who := .owner, fn := 0xFFFF, id := 0, rw := true, seq := h, tick := s.tick, items := x.1, refused := x.2 }
    { s with
      bureau := { s.bureau with accepted := s.bureau.accepted ++ [a] }
      postmark := { s.postmark with busy := d :: s.postmark.busy, results := Tab.ins s.postmark.results d 0 } }

/-- A correction record of thread h with an OPCODE (R365). -/
def corrCmd (h op rec : Nat) (s : State) : Res :=
  onMainIf s (decide (h < s.part.threads) && s.inService (h / 32)) (fun s => s.correction h op rec)

/-- SET (R360): OPCODE 0x01. -/
def execSetTime (h rec : Nat) (s : State) : Res := corrCmd h 1 rec s

/-- ADJ_FREQ (R361): OPCODE 0x02. -/
def execAdjFreq (h rec : Nat) (s : State) : Res := corrCmd h 2 rec s

/-- ADJ_PHASE (R362): OPCODE 0x03. -/
def execAdjPhase (h rec : Nat) (s : State) : Res := corrCmd h 3 rec s

/-! ### Pins (R374 to R377) -/

/-- One second in the unit's 2^-48 ns. -/
abbrev secUnits : Int := 1000000000 * 2 ^ 48

/-- The pins, as the detail of their events carries them (R379); the spec gives them no numbers (log entry 180: DESIGN CHOICE, unsafe). -/
def pinPpsOut : Nat := 1
def pinPpsIn : Nat := 2
def pinRef10m : Nat := 3

/-- The time base of PPS_OUT moved ahead by PPS_OUT_DELAY, at the edge of the present tick and at the next (R374), in 2^-48 ns. -/
def Dev.ppsSpan (s : Dev) : Int × Int :=
  let e := s.obj Obj.PPS_OUT_TB
  let d : Int := nsFloor ((s.objI32 Obj.PPS_OUT_DELAY : Rat) / 1000)
  ((s.tb e).val + d, ((s.tb e).tick (s.obj Obj.SLEW_LIMIT e)).val + d)

/-- The whole second that PPS_OUT is to rise for in the present tick (R374): PPS_OUT_DELAY before the time base crosses it, at the tick's edge
or after it and before the next. -/
def Dev.ppsDue (s : Dev) : Option Int :=
  let e := s.obj Obj.PPS_OUT_TB
  if 8 ≤ e then none
  else
    let (a, b) := s.ppsSpan
    let k := -((-a) / secUnits)
    if k * secUnits < b ∧ s.postmark.ppsSeconds.contains (e, k) = false then some k else none

/-- The capture count at which PPS_OUT rises for second k in the present tick, to 125 ps downward (R374; log entry 181: DESIGN CHOICE, unsafe). -/
def Dev.ppsCount (s : Dev) (k : Int) : Nat :=
  let (a, b) := s.ppsSpan
  4096 * s.tick + ((k * secUnits - a) * 4096 / max 1 (b - a)).toNat

/-- The level of PPS_OUT at a capture count (R374, R376): none at high impedance. -/
def Dev.ppsLevel (s : Dev) (C : Nat) : Option Bool :=
  if bit (s.obj Obj.PPS_STATUS) 2 then none
  else some (match s.postmark.ppsHigh with | some (r, f) => decide (r ≤ C ∧ C < f) | none => false)

/-- PPS_OUT_PULSE (R374, R376): the pin rises, and stays high for PPS_OUT_WIDTH; three read-backs that disagree put it at high impedance. -/
def Dev.ppsPulse (s : Dev) (agree : Bool) (k : Int) : Dev :=
  let n := s.postmark.ppsBad + if agree then 0 else 1
  let C := s.ppsCount k
  let w := s.obj Obj.PPS_OUT_WIDTH
  let s1 := ({ s with postmark := { s.postmark with
    ppsSeconds := (s.obj Obj.PPS_OUT_TB, k) :: s.postmark.ppsSeconds, ppsBad := n, ppsHigh := some (C, C + 8 * w) } }).emit (.ppsOut k C w)
  if 3 ≤ n then (s1.setObj Obj.PPS_STATUS 0 (setBit (setBit (s1.obj Obj.PPS_STATUS) 1) 2)).notify 0xB003 Obj.PPS_STATUS pinPpsOut else s1

/-- PPS_OUT is held low from now: PPS_OUT_TB names no time base (R374). -/
def Dev.ppsLow (s : Dev) : Dev := { s with postmark := { s.postmark with ppsHigh := none } }

/-- PPS_OUT_PULSE (R374): `agree`: the level read back is the level driven. -/
def execPpsOutPulse (agree : Bool) (s : State) : Res :=
  match s.ppsDue with
  | some k => onMainIf s (!bit (s.obj Obj.PPS_STATUS) 2) (fun s => s.ppsPulse agree k)
  | none => ok s s.toDev

/-- PPS_OUT_RESTORE (R376): the pin is driven again. -/
def Dev.ppsRestore (s : Dev) : Dev :=
  ({ s with postmark := { s.postmark with ppsBad := 0 } }).setObj Obj.PPS_STATUS 0 (clearBit (clearBit (s.obj Obj.PPS_STATUS) 1) 2)

/-- PPS_IN_EDGE (R375): the edge captured at count `cap`, moved back by PPS_IN_DELAY, is stamped on every time base. -/
def Dev.ppsIn (s : Dev) (cap : Nat) : Dev :=
  let delay : Rat := (s.objI32 Obj.PPS_IN_DELAY : Rat) / 1000
  let s1 := (List.range 8).foldl (fun t e => t.setObj Obj.PPS_IN_CAPTURE e (time96 (nsFloor (s.tbAt e cap - delay)))) s
  let s2 := (s1.bump Obj.PPS_IN_COUNT).setObj Obj.PPS_STATUS 0 (setBit (s.obj Obj.PPS_STATUS) 0)
  { s2 with postmark := { s2.postmark with ppsInTick := s2.tick } }

/-- PPS_IN_EDGE (R375): a capture of the present tick (R356). -/
def execPpsInEdge (cap : Nat) (s : State) : Res := onMainIf s (cap / 4096 == s.tick) (fun s => s.ppsIn cap)

/-- PPS_IN_LOST (R375): an active input without an edge for 2 s, 3,906,250 ticks. -/
def execPpsInLost (s : State) : Res :=
  onMainIf s (bit (s.obj Obj.PPS_STATUS) 0 && decide (s.postmark.ppsInTick + 3906250 ≤ s.tick)) (fun s =>
    (s.setObj Obj.PPS_STATUS 0 (clearBit (s.obj Obj.PPS_STATUS) 0)).notify 0xB004 Obj.PPS_STATUS pinPpsIn)

/-- The offset of DEVREF against REF10M_IN in 2^-16 ppb over a window of 2^21 ticks with n edges (R377), rounded to the nearest (log entry 24: DESIGN CHOICE, unsafe): 10,737,418.24 edges are nominal. -/
def refOffset (n : Nat) : Int := roundRat (((1073741824 : Rat) / (100 * n) - 1) * 1000000000 * 65536)

/-- REF10M_WINDOW (R377): the window's edges are reported. A window in which the input was lost reports nothing: the last values are kept, and the
input is PRESENT again with the first whole window (log entry 182: DESIGN CHOICE, unsafe). -/
def Dev.refReport (s : Dev) (n : Nat) : Dev :=
  let s1 := { s with postmark := { s.postmark with refWindow := s.tick, refLost := false } }
  if n = 0 ∨ s.postmark.refLost = true then s1
  else
    (({ s1 with postmark := { s1.postmark with refTick := s1.tick } }).setObj Obj.REF10M_PPB 0 (ofSigned 64 (refOffset n))).setObj Obj.REF10M_STATE 0 1

/-- REF10M_WINDOW (R377): at the edge that ends a window, with the edges counted in it. -/
def execRef10mWindow (edges : Nat) (s : State) : Res :=
  onMainIf s (s.tick % 2 ^ 21 == 0 && s.postmark.refWindow != s.tick) (fun s => s.refReport edges)

/-- REF10M_IN is lost (R377). -/
def Dev.refLose (s : Dev) : Dev :=
  ({ s with postmark := { s.postmark with refLost := true } }.setObj Obj.REF10M_STATE 0 0).notify 0xB005 Obj.REF10M_STATE pinRef10m

/-- Whether 1 ms, 1,953.125 ticks, may have passed without an edge (R377): so long since the window whose edges were last reported. -/
def Dev.refSilent (s : Dev) : Bool := decide (s.postmark.refTick + 1953 ≤ s.tick)

/-- REF10M_LOST (R377): no edge for 1 ms. -/
def execRef10mLost (s : State) : Res := onMainIf s (s.obj Obj.REF10M_STATE == 1 && s.refSilent) Dev.refLose

end Sys2Proof.Machine
end

