-- ==== Sys2Proof/Machine/BureauRead.lean ====
section
/-! DEFINITION. Reading the Bureau's objects (R59 to R67): which exist, and the value of each, those that the device derives included. -/
namespace Sys2Proof.Machine

/-! ### Existence (R59, R60, R4) -/

/-- HIGHEST_SUB of an index (R60): the highest subindex defined at it, if any is. -/
def highestSub (index : Nat) : Option Nat :=
  match (dictionary.filter (fun d => d.oid / 256 == index)).map (fun d => d.oid % 256) with
  | [] => none
  | subs => some (subs.foldl max 0)

/-- The dictionary's row for an object of the Bureau: its own, or that of HIGHEST_SUB (R60). -/
def bureauDef? (oid : Nat) : Option ObjDef :=
  if oid % 256 = 0 then
    (highestSub (oid / 256)).map (fun h =>
      { oid := oid, ty := .u8, acc := .const, writers := 0, dfltX := h, dfltC := h, rangesX := [], rangesC := [], clamp := 0, step := 1,
        countX := 1, countC := 1, persist := false })
  else objDef? oid

/-- INSTANCES of an object (R67): the extent slots follow EXTENT_SLOTS, the rule slots RULE_SLOTS (R132). -/
def Dev.instances (s : Dev) (d : ObjDef) : Nat :=
  if d.oid = Obj.EXTENT then s.obj Obj.EXTENT_SLOTS
  else if d.oid = Obj.RULE_DATA ∨ d.oid = Obj.RULE_HEAD ∨ d.oid = Obj.RULE_HITS then ruleSlots s.part (s.obj Obj.RULE_PLACEMENT)
  else d.count s.part

/-- Whether an instance of an object names a port, host link, source, bridge port, scheduler port or owner that the part lacks (R4): the
objects whose instances follow a numbering with holes on the IK9C. -/
def unitAbsent (p : Part) (oid inst : Nat) : Bool :=
  let index := oid / 256
  if index = 0x7000 ∨ index = 0x7008 then decide (portBase ≤ inst) && !portExists p (inst - portBase)
  else if index = 0x7010 then !portExists p inst
  else if oid = Obj.START_NODE then !sourceExists p (inst % 40)
  else if oid = Obj.FIRST_TABLE then !sourceExists p inst
  else if index = Obj.EM_TABLE / 256 then !sourceExists p (inst / 2)
  else if index = Obj.BPORT_LEARN / 256 then bportAbsent p inst
  else if oid = Obj.TJ then !p.sensors.contains inst
  else if oid = Obj.OWNER_CONTROL ∨ oid = Obj.OWNER_HELD then p == .ik9c && validOwner .ik9x inst && !validOwner p inst
  else false

/-- Whether an instance of an object exists (R4, R59): VF_BUDGET exists for PFs, and a function's instances for numbers of R225 alone. -/
def Dev.instanceOk (s : Dev) (d : ObjDef) (inst : Nat) : Bool :=
  decide (inst < s.instances d) &&
    (d.oid != Obj.VF_BUDGET || isPf inst) &&
    (!([0x8060, 0x8068, 0x8070].contains (d.oid / 256) && d.oid != Obj.MAX_IMAGE && d.oid % 256 != 0) || !isPf inst) &&
    (d.count s.part != s.part.pick 4160 2112 || fnInPart s.part inst) && !unitAbsent s.part d.oid inst

/-! ### Derived values -/

/-- The queue with device queue number g. -/
def Dev.queueByG (s : Dev) (g : Nat) : Option (Nat × Queue) := s.hosts.queues.find? (fun e => e.2.g == g)

/-- A field of the queue with number g, or a value for a free number. -/
def Dev.queueField (s : Dev) (g dflt : Nat) (f : Nat → Queue → Nat) : Nat :=
  match s.queueByG g with | some e => f e.1 e.2 | none => dflt

/-- THREAD_STATE (R402). -/
def Dev.threadState (s : Dev) (h : Nat) : Nat :=
  if !s.inService (h / 32) then 4
  else if (s.hart h).halted then 3
  else match (s.hart h).wait with
    | .run => 0
    | .event _ _ => 1
    | _ => 2

/-- SLOT_STATE of image slot i (R426). -/
def Dev.slotState (s : Dev) (i : Nat) : Nat :=
  let x := Tab.getD s.boot.slots i {}
  let f := s.boot.fuses
  if s.boot.failed.contains i then 5
  else match x.state with
    | 0xA5 => 1
    | 0x05 => 3
    | 0x00 =>
      match x.seal' with
      | some l => if l.lifeCycle = f.lifeCycle ∧ l.steps = f.steps then 2 else 4
      | none => 4
    | _ => 0

/-- VERSION of a slot's image header (R408); erased flash reads all ones. -/
def FlashSlot.version (x : FlashSlot) : Nat := bits (Tab.getD x.chunks 0 (2 ^ 2048 - 1)) 959 928

/-- The governing copy of the IK9C's boot record (R412): the valid one with the higher COUNTER, copy A on equality. -/
def Dev.bootRec (s : Dev) : Option BootRec :=
  let ok (r : Option BootRec) : Option BootRec := r.bind (fun x => if x.steps = s.boot.fuses.steps then some x else none)
  match ok s.boot.recA, ok s.boot.recB with
  | some a, some b => some (if a.counter < b.counter then b else a)
  | some a, none => some a
  | none, b => b

/-- The values that the device derives, by object; none for an object that is stored. -/
def Dev.derived (s : Dev) (oid inst : Nat) : Option Nat :=
  if oid = Obj.TICK_COUNT then some s.tick
  else if oid = Obj.DRAWERS_IN_SERVICE then some s.drawersMask
  else if oid = Obj.ASSOCIATIONS then some (s.bureau.sessions.filter (fun e => decide (0x10000 ≤ e.1 ∧ e.1 < 0x20000))).length
  else if oid = Obj.REGION_BASE then some (s.regionBase inst)
  else if oid = Obj.REGION_BYTES then some (s.regionBytes inst)
  else if oid = Obj.RULE_SLOTS then some (ruleSlots s.part (s.obj Obj.RULE_PLACEMENT))
  else if oid = Obj.VALID_RULES then some (validRulesOf s.part s.objs inst)
  else if oid = Obj.CURRENT_QUANTUM then some s.quantum
  else if oid = Obj.EM_REGION_BUCKETS then some (s.obj Obj.EM_REGION_GIB * 2 ^ 22)
  else if oid = Obj.SWEEP_PASS then some s.sweepPass
  else if oid = Obj.SHELF_ADDR then some (s.shelfAddr inst)
  else if oid = Obj.FREE then some (s.shelfFree inst)
  else if oid = Obj.FLOOR then some (s.shelfFloor inst)
  else if oid = Obj.GDDR_SHELF_BYTES then some (s.obj Obj.SHELF_REGION_GIB * 2 ^ 30)
  else if oid = Obj.OWNER_HELD then some (s.ownerHeld inst)
  else if oid = Obj.CREDIT then some (s.creditBytes inst)
  else if oid = Obj.NEXT_ELIGIBLE then some (match (s.node inst).cal with | some c => c.due | none => 0)
  else if oid = Obj.DEPTH_BYTES then some (s.leaf inst).depth
  else if oid = Obj.DEPTH_FRAMES then some (s.leaf inst).frames.length
  else if oid = Obj.POLICER_TOKENS then some (s.tokensWord inst)
  else if oid = Obj.CTO_TICKS then some (s.ctoTicks (8 * inst))
  else if oid = Obj.NP_OUTSTANDING then some ((s.link inst).tags.filter (fun e => e.2.quar.isNone)).length
  else if oid = Obj.TAGS_QUARANTINED then some ((s.link inst).tags.filter (fun e => e.2.quar.isSome)).length
  else if oid = Obj.VF_BASE then some (if isPf inst then s.vfBase inst else 0)
  else if oid = Obj.PARENT_PF then some (s.parentPf inst)
  else if oid = Obj.QUEUES_IN_USE then some (s.queuesInUse inst)
  else if oid = Obj.QUEUE_FUNCTION then some (s.queueField inst 0xFFFF (fun k _ => k / 16384))
  else if oid = Obj.QUEUE_NUMBER then some (s.queueField inst 0 (fun k _ => k % 16384))
  else if oid = Obj.QUEUE_TYPE then some (s.queueField inst 0 (fun _ q => q.type))
  else if oid = Obj.QUEUE_STATE then some (s.queueField inst 0 (fun _ q => q.st))
  else if oid = Obj.QUEUE_SIZE then some (s.queueField inst 0 (fun _ q => q.size))
  else if oid = Obj.PRODUCER then some (s.queueField inst 0 (fun _ q => s.indexOut q q.prod))
  else if oid = Obj.CONSUMER then some (s.queueField inst 0 (fun _ q => s.indexOut q q.cons))
  else if oid = Obj.FREEZE_STATUS then some (s.queueField inst 0 (fun _ q => q.status))
  else if oid = Obj.QUEUES_TOTAL then some s.hosts.queues.length
  else if oid = Obj.LB_STATE then some (s.box inst).word
  else if oid = Obj.OUTSTANDING then some s.outstanding
  else if oid = Obj.KEY_STATE then some (ofBool (Tab.get? s.cipher.keys inst).isSome)
  else if oid = Obj.TK_STATE then some (ofBool (Tab.get? s.cipher.tks inst).isSome)
  else if oid = Obj.KEYS_LOADED then some s.cipher.keys.length
  else if oid = Obj.SA_SEQ then some (bits (s.obj Obj.SA inst) 511 448)
  else if oid = Obj.TB_NOW then some (time96 (s.tb inst).val)
  else if oid = Obj.TB_FREQ then some (ofSigned 64 (s.tb inst).freq)
  else if oid = Obj.TB_SLEW_LEFT then some (ofSigned 64 ((s.tb inst).slew * 65536).floor)
  else if oid = Obj.THREAD_STATE then some (s.threadState inst)
  else if oid = Obj.PARCELS_HELD then some ([0, 1, 2, 3].filter (fun i => (s.slot? inst i).isSome)).length
  else if oid = Obj.BACKLOG then some (s.queue inst).length
  else if oid = Obj.STEALABLE_BACKLOG then some (stealable (s.queue inst))
  else if oid = Obj.HELD then some (s.work.held.filter (fun f => f.p.group == inst)).length
  else if oid = Obj.PIGEONHOLES_IN_USE then some s.work.held.length
  else if oid = Obj.LIFE_CYCLE then some s.boot.fuses.lifeCycle
  else if oid = Obj.TRANSITIONS_LEFT then some (64 - s.boot.fuses.steps)
  else if oid = Obj.TOKEN_NONCE then some s.boot.nonce
  else if oid = Obj.OWNER_KEY_STATE then some (Tab.getD s.boot.fuses.owners inst (0, 0)).1
  else if oid = Obj.MIN_VERSION then some s.boot.fuses.minVersion
  else if oid = Obj.SLOT_STATE then some (s.slotState inst)
  else if oid = Obj.SLOT_SEQUENCE then some (Tab.getD s.boot.slots inst {}).seq
  else if oid = Obj.SLOT_VERSION then some (Tab.getD s.boot.slots inst {}).version
  else if oid = Obj.ACTIVE_SLOT then some (s.part.pick 0xFF (match s.bootRec with | some r => r.active | none => 0))
  else if oid = Obj.RECORD_COUNTER then some (s.part.pick 0 (match s.bootRec with | some r => r.counter | none => 0))
  else if oid = Obj.TK_IMPORT_PUB then some (Config.importPub s.boot.fuses.steps % 2 ^ 776)
  else if oid = Obj.CRASH_BASE then some 0x001004000000
  else if oid = Obj.PEER_ROLE then none
  else none

/-- The value that a read of an object instance returns (R68): derived, fixed, or as applied. -/
def Dev.readObj (s : Dev) (oid inst : Nat) : Nat :=
  if oid % 256 = 0 then (highestSub (oid / 256)).getD 0
  else match s.derived oid inst with
    | some v => v % 2 ^ (8 * ((objDef? oid).map (fun d => d.ty.size)).getD 8)
    | none => s.obj oid inst

/-! ### The object descriptor (R67) -/

/-- The type code of *Bureau types*. -/
def ObjTy.code : ObjTy → Nat
  | .bool => 1 | .u8 => 2 | .u16 => 3 | .u32 => 4 | .u64 => 5 | .i32 => 6 | .i64 => 7 | .octets _ => 8 | .string _ => 9 | .time96 => 10
  | .rate => 11 | .handle => 12

/-- The width in bits of a signed type; 0 for the others. -/
def ObjTy.signed : ObjTy → Nat
  | .i32 => 32 | .i64 => 64 | _ => 0

/-- Whether MAX, MIN and DEFAULT are given as numbers (R67). -/
def ObjTy.numeric : ObjTy → Bool
  | .octets _ => false | .string _ => false | .handle => false | _ => true

/-- A value extended to 96 bits, zero-extended, or sign-extended for the signed types (R67). -/
def ObjTy.extend (ty : ObjTy) (v : Nat) : Nat :=
  if ty.signed = 0 then v % 2 ^ 96 else ofSigned 96 (toSigned ty.signed v)

/-- The smallest and the largest legal value of an object on a part (R67). -/
def ObjDef.bounds (d : ObjDef) (p : Part) : Int × Int :=
  match d.ranges p with
  | [] =>
    match d.ty with
    | .bool => (0, 1)
    | .i32 => (-2147483648, 2147483647)
    | .i64 => (-9223372036854775808, 9223372036854775807)
    | .time96 => (0, (2 : Int) ^ 96 - 1 - (0xFFFFFFFF - 999999999) * 65536)
    | ty => (0, (2 : Int) ^ (8 * ty.size) - 1)
  | r :: rs => rs.foldl (fun a x => (min a.1 x.1, max a.2 x.2)) r

/-- ACCESS codes (R67). -/
def Access.code : Access → Nat | .const => 0 | .ro => 1 | .rw => 2 | .wo => 3 | .rwc => 4

/-- The principals that the chapters declare as readers of an object (R65), as a mask with the bits of WRITERS; R66 restricts a Witness
further, and lends Debug the Owner's rights. -/
def declaredReaders (d : ObjDef) : Nat :=
  let i := d.oid / 256
  let top := i / 4096
  if d.oid = Obj.CLAMP_ENTRY ∨ d.oid = Obj.CLAMP_COUNT then 17
  else if top = 1 then (if (i = 0x1040 ∧ 3 ≤ d.oid % 256) ∨ i = 0x1044 ∨ 0x1080 ≤ i then 27 else 31)
  else if top = 3 ∨ top = 4 ∨ top = 5 then 17
  else if top = 8 then (if i < 0x8030 then 23 else 31)
  else if top = 7 then 31
  else if top = 9 then (if i = 0x9040 then 17 else if i = 0x9030 ∨ i = 0x9038 then 19 else 31)
  else if i = 0xB010 ∨ i = 0xB018 ∨ i = 0xB020 ∨ i = 0xB030 ∨ i = 0xF020 then 31
  else if top = 0xC then (if i < 0xC800 then 17 else 31)
  else if i = 0xD010 ∨ d.oid = Obj.LIFE_CYCLE then 19
  else if top = 0xD then 17
  else if top = 0xE then 25
  else 27

/-- The readers of an object (R60, R65): HIGHEST_SUB is read by whoever may read any subindex of its index. -/
def readersOf (d : ObjDef) : Nat :=
  if d.oid % 256 = 0 then
    ((dictionary.filter (fun e => e.oid / 256 == d.oid / 256 && e.acc != .wo)).map declaredReaders).foldl (· ||| ·) 0
  else declaredReaders d

/-- DEFAULT of an object: its value after a cold reset, before persistent values load (R67); COMPAT_LEVEL's is the strap's (R7), and what
the device derives is derived from a device just reset, whose fuses and boot flash are as they are. -/
def Dev.coldDefault (s : Dev) (oid : Nat) : Nat :=
  if oid = Obj.COMPAT_LEVEL then s.obj Obj.COMPAT_STRAP
  else ({ part := s.part, boot := s.boot, pins := s.pins } : Dev).readObj oid 0

/-- The 64-byte descriptor of an object (R67). -/
def Dev.descriptor (s : Dev) (d : ObjDef) : Nat :=
  let b := d.bounds s.part
  let num (x : Nat) : Nat := if d.ty.numeric then x else 0
  num (ofSigned 96 b.2) * 2 ^ 416 + num (ofSigned 96 b.1) * 2 ^ 320 +
    (match d.ty with | .octets _ => 0 | .string _ => 0 | ty => ty.extend (s.coldDefault d.oid)) * 2 ^ 224 +
    s.instances d % 2 ^ 32 * 2 ^ 192 + d.ty.size * 2 ^ 176 + d.ty.code * 2 ^ 168 + d.acc.code * 2 ^ 164 + d.clamp * 2 ^ 160 +
    d.writers * 2 ^ 152 + readersOf d * 2 ^ 144 + ofBool d.persist * 2 ^ 143 + d.step * 2 ^ 96

end Sys2Proof.Machine
end

