-- ==== Sys2Proof/Machine/BarRegs.lean ====
section
/-! DEFINITION. Configuration space, the Card Index, and the registers of BAR0 and BAR2 (R227, R229 to R237, R269, R279, R280, R301). -/
namespace Sys2Proof.Machine

/-! ### The Card Index (R234 to R236) -/

/-- The device ID of a function (R227). -/
def deviceId (p : Part) (n : Nat) : Nat := p.pick 0x09A0 0x09C0 + if isPf n then 0 else 1

/-- A function's 16-byte row of the function catalogue: n, kind, FUNC_STATE, parent PF and VF index (log entry 32: DESIGN CHOICE, unsafe). -/
def Dev.ciRow (s : Dev) (m : Nat) : List Nat :=
  leBytes 2 m ++ [if isPf m then 0 else 1, s.fstate m] ++ leBytes 2 (s.parentPf m) ++ leBytes 2 (if isPf m then 0xFFFF else s.vfIndex m) ++
    List.replicate 8 0

/-- The feature bits of function n (R235). -/
def Dev.ciFeatures (s : Dev) (n : Nat) : Nat :=
  ofBool (!s.level7) + ofBool s.level7 * 2 + ofBool (s.ctrlOfFn n).isSome * 4 + 8 + 16 + 32 + 64 + 128 + ofBool (isPf n) * 256

/-- The index ranges that function n reaches (R236): 0xi000 to 0xiFFF for each bit i of ACCESS_MASK whose chapter lets its principal in. -/
def Dev.ciRanges (s : Dev) (n : Nat) : List Nat :=
  let who := if isPf n then 1 else 2
  ((List.range 16).filter (fun i => bit (s.obj Obj.ACCESS_MASK n) i)).flatMap (fun i =>
    let ds := (List.range 16).flatMap (fun j => dictPage (16 * i + j))
    let rd := ds.any (fun d => bit (readersOf d) who)
    let wr := ds.any (fun d => bit d.writers who)
    if rd || wr then leBytes 8 (i * 0x1000 * 2 ^ 48 + (i * 0x1000 + 0xFFF) * 2 ^ 32 + ofBool wr * 2 ^ 25 + ofBool rd * 2 ^ 24) else [])

/-- The sections of function n's Card Index (R235), of types 1 to 5; numbers of types 3 and 4 have four bytes each (log entry 32: DESIGN CHOICE, unsafe);
the catalogue has as many rows as CI_LENGTH has room for (R234; log entry 147: PRESUMED, unsafe). -/
def Dev.ciSections (s : Dev) (n : Nat) : List (List Nat) :=
  let scope := (if isPf n then n :: s.vfsOf n else [n]).take 4076
  let words (l : List Nat) : List Nat := l.flatMap (leBytes 4)
  [scope.flatMap s.ciRow, leBytes 32 (s.ciFeatures n),
    words [s.obj Obj.QUEUE_LIMIT n, 64, 65536, if s.level7 then 16 else 32, 32, 64, if isPf n then 2048 else 8, if isPf n then 8 else 2048],
    words [s.obj Obj.MSIX_VECTORS n, if s.level7 then 16777215 else 16777216, 256, 4096, 4096, 8192], s.ciRanges n]

/-- A directory and sections that follow a 64-byte header: each section at a multiple of 8, with its entry by a function of type, offset
and length. -/
def layout (entry : Nat → Nat → Nat → List Nat) (size : Nat) (l : List (Nat × List Nat)) : List Nat :=
  let go := l.foldl (fun (a : List Nat × List Nat) x =>
    let off := size + a.2.length
    (a.1 ++ entry x.1 off x.2.length, a.2 ++ padTo 8 x.2)) ([], [])
  go.1 ++ go.2

/-- Function n's Card Index with a generation (R235). -/
def Dev.cardIndex (s : Dev) (n gen : Nat) : List Nat :=
  let ss := (s.ciSections n).zipIdx.map (fun x => (x.2 + 1, x.1))
  let body := layout (fun t o l => leBytes 8 (t * 2 ^ 48 + o * 2 ^ 16 + l)) (64 + 8 * ss.length) ss
  let len := 64 + body.length
  leBytes 64 (0x43490009 * 2 ^ 480 + 1 * 2 ^ 464 + ss.length * 2 ^ 448 + len * 2 ^ 416 + crc32c 0 body * 2 ^ 384 + gen % 2 ^ 32 * 2 ^ 352 + n * 2 ^ 336 +
    s.linkOf n * 2 ^ 328 + (if isPf n then 0 else 1) * 2 ^ 320 + s.obj Obj.COMPAT_LEVEL * 2 ^ 312 + s.obj Obj.PART_CODE * 2 ^ 304) ++ body

/-- A Card Index is rewritten at an edge (R236): its generation goes through an odd value to the next even one, and CARD_INDEX is raised. -/
def Dev.ciRewrite (s : Dev) (n : Nat) : Dev :=
  let f := s.fn n
  let g := f.ciGen + 2
  (s.setFn n { f with ciGen := g, ci := s.cardIndex n g, ciDirty := false }).intr n 2

/-- A read of CI_DATA (R234): four bytes at CI_ADDR, which advances. -/
def Dev.ciData (s : Dev) (n : Nat) : Nat × Dev :=
  let f := s.fn n
  (ofLE (slice f.ci f.ciAddr 4), s.setFn n { f with ciAddr := (f.ciAddr + 4) % 2 ^ 32 })

/-- CI_DATA_READ (R234). -/
def execCiDataRead (n : Nat) (s : State) : Res :=
  onMainIf s (s.cfgUp n) (fun s => let (v, s1) := s.ciData n; s1.emit (.cfgReply n (.data v)))

/-! ### Configuration registers (R227, R229, R230, R234, R237 to R241, R245, R246, R248, R249; PCI Express) -/

/-- What a size field of Device Control means: 128 bytes times a power of two. -/
def sizeCode (v : Nat) : Nat := 128 * 2 ^ v

/-- The identifiers of the capabilities that a function carries (R227; PCI Express): Power Management, PCI Express, MSI-X; no MSI. -/
def capIds : List Nat := [0x01, 0x10, 0x11]

/-- The identifiers of the extended capabilities that a function carries (R227; PCI Express): AER, Device Serial Number, ATS and the
Card Index DVSEC; a PF also ARI, SR-IOV, L1 PM Substates and Readiness Time Reporting. -/
def extCapIds (n : Nat) : List Nat := [0x01, 0x03, 0x0F, 0x23] ++ if isPf n then [0x0E, 0x10, 0x1E, 0x22] else []

/-- The error bits that AER's uncorrectable mask and severity registers hold (PCI Express; log entry 66: PRESUMED, unsafe). -/
abbrev aerBits : Nat := 0x7FFF030

/-- The Invalidate Queue Depth of every function (R239). -/
abbrev atsDepth : Nat := 32
/-- The bytes of a PF's BAR0, and of its expansion ROM with the Card Index in it (R231, R234). -/
abbrev bar0Bytes : Nat := 2 ^ 24
/-- The bytes of an expansion ROM BAR: the least power of two that holds the Card Index (R234; log entry 147: PRESUMED, unsafe). -/
def romBytes : Nat := 2 ^ (log2 (Config.ciRomOffset % 2 ^ 32 + 65536 - 1) + 1)

/-- A configuration register as read; capability fields have the layout of the PCI Express standard (log entry 147: PRESUMED, unsafe). -/
def Dev.cfgRead (s : Dev) (n : Nat) (r : CfgReg) : Nat :=
  let f := s.fn n
  let l := s.link (s.linkOf n)
  match r with
  | .vendorDevice => deviceId s.part n * 65536 + Config.vendorId % 65536
  | .classCode => 0x028000
  | .interruptPin => 0
  | .command => ofBool f.mse * 2 + ofBool f.bme * 4 + ofBool f.serr * 256
  | .bar0 => if isPf n then f.bar0 + 4 else 0
  | .bar2 => f.bar2 + 4
  | .devCtl => f.errEn + ofBool f.ro * 16 + log2 (f.mps / 128) * 32 + log2 (f.mrrs / 128) * 4096
  | .devCtl2 => f.cto + ofBool (bit f.tagMode 0) * 4096
  | .devCtl3 => ofBool (bit f.tagMode 1) * 4 + ofBool l.l0pEn * 8
  | .linkCtl => l.aspm
  | .l1ssCtl => ofBool (bit l.l1ss 1) * 4 + ofBool (bit l.l1ss 0) * 8
  | .pmcsr => (if f.dstate = 3 then 3 else 0) + 8 + ofBool f.pmeEn * 256 + ofBool f.pmeStatus * 32768
  | .msixCtl => (s.obj Obj.MSIX_VECTORS n - 1) % 2048 + ofBool f.msixMask * 16384 + ofBool f.msixEn * 32768
  | .sriovCtl => ofBool f.vfEnable
  | .totalVfs => if isPf n then s.obj Obj.VF_BUDGET n else 0
  | .devStatus => f.devStatus
  | .aerUncorrectable => f.aer.uncorrectable
  | .aerCorrectable => f.aer.correctable
  | .aerMask => f.aer.mask
  | .aerSeverity => f.aer.severity
  | .aerCorMask => f.aer.corMask
  | .aerControl => f.aer.first
  | .aerHeader i => f.aer.header / 2 ^ (32 * i) % 2 ^ 32
  | .atsCtl => f.ats
  | .atsCap => atsDepth % 32 + Config.atsFlags % 2048 * 32
  | .serialLow => Config.deviceSerial % 2 ^ 32
  | .serialHigh => Config.deviceSerial / 2 ^ 32 % 2 ^ 32
  | .ciLength => f.ci.length
  | .ciRomOffset => if isPf n then Config.ciRomOffset % 2 ^ 32 else 0xFFFFFFFF
  | .ciAddr => f.ciAddr
  | .ciData => ofLE (slice f.ci f.ciAddr 4)
  | .ciGeneration => f.ciGen % 2 ^ 32
  | .capability i => if capIds.contains i then i else 0
  | .extCapability i => if (extCapIds n).contains i then i + 65536 else 0
  | .devCap => 5 + 2 ^ 5 + 2 ^ 15 + 2 ^ 28
  | .devCap2 => 6 + 2 ^ 16 + 2 ^ 17
  | .linkCap => s.obj Obj.MAX_SPEED (s.linkOf n) + linkLanes (s.obj Obj.LINK_MODE (s.linkOf n)) * 2 ^ 4 + 2 * 2 ^ 10 + 4 * 2 ^ 15 + 2 ^ 18 + 2 ^ 22
  | .pmCap => (0x01 + (3 + 2 ^ 14 + 2 ^ 15) * 2 ^ 16)
  | .l1ssCap => if isPf n then 2 ^ 2 + 2 ^ 3 + 2 ^ 4 else 0
  | .ariCap => if isPf n ∧ n % 8 + 1 < s.obj Obj.PF_COUNT (s.linkOf n) then (n % 8 + 1) * 2 ^ 8 else 0
  | .rtrReset => if isPf n then 2 ^ 31 + 120 + 1024 * 2 ^ 12 else 0
  | .rtrFlr => if isPf n then 25 + 10 * 2 ^ 12 else 0
  | .dvsecHeader1 => Config.vendorId % 65536 + 32 * 2 ^ 20
  | .dvsecHeader2 => 1
  | .vfBar0 => if isPf n then f.vfBar0 + 4 else 0
  | .supportedPages => if isPf n then 1 + 4 + 16 else 0
  | .systemPage => if isPf n then f.sysPage else 0
  | .expansionRom => if isPf n then f.rom else 0

/-- A write of the Command register: Memory Space Enable, Bus Master Enable (R245, R247), and a PF's SERR# Enable. -/
def Dev.commandWrite (s : Dev) (n v : Nat) : Dev :=
  let s1 := s.setFn n { s.fn n with mse := bit v 1, serr := bit v 8 && isPf n }
  if bit v 2 && !(s.fn n).bme then s1.bmeSet n else if !bit v 2 && (s.fn n).bme then s1.bmeClear n else s1

/-- A write of Device Control: a PF's error reporting enables (R501), Max_Payload_Size up to 4,096, Max_Read_Request_Size, Relaxed Ordering, and Initiate FLR (R237, R238, R246). -/
def Dev.devCtlWrite (s : Dev) (n v : Nat) : Dev :=
  let s1 := s.setFn n { s.fn n with errEn := if isPf n then v % 16 else 0, ro := bit v 4, mps := sizeCode (min 5 (bits v 7 5)), mrrs := sizeCode (min 5 (bits v 14 12)) }
  if bit v 15 then s1.initiateFlr n else s1

/-- A write of a configuration register; read-only ones keep their value. -/
def Dev.cfgWrite (s : Dev) (n : Nat) (r : CfgReg) (v : Nat) : Dev :=
  let f := s.fn n
  let k := s.linkOf n
  match r with
  | .command => s.commandWrite n v
  | .bar0 => if isPf n then s.setFn n { f with bar0 := v % 2 ^ 64 / bar0Bytes * bar0Bytes } else s
  | .bar2 => s.setFn n { f with bar2 := v % 2 ^ 64 / 65536 * 65536 }
  | .devCtl => s.devCtlWrite n v
  | .devCtl2 => (s.setFn n { f with cto := v % 16, tagMode := bits f.tagMode 1 1 * 2 + ofBool (bit v 12) }).drainAll k
  | .devCtl3 =>
    (let s1 := s.setFn n { f with tagMode := ofBool (bit v 2) * 2 + f.tagMode % 2 }
     s1.setLink k { s1.link k with l0pEn := bit v 3 }).drainAll k
  | .linkCtl => s.setLink k { s.link k with aspm := v % 4 }
  | .l1ssCtl => s.setLink k { s.link k with l1ss := ofBool (bit v 3) + 2 * ofBool (bit v 2) }
  | .pmcsr =>
    let s1 := s.setFn n { f with pmeEn := bit v 8, pmeStatus := f.pmeStatus && !bit v 15 }
    if v % 4 = 0 ∨ v % 4 = 3 then (if v % 4 = f.dstate then s1 else s1.dState n (v % 4)) else s1
  | .msixCtl => (s.setFn n { f with msixEn := bit v 15, msixMask := bit v 14 }).flushMsix n
  | .sriovCtl =>
    if !isPf n then s else if bit v 0 && !f.vfEnable then s.vfEnableSet n else if !bit v 0 && f.vfEnable then s.vfEnableClear n else s
  | .devStatus => s.setFn n { f with devStatus := f.devStatus - (f.devStatus &&& v) }
  | .aerUncorrectable => s.setFn n { f with aer := { f.aer with uncorrectable := f.aer.uncorrectable - (f.aer.uncorrectable &&& v) } }
  | .aerCorrectable => s.setFn n { f with aer := { f.aer with correctable := f.aer.correctable - (f.aer.correctable &&& v) } }
  | .aerMask => if isPf n then s.setFn n { f with aer := { f.aer with mask := v &&& aerBits } } else s
  | .aerSeverity => if isPf n then s.setFn n { f with aer := { f.aer with severity := v &&& aerBits } } else s
  | .aerCorMask => if isPf n then s.setFn n { f with aer := { f.aer with corMask := v &&& 0xF1C1 } } else s
  | .atsCtl => (s.setFn n { f with ats := v % 65536 }).dropTranslations n (fun _ => !bit v 15)
  | .ciAddr => s.setFn n { f with ciAddr := v % 2 ^ 32 / 4 * 4 }
  | .vfBar0 => if isPf n then s.setFn n { f with vfBar0 := v % 2 ^ 64 / 65536 * 65536 } else s
  | .systemPage => if isPf n ∧ [1, 4, 16].contains (v % 2 ^ 32) = true ∧ f.vfEnable = false then s.setFn n { f with sysPage := v % 2 ^ 32 } else s
  | .expansionRom => if isPf n then s.setFn n { f with rom := v % 2 ^ 32 / romBytes * romBytes + v % 2 } else s
  | .capability _ | .extCapability _ | .devCap | .devCap2 | .linkCap | .pmCap | .l1ssCap | .ariCap | .rtrReset | .rtrFlr | .dvsecHeader1
  | .dvsecHeader2 | .supportedPages => s
  | .aerControl | .aerHeader _ | .vendorDevice | .classCode | .atsCap | .interruptPin | .totalVfs | .serialLow | .serialHigh | .ciLength | .ciRomOffset | .ciData | .ciGeneration => s

/-- A configuration request is served (R230): Request Retry Status before the link is ACTIVE, during an FLR, for a VF that is not ready, and in
READINESS FAULT (R469). -/
def Dev.cfgServe (s : Dev) (n : Nat) (r : CfgReg) (wr : Option Nat) : Dev :=
  if s.obj Obj.LINK_STATE_8000 (s.linkOf n) = 3 ∨ s.obj Obj.READINESS = 4 then s.emit (.cfgReply n .retry)
  else if s.present n = false then s.emit (.cfgReply n .unsupported)
  else if s.fstate n = 6 ∨ (s.fn n).vfSince.isSome = true then s.emit (.cfgReply n .retry)
  else
    match wr with
    | some v => (s.cfgWrite n r v).emit (.cfgReply n (.data 0))
    | none =>
      let a : CfgAnswer := .data (s.cfgRead n r)
      let s1 := if r = .ciData then (s.ciData n).2 else s
      s1.emit (.cfgReply n a)

/-- CONFIG_REQUEST (R229, R230): a read, or a write of a value, by the host on a link that is up. -/
def execConfigRequest (n : Nat) (reg : CfgReg) (wr : Option Nat) (s : State) : Res :=
  onMainIf s (fnInPart s.part n && decide (3 ≤ s.obj Obj.LINK_STATE_8000 (s.linkOf n))) (fun s => s.cfgServe n reg wr)

/-! ### BAR0 registers (R231, R233, R269, R280) -/

/-- A 64-bit function register at an offset, as read; none where the offset is reserved (R233, R269, R280). -/
def Dev.funcReg (s : Dev) (n r : Nat) : Option Nat :=
  let f := s.fn n
  let qst (k : Nat) : Nat := match s.queue? (qkey n k) with | some q => q.st | none => 0
  match r with
  | 0x000 => some (n * 2 ^ 32 + s.linkOf n * 2 ^ 24 + (if isPf n then 0 else 1) * 2 ^ 16 + s.obj Obj.COMPAT_LEVEL * 2 ^ 8 + s.obj Obj.PART_CODE)
  | 0x008 => some (s.fstate n)
  | 0x010 => some (f.ciGen % 2 ^ 32)
  | 0x018 => some s.tick
  | 0x100 => some f.adminSq
  | 0x108 => some f.adminCq
  | 0x110 => some f.adminIdx
  | 0x118 => some f.adminSizes
  | 0x120 => some (ofBool f.adminEn)
  | 0x128 => some (qst 0 + qst 1 * 2 ^ 8 + f.adminErr * 2 ^ 16)
  | 0x200 => some (if isPf n then f.lbAddr else (s.box n).word)
  | 0x208 => some 0
  | 0x1000 => some f.intrStatus
  | 0x1008 => some f.intrEnable
  | _ => none

/-- A write of the admin registers' addresses and sizes: discarded and counted while ENABLE is 1 (R269). -/
def Dev.adminRegWrite (s : Dev) (n : Nat) (g : Func → Func) : Dev :=
  if (s.fn n).adminEn then s.bump Obj.BAR_ERRORS n else s.setFn n (g (s.fn n))

/-- A 64-bit function register is written (R233, R269, R280); a read-only one keeps its value. -/
def Dev.funcWrite (s : Dev) (n r v : Nat) : Dev :=
  let f := s.fn n
  match r with
  | 0x100 => s.adminRegWrite n (fun f => { f with adminSq := v })
  | 0x108 => s.adminRegWrite n (fun f => { f with adminCq := v })
  | 0x110 => s.adminRegWrite n (fun f => { f with adminIdx := v })
  | 0x118 => s.adminRegWrite n (fun f => { f with adminSizes := v % 16 + bits v 11 8 * 256 })
  | 0x120 =>
    if bit v 0 then (if f.adminEn then s else s.setFn n { f with adminDue := true })
    else if f.adminEn || f.adminDue then s.adminDisable n else s
  | 0x200 => if isPf n then s.setFn n { f with lbAddr := v / 4096 * 4096 + v % 2 } else s
  | 0x208 => s.boxControl n v
  | 0x1000 => s.setFn n { f with intrStatus := f.intrStatus - (f.intrStatus &&& v) }
  | 0x1008 => s.setFn n { f with intrEnable := v % 32 }
  | _ => s

/-- The VF whose Letterbox lies at an offset of function n's BAR0, and the offset in it (R231, R279). -/
def Dev.boxAt (s : Dev) (n off : Nat) : Option (Nat × Nat) :=
  if isPf n then
    if 0x400000 ≤ off ∧ off < 0x800000 then
      let i := (off - 0x400000) / 1024
      let v := 64 + s.vfBase n + i
      if i < s.obj Obj.VF_BUDGET n ∧ s.present v = true then some (v, off % 1024) else none
    else none
  else if 0x2000 ≤ off ∧ off < 0x2400 then some (n, off - 0x2000) else none

/-- The base and end of a function's MSI-X table, pending bits and doorbell pages (R231). -/
def msixBase (n : Nat) : Nat := if isPf n then 0x10000 else 0x4000
/-- The end of the MSI-X table. -/
def msixEnd (n : Nat) : Nat := if isPf n then 0x18000 else 0x4400
/-- The base of the pending bit array. -/
def pbaBase (n : Nat) : Nat := if isPf n then 0x18000 else 0x5000
/-- The end of the pending bit array. -/
def pbaEnd (n : Nat) : Nat := if isPf n then 0x18100 else 0x5008
/-- The first doorbell page. -/
def bellBase (n : Nat) : Nat := if isPf n then 0x800000 else 0x8000
/-- The end of the doorbell pages. -/
def bellEnd (n : Nat) : Nat := if isPf n then 0x1000000 else 0x10000

/-- An aligned read of BAR0 (R233): none where nothing is there. -/
def Dev.bar0Read (s : Dev) (n off size : Nat) : Option Nat :=
  let f := s.fn n
  match s.funcReg n (off / 8 * 8) with
  | some v => some (v / 2 ^ (8 * (off % 8)) % 2 ^ (8 * size))
  | none =>
    match s.boxAt n off with
    | some (v, o) => some (s.boxRead v o size)
    | none =>
      if msixBase n ≤ off ∧ off < msixEnd n then
        some (Tab.getD f.msix ((off - msixBase n) / 16) (2 ^ 96) / 2 ^ (8 * (off % 16)) % 2 ^ (8 * size))
      else if pbaBase n ≤ off ∧ off < pbaEnd n then
        some ((List.range (8 * size)).foldl (fun a i => a + if f.msixPend.contains (8 * (off - pbaBase n) + i) then 2 ^ i else 0) 0)
      else none

/-- An MSI-X table entry is written in part; a vector that is pending and may now be sent is sent (R231). -/
def Dev.msixWrite (s : Dev) (n off size v : Nat) : Dev :=
  let f := s.fn n
  let i := (off - msixBase n) / 16
  let lo := 8 * (off % 16)
  (s.setFn n { f with msix := Tab.put (2 ^ 96) f.msix i (putBits (Tab.getD f.msix i (2 ^ 96)) (lo + 8 * size - 1) lo v) }).flushMsix n

/-- An aligned write of BAR0 outside the doorbell pages (R233). -/
def Dev.bar0Write (s : Dev) (n off size v : Nat) : Dev :=
  match s.funcReg n (off / 8 * 8) with
  | some old =>
    let r := off / 8 * 8
    let base := if r = 0x1000 then 0 else old
    s.funcWrite n r (if size = 8 then v % 2 ^ 64 else putBits base (8 * (off % 8) + 31) (8 * (off % 8)) v)
  | none =>
    match s.boxAt n off with
    | some (m, o) => s.boxWrite n m o (leBytes size v)
    | none =>
      if msixBase n ≤ off ∧ off < msixEnd n then s.msixWrite n off size v
      else if pbaBase n ≤ off ∧ off < pbaEnd n then s
      else s.bump Obj.BAR_ERRORS n

/-! ### BAR2: a controller's register block (R301; NVMe) -/

/-- A controller register as read: CAP, VS, INTMS, INTMC, CC, CSTS, AQA, ASQ and ACQ; none elsewhere. -/
def Dev.ctrlReg (s : Dev) (c off : Nat) : Option (Nat × Nat × Nat) :=
  let k := s.ctrl c
  let cap := 4095 + 2 ^ 16 + 40 * 2 ^ 24 + 2 ^ 37 + 4 * 2 ^ 52
  let csts := ofBool k.rdy + ofBool (s.obj Obj.DEVICE_FAULT != 0) * 2 + k.shst * 4
  if off < 8 then some (0, 8, cap)
  else if off < 0xC then some (8, 4, Config.nvmeVersion % 2 ^ 32)
  else if off < 0x10 then some (0xC, 4, k.intm)
  else if off < 0x14 then some (0x10, 4, k.intm)
  else if off < 0x18 then some (0x14, 4, k.cc + ofBool (k.en && k.ending != some 0))
  else if 0x1C ≤ off ∧ off < 0x20 then some (0x1C, 4, csts)
  else if 0x24 ≤ off ∧ off < 0x28 then some (0x24, 4, k.aqa)
  else if 0x28 ≤ off ∧ off < 0x30 then some (0x28, 8, k.asq)
  else if 0x30 ≤ off ∧ off < 0x38 then some (0x30, 8, k.acq)
  else none

/-- A write of CC (R301, R325): EN, SHN, and the rest as stored. -/
def Dev.ccWrite (s : Dev) (c v : Nat) : Dev :=
  let s1 := s.setCtrl c { s.ctrl c with cc := v % 2 ^ 24 / 16 * 16 - bits v 15 14 * 2 ^ 14 }
  if bit v 0 && !(s.ctrl c).en then (if s1.canEnable c then s1.ctrlEnable c else s1)
  else if !bit v 0 && (s.ctrl c).en then (if (s.ctrl c).ending = some 0 then s1 else s1.ctrlStop c 0)
  else if bits v 15 14 ≠ 0 ∧ (s.ctrl c).en = true ∧ (s.ctrl c).ending.isNone = true ∧ (s.ctrl c).shst = 0 then s1.ctrlShutdown c
  else s1

/-- A controller register is written in part. -/
def Dev.ctrlWrite (s : Dev) (c off size v : Nat) : Dev :=
  match s.ctrlReg c off with
  | none => s
  | some (r, w, old) =>
    let x := if size = w then v % 2 ^ (8 * w) else putBits old (8 * (off - r) + 31) (8 * (off - r)) v
    let k := s.ctrl c
    match r with
    | 0xC => s.setCtrl c { k with intm := k.intm ||| x }
    | 0x10 => s.setCtrl c { k with intm := k.intm - (k.intm &&& x) }
    | 0x14 => s.ccWrite c x
    | 0x24 => if k.en then s else s.setCtrl c { k with aqa := x % 2 ^ 28 }
    | 0x28 => if k.en then s else s.setCtrl c { k with asq := x / 4096 * 4096 }
    | 0x30 => if k.en then s else s.setCtrl c { k with acq := x / 4096 * 4096 }
    | _ => s

/-- A doorbell of a controller at an offset (R302): queue y's tail at 1000h + 8y, its head at 1004h + 8y. -/
def Dev.nvmeBell (s : Dev) (c off v : Nat) : Dev :=
  let i := (off - 0x1000) / 4
  if s.ctrlUp c then (if i % 2 = 0 then s.sqDoorbell c (i / 2) v else s.cqDoorbell c (i / 2) v) else s

/-! ### The expansion ROM (R234) -/

/-- A byte of a PF's expansion ROM: of its Card Index, at CI_ROM_OFFSET, or of the image that holds it. -/
def Dev.romByte (s : Dev) (n a : Nat) : Nat :=
  let o := Config.ciRomOffset % 2 ^ 32
  if o ≤ a ∧ a < o + (s.fn n).ci.length then nth (s.fn n).ci (a - o) else Config.romImage a % 256

/-- A read of a PF's expansion ROM, while it is enabled. -/
def Dev.romRead (s : Dev) (n off size : Nat) : Option Nat :=
  if isPf n && bit (s.fn n).rom 0 && decide (off + size ≤ romBytes) then some (ofLE ((List.range size).map (fun i => s.romByte n (off + i)))) else none

/-! ### Accesses -/

/-- A read of a register of function n (R233, R301): zero, and counted, where nothing can be read. -/
def Dev.barRead (s : Dev) (n bar off size : Nat) : Dev :=
  let okSize := (size == 4 || size == 8) && off % size == 0
  let v := if !okSize then none
    else if bar = 0 then s.bar0Read n off size
    else if bar = 6 then s.romRead n off size
    else match s.ctrlOfFn n with
      | some c => (match s.ctrlReg c off with
        | some (r, w, x) => if off - r + size ≤ w then some (x / 2 ^ (8 * (off - r)) % 2 ^ (8 * size)) else some 0
        | none => some 0)
      | none => some 0
  match v with
  | some x => s.emit (.barRead n off x)
  | none => (s.bump Obj.BAR_ERRORS n).emit (.barRead n off 0)

/-- A write of a register of function n (R232, R233, R301). -/
def Dev.barWrite (s : Dev) (n bar off size v : Nat) : Dev :=
  let okSize := (size == 4 || size == 8) && off % size == 0
  if bar = 0 then
    if bellBase n ≤ off ∧ off < bellEnd n then
      if size = 8 ∧ off % 4096 = 0 then s.doorbell n ((off - bellBase n) / 4096) v else s.bump Obj.DOORBELL_REJECTS n
    else if okSize then s.bar0Write n off size v else s.bump Obj.BAR_ERRORS n
  else if bar = 6 then s.bump Obj.BAR_ERRORS n
  else
    match s.ctrlOfFn n with
    | none => s.bump Obj.BAR_ERRORS n
    | some c =>
      if !okSize then s.bump Obj.BAR_ERRORS n
      else if 0x1000 ≤ off then (if size = 4 then s.nvmeBell c off v else s.bump Obj.BAR_ERRORS n)
      else s.ctrlWrite c off size v

/-- REGISTER_WRITE (R233): an access of `size` bytes at an offset of BAR0, BAR2 or, as bar 6, the expansion ROM of function n; a write of a
value, or a read. -/
def execRegisterWrite (n bar off size : Nat) (wr : Option Nat) (s : State) : Res :=
  onMainIf s (s.barUp n && (bar == 0 || bar == 2 || bar == 6)) (fun s =>
    match wr with
    | some v => s.barWrite n bar off size v
    | none => s.barRead n bar off size)

end Sys2Proof.Machine
end

