-- ==== Sys2Proof/Machine/Ports.lean ====
section
/-! DEFINITION. Ethernet ports and lanes (chapter 04): received frames, link states, pause and priority flow control, and the
management port. -/
namespace Sys2Proof.Machine

/-! ### Modes, lanes and states (R91, R97, R99) -/

/-- Lanes of a port mode (R91). -/
def modeWidth : Nat → Nat
  | 1 => 8 | 2 => 4 | 3 => 8 | 4 => 2 | 5 => 4 | 6 => 1 | 7 => 2 | 8 => 1 | 9 => 2 | 10 => 1 | 11 => 1 | _ => 0

/-- The lanes of port p (R91). -/
def Dev.lanesOf (s : Dev) (p : Nat) : List Nat := (List.range (modeWidth (s.obj Obj.PORT_MODE p))).map (· + p)

/-- The port that owns a lane, if one does (R91). -/
def Dev.portOfLane (s : Dev) (l : Nat) : Option Nat := (List.range s.part.ports).find? (fun p => (s.lanesOf p).contains l)

/-- A port's record. -/
def Dev.port (s : Dev) (p : Nat) : Port := Tab.getD s.eth.ports p {}

/-- The state with a port's record replaced. -/
def Dev.setPort (s : Dev) (p : Nat) (x : Port) : Dev :=
  { s with eth := { s.eth with ports := Tab.put {} s.eth.ports p x } }

/-- A port's link state (R97): 0 DISABLED, 1 TRAINING, 2 ALIGNING, 3 UP. -/
def Dev.linkState (s : Dev) (p : Nat) : Nat := s.obj Obj.LINK_STATE_2000 p

/-- Whether ETHREF is present (R489). -/
def Dev.ethref (s : Dev) : Bool := !bit (s.obj Obj.SIDEBAND_STATUS) 13

/-- The lock bits of a port's lanes cleared (R99). -/
def Dev.clearLocks (s : Dev) (ls : List Nat) : Dev :=
  ls.foldl (fun t l => t.setObj Obj.LANE_STATUS l (clearBit (t.obj Obj.LANE_STATUS l) 15)) s

/-- What port p advertises (R96): its configured mode, and for mode 11 its configured FEC (R94, R508). -/
def Dev.advertised (s : Dev) (p : Nat) : Nat × Nat :=
  let m := s.obj Obj.PORT_MODE p
  (m, if m = 11 then s.obj Obj.FEC_MODE p else 0)

/-- A port starts again from TRAINING, or ALIGNING with AN_ENABLE = 0 (R96, R97), but in TRAINING while ETHREF is absent (R489). AN_ENABLE and FEC_MODE are read here, and so a commit of either
acts when the port next starts (log entry 137: DESIGN CHOICE, unsafe). -/
def Dev.restartPort (s : Dev) (p : Nat) : Dev :=
  let x := s.port p
  let an := s.flag Obj.AN_ENABLE p
  ((s.setObj Obj.LINK_STATE_2000 p (if an || !s.ethref then 1 else 2)).setPort p
    { x with since := s.tick, retry := false, lockSince := none, lossSince := none, trained := false,
             adv := if an then some (s.advertised p) else none }).clearLocks (s.lanesOf p)

/-! ### The transmit FIFO (R98, R104) -/

/-- The priority of a leaf's frames on its port: CG_PFC_PRIO of their class group (R213). -/
def Dev.leafPrio (s : Dev) (leaf : Nat) : Nat :=
  match (s.ancestors 3 leaf)[1]? with | some g => s.obj Obj.CG_PFC_PRIO (g - groupBase) | none => 0

/-- Frames dequeued to port P and not yet finished there. -/
def Dev.fifo (s : Dev) (P : Nat) : List TxFrame := Tab.getD s.sched.fifos P []

/-- The state with a port's transmit FIFO replaced. -/
def Dev.setFifo (s : Dev) (P : Nat) (l : List TxFrame) : Dev :=
  { s with sched := { s.sched with fifos := Tab.put [] s.sched.fifos P l } }

/-- The port-priorities whose class groups the scheduler excludes (R104, R105, R213). -/
def Dev.pausedPrios (s : Dev) : List Nat :=
  (s.eth.prios.filter (fun e => e.2.pauseEnd.isSome && !e.2.storm)).map Prod.fst

/-- The frame of port P's FIFO that is being sent, or is to be sent next (R104): the one started, else the first whose priority is not
paused. -/
def Dev.nextTx (s : Dev) (P : Nat) : Option TxFrame :=
  ((s.fifo P).find? TxFrame.started).orElse
    (fun _ => (s.fifo P).find? (fun x => !(decide (P < 32) && s.pausedPrios.contains (8 * P + s.leafPrio x.leaf))))

/-- Ethernet port P has started the frame it sends next, if it is UP (R97, R104). -/
def Dev.markTx (s : Dev) (P : Nat) : Dev :=
  match s.nextTx P with
  | some x => if s.portUp P && s.forwards then s.setFifo P ((s.fifo P).map (fun y => if y = x then { y with started := true } else y)) else s
  | none => s

/-- The frame that port P had started waits again: the port is not UP (R98). -/
def Dev.unmarkTx (s : Dev) (P : Nat) : Dev :=
  if (s.fifo P).any TxFrame.started then s.setFifo P ((s.fifo P).map (fun y => { y with started := false })) else s

/-- Every pause received and sent on a port is forgotten when it leaves UP (log entry 136: DESIGN CHOICE, unsafe). -/
def Dev.clearPause (s : Dev) (p : Nat) : Dev := (List.range 8).foldl (fun t q => t.setPrio (8 * p + q) {}) s

/-! ### Received frames (R95, R187, R188) -/

/-- The port-priority against whose thresholds a received frame of priority q is held (R102): none under FLOW_CONTROL 0, or of a priority not
in PFC_PRIORITIES (log entry 135: DESIGN CHOICE, unsafe). -/
def Dev.usageKey (s : Dev) (p q : Nat) : Option Nat :=
  match s.obj Obj.FLOW_CONTROL p with
  | 1 => some (8 * p)
  | 2 => if bit (s.obj Obj.PFC_PRIORITIES p) q then some (8 * p + q) else none
  | _ => none

/-- Whether the charge of the first buffer would pass XOFF_THRESHOLD + HEADROOM (R103). -/
def Dev.overHeadroom (s : Dev) (p q : Nat) : Bool :=
  match s.usageKey p q with
  | some k => decide (s.obj Obj.XOFF_THRESHOLD k + s.obj Obj.HEADROOM k < s.usage k + 256)
  | none => false

/-- Buffers of shelf g that write start takes (R187): one for a whole frame, else enough for MAX_FRAME. -/
def Dev.startBuffers (s : Dev) (p g : Nat) (whole : Bool) : Nat :=
  if whole then 1 else ceilDiv (s.obj Obj.MAX_FRAME p) (shelfSize g)

/-- The shelf that serves write start (R187): shelf 0, or the first on-chip shelf up to ESCALATE_MAX with room. -/
def Dev.startShelf (s : Dev) (p : Nat) (whole : Bool) : Option Nat :=
  ((List.range 6).filter (fun g => decide (g ≤ s.obj Obj.ESCALATE_MAX) || g == 0)).find?
    (fun g => s.shelfOnChip g && decide (s.floorFor (ownerPort p) g + s.startBuffers p g whole ≤ s.shelfFree g))

/-- FRAME_WRITE_START (R37, R95, R100, R103, R187, R366): the frame is dropped for want of headroom or buffers, or its buffers are
taken, its first bytes written, and its parcel admitted. -/
def Dev.frameStart (s : Dev) (p length : Nat) (head : List Nat) (cap : Nat) : Dev :=
  let q := s.framePrio p head
  let whole := decide (length ≤ 256)
  if !s.forwards then s.bump Obj.ROLE_DROPS
  else if s.overHeadroom p q then s.bump Obj.RX_DROP_HEADROOM p
  else
    match s.startShelf p whole with
    | none => (s.bump Obj.NOBUF_DROPS p).bump Obj.ALLOC_FAILS 0
    | some g =>
      let held := min length (s.obj Obj.MAX_FRAME p)
      let (bs, s1) := s.pickBuffers g (s.startBuffers p g whole)
      let h := bs.headD nullHandle
      let first := (head.take 256).take (held - 4)
      let c : Chain := { bufs := bs.take 1, owner := ownerPort p, allocTick := s.tick, data := first ++ List.replicate (held - 4 - first.length) 0,
                         usage := some (8 * p + q), reserved := bs.drop 1 }
      let s2 := (if g = 0 then s1 else s1.bump Obj.ESCALATIONS 0).bump Obj.ALLOCS g
      let s3 := ((s2.setChain h c).fillTo h (if whole then held else first.length)).lowEval
      let x := s3.port p
      let s4 := { s3 with
        eth := { s3.eth with
          ports := Tab.ins s3.eth.ports p
            { x with rx := some { chain := h, length := length, held := held, arrived := first.length, prio := q, start := s3.tick } }
          ends := Tab.ins s3.eth.ends h .arriving }
        postmark := { s3.postmark with caps := Tab.ins s3.postmark.caps h (s3.captureOf p cap) } }
      s4.admitParcel { newParcel 1 (s4.frameHash p head) (s4.prioClass p q) p h length 0 with sec := s4.secBind p first }

/-- FRAME_WRITE_START (R187): on a port that is UP and not receiving. -/
def execFrameWriteStart (p length : Nat) (head : List Nat) (cap : Nat) (s : State) : Res :=
  onMainIf s (decide (p < s.part.ports) && s.portUp p && (s.port p).rx.isNone && decide (18 ≤ length)) (fun s => s.frameStart p length head cap)

/-- Parcels of a bad frame that wait for a core thread are dropped whole (R95). -/
def Dev.dropWaiting (s : Dev) (h : Nat) : Dev :=
  let bad := s.work.punts.flatMap (fun e => e.2.filter (fun i => i.p.handle == h))
  let badQ := s.work.queues.flatMap (fun e => e.2.filter (fun i => i.p.kind == 4 && i.p.handle == h))
  let s1 := { s with work := { s.work with
    punts := s.work.punts.map (fun e => (e.1, e.2.filter (fun i => i.p.handle != h)))
    queues := s.work.queues.map (fun e => (e.1, e.2.filter (fun i => !(i.p.kind == 4 && i.p.handle == h)))) } }
  let fin (t : Dev) (p : Parcel) : Dev :=
    t.toFins { p := { p with disp := 2, dropReason := 5 }, ingress := none, takeTick := s.tick, cfg := [], eng := some (engineMonitor p.exec) }
  (bad.map PuntItem.p ++ badQ.map QEntry.p).foldl fin s1

/-- A frame cut short has only the bytes that arrived (R95). -/
def Dev.cutShort (s : Dev) (r : RxFrame) : Dev :=
  s.setChainData r.chain ((s.chainData r.chain).take ((s.chainData r.chain).length - (r.held - 4 - r.arrived)))

/-- The lengths that a rewrite left open are written into a frame that has ended (R140). -/
def Dev.fixTail (s : Dev) (h : Nat) : Dev :=
  match Tab.get? s.eth.fixes h with
  | none => s
  | some x =>
    let s1 := s.setChainData h (fixFrame (s.chainData h) (some x))
    { s1 with eth := { s1.eth with fixes := Tab.del s1.eth.fixes h } }

/-- The frame being received on port p ends (R95, R169, R187): its unused reservations return; a good frame's learns are accepted, a bad
one's discarded, and it is counted. -/
def Dev.frameDone (s : Dev) (p : Nat) (tail : List Nat) (fcsOk cut : Bool) : Dev :=
  match (s.port p).rx with
  | none => s
  | some r =>
    let s1 := if cut then s.cutShort r else (s.arriveBytes r.chain tail).fillTo r.chain r.held
    let s2 := ((s1.setPort p { s1.port p with rx := none }).dropReserved r.chain).fixTail r.chain
    let tooLong := decide (s.obj Obj.MAX_FRAME p < r.length)
    let mine := s2.em.waiting.filter (fun w => w.1 == r.chain)
    let s3 := { s2 with em := { s2.em with waiting := s2.em.waiting.filter (fun w => w.1 != r.chain) } }
    if fcsOk && !tooLong && !cut then
      let s4 := mine.foldl (fun t w => t.emPush w.2) { s3 with eth := { s3.eth with ends := Tab.del s3.eth.ends r.chain } }
      ((s4.bump Obj.RX_FRAMES p).addObj Obj.RX_BYTES p r.length).wakePunts
    else
      let s4 := if (s3.chain? r.chain).isSome then { s3 with eth := { s3.eth with ends := Tab.ins s3.eth.ends r.chain .bad } } else s3
      let s5 := if tooLong then s4.bump Obj.RX_OVERSIZE p else s4.bump Obj.RX_FCS_ERRORS p
      (s5.dropWaiting r.chain).wakePunts

/-- FRAME_END (R187): the tail arrives and the FCS is checked. -/
def execFrameEnd (p : Nat) (tail : List Nat) (fcsOk : Bool) (s : State) : Res :=
  onMainIf s (s.port p).rx.isSome (fun s => s.frameDone p tail fcsOk false)

/-- ENABLE = 1 applied to port p (R97): its transmitters leave electrical idle, and it trains or aligns; a frame still in transmission since
ENABLE = 0 completes. -/
def Dev.portEnable (s : Dev) (p : Nat) : Dev := s.restartPort p

/-- ENABLE = 0 applied to port p (R97): the frame in transmission completes, reception ends under R95, and the port is DISABLED. The count of
its codeword window goes on (R94). -/
def Dev.portDisable (s : Dev) (p : Nat) : Dev :=
  let s1 := (s.markTx p).frameDone p [] false true
  let x := s1.port p
  (((s1.setObj Obj.LINK_STATE_2000 p 0).setPort p
    { since := s.tick, fecWindow := x.fecWindow, fecCount := x.fecCount, fecNotified := x.fecNotified }).clearLocks (s.lanesOf p)).clearPause p

/-! ### Link states (R96, R97, R99) -/

/-- TRAINING_COMPLETE (R97): TRAINING to ALIGNING. -/
def execTrainingComplete (p : Nat) (s : State) : Res :=
  onMainIf s (s.linkState p == 1 && !(s.port p).retry && s.ethref)
    (fun s => (s.setObj Obj.LINK_STATE_2000 p 2).setPort p
      { s.port p with since := s.tick, anNotified := false, lockSince := none, trained := true, adv := none })

/-- TRAINING_FAILURE (R96, R97): the port stays in TRAINING, and AN_FAILED is notified once for a run of failures. -/
def Dev.trainingFails (s : Dev) (p : Nat) : Dev :=
  let x := s.port p
  let s1 := s.setPort p { x with since := s.tick, retry := true, anNotified := true }
  if x.anNotified then s1 else s1.notify 0x2003 Obj.LINK_STATE_2000 p

/-- TRAINING_FAILURE (R96). -/
def execTrainingFailure (p : Nat) (s : State) : Res :=
  onMainIf s (s.linkState p == 1 && !(s.port p).retry) (fun s => s.trainingFails p)

/-- LINK_RETRY (R96, R97): LINK_RETRY ticks after the failure the port starts again. -/
def execLinkRetry (p : Nat) (s : State) : Res :=
  onMainIf s (s.linkState p == 1 && (s.port p).retry && decide ((s.port p).since + s.obj Obj.LINK_RETRY p ≤ s.tick))
    (fun s => s.restartPort p)

/-- ALIGN_LOCK (R97, R99): lock is found on every lane of the port; each lane reports its inversion in bit 14 and its logical
position in bits [7:0] of its element of `order`. -/
def Dev.alignLock (s : Dev) (p : Nat) (order : List Nat) : Dev :=
  let x := s.port p
  let s1 := s.setPort p (if s.linkState p = 2 then { x with lockSince := x.lockSince.orElse (fun _ => some s.tick) } else { x with lossSince := none })
  (s.lanesOf p).zipIdx.foldl (fun t li =>
    t.setObj Obj.LANE_STATUS li.1 (0x8000 + bits (nth order li.2) 14 14 * 0x4000 + nth order li.2 % 256)) s1

/-- ALIGN_LOCK (R97). -/
def execAlignLock (p : Nat) (order : List Nat) (s : State) : Res :=
  onMainIf s ((s.linkState p == 2 || s.linkState p == 3) && s.ethref) (fun s => s.alignLock p order)

/-- Whether lock has been held for LINK_UP_HOLD (R97). -/
def Dev.linkUpDue (s : Dev) (p : Nat) : Bool :=
  s.linkState p == 2 && (match (s.port p).lockSince with | some t => decide (t + s.obj Obj.LINK_UP_HOLD p ≤ s.tick) | none => false)

/-- A port comes to UP (R97). -/
def Dev.goUp (s : Dev) (p : Nat) : Dev :=
  (((s.setObj Obj.LINK_STATE_2000 p 3).setPort p { s.port p with since := s.tick, lossSince := none }).notify 0x2001 Obj.LINK_STATE_2000 p).pauseEval

/-- LINK_UP (R97): at an edge run by steps, a port whose lock has been held for LINK_UP_HOLD comes to UP. -/
def execLinkUp (p : Nat) (s : State) : Res := onMainIf s (s.edgeTodo.contains .links && s.linkUpDue p) (fun s => s.goUp p)

/-- ALIGN_TIMEOUT (R97): no lock on some lane within 98,304 ticks; `mask` names the lanes. -/
def execAlignTimeout (p mask : Nat) (s : State) : Res :=
  onMainIf s (s.linkState p == 2 && (s.port p).lockSince.isNone && decide ((s.port p).since + 98304 ≤ s.tick))
    (fun s => (s.notify 0x2004 Obj.LINK_STATE_2000 (p + mask % 2 ^ 32 * 2 ^ 32)).restartPort p)

/-- LOCK_LOSS (R95, R97): loss of lock on lanes, or a fault (no lane named), on an UP or ALIGNING port; a lock loss ends the frame
being received. In ALIGNING the 98,304 ticks of LANE_FAULT count again from the loss (log entry 134: DESIGN CHOICE, unsafe). -/
def Dev.lockLoss (s : Dev) (p : Nat) (lanes : List Nat) : Dev :=
  let s1 := s.clearLocks (lanes.filter (s.lanesOf p).contains)
  let x := s1.port p
  if s.linkState p = 2 then s1.setPort p { x with lockSince := none, since := s.tick }
  else
    let s2 := s1.setPort p { x with lossSince := x.lossSince.orElse (fun _ => some s.tick) }
    if lanes = [] then s2 else s2.frameDone p [] false true

/-- LOCK_LOSS (R97). -/
def execLockLoss (p : Nat) (lanes : List Nat) (s : State) : Res :=
  onMainIf s (s.linkState p == 2 || s.linkState p == 3) (fun s => s.lockLoss p lanes)

/-- A port leaves UP (R97): the frame being received ends, LINK_DOWN is notified, and the port trains or aligns again. -/
def Dev.goDown (s : Dev) (p : Nat) : Dev :=
  ((((s.unmarkTx p).frameDone p [] false true).notify 0x2002 Obj.LINK_STATE_2000 p).clearPause p).restartPort p

/-- Whether a loss has lasted LINK_DOWN_HOLD (R97). -/
def Dev.linkDownDue (s : Dev) (p : Nat) : Bool :=
  s.linkState p == 3 && (match (s.port p).lossSince with | some t => decide (t + s.obj Obj.LINK_DOWN_HOLD p ≤ s.tick) | none => false)

/-- LINK_DOWN (R97): at an edge run by steps, a port whose loss has lasted LINK_DOWN_HOLD leaves UP. -/
def execLinkDown (p : Nat) (s : State) : Res := onMainIf s (s.edgeTodo.contains .links && s.linkDownDue p) (fun s => s.goDown p)

/-- The ports that an edge brings to UP and those that leave it (R97). -/
def Dev.linksEdge (s : Dev) : Dev :=
  (List.range s.part.ports).foldl (fun t p => if t.linkUpDue p then t.goUp p else if t.linkDownDue p then t.goDown p else t) s

/-- Whether lane l is due to try the inverted sense (R99): an aligning port that did not train, 4,096 ticks without lock since it began to
align or the lane last tried. -/
def Dev.polarityDue (s : Dev) (l : Nat) : Bool :=
  match s.portOfLane l with
  | some p => s.linkState p == 2 && !(s.port p).trained && !bit (s.obj Obj.LANE_STATUS l) 15
      && decide (max (s.port p).since (Tab.getD s.eth.polTick l 0) + 4096 ≤ s.tick)
  | none => false

/-- Lane l tries the other sense (R99). -/
def Dev.polarityFlip (s : Dev) (l : Nat) : Dev :=
  let v := s.obj Obj.LANE_STATUS l
  { s.setObj Obj.LANE_STATUS l (if bit v 14 then clearBit v 14 else setBit v 14) with
      eth := { s.eth with polTick := Tab.ins s.eth.polTick l s.tick } }

/-- POLARITY_RETRY (R99). -/
def execPolarityRetry (l : Nat) (s : State) : Res := onMainIf s (s.polarityDue l) (fun s => s.polarityFlip l)

/-- FEC_DEGRADE (R94): corrected and uncorrectable codewords are counted; a window's corrections above the threshold are notified once. -/
def Dev.fecCount (s : Dev) (p n u : Nat) : Dev :=
  let x := s.port p
  let w := s.tick / 2 ^ 20
  let c := (if x.fecWindow = w then x.fecCount else 0) + n
  let told := x.fecWindow == w && x.fecNotified
  let now := decide (s.obj Obj.FEC_DEGRADE_THRESHOLD p < c)
  let s1 := ((s.addObj Obj.FEC_CORRECTED p n).addObj Obj.FEC_UNCORRECTED p u).setPort p
    { x with fecWindow := w, fecCount := c, fecNotified := told || now }
  if now && !told then s1.notify 0x2005 Obj.FEC_CORRECTED p else s1

/-- FEC_DEGRADE (R94). -/
def execFecDegrade (p corrected uncorrected : Nat) (s : State) : Res :=
  onMainIf s (decide (p < s.part.ports) && s.linkState p != 0) (fun s => s.fecCount p corrected uncorrected)

/-! ### Pause (R103 to R105) -/

/-- A received pause of n quanta for one priority (R104, R105): the timer starts, or XON ends it; in storm state it is only noted. -/
def Dev.pauseFor (s : Dev) (k n : Nat) : Dev :=
  let x := s.prio k
  let x1 := { x with lastPause := if n = 0 then x.lastPause else s.tick }
  if x.storm then s.setPrio k x1
  else if n = 0 then s.setPrio k { x1 with pauseEnd := none }
  else
    s.setPrio k { x1 with pauseEnd := some (s.tick + quantaTicks n (modeRate (s.obj Obj.PORT_MODE (k / 8)))),
                          pausedSince := if x.pauseEnd.isSome then x.pausedSince else s.tick }

/-- PAUSE_RECEIVE (R102, R104): an 802.3x frame (mask 0) under FLOW_CONTROL 1 pauses every priority; a PFC frame under FLOW_CONTROL 2
those of its mask that are in PFC_PRIORITIES, and PAUSE_RECEIVED is the sum over them. Other pause frames are not honoured and not counted, and
an 802.3x frame counts once (log entry 162: DESIGN CHOICE, unsafe). The frame being sent completes. -/
def Dev.pauseReceive (s0 : Dev) (p mask : Nat) (quanta : List Nat) : Dev :=
  let s := s0.markTx p
  if s.obj Obj.FLOW_CONTROL p = 1 ∧ mask = 0 then
    (List.range 8).foldl (fun t q => t.pauseFor (8 * p + q) (nth quanta 0 % 65536)) (s.bump Obj.PAUSE_RECEIVED p)
  else if s.obj Obj.FLOW_CONTROL p = 2 ∧ mask ≠ 0 then
    ((List.range 8).filter (fun q => bit mask q && bit (s.obj Obj.PFC_PRIORITIES p) q)).foldl
      (fun t q => ((t.bump Obj.PFC_RECEIVED (8 * p + q)).bump Obj.PAUSE_RECEIVED p).pauseFor (8 * p + q) (nth quanta q % 65536)) s
  else s

/-- PAUSE_RECEIVE (R104). -/
def execPauseReceive (p mask : Nat) (quanta : List Nat) (s : State) : Res :=
  onMainIf s (decide (p < s.part.ports) && s.portUp p) (fun s => s.pauseReceive p mask quanta)

/-- PAUSE_EXPIRE (R104): the pause timer has run out. -/
def execPauseExpire (p q : Nat) (s : State) : Res :=
  onMainIf s (decide (q < 8) && (match (s.prio (8 * p + q)).pauseEnd with | some t => decide (t ≤ s.tick) | none => false))
    (fun s => (s.markTx p).setPrio (8 * p + q) { s.prio (8 * p + q) with pauseEnd := none })

/-- XOFF_RESEND (R103): half the quanta have elapsed and a cause still holds. -/
def execXoffResend (p q : Nat) (s : State) : Res :=
  onMainIf s (decide (q < 8) && s.portUp p && s.sendsPause && (s.pausePrios p).contains q && s.xoffCause (8 * p + q)
      && (match (s.prio (8 * p + q)).xoff with | some t => decide (t ≤ s.tick) | none => false))
    (fun s => (s.sendPause (8 * p + q) (s.obj Obj.PAUSE_QUANTA p)).setPrio (8 * p + q)
      { s.prio (8 * p + q) with xoff := some (s.tick + s.resendTicks p), cause := true })

/-- PFC_STORM (R105): a priority paused for PFC_WATCHDOG ticks enters storm state. -/
def execPfcStorm (p q : Nat) (s : State) : Res :=
  onMainIf s (decide (q < 8) && s.obj Obj.PFC_WATCHDOG p != 0 && (s.prio (8 * p + q)).pauseEnd.isSome
      && decide ((s.prio (8 * p + q)).pausedSince + s.obj Obj.PFC_WATCHDOG p ≤ s.tick))
    (fun s => ((s.markTx p).setPrio (8 * p + q) { s.prio (8 * p + q) with storm := true, pauseEnd := none }).notify 0x2006 Obj.PFC_WATCHDOG p)

/-- PFC_STORM_END (R105): no pause received for PFC_WATCHDOG ticks. -/
def execPfcStormEnd (p q : Nat) (s : State) : Res :=
  onMainIf s (decide (q < 8) && (s.prio (8 * p + q)).storm && decide ((s.prio (8 * p + q)).lastPause + s.obj Obj.PFC_WATCHDOG p ≤ s.tick))
    (fun s => s.setPrio (8 * p + q) { s.prio (8 * p + q) with storm := false })

/-! ### The management port (R108) -/

/-- Byte i of an OCTETS object's value. -/
def octet (v i : Nat) : Nat := v / 256 ^ i % 256

/-- The first n bytes of an OCTETS object's value. -/
def octets (v n : Nat) : List Nat := (List.range n).map (octet v)

/-- The answer to an ARP request for the port's address (R108): a reply with MGMT_MAC. -/
def arpReply (f mac ip : List Nat) : List Nat :=
  slice f 6 6 ++ mac ++ [8, 6, 0, 1, 8, 0, 6, 4, 0, 2] ++ mac ++ ip ++ slice f 22 10

/-- The answer to an ICMP echo request for the port's address (R108). -/
def echoReply (f mac ip : List Nat) (o : Nat) : List Nat :=
  let n := be16 f 16 + 14
  let g := putAt (putAt (putAt (slice f 0 n) 0 (slice f 6 6 ++ mac)) 26 (ip ++ slice f 26 4)) o [0, nth f (o + 1), 0, 0]
  putAt g (o + 2) (beBytes 2 (checksum16 (g.drop o)))

/-- An ICMPv6 message with its checksum, from one address to another. -/
def icmp6 (dst src body : List Nat) : List Nat :=
  putAt body 2 (beBytes 2 (checksum16 (src ++ dst ++ beBytes 4 body.length ++ [0, 0, 0, 58] ++ body)))

/-- The answer to an ICMPv6 message for the port's address (R108): echo, or neighbour solicitation. -/
def icmp6Reply (f mac ip : List Nat) : Option (List Nat) :=
  let src := slice f 22 16
  let body := slice f 54 (be16 f 18)
  let frame (b : List Nat) : List Nat :=
    slice f 6 6 ++ mac ++ [0x86, 0xDD, 0x60, 0, 0, 0] ++ beBytes 2 b.length ++ [58, 255] ++ ip ++ src ++ icmp6 src ip b
  if nth body 0 = 128 ∧ slice f 38 16 = ip then some (frame ([129, nth body 1, 0, 0] ++ body.drop 4))
  else if nth body 0 = 135 ∧ slice body 8 16 = ip then some (frame ([136, 0, 0, 0, 0x60, 0, 0, 0] ++ ip ++ [2, 1] ++ mac))
  else none

/-- What the management port answers to a frame (R108): ARP, neighbour discovery and echo; DTLS goes to Xehibor. -/
def Dev.mgmtReply (s : Dev) (f : List Nat) : Option (List Nat) :=
  let mac := octets (s.obj Obj.MGMT_MAC) 6
  let ip4 := octets (s.obj Obj.MGMT_IPV4) 4
  let ip6 := octets (s.obj Obj.MGMT_IPV6) 16
  if be16 f 12 = 0x0806 then
    if be16 f 20 = 1 ∧ slice f 38 4 = ip4 then some (arpReply f mac ip4) else none
  else if be16 f 12 = 0x0800 then
    let o := 14 + 4 * (nth f 14 % 16)
    if nth f 23 = 1 ∧ nth f o = 8 ∧ slice f 30 4 = ip4 then some (echoReply f mac ip4 o) else none
  else if be16 f 12 = 0x86DD ∧ nth f 20 = 58 then icmp6Reply f mac ip6
  else none

/-- A frame received on the management port is answered (R108). -/
def Dev.mgmtReceive (s : Dev) (f : List Nat) : Dev :=
  s.mgmtFrame (fun t => match t.mgmtReply f with | some r => t.emit (.mgmtFrame r) | none => t)

/-- MGMT_FRAME_RECEIVE (R108, R469): once READINESS has reached CONFIG_LOADING. -/
def execMgmtFrameReceive (data : List Nat) (s : State) : Res := onMainIf s s.mgmtOut (fun s => s.mgmtReceive data)

end Sys2Proof.Machine
end

