-- ==== Sys2Proof/Machine/BureauCheck.lean ====
section
/-! DEFINITION. Rights to the Bureau's objects (R63 to R66, and each chapter's), and the legality of a written value (R74, R75, R508). -/
namespace Sys2Proof.Machine

/-! ### Rights -/

/-- The bit of a principal in WRITERS and READERS (R67). -/
def Principal.code : Principal → Nat | .owner => 0 | .manager => 1 | .tenant => 2 | .witness => 3 | .debug => 4

/-- Whether function m belongs to the tree of function n: n itself, or a VF of PF n. -/
def Dev.inTree (s : Dev) (n m : Nat) : Bool := m == n || (isPf n && !isPf m && decide (m < 65536) && s.parentPf m == n)

/-- The function of a device queue number. -/
def Dev.fnOfG (s : Dev) (g : Nat) : Nat := s.queueField g 0xFFFF (fun k _ => k / 16384)

/-- The node whose objects an instance of a scheduler object concerns (R219), for those that belong to a node. -/
def schedNode (index inst : Nat) : Option Nat :=
  if index = 0x7000 ∨ index = 0x7008 ∨ index = 0x7020 ∨ index = 0x7028 ∨ index = 0x70C0 then some inst
  else if index = 0x7010 then some (portBase + inst)
  else if index = 0x7018 ∨ index = 0x70C8 then some (groupBase + inst)
  else none

/-- The creating PF of namespace i. -/
def Dev.creator (s : Dev) (i : Nat) : Nat := s.obj Obj.NS_CREATOR i

/-- Whether a handle lies in a block of PF n (R348). -/
def Dev.blockOf (s : Dev) (n h : Nat) : Bool := decide (h < 2 ^ 24) && s.obj Obj.KEY_BLOCK_PF (h / 65536) == n

/-- Whether function n, as Manager or Tenant, reaches an instance of an object (R65, R219, R251, R277, R298, R329, R348, R353, R378). -/
def Dev.reaches (s : Dev) (n : Nat) (oid inst : Nat) (write : Bool) : Bool :=
  let index := oid / 256
  let manager := isPf n
  let top := index / 4096
  if top = 7 then
    match schedNode index inst with | some N => s.inTree n (s.obj Obj.NODE_FUNCTION N) | none => false
  else if index = 0x8000 ∨ index = 0x8008 then manager && inst == s.linkOf n
  else if index = 0x8010 ∨ index = 0x8018 ∨ index = 0x8030 then s.inTree n inst
  else if index = 0x8040 ∨ index = 0x8048 ∨ index = 0xB030 then s.inTree n (s.fnOfG inst)
  else if oid = Obj.MAX_IMAGE then false
  else if index = 0x8060 ∨ index = 0x8068 ∨ index = 0x8070 then !isPf inst && s.inTree n inst
  else if top = 8 then false
  else if index = 0x9000 ∨ index = 0x9048 then manager && s.inTree n (s.ctrlFn inst)
  else if index = 0x9010 then
    if manager then s.creator inst == n else match s.ctrlOfFn n with | some c => s.attached inst c | none => false
  else if index = 0x9018 then manager && s.creator (inst / 16) == n
  else if index = 0x9020 then manager && (match s.nsOfSlot inst with | some i => s.creator i == n | none => false)
  else if top = 9 then manager && (index == 0x9030 || index == 0x9038)
  else if index = 0xA020 ∨ oid = Obj.KEY_STATE then manager && s.blockOf n inst
  else if top = 0xA then manager
  else if index = 0xB000 ∧ write = true then manager && s.obj Obj.TB_MANAGER inst == n
  else true

/-- Whether ACCESS_MASK admits an object's index range for function n (R65, R236). -/
def Dev.masked (s : Dev) (n oid : Nat) : Bool := bit (s.obj Obj.ACCESS_MASK n) (oid / 2 ^ 20)

/-- Whether a mask of principals lets one in: Debug has the Owner's rights beside its own (R66). -/
def admits (mask : Nat) (who : Principal) : Bool := bit mask who.code || (who == .debug && bit mask 0)

/-- Whether a principal may read an object's instance (R63 to R66). -/
def Dev.mayReadAt (s : Dev) (who : Principal) (n : Nat) (d : ObjDef) (inst : Nat) : Bool :=
  d.acc != .wo && admits (readersOf d) who &&
    (match who with
      | .manager => s.masked n d.oid && s.reaches n d.oid inst false
      | .tenant => s.masked n d.oid && s.reaches n d.oid inst false
      | .witness => d.oid / 2 ^ 20 == 0xE || decide (0x100000 ≤ d.oid ∧ d.oid < 0x105000)
      | _ => true)

/-- The nodes whose NODE_FUNCTION is function n or a VF of it (R219). -/
def Dev.nodesOf (s : Dev) (n : Nat) : List Nat :=
  (s.objs.filter (fun e => e.1 / 2 ^ 32 == Obj.NODE_FUNCTION && s.inTree n e.2)).map (fun e => e.1 % 2 ^ 32)

/-- Instances of an index among which function n reaches one if it reaches any: those that *Dev.reaches* asks about, one of a kind. -/
def Dev.candidates (s : Dev) (n index : Nat) : List Nat :=
  let top := index / 4096
  if index = 0x7018 ∨ index = 0x70C8 then (s.nodesOf n).map (fun N => N - groupBase)
  else if index = 0x7010 then (s.nodesOf n).map (fun N => N - portBase)
  else if top = 7 then s.nodesOf n
  else if index = 0x8000 ∨ index = 0x8008 then [s.linkOf n]
  else if index = 0x8040 ∨ index = 0x8048 ∨ index = 0xB030 then s.hosts.queues.map (fun e => e.2.g)
  else if top = 8 then n :: (s.vfsOf n).take 1
  else if index = 0x9030 ∨ index = 0x9038 then [0]
  else if index = 0x9010 then s.storage.nss.map Prod.fst
  else if index = 0x9018 then s.storage.nss.map (fun e => 16 * e.1)
  else if index = 0x9020 then s.storage.nss.map (fun e => s.obj Obj.EXTENT_BASE e.1)
  else if top = 9 then (s.objs.filter (fun e => e.1 / 2 ^ 32 == Obj.NVME_FUNCTION && s.inTree n e.2)).map (fun e => e.1 % 2 ^ 32)
  else if top = 0xA then (List.range 256).map (· * 65536)
  else [0]

/-- Whether a principal may read an object (R63 to R66): HIGHEST_SUB is read by whoever may read any subindex of its index (R60). -/
def Dev.mayRead' (s : Dev) (who : Principal) (n : Nat) (d : ObjDef) (inst : Nat) : Bool :=
  if d.oid % 256 = 0 then
    (dictionary.filter (fun e => e.oid / 256 == d.oid / 256)).any (fun e =>
      (s.candidates n (d.oid / 256)).any (fun i => s.mayReadAt who n e i) || (who != .manager && who != .tenant && s.mayReadAt who n e 0))
  else s.mayReadAt who n d inst

/-- Whether a principal may write an object (R63 to R66): RESET_REQUEST is the Owner's alone (R467), and CIPHER_REARM comes over Xehibor
(R352). -/
def Dev.mayWriteObj (s : Dev) (who : Principal) (key n : Nat) (d : ObjDef) (inst : Nat) : Bool :=
  !(d.acc == .const || d.acc == .ro) && admits d.writers who &&
    (match who with
      | .manager => s.masked n d.oid && s.reaches n d.oid inst true
      | .tenant => s.masked n d.oid && s.reaches n d.oid inst true
      | .witness => d.oid / 2 ^ 20 == 0xE
      | _ => true) &&
    (key != 0x20000 || s.obj Obj.MCTP_PRINCIPAL != 1) &&
    (d.oid != Obj.RESET_REQUEST || who == .owner) &&
    (d.oid != Obj.CIPHER_REARM || (who == .owner && key != 0x20000))

/-- Whether a principal may read an object's descriptor (R67): it may read or write the object. -/
def Dev.mayDescribe (s : Dev) (who : Principal) (key n : Nat) (d : ObjDef) (inst : Nat) : Bool :=
  s.mayRead' who n d inst || s.mayWriteObj who key n d inst

/-! ### Values -/

/-- What the check of a value gives (R74): legal, clamped to a value, or refused with a status. -/
inductive Verdict where
  | legal
  | clamped (v : Nat)
  | refused (status : Nat)
  deriving DecidableEq, Repr

/-- A STRING without a zero byte before its padding (R75). -/
def stringOk (bs : List Nat) : Bool := (bs.dropWhile (· != 0)).all (· == 0)

/-- One byte of a UTF-8 text: the continuation bytes still to come and the range of the next one; none where the text is no UTF-8. -/
def utf8Step (st : Option (Nat × Nat × Nat)) (b : Nat) : Option (Nat × Nat × Nat) :=
  match st with
  | none => none
  | some (0, _, _) =>
    if b < 0x80 then some (0, 0, 0)
    else if b < 0xC2 then none
    else if b ≤ 0xDF then some (1, 0x80, 0xBF)
    else if b ≤ 0xEF then some (2, if b = 0xE0 then 0xA0 else 0x80, if b = 0xED then 0x9F else 0xBF)
    else if b ≤ 0xF4 then some (3, if b = 0xF0 then 0x90 else 0x80, if b = 0xF4 then 0x8F else 0xBF)
    else none
  | some (k + 1, lo, hi) => if lo ≤ b ∧ b ≤ hi then some (k, 0x80, 0xBF) else none

/-- Whether bytes are UTF-8 (R62). -/
def utf8Ok (bs : List Nat) : Bool := match bs.foldl utf8Step (some (0, 0, 0)) with | some (0, _, _) => true | _ => false

/-- Whether a value is one of its type (R62, R75). -/
def ObjTy.valueOk (ty : ObjTy) (v : Nat) : Bool :=
  match ty with
  | .bool => decide (v ≤ 1)
  | .string n => stringOk (leBytes n v) && utf8Ok (leBytes n v)
  | .time96 => time96Ok v
  | _ => true

/-- Whether a WRED profile may be staged (R211). -/
def wredOk (v : Nat) : Bool :=
  bits v 3 2 == 0 && decide (bits v 111 96 ≤ bits v 127 112) && decide (bits v 79 64 ≤ bits v 95 80) && decide (bits v 47 32 ≤ bits v 63 48)

/-- Whether a policer record may be staged (R214), whatever its MODE: PIR_EIR is a rate in MODE 2 and 3 and zero else. -/
def policerOk (v : Nat) : Bool :=
  let mode := bits v 33 32
  let rate (r : Nat) : Bool := decide (16 ≤ r ∧ r ≤ 1600000000)
  let oh := toSigned 8 (bits v 63 56)
  bits v 55 48 == 0 && bits v 39 34 == 0 && bits v 31 0 == 0 && decide (bits v 43 41 ≤ 4) && decide (-64 ≤ oh ∧ oh ≤ 64) &&
    rate (bits v 191 160) && (if 2 ≤ mode then rate (bits v 159 128) else bits v 159 128 == 0) &&
    (mode != 2 || decide (bits v 191 160 ≤ bits v 159 128)) && (bits v 127 104 != 0 || bits v 103 80 != 0)

/-- Whether a colour map may be staged (R215): no entry of 3. -/
def colorMapOk (v : Nat) : Bool := (List.range 64).all (fun x => bits v (2 * x + 1) (2 * x) != 3)

/-- Whether an extent record may be staged (R308, R75): no reserved bit, no hole of KIND, MIRRORED with KIND 1 only. -/
def extentOk (v : Nat) : Bool :=
  bits v 107 100 == 0 && bits v 95 3 == 0 && bits v 1 0 != 3 && (!bit v 2 || bits v 1 0 == 1)

/-- The nearest legal value at or below a port rate limit, and so on for a CLAMP (R67): in a hole, the next range's first value. -/
def clampTo (ranges : List (Int × Int)) (v : Int) : Int :=
  match ranges.find? (fun r => decide (v ≤ r.2)) with
  | some r => if v < r.1 then r.1 else v
  | none => match ranges.getLast? with | some r => r.2 | none => v

/-- A KEY_IMPORT's blob, unwrapped (R349): KIND, ALG_MASK, USE_MASK and MATERIAL of a record that may be staged. -/
def Dev.keyImport (s : Dev) (v : Nat) : Option (Nat × KeyRec) :=
  let bs := leBytes 96 v
  let h := ofLE (bs.take 3)
  let n := ofLE (slice bs 4 4)
  match Tab.get? s.cipher.tks (nth bs 3) with
  | none => none
  | some tk =>
    if 88 < n then none
    else match Config.kwUnwrap tk (slice bs 8 n) with
      | none => none
      | some p =>
        let w := ofLE (p.take 16)
        let kind := bits w 103 96
        let len := bits w 95 88
        let m := slice p 16 len
        let fits : Bool :=
          match kind with
          | 1 => len == 16
          | 2 => len == 32
          | 3 => len == 32
          | 4 => len == 64
          | 5 => len == 32
          | 6 => decide (16 ≤ len ∧ len ≤ 64)
          | _ => false
        let halves := (kind == 3 || kind == 4) && m.take (len / 2) == m.drop (len / 2)
        if bits w 127 104 = h ∧ fits = true ∧ halves = false ∧ bits w 71 0 = 0 ∧ bit w 87 = false ∧ bits w 79 77 = 0 ∧
            p.length = 16 + ceilDiv len 8 * 8 ∧ (slice bs (8 + n) 96).all (· == 0) = true then
          some (h, { kind := kind, algs := bits w 87 80, uses := bits w 79 72, material := m })
        else none

/-- Whether an SA record may be staged (R342): with a ChaCha20 key at its handle, ICV_LEN is 16. -/
def Dev.saOk (s : Dev) (h v : Nat) : Bool :=
  let icv := bits v 239 232
  let proto := bits v 199 196
  (icv == 16 || ((icv == 8 || icv == 12) && !((s.key? h).any (fun k => k.kind == 5)))) && decide (bits v 255 240 ≤ 512) &&
    (proto == 1 || proto == 2) && bits v 191 0 == 0

/-- Whether a TK_INSTALL record may be staged (R420). -/
def Dev.tkOk (s : Dev) (v : Nat) : Bool :=
  let bs := leBytes 152 v
  decide (nth bs 0 < 4) && (slice bs 1 7).all (· == 0) && (slice bs 105 7).all (· == 0) && (Config.tkUnwrap s.boot.fuses.steps bs).isSome

/-- Whether a function number names a function that the configuration in a view gives the device (R225, R226, R301): a PF within PF_COUNT
of an upstream link, or a VF within a budget (log entry 123: DEDUCED, unsafe). -/
def fnConfigured (p : Part) (view : Nat → Nat → Nat) (n : Nat) : Bool :=
  fnInPart p n &&
    (if isPf n then decide (n % 8 < view Obj.PF_COUNT (n / 8)) && (view Obj.LINK_MODE (n / 8) == 1 || view Obj.LINK_MODE (n / 8) == 2)
     else decide (n - 64 < (List.range (8 * p.links)).foldl (fun a m => a + view Obj.VF_BUDGET m) 0))

/-- The dependent ranges that clamp (R103, R195, R508, and MEM_TEMP_CRIT's), by the values that a view gives. -/
def dependent (view : Nat → Nat → Nat) (d : ObjDef) (inst : Nat) (r : List (Int × Int)) : List (Int × Int) :=
  if d.oid = Obj.XON_THRESHOLD then [(0, (view Obj.XOFF_THRESHOLD inst : Int) - 1024)]
  else if d.oid = Obj.HIGH_WM_BP then [((view Obj.LOW_WM_BP inst : Int), 10000)]
  else if d.oid = Obj.MEM_TEMP_CRIT then [((view Obj.MEM_TEMP_HOT 0 : Int) + 5, 110)]
  else r

/-- MEM_RATE's further limits (R447): 32 Gb devices need 20 Gb/s, and 1.25 V allows 20 Gb/s. -/
def Dev.memRates (s : Dev) : List (Int × Int) :=
  [(if s.obj Obj.MEM_DENSITY = 2 then 20 else 16, if s.obj Obj.MEM_VDDQ = 1 then 20 else 24)]

/-- The rule that a value breaks beyond its type and range, if any: refused with 0x01, or 0x40 for a handle outside a Manager's blocks
(R75 and the rules that the object tables name). -/
def Dev.illegal (s : Dev) (view : Nat → Nat → Nat) (who : Principal) (n : Nat) (oid inst v : Nat) : Option Nat :=
  let bad (b : Bool) : Option Nat := if b then some 0x01 else none
  let handle : Option Nat :=
    if v = nullHandle then none
    else if who = .manager ∧ s.blockOf n v = false then some 0x40
    else bad (s.key? v).isNone
  if oid = Obj.NODE_HEAD then bad (!nodeHeadOk v || inst / 256 == s.obj Obj.ACTIVE_BANK)
  else if oid = Obj.NODE_ARCS then bad (!nodeArcsOk v || inst / 256 == s.obj Obj.ACTIVE_BANK)
  else if oid = Obj.START_NODE then bad (!sourceExists s.part (inst % 40) || inst / 40 == s.obj Obj.ACTIVE_BANK)
  else if oid = Obj.GRAPH_TAG then bad (inst == s.obj Obj.ACTIVE_BANK)
  else if oid = Obj.KEY_MAP then bad (!keyMapOk 48 v)
  else if oid = Obj.EM_KEY_MAP then bad (!keyMapOk 112 v)
  else if oid = Obj.RULE_DATA then bad (!ruleDataOk v)
  else if oid = Obj.RULE_HEAD then bad (!ruleHeadOk v)
  else if oid = Obj.ACTION then bad (!actionOk v)
  else if oid = Obj.COMPARATOR then bad (!comparatorOk v)
  else if oid = Obj.REWRITE_TEMPLATE then bad (!templateOk v)
  else if oid = Obj.SLOT_COUNT then
    bad (v != 0 && (decide (v < 4) || 2 ^ log2 v != v || decide (ruleSlots s.part (view Obj.RULE_PLACEMENT 0) < v)))
  else if oid = Obj.SLOT_BASE then
    bad (view Obj.SLOT_COUNT inst != 0 && (v % view Obj.SLOT_COUNT inst != 0 ||
      decide (ruleSlots s.part (view Obj.RULE_PLACEMENT 0) < v + view Obj.SLOT_COUNT inst)))
  else if oid = Obj.BUCKET_COUNT then bad (v != 0 && (decide (v < 16) || 2 ^ log2 v != v))
  else if oid = Obj.WRED then bad (!wredOk v)
  else if oid = Obj.POLICER then bad (!policerOk v)
  else if oid = Obj.COLOR_MAP then bad (!colorMapOk v)
  else if oid = Obj.EXTENT then bad (!extentOk v)
  else if oid = Obj.TB_SET then bad (!time96Ok (v % 2 ^ 96))
  else if oid = Obj.KEY_IMPORT then
    if who = .manager ∧ s.blockOf n (v % 2 ^ 24) = false then some 0x40 else bad (s.keyImport v).isNone
  else if oid = Obj.KEY_DELETE then
    if who = .manager ∧ s.blockOf n v = false then some 0x40 else bad (s.key? v).isNone
  else if oid = Obj.TK_INSTALL then bad (!s.tkOk v)
  else if oid = Obj.SA then bad (!s.saOk inst v || (s.key? inst).isNone)
  else if oid = Obj.TX_SA_KEY ∨ oid = Obj.RX_SA_KEY then (if v = nullHandle then some 0x01 else handle)
  else if oid = Obj.XTS_KEY then handle
  else if oid = Obj.BUCKET_HOME then bad (!s.inService v)
  else if oid = Obj.RX_SC_PORT then bad (v != 0xFF && view Obj.PORT_MODE v == 0)
  else if oid = Obj.PARENT then bad (!decide (inst < portBase))
  else if oid = Obj.BK_PF ∨ oid = Obj.KEY_BLOCK_PF ∨ oid = Obj.TB_MANAGER then
    bad (v != 0xFFFF && !(isPf v && fnConfigured s.part view v))
  else if oid = Obj.NODE_FUNCTION then bad (v != 0xFFFF && !fnConfigured s.part view v)
  else if oid = Obj.OWNER_CONTROL then bad (!validOwner s.part inst)
  else if oid = Obj.LOOP_AS then bad (!(decide (41 ≤ inst) && decide (v < s.part.ports)))
  else if oid = Obj.LINK_MODE then bad (v == 1 && inst % 2 == 1)
  else if oid = Obj.PORT_MODE then bad (v != 0 && (inst % modeWidth v != 0 || decide (s.part.ports < inst + modeWidth v)))
  else if oid = Obj.FEC_MODE then bad (v == 1 && view Obj.PORT_MODE inst != 11)
  else if oid = Obj.LEARN_ENABLE then bad (v == 1 && view Obj.KIND inst != 1)
  else if oid = Obj.SHELF_PLACE then bad (v == 1 && inst == 0)
  else if oid = Obj.NVME_FUNCTION then bad (v != 0xFFFF && !fnConfigured s.part view v)
  else if oid = Obj.NS_EXTENTS then bad (s.obj Obj.NS_STATE inst != 0 || s.storage.deleting.any (fun d => d.1 == inst) || decide (view Obj.EXTENT_SLOTS 0 < v))
  else if oid = Obj.LBA_FORMAT then bad (s.obj Obj.NS_STATE inst != 0 || s.storage.deleting.any (fun d => d.1 == inst))
  else if oid = Obj.ATTACH then
    if who = .manager ∧ v ≠ 0xFFFF ∧ s.inTree n (s.ctrlFn v) = false then some 0x40 else none
  else if oid = Obj.INTENT_LBA then
    let b := view Obj.INTENT_BACKEND inst
    bad (v * (if b = 0xFFFF then 4096 else max 1 (bits (s.obj Obj.BK_LBA_SIZE b) 23 0)) % 4096 != 0)
  else if oid = Obj.DIRTY_MAP_ADDR ∨ oid = Obj.DIRTY_BASE then bad (v % 4096 != 0)
  else if oid = Obj.BK_ROOT_PORT then bad (!s.rootPort v)
  else if oid = Obj.RX_TS then bad (s.queueField inst 0 (fun _ q => q.type) != 2)
  else if oid = Obj.ONE_STEP then bad (s.queueField inst 0 (fun _ q => q.type) != 1)
  else if oid = Obj.IMG_BEGIN then bad (v != 0xFF && s.boot.booted == some v)
  else none

/-- R74 step 4: whether a value is legal for an object, by type, rule and range. -/
def Dev.verdict (s : Dev) (view : Nat → Nat → Nat) (who : Principal) (n : Nat) (d : ObjDef) (inst v : Nat) : Verdict :=
  if !d.ty.valueOk v || (d.count s.part == s.part.pick 4160 2112 && !fnConfigured s.part view inst) then .refused 0x01
  else match s.illegal view who n d.oid inst v with
    | some st => .refused st
    | none =>
      let rs0 := if d.oid = Obj.MEM_RATE then s.memRates else d.ranges s.part
      let rs := dependent view d inst rs0
      if rs.isEmpty then .legal
      else
        let x : Int := if d.ty.signed = 0 then v else toSigned d.ty.signed v
        let inside := rs.any (fun r => decide (r.1 ≤ x ∧ x ≤ r.2))
        if inside && (d.clamp != 2 || x % d.step == 0) then .legal
        else if d.clamp = 1 ∨ d.clamp = 2 then
          let y := clampTo rs x
          let z := if d.clamp = 2 then y / d.step * d.step else y
          .clamped (ofSigned (8 * d.ty.size) z)
        else .refused 0x01

end Sys2Proof.Machine
end

