-- ==== Sys2Proof/Machine/BureauCore.lean ====
section
/-! DEFINITION. The Bureau's sessions (R68 to R77, R81 to R87, R273, R418): requests, staging, acceptance, responses, notifications,
associations, and the end of a save (R79). -/
namespace Sys2Proof.Machine

/-! ### Records (R81) -/

/-- The 16-byte header of a record in a request, and the value that follows it (R81); reserved bits are ignored (R10). -/
def recOf (h : Nat) (value : List Nat) : ObjRec :=
  { oid := bits h 95 80 * 256 + bits h 79 72, inst := bits h 127 96, run := bit h 66, staged := bit h 65, desc := bit h 64,
    count := bits h 63 48, len := bits h 47 32, value := ofLE value }

/-- The records that bytes spell, as many as they hold; none where the last one is not whole. -/
def parseRecs : Nat → List Nat → Option (List ObjRec)
  | 0, b => if b.isEmpty then some [] else none
  | k + 1, b =>
    if b.isEmpty then some []
    else
      let h := ofLE (b.take 16)
      let len := bits h 47 32
      let n := 16 + ceilDiv len 8 * 8
      if b.length < n then none else (parseRecs k (b.drop n)).map (fun rs => recOf h (slice b 16 len) :: rs)

/-- A record of a response as bytes (R81). -/
def RespRec.encode (r : RespRec) : List Nat :=
  leBytes 16 (r.req.inst * 2 ^ 96 + r.req.oid * 2 ^ 72 + ofBool r.req.run * 2 ^ 66 + ofBool r.req.staged * 2 ^ 65 + ofBool r.req.desc * 2 ^ 64 +
    r.count * 2 ^ 48 + r.bytes.length * 2 ^ 32 + r.status * 2 ^ 24) ++ padTo 8 r.bytes

/-- A refused record's response: no value follows it (log entry 25: DESIGN CHOICE, unsafe). -/
def refusedRec (r : ObjRec) (status : Nat) : RespRec := { req := r, count := 0, status := status, bytes := [] }

/-! ### Sessions -/

/-- The session with a key. -/
def Dev.session? (s : Dev) (key : Nat) : Option Session := Tab.get? s.bureau.sessions key

/-- The state with a session replaced. -/
def Dev.setSession (s : Dev) (key : Nat) (ss : Session) : Dev :=
  { s with bureau := { s.bureau with sessions := Tab.ins s.bureau.sessions key ss } }

/-- The value that a session would read with STAGED set (R68, R508). -/
def Dev.stagedView (s : Dev) (ss : Session) (oid inst : Nat) : Nat :=
  match ss.txn.bind (fun t => t.items.find? (fun x => x.oid == oid && x.inst == inst)) with
  | some x => x.value
  | none => s.readObj oid inst

/-- Staged objects of every open transaction (R69). -/
def Dev.stagedTotal (s : Dev) : Nat :=
  s.bureau.sessions.foldl (fun a e => a + match e.2.txn with | some t => t.items.length | none => 0) 0

/-! ### Reading (R63 to R68, R81) -/

/-- Whether a session may read an object instance; `recover`: the MCTP endpoint reads the IMG objects in FAULT (R418). -/
def Dev.sessReads (s : Dev) (ss : Session) (recover : Bool) (d : ObjDef) (inst : Nat) : Bool :=
  if recover && d.oid / 256 == Obj.IMG_STATE / 256 then d.acc != .wo else s.mayRead' ss.who ss.fn d inst

/-- READ of one record with `room` bytes left in the response (R81): none where the response does not fit. A run is cut to what fits in the
response and in VALUE_LENGTH; one whose COUNT is 0 or above 4,096 is refused (log entry 159: DESIGN CHOICE, unsafe). -/
def Dev.readRec (s : Dev) (key : Nat) (ss : Session) (recover : Bool) (room : Nat) (r : ObjRec) : Option RespRec :=
  let fits (x : RespRec) : Option RespRec := if x.encode.length ≤ room then some x else none
  match bureauDef? r.oid with
  | none => fits (refusedRec r 0x01)
  | some d =>
    if !s.instanceOk d r.inst then fits (refusedRec r 0x01)
    else if r.desc then
      if s.mayDescribe ss.who key ss.fn d r.inst then fits { req := r, count := 1, status := 0, bytes := leBytes 64 (s.descriptor d) }
      else fits (refusedRec r 0x40)
    else if r.run && (r.count == 0 || decide (4096 < r.count)) then fits (refusedRec r 0x01)
    else
      let want := if r.run then min r.count (s.instances d - r.inst) else 1
      let insts := ((List.range want).map (· + r.inst)).takeWhile (s.instanceOk d)
      if insts.any (fun i => !s.sessReads ss recover d i) then fits (refusedRec r 0x40)
      else
        let cap := min ((room - 16) / 8 * 8) 65535 / max 1 d.ty.size
        let got := insts.take cap
        let val (i : Nat) : Nat := if r.staged then s.stagedView ss r.oid i else s.readObj r.oid i
        if room < 16 ∨ got.isEmpty = true then none
        else some { req := r, count := got.length, status := 0, bytes := got.flatMap (fun i => leBytes d.ty.size (val i)) }

/-- READ of records in order, as many as the response holds (R81, R273). -/
def Dev.readRecs (s : Dev) (key : Nat) (ss : Session) (recover : Bool) : Nat → List ObjRec → List RespRec
  | _, [] => []
  | room, r :: rs =>
    match s.readRec key ss recover room r with
    | none => []
    | some x => x :: s.readRecs key ss recover (room - x.encode.length) rs

/-! ### Acceptance (R71) -/

/-- Whether a request is the COMMIT of a session's transaction, which stays open until it is accepted (R73). -/
def Accepted.ofSession (a : Accepted) : Bool := !a.rw && decide (a.key < 0x30000)

/-- Whether a request is an EM_COMMAND: its effect is the table command's (R165, R166). -/
def Accepted.isEm (a : Accepted) : Bool := match a.items with | [x] => x.oid == Obj.EM_COMMAND | _ => false

/-- The objects that a request accepted in this tick and those before it hold (R71). -/
def Dev.acceptedHeld (s : Dev) : Nat := s.bureau.accepted.foldl (fun n x => n + x.items.length) 0

/-- A request is accepted (R71, R73): a transaction is open no longer, and a table command goes to its table. -/
def Dev.acceptNow (s : Dev) (a : Accepted) : Dev :=
  let s1 := { s with bureau := { s.bureau with accepted := s.bureau.accepted ++ [{ a with tick := s.tick }] } }
  if a.isEm then s1.emAccept false a.key a.seq ((a.items.map Staged.value).headD 0)
  else if a.ofSession then
    (match s1.session? a.key with | some ss => s1.setSession a.key { ss with txn := none } | none => s1)
  else s1

/-- A COMMIT or RW write is accepted now, or waits for a tick with room (R71). -/
def Dev.acceptTxn (s : Dev) (a : Accepted) : Dev :=
  if s.bureau.waiting.isEmpty && decide (s.acceptedHeld + a.items.length ≤ 16384) then s.acceptNow a
  else { s with bureau := { s.bureau with waiting := s.bureau.waiting ++ [a] } }

/-! ### Writing (R63, R69, R74) -/

/-- The items of a transaction with one staged, in place of an item for the same object (R69). -/
def stageItem (l : List Staged) (x : Staged) : List Staged :=
  if l.any (fun y => y.oid == x.oid && y.inst == x.inst) then l.map (fun y => if y.oid == x.oid && y.inst == x.inst then x else y) else l ++ [x]

/-- The TXN_ID after one (R68). -/
def nextTxnId (i : Nat) : Nat := if 65535 ≤ i then 1 else i + 1

/-- A legal value is staged, in a transaction opened if none is (R68, R69); none where there is no room. -/
def Dev.stage (s : Dev) (key : Nat) (ss : Session) (x : Staged) : Option Dev :=
  let t : Txn := ss.txn.getD { id := nextTxnId ss.lastId, items := [], last := s.tick }
  let new := !t.items.any (fun y => y.oid == x.oid && y.inst == x.inst)
  if new && (decide (4096 ≤ t.items.length) || decide (65536 ≤ s.stagedTotal)) then none
  else some (s.setSession key { ss with lastId := t.id, txn := some { t with items := stageItem t.items x, last := s.tick } })

/-- WRITE of one record (R63, R74); an EM_COMMAND, the one RW object, is accepted after the request's other records (R71, R165). -/
def Dev.writeRec (s : Dev) (key : Nat) (recover : Bool) (r : ObjRec) : Dev × RespRec :=
  match s.session? key, bureauDef? r.oid with
  | some ss, some d =>
    let img := recover && d.oid / 256 == Obj.IMG_STATE / 256 && d.acc == .wo
    if !s.instanceOk d r.inst then (s, refusedRec r 0x01)
    else if !(if recover then img else s.mayWriteObj ss.who key ss.fn d r.inst) then (s, refusedRec r 0x40)
    else if r.len ≠ d.ty.size then (s, refusedRec r 0x01)
    else
      let act (v : Nat) (st : Nat) : Dev × RespRec :=
        let unwrapped := if r.oid = Obj.KEY_IMPORT then s.keyImport v else none
        let x : Staged := { oid := r.oid, inst := r.inst, written := r.value, value := v, clamped := st != 0, key := unwrapped }
        let answer : RespRec := { req := r, count := 1, status := st, bytes := leBytes d.ty.size v }
        if r.oid = Obj.EM_COMMAND then (s, answer)
        else match s.stage key ss x with
          | some s1 => (s1, answer)
          | none => (s, refusedRec r 0x41)
      match s.verdict (s.stagedView ss) ss.who ss.fn d r.inst r.value with
      | .legal => act r.value 0
      | .clamped v => act v 2
      | .refused st => (s, refusedRec r st)
  | _, _ => (s, refusedRec r 0x01)

/-- WRITE of records in order, as many as the response holds (R74, R273). -/
def Dev.writeRecs (key : Nat) (recover : Bool) : Nat → Dev → List ObjRec → Dev × List RespRec
  | _, s, [] => (s, [])
  | room, s, r :: rs =>
    let (s1, x) := s.writeRec key recover r
    if room < x.encode.length then (s, [])
    else
      let (s2, xs) := Dev.writeRecs key recover (room - x.encode.length) s1 rs
      (s2, x :: xs)

/-- A WRITE that arrives on an open transaction restarts its idle time (R73). -/
def Dev.touchTxn (s : Dev) (key : Nat) : Dev :=
  match s.session? key with
  | some ss => s.setSession key { ss with txn := ss.txn.map (fun t => { t with last := s.tick }) }
  | none => s

/-! ### COMMIT and ABORT_TXN (R70) -/

/-- COMMIT of a transaction (R70): a status at once, or none and the transaction is accepted. -/
def Dev.commitReq (s : Dev) (key id seq : Nat) : Option Nat × Dev :=
  match s.session? key with
  | none => (some 0x01, s)
  | some ss =>
    match ss.txn with
    | none => (some 0x01, s)
    | some t =>
      if t.id ≠ id then (some 0x01, s)
      else if t.items.isEmpty then (some 0x00, s.setSession key { ss with txn := none })
      else (none, (s.touchTxn key).acceptTxn
        { key := key, who := ss.who, fn := ss.fn, id := id, items := t.items, rw := false, seq := seq, tick := s.tick })

/-- ABORT_TXN, or BUREAU_COMMIT with DISCARD (R70). -/
def Dev.abortReq (s : Dev) (key id : Nat) : Nat × Dev :=
  match s.session? key with
  | none => (0x00, s)
  | some ss =>
    match ss.txn with
    | none => (0x00, s)
    | some t => if t.id = id then (0x00, s.setSession key { ss with txn := none }) else (0x01, s)

/-! ### Xehibor and MCTP requests (R83 to R87, R469) -/

/-- 10 ms in ticks, rounded up. -/
abbrev tenMs : Nat := 19532

/-- How a request is met (R85, R87, R418, R469). -/
inductive Gate where
  | drop | aux | notReady | serve | recover
  deriving DecidableEq, Repr

/-- Whether an object lies in 0x1000 to 0x104F (R85). -/
def earlyObj (oid : Nat) : Bool := decide (0x100000 ≤ oid ∧ oid < 0x105000)

/-- How a request of a session that names some objects is met (R85, R87, R418, R422, *Readiness states*). -/
def Dev.gate (s : Dev) (key : Nat) (oids : List Nat) : Gate :=
  let m := key == 0x20000
  match s.obj Obj.READINESS with
  | 2 => if oids.all earlyObj then .serve else .notReady
  | 3 => .serve
  | 4 => if m then (if s.boot.fuses.lifeCycle = 4 then .aux else .recover) else .notReady
  | _ => if m then .aux else .drop

/-- Whether a key is an association's or the MCTP endpoint's, and the session exists. -/
def Dev.remote (s : Dev) (sess : Sess) : Bool :=
  decide (0x10000 ≤ sessKey sess) && (s.session? (sessKey sess)).isSome && s.power.vaux

/-- A response is sent; one that was served on an association is kept, the last 64 of them (R85). -/
def Dev.respond (s : Dev) (key seq : Nat) (r : Response) : Dev :=
  let s1 := s.emit (.response key seq r)
  match s1.session? key with
  | some ss => if r.result = 0 ∧ key ≠ 0x20000 then s1.setSession key { ss with cache := ((seq, r) :: ss.cache).take 64 } else s1
  | none => s1

/-- A response without records. -/
def plainResponse (result txnId status edge : Nat) : Response := { result := result, txnId := txnId, status := status, edge := edge, records := [] }

/-- RESULT = 1, at most once per 10 ms on an association (R85). -/
def Dev.answerNotReady (s : Dev) (key seq : Nat) : Dev :=
  match s.session? key with
  | none => s
  | some ss =>
    let may := match ss.lastRefusal with | some t => decide (t + tenMs ≤ s.tick) | none => true
    if may || key == 0x20000 then
      (s.setSession key { ss with lastRefusal := some s.tick }).emit (.response key seq (plainResponse 1 0 0 0))
    else s

/-- A record arrives on a session (R83). -/
def Dev.heard (s : Dev) (key : Nat) : Dev :=
  match s.session? key with | some ss => s.setSession key { ss with lastRecord := s.tick } | none => s

/-- What comes on a session's path: an association's come as frames of the management port (R83, R108). -/
def Dev.onPath (s : Dev) (key : Nat) (f : Dev → Dev) : Dev := if 0x10000 ≤ key ∧ key < 0x20000 then s.mgmtFrame f else f s

/-- A request's common part (R84, R85): a record arrives on the session; a version but 1 is answered with RESULT = 4; a sequence already
served is answered from the cache, an older one is counted, and a request still to be answered is not executed again. -/
def Dev.request (s : Dev) (sess : Sess) (ver seq : Nat) (f : Dev → Nat → Dev) : Dev :=
  let key := sessKey sess
  match s.session? key with
  | none => s
  | some ss =>
    if s.obj Obj.READINESS ≤ 1 ∧ key ≠ 0x20000 then s
    else s.onPath key (fun s =>
    let s1 := s.heard key
    if ver ≠ 1 then s1.emit (.response key seq (plainResponse 4 0 0 0))
    else if key = 0x20000 then f s1 key
    else match ss.cache.find? (fun e => e.1 == seq) with
      | some e => s1.emit (.response key seq e.2)
      | none =>
        if ss.cache.length = 64 ∧ ss.cache.all (fun e => decide (seq < e.1)) = true then s1.bump Obj.STALE_REQUESTS
        else if (s.bureau.accepted ++ s.bureau.waiting).any (fun a => a.key == key && !a.rw && a.seq == seq) ||
            s.bureau.replies.any (fun r => r.key == key && r.seq == seq) then s1
        else f s1 key)

/-- The bytes that a response's records may take (R84, R87). -/
def roomOf (key : Nat) : Nat := if key = 0x20000 then 1024 - 16 else 1200 - 16

/-- Whether every request of the MCTP endpoint is refused with 0x40 (R87). -/
def Dev.mctpNone (s : Dev) (key : Nat) : Bool := key == 0x20000 && s.obj Obj.MCTP_PRINCIPAL == 0

/-- A READ or WRITE whose body is parsed (R84, R87): RESULT = 3 where it is malformed, and where it is longer than a PDU or message holds
(log entry 124: DESIGN CHOICE, unsafe). -/
def Dev.bodyReq (s : Dev) (key seq count : Nat) (body : List Nat) (f : Dev → List ObjRec → Dev) : Dev :=
  match parseRecs count body with
  | none => s.emit (.response key seq (plainResponse 3 0 0 0))
  | some rs => if rs.length ≠ count ∨ roomOf key < body.length then s.emit (.response key seq (plainResponse 3 0 0 0)) else f s rs

/-- At an edge, responses that have waited for table commands are sent once every result is known (R165). -/
def Dev.sendReplies (s : Dev) : Dev :=
  let due (r : Reply) : Bool := decide (r.tick < s.tick) && r.records.all (fun x => x.2)
  let s1 := { s with bureau := { s.bureau with replies := s.bureau.replies.filter (fun r => !due r) } }
  (s.bureau.replies.filter due).foldl (fun t r =>
    t.respond r.key r.seq { result := 0, txnId := r.txnId, status := 0, edge := t.tick, records := r.records.map Prod.fst }) s1

/-- READ (R81), as the session's gate has it. -/
def Dev.readReq (s : Dev) (key seq : Nat) (rs : List ObjRec) : Dev :=
  match s.session? key with
  | none => s
  | some ss =>
    let rom := rs.all (fun r => [0x1000, 0x1020, 0x1040].contains (r.oid / 256))
    let answer (recover : Bool) (ss : Session) : Dev :=
      s.respond key seq { result := 0, txnId := 0, status := 0, edge := 0, records := s.readRecs key ss recover (roomOf key) rs }
    let refuse : Dev := s.respond key seq { result := 0, txnId := 0, status := 0, edge := 0, records := rs.map (fun r => refusedRec r 0x40) }
    match s.gate key (rs.map (fun r => r.oid)) with
    | .drop => s
    | .aux => if rom then answer false { ss with who := .owner } else s.emit (.response key seq (plainResponse 1 0 0 0))
    | .notReady => s.answerNotReady key seq
    | .serve => if s.mctpNone key then refuse else answer false ss
    | .recover =>
      if rs.all (fun r => earlyObj r.oid || r.oid / 256 == Obj.IMG_STATE / 256) then answer true ss else s.answerNotReady key seq

/-- READ on Xehibor or MCTP (R81). -/
def execReadReq (sess : Sess) (ver seq count : Nat) (body : List Nat) (s : State) : Res :=
  always s (fun s => if s.remote sess then s.request sess ver seq (fun t key => t.bodyReq key seq count body (fun u rs => u.readReq key seq rs)) else s)

/-- WRITE (R74), as the session's gate has it. -/
def Dev.writeReq (s : Dev) (key seq : Nat) (rs : List ObjRec) : Dev :=
  let answer (recover : Bool) : Dev :=
    let (s1, xs) := Dev.writeRecs key recover (roomOf key) (s.touchTxn key) rs
    let id := match (s1.session? key).bind (fun ss => ss.txn) with | some t => t.id | none => 0
    let ems := xs.zipIdx.filter (fun e => e.1.req.oid == Obj.EM_COMMAND && e.1.status == 0)
    if ems.isEmpty then s1.respond key seq { result := 0, txnId := id, status := 0, edge := 0, records := xs }
    else
      let r : Reply := { key := key, seq := seq, txnId := id, tick := s.tick,
                         records := xs.map (fun x => (x, !(x.req.oid == Obj.EM_COMMAND && x.status == 0))) }
      let s2 := { s1 with bureau := { s1.bureau with replies := s1.bureau.replies ++ [r] } }
      ems.foldl (fun t e =>
        t.acceptTxn { key := key, who := .owner, fn := 0xFFFF, id := 0, rw := true, seq := seq * 65536 + e.2, tick := s.tick,
                      items := [{ oid := Obj.EM_COMMAND, inst := 0, written := e.1.req.value, value := e.1.req.value, clamped := false }] }) s2
  match s.gate key (rs.map (fun r => r.oid)) with
  | .drop => s
  | .aux => s.emit (.response key seq (plainResponse 1 0 0 0))
  | .notReady => s.answerNotReady key seq
  | .serve =>
    if s.mctpNone key then s.respond key seq { result := 0, txnId := 0, status := 0, edge := 0, records := rs.map (fun r => refusedRec r 0x40) }
    else answer false
  | .recover => answer true

/-- WRITE on Xehibor or MCTP (R74). -/
def execWriteReq (sess : Sess) (ver seq count : Nat) (body : List Nat) (s : State) : Res :=
  always s (fun s => if s.remote sess then s.request sess ver seq (fun t key => t.bodyReq key seq count body (fun u rs => u.writeReq key seq rs)) else s)

/-- The objects of a session's open transaction. -/
def Dev.openOids (s : Dev) (key : Nat) : List Nat :=
  match (s.session? key).bind (fun ss => ss.txn) with | some t => t.items.map (fun x => x.oid) | none => []

/-- COMMIT or ABORT_TXN as the session's gate has it: what it names is the open transaction (log entry 25: DESIGN CHOICE, unsafe). -/
def Dev.txnReq (s : Dev) (key seq id : Nat) (f : Dev → Dev) : Dev :=
  match s.gate key (s.openOids key) with
  | .drop => s
  | .aux => s.emit (.response key seq (plainResponse 1 0 0 0))
  | .notReady => s.answerNotReady key seq
  | .serve => if s.mctpNone key then s.respond key seq (plainResponse 0 id 0x40 0) else f s
  | .recover => f s

/-- COMMIT on Xehibor or MCTP (R70): refused at once, or answered after the edge that applies it (R77). -/
def execCommitTxn (sess : Sess) (ver seq txn : Nat) (s : State) : Res :=
  always s (fun s => if s.remote sess then s.request sess ver seq (fun t key => t.txnReq key seq txn (fun u =>
    match u.commitReq key txn seq with
    | (some st, u1) => u1.respond key seq (plainResponse 0 txn st 0)
    | (none, u1) => u1)) else s)

/-- ABORT_TXN (R70). -/
def execAbortTxn (sess : Sess) (ver seq txn : Nat) (s : State) : Res :=
  always s (fun s => if s.remote sess then s.request sess ver seq (fun t key => t.txnReq key seq txn (fun u =>
    let (st, u1) := u.abortReq key txn
    u1.respond key seq (plainResponse 0 txn st 0))) else s)

/-! ### The admin path (R82, R273) -/

/-- The status of a READ or WRITE command (R273). -/
def recsStatus (xs : List RespRec) : Nat :=
  match xs.find? (fun x => x.status != 0 && x.status != 2) with
  | some x => x.status
  | none => if xs.any (fun x => x.status == 2) then 2 else 0

/-- The completion of a Bureau command (R273): its output, status and RESULT. -/
def Dev.bureauDone (s : Dev) (n desc status txnId tick : Nat) (xs : List RespRec) (recs : Nat) : Dev :=
  let out := xs.flatMap RespRec.encode
  let s1 := if out.isEmpty then s else s.hostWrite n (bits desc 159 96) out false
  s1.adminDone n status (tick % 2 ^ 64 * 2 ^ 64 + txnId * 2 ^ 48 + recs % 65536 * 2 ^ 32 + out.length)

/-- A Bureau command with its input buffer (R241, R243, R273): a read that failed ends it with 0x11, and bytes that are no records with 0x01. -/
def Dev.withInput (s : Dev) (n desc : Nat) (input : Option (List Nat)) (f : List ObjRec → Dev) : Dev :=
  match input with
  | none => s.adminDone n 0x11 0
  | some b =>
    match parseRecs b.length (b.take (bits desc 191 160)) with
    | none => s.adminDone n 0x01 0
    | some rs => f rs

/-- BUREAU_READ (R273). -/
def execBureauRead (n desc : Nat) (input : Option (List Nat)) (s : State) : Res :=
  adminRun s n desc 0x10 false (fun s =>
    match s.session? n with
    | none => s.adminDone n 0x40 0
    | some ss => s.withInput n desc input (fun rs =>
        let xs := s.readRecs n ss false (bits desc 95 64) rs
        s.bureauDone n desc (recsStatus xs) 0 0 xs xs.length))

/-- BUREAU_WRITE (R273). -/
def execBureauWrite (n desc : Nat) (input : Option (List Nat)) (s : State) : Res :=
  adminRun s n desc 0x11 false (fun s =>
    if (s.session? n).isNone then s.adminDone n 0x40 0
    else s.withInput n desc input (fun rs =>
        let (s1, xs) := Dev.writeRecs n false (bits desc 95 64) (s.touchTxn n) rs
        let id := match (s1.session? n).bind (fun ss => ss.txn) with | some t => t.id | none => 0
        s1.bureauDone n desc (recsStatus xs) id 0 xs xs.length))

/-- BUREAU_COMMIT (R70, R273). -/
def execBureauCommit (n desc : Nat) (s : State) : Res :=
  adminRun s n desc 0x12 false (fun s =>
    if bit desc 48 then
      let (st, s1) := s.abortReq n (adminArg desc)
      s1.bureauDone n desc st (adminArg desc) 0 [] 0
    else match s.commitReq n (adminArg desc) 0 with
      | (some st, s1) => s1.bureauDone n desc st (adminArg desc) 0 [] 0
      | (none, s1) => s1.adminBegin n (.commit (bits desc 159 96) (bits desc 95 64)))

/-! ### Discards, notifications and associations (R73, R83, R86) -/

/-- TXN_IDLE_TIMEOUT (R73). -/
def execTxnIdleTimeout (sess : Sess) (s : State) : Res :=
  onMainIf s (match (s.session? (sessKey sess)).bind (fun ss => ss.txn) with
    | some t => decide (t.last + s.obj Obj.TXN_IDLE_TIMEOUT ≤ s.tick)
    | none => false) (fun s => s.discardTxn (sessKey sess))

/-- NOTIFY_ACK (R86). -/
def execNotifyAck (sess : Sess) (seq : Nat) (s : State) : Res :=
  always s (fun s => match s.session? (sessKey sess) with
    | some ss => s.onPath (sessKey sess) (fun s =>
        s.setSession (sessKey sess) { ss with lastRecord := s.tick, notifs := ss.notifs.filter (fun n => n.seq != seq) })
    | none => s)

/-- NOTIFY_RESEND (R86): 10 ms after the last sending, up to five times. -/
def execNotifyResend (sess : Sess) (seq : Nat) (s : State) : Res :=
  match s.session? (sessKey sess) with
  | none => ok s s.toDev
  | some ss =>
    match ss.notifs.find? (fun n => n.seq == seq) with
    | none => ok s s.toDev
    | some n => onMainIf s (decide (n.lastSend + tenMs ≤ s.tick) && decide (n.sends ≤ 5)) (fun s =>
        let n' : Notif := { n with sends := n.sends + 1, lastSend := s.tick }
        (s.setSession (sessKey sess) { ss with notifs := ss.notifs.map (fun m => if m.seq = seq then n' else m) }).emit
          (.notify (sessKey sess) n'))

/-- The principal of a trust anchor (R64). -/
def anchorPrincipal : Anchor → Principal | .owner => .owner | .witness => .witness | .debug => .debug

/-- XEHIBOR_HANDSHAKE (R64, R83, R108): association a opens while the management port is active; a Debug anchor serves in MANUFACTURE and
DIAGNOSTIC alone. -/
def execXehiborHandshake (a : Nat) (anchor : Anchor) (s : State) : Res :=
  onMainIf s (decide (2 ≤ s.obj Obj.READINESS) && decide (a < 16) && (s.session? (0x10000 + a)).isNone &&
      (anchor != .debug || [0, 3].contains s.boot.fuses.lifeCycle))
    (fun s => s.mgmtFrame (fun s => s.setSession (0x10000 + a) { who := anchorPrincipal anchor, lastRecord := s.tick }))

/-- 60 s in ticks. -/
abbrev sixtySeconds : Nat := 117187500

/-- A session ends, and what it had open is discarded (R73). -/
def Dev.endSession (s : Dev) (key : Nat) : Dev :=
  let s1 := s.discardTxn key
  { s1 with bureau := { s1.bureau with sessions := Tab.del s1.bureau.sessions key } }

/-- ASSOCIATION_CLOSE (R73, R83): 60 s without a record, or the client's closing alert, a frame of the management port. -/
def execAssociationClose (a : Nat) (alert : Bool) (s : State) : Res :=
  match s.session? (0x10000 + a) with
  | none => ok s s.toDev
  | some ss => onMainIf s (decide (a < 16) && (alert || decide (ss.lastRecord + sixtySeconds ≤ s.tick))) (fun s =>
      if ss.lastRecord + sixtySeconds ≤ s.tick then s.endSession (0x10000 + a) else s.mgmtFrame (fun t => t.endSession (0x10000 + a)))

/-! ### The configuration store (R79) -/

/-- Copy i of the configuration store. -/
def Dev.storeCopy (s : Dev) (i : Nat) : StoreCopy := if i = 0 then s.bureau.store0 else s.bureau.store1

/-- The state with copy i of the configuration store replaced. -/
def Dev.setStoreCopy (s : Dev) (i : Nat) (c : StoreCopy) : Dev :=
  if i = 0 then { s with bureau := { s.bureau with store0 := c } } else { s with bureau := { s.bureau with store1 := c } }

/-- STORE_SAVE_DONE (R79): the copy is sealed with its sequence number. -/
def execStoreSaveDone (s : State) : Res :=
  match s.bureau.save with
  | none => ok s s.toDev
  | some v => onMain s (fun s =>
      let o := s.storeCopy (1 - v.copy)
      let s1 := s.setStoreCopy v.copy { valid := true, seq := if o.valid then o.seq + 1 else 1, vals := v.vals }
      ({ s1 with bureau := { s1.bureau with save := none } }).setObj Obj.STORE_STATE 0 0)

end Sys2Proof.Machine
end

