-- ==== Sys2Proof/Machine/BureauGroups.lean ====
section
/-! DEFINITION. The checks of a transaction at its commit edge (R76, R508, and each chapter's): what of it is refused, and with which status.
Every check reads three stores: `o0`, the objects immediately before the edge; the applied objects, with the transactions before this one;
and `o`, the objects as this transaction leaves them. -/
namespace Sys2Proof.Machine

/-- An item of a transaction under its checks: what is staged, and the status it is refused with. -/
abbrev CItem := Staged × Option Nat

/-- An item refused with a status, unless it is refused already. -/
def CItem.refuse (i : CItem) (st : Nat) : CItem := (i.1, i.2.orElse (fun _ => some st))

/-- The items with those refused that a test gives a status for. -/
def refuseIf (l : List CItem) (f : Staged → Option Nat) : List CItem :=
  l.map (fun i => match f i.1 with | some st => i.refuse st | none => i)

/-- The items of these objects all refused, where a condition holds. -/
def refuseAll (l : List CItem) (oids : List Nat) (c : Bool) (st : Nat) : List CItem :=
  if c then refuseIf l (fun x => if oids.contains x.oid then some st else none) else l

/-- A store with one object's value. -/
def putObj (p : Part) (o : Tab Nat) (oid inst v : Nat) : Tab Nat := Tab.put (dfltOf p oid inst) o (okey oid inst) v

/-- Whether an object keeps the value written to it: not a write-only one (R63). -/
def storedObj (oid : Nat) : Bool := match objDef? oid with | some d => d.acc == .rwc | none => false

/-- The objects as the items not refused leave them. -/
def leaves (p : Part) (o : Tab Nat) (l : List CItem) : Tab Nat :=
  l.foldl (fun a i => if i.2.isNone && storedObj i.1.oid then putObj p a i.1.oid i.1.inst i.1.value else a) o

/-- Whether an item of an object is among the items not refused. -/
def writes (l : List CItem) (oid inst : Nat) : Bool := l.any (fun i => i.2.isNone && i.1.oid == oid && i.1.inst == inst)

/-- How many items are refused. -/
def refusedCount (l : List CItem) : Nat := (l.filter (fun i => i.2.isSome)).length

/-- A check repeated until it refuses nothing more: what it judges is what the items not refused leave (R142, R158, R221), at most as often
as there are items. -/
def settle (f : List CItem → List CItem) : Nat → List CItem → List CItem
  | 0, l => l
  | k + 1, l => let l1 := f l; if refusedCount l1 = refusedCount l then l1 else settle f k l1

/-- The status 0x01 where a condition holds. -/
def no (b : Bool) : Option Nat := if b then some 0x01 else none

/-! ### Checks of single objects -/

/-- What R75's rules say again of a value at the commit edge (R76): handles, units in service, functions that the transaction leaves
(R225), and other device state. -/
def Dev.again (s : Dev) (o : Tab Nat) (a : Accepted) (x : Staged) : Option Nat :=
  if (objDef? x.oid).any (fun d => d.count s.part == s.part.pick 4160 2112) && !fnConfigured s.part (objAt s.part o) x.inst then some 0x01
  else if [Obj.NODE_HEAD, Obj.NODE_ARCS, Obj.START_NODE, Obj.GRAPH_TAG, Obj.FEC_MODE, Obj.LEARN_ENABLE, Obj.KEY_IMPORT].contains x.oid then none
  else s.illegal (objAt s.part o) a.who a.fn x.oid x.inst x.value

/-- The bank of the parse graph that an object belongs to (R124). -/
def graphBank (oid inst : Nat) : Option Nat :=
  if oid = Obj.NODE_HEAD ∨ oid = Obj.NODE_ARCS then some (inst / 256)
  else if oid = Obj.START_NODE then some (inst / 40)
  else if oid = Obj.GRAPH_TAG then some inst
  else none

/-- Whether a backend may hold an extent from a block (R309): `fmt` is the namespace's format, where the slot has one. -/
def Dev.backendBad (s : Dev) (a : Accepted) (fmt : Option Nat) (b lba : Nat) : Bool :=
  let sz := s.obj Obj.BK_LBA_SIZE b
  let data := bits sz 23 0
  let per := mib / max 1 data
  sz == 0 || (match fmt with | some f => lbaData f != data || (f % 2 == 1 && bits sz 31 24 != 8) | none => false) ||
    lba % max 1 per != 0 || decide ((s.back b).blocks < lba + per) ||
    (a.who == .manager && s.obj Obj.BK_PF b != 0xFFFF && s.obj Obj.BK_PF b != a.fn)

/-- The namespaces that a transaction creates by NS_EXTENTS, each with its run of slots, as the transaction leaves the store (R306). -/
def Dev.planned (s : Dev) (o : Tab Nat) (a : Accepted) : List (Nat × Nat × Nat) :=
  (a.items.filter (fun y => y.oid == Obj.NS_EXTENTS && (s.ns? y.inst).isNone && objAt s.part o Obj.NS_EXTENTS y.inst == y.value)).foldl (fun acc y =>
    let runs := acc.map Prod.snd ++ s.runs
    match freeRunIn (objAt s.part o Obj.EXTENT_SLOTS 0) runs y.value (runs.length + 1) 0 with
    | some base => acc ++ [(y.inst, base, y.value)]
    | none => acc) []

/-- The LBA format of the namespace that holds a slot, or that a transaction creates over it (R306, R309). -/
def Dev.slotFormat (s : Dev) (o : Tab Nat) (a : Accepted) (x : Nat) : Option Nat :=
  match s.nsOfSlot x with
  | some i => some (s.obj Obj.LBA_FORMAT i)
  | none => ((s.planned o a).find? (fun p => decide (p.2.1 ≤ x ∧ x < p.2.1 + p.2.2))).map (fun p => objAt s.part o Obj.LBA_FORMAT p.1)

/-- Whether an EXTENT record is refused at its commit edge (R309, R454). -/
def Dev.extentBad (s : Dev) (o : Tab Nat) (a : Accepted) (x v : Nat) : Bool :=
  let fmt := s.slotFormat o a x
  s.sync x != 0 ||
    (match bits v 1 0 with
      | 1 => s.backendBad a fmt (bits v 117 108) (bits v 191 128) || (bit v 2 && s.backendBad a fmt (bits v 127 118) (bits v 255 192))
      | 2 => decide (objAt s.part o Obj.VOLATILE_REGION_GIB 0 * 1024 ≤ bits v 191 128)
      | _ => false)

/-- Whether a table holds an entry with VALID = 1 (R158). -/
def Dev.emHolds (s : Dev) (t : Nat) : Bool := s.em.entries.any (fun e => s.emTableOf e.1 == some t)

/-- Whether a table holds a dynamic entry while AGE_ENABLE is 1 (R176). -/
def Dev.emAging (s : Dev) : Bool :=
  s.em.entries.any (fun e => !e.2.static && (match s.emTableOf e.1 with | some t => s.flag Obj.AGE_ENABLE t | none => false))

/-- Whether a table's geometry breaks R155 under a store: alignment, the region's end, and other tables' ranges. -/
def tableRangeBad (p : Part) (o : Tab Nat) (t : Nat) : Bool :=
  let base (u : Nat) : Nat := objAt p o Obj.BUCKET_BASE u
  let count (u : Nat) : Nat := objAt p o Obj.BUCKET_COUNT u
  count t != 0 && (base t % count t != 0 || decide (objAt p o Obj.EM_REGION_GIB 0 * 2 ^ 22 < base t + count t) ||
    (List.range 64).any (fun u => u != t && count u != 0 && decide (base t < base u + count u ∧ base u < base t + count t)))

/-- The fields that fix a table's geometry (R158). -/
def geometryObjs : List Nat :=
  [Obj.KIND, Obj.ENTRY_SIZE, Obj.KEY_BYTES, Obj.BUCKET_BASE, Obj.BUCKET_COUNT, Obj.SEED0, Obj.SEED1, Obj.CACHE_MODE]

/-- Whether a geometry write is refused for what the transaction leaves (R155, R158). -/
def geometryBad (p : Part) (o : Tab Nat) (x : Staged) : Bool :=
  let t := x.inst
  ((x.oid == Obj.BUCKET_BASE || x.oid == Obj.BUCKET_COUNT) && tableRangeBad p o t) ||
    ((x.oid == Obj.KEY_BYTES || x.oid == Obj.ENTRY_SIZE) &&
      decide (32 * 2 ^ objAt p o Obj.ENTRY_SIZE t - 16 < objAt p o Obj.KEY_BYTES t))

/-- The patterns of every active bank under a store, were bank B of set S the active one (R146). -/
def Dev.patternTotal (s : Dev) (o : Tab Nat) (S B : Nat) : Nat :=
  let bank (T : Nat) : Option Nat :=
    if T = S then some B
    else if objAt s.part o Obj.PSET_ACTIVE_BANK T = s.obj Obj.PSET_ACTIVE_BANK T then s.activeBank T
    else some (2 * T + objAt s.part o Obj.PSET_ACTIVE_BANK T)
  ((List.range 16).filterMap bank).foldl (fun n b => n + s.obj Obj.BANK_PATTERNS b) 0

/-- The swaps of pattern sets of a transaction (R144, R146): each only to a LOADED bank, and one after another in staging order while the
active patterns stay within 1,048,576 (log entry 125: DESIGN CHOICE, unsafe). -/
def Dev.checkSwaps (s : Dev) (l : List CItem) : List CItem :=
  (l.foldl (fun (acc : Tab Nat × List CItem) i =>
    let x := i.1
    if x.oid ≠ Obj.PSET_ACTIVE_BANK ∨ i.2.isSome = true ∨ x.value = s.obj Obj.PSET_ACTIVE_BANK x.inst then (acc.1, acc.2 ++ [i])
    else if s.obj Obj.BANK_STATE (2 * x.inst + x.value) ≠ 2 ∨ 1048576 < s.patternTotal acc.1 x.inst (2 * x.inst + x.value) then
      (acc.1, acc.2 ++ [i.refuse 0x01])
    else (putObj s.part acc.1 x.oid x.inst x.value, acc.2 ++ [i])) (s.objs, [])).2

/-- The bank that a chunk or a VERIFY concerns: the idle one of the set that LOAD_SET names (R145). -/
def loadBank (p : Part) (o : Tab Nat) : Nat :=
  let S := objAt p o Obj.LOAD_SET 0
  2 * S + (1 - objAt p o Obj.PSET_ACTIVE_BANK S)

/-- Whether a controller is in state OFF or RESET (R221). -/
def Dev.linkIdle (s : Dev) (k : Nat) : Bool := decide (s.obj Obj.LINK_STATE_8000 k ≤ 1)

/-- Whether pair h of controllers has a legal pair of modes under a store (R220). -/
def pairOk (p : Part) (o : Tab Nat) (h : Nat) : Bool :=
  let m0 := objAt p o Obj.LINK_MODE (2 * h)
  let m1 := objAt p o Obj.LINK_MODE (2 * h + 1)
  let up (m : Nat) : Bool := m == 1 || m == 2
  !(up m0 && up m1) && (m0 != 1 || m1 == 0)

/-- Whether a LINK_MODE, ROOT_PORT_WIDTH or PF_COUNT write is refused for a controller in use (R221). -/
def Dev.linkBusy (s : Dev) (x : Staged) : Bool :=
  let k := x.inst
  !s.linkIdle k || (x.oid == Obj.LINK_MODE && (x.value == 1 || s.obj Obj.LINK_MODE k == 1) && !s.linkIdle (k + 1))

/-- VF_BASE of a PF under a store (R226). -/
def vfBaseAt (p : Part) (o : Tab Nat) (n : Nat) : Nat := (List.range n).foldl (fun a m => a + objAt p o Obj.VF_BUDGET m) 0

/-- The PFs' part of a function range. -/
def Dev.pfs (s : Dev) : List Nat := List.range (8 * s.part.links)

/-- The status that a VF_BUDGET write is refused with for what the transaction leaves (R226). -/
def Dev.budgetBad (s : Dev) (o : Tab Nat) (x : Staged) : Option Nat :=
  if x.value = s.obj Obj.VF_BUDGET x.inst then none
  else if s.pfs.any (fun m => (s.fn m).vfEnable && decide (x.inst < m) && vfBaseAt s.part o m != s.vfBase m) then some 0x30
  else no (decide (s.part.vfs < vfBaseAt s.part o (8 * s.part.links)))

/-- Whether NVME_FUNCTION of controller c may become a value (R301). -/
def Dev.ctrlBindBad (s : Dev) (o : Tab Nat) (c v : Nat) : Bool :=
  v != s.obj Obj.NVME_FUNCTION c &&
    ((s.ctrl c).en || (v != 0xFFFF && (List.range s.part.vfs).any (fun d => d != c && objAt s.part o Obj.NVME_FUNCTION d == v)))

/-- The life-cycle transitions (R422): whether a token from a state to another is accepted there. -/
def lcLegal (fr dst : Nat) : Bool :=
  [(0, 1), (1, 2), (1, 4), (1, 1), (2, 3), (2, 4), (2, 2), (3, 2), (3, 4)].contains (fr, dst)

/-- The bytes of the token written in LC_TOKEN (R423). -/
def tokenBytes (t : Tab Nat) (off n : Nat) : List Nat :=
  (List.range n).map (fun i => octetAt (Tab.getD t ((off + i) / 256) 0) ((off + i) % 256))
where octetAt (v i : Nat) : Nat := v / 256 ^ i % 256

/-- The owner slot whose key signed a token, 4 for Kerinagar's; none where no key recognised here did, or a signature fails (R408, R423). -/
def Dev.tokenSigner (s : Dev) (t : Tab Nat) : Option Nat :=
  let at' (o n : Nat) : List Nat := tokenBytes t (o - 0x1000 + 0x80) n
  let keys := at' 0x1000 97 ++ at' 0x1068 2592
  let sigs := at' 0x1A88 96 ++ at' 0x1AE8 4627
  if Config.sigsVerify (tokenBytes t 0 128) keys sigs then
    let hash := Config.sha384 keys
    if hash = Config.romHash then some 4
    else [0, 1, 2, 3].find? (fun k => Tab.get? s.boot.fuses.owners k == some (1, ofLE hash))
  else none

/-- The status that LC_REQUEST is refused with (R422, R423). -/
def Dev.lcBad (s : Dev) (t : Tab Nat) (dst : Nat) : Option Nat :=
  let w := ofLE (tokenBytes t 0 128)
  let fr := bits w 991 984
  if bits w 1023 992 ≠ 0x4C430009 ∨ fr ≠ s.boot.fuses.lifeCycle ∨ bits w 983 976 ≠ dst ∨ lcLegal fr dst = false ∨
      bits w 895 768 ≠ s.obj Obj.SERIAL ∨ bits w 959 896 ≠ s.boot.nonce ∨ bits w 963 960 ≠ 0 ∨ bits w 383 0 ≠ 0 then some 0x01
  else if 64 ≤ s.boot.fuses.steps then some 0x41
  else match s.tokenSigner t with
    | none => some 0x40
    | some k => if (if fr = 0 then k == 4 && bits w 975 968 == 0 else decide (k < 4) && bits w 975 968 == 1) then none else some 0x40

/-- VERSION of the image in a slot (R408). -/
def Dev.imageVersion (s : Dev) (i : Nat) : Nat := (Tab.getD s.boot.slots i {}).version

/-- The checks that concern one object at a time. -/
def Dev.checkOne (s : Dev) (o0 o : Tab Nat) (a : Accepted) (x : Staged) : Option Nat :=
  let i := x.inst
  let v := x.value
  (s.again o a x).orElse (fun _ =>
    match graphBank x.oid i with
    | some b => no (b == objAt s.part o0 Obj.ACTIVE_BANK 0)
    | none =>
      if x.oid = Obj.COMPAT_LEVEL then
        (if v ≠ s.obj Obj.COMPAT_LEVEL ∧ s.hosts.funcs.any (fun e => e.2.bme) = true then some 0x30 else none)
      else if x.oid = Obj.IMAGE_CHUNK then no ([4, 5].contains (s.obj Obj.BANK_STATE (loadBank s.part o)))
      else if geometryObjs.contains x.oid then no (s.emHolds i)
      else if x.oid = Obj.TABLE_MIRROR then no (s.emHolds i)
      else if x.oid = Obj.AGE_QUANTUM then no (v != s.obj Obj.AGE_QUANTUM && s.emAging)
      else if x.oid = Obj.PARENT then
        no (objAt s.part o0 Obj.ENABLE_7008 i == 1 || !(nodeExists s.part v && nodeLevel v == nodeLevel i + 1))
      else if x.oid = Obj.LINK_MODE ∨ x.oid = Obj.ROOT_PORT_WIDTH ∨ x.oid = Obj.PF_COUNT then no (s.linkBusy x)
      else if x.oid = Obj.VF_BUDGET then (if v ≠ s.obj Obj.VF_BUDGET i ∧ (s.fn i).vfEnable = true then some 0x30 else none)
      else if x.oid = Obj.VF_ASSIGN then
        (if v ≠ s.obj Obj.VF_ASSIGN i ∧ [0, 1, 4, 7].contains (s.fstate i) = false then some 0x30 else none)
      else if x.oid = Obj.DIRTY_MAP_ADDR ∨ x.oid = Obj.DIRTY_BASE ∨ x.oid = Obj.DIRTY_PAGES then
        no (objAt s.part o0 Obj.DIRTY_ENABLE i == 1)
      else if x.oid = Obj.NVME_FUNCTION then no (s.ctrlBindBad o i v)
      else if x.oid = Obj.EXTENT then no (s.extentBad o a i v)
      else if x.oid = Obj.XTS_KEY then no (v != s.obj Obj.XTS_KEY i && (s.attachList i).any (fun c => (s.ctrl c).en))
      else if x.oid = Obj.TWIN_ENABLE then no (s.obj Obj.ROLE != 0 && s.obj Obj.ROLE != 4)
      else if x.oid = Obj.TWIN_MIRROR then no (1 < s.fstate i)
      else if x.oid = Obj.IMG_CHUNK then
        (if s.obj Obj.IMG_STATE = 3 then some 0x41 else no (s.obj Obj.IMG_STATE != 2))
      else if x.oid = Obj.MIN_VERSION_RAISE then
        no (decide (v ≤ s.boot.fuses.minVersion) || decide (128 < v) || decide (((s.boot.booted.map s.imageVersion).getD 0) < v))
      else none)

/-- The checks of one object that turn on what the whole transaction leaves (R155, R158, R221, R226). -/
def Dev.checkLeft (s : Dev) (o : Tab Nat) (x : Staged) : Option Nat :=
  if geometryObjs.contains x.oid then no (geometryBad s.part o x)
  else if x.oid = Obj.LINK_MODE then no (!pairOk s.part o (x.inst / 2))
  else if x.oid = Obj.VF_BUDGET then s.budgetBad o x
  else none

end Sys2Proof.Machine
end

