-- ==== Sys2Proof/Machine/Egress.lean ====
section
/-! DEFINITION. Egress (R104, R190, R200, R201, R264, R366 to R373): dequeue at each port, transmission, readmission by loopback, and
delivery into a host's receive queue. -/
namespace Sys2Proof.Machine

/-! ### Host receive queues (R201, R264) -/

/-- The receive queue bound to a leaf. -/
def Dev.rxQueue? (s : Dev) (leaf : Nat) : Option (Nat × Queue) := s.hosts.queues.find? (fun e => e.2.type == 2 && e.2.leaf == leaf)

/-- LENGTH of a receive descriptor (R261, R275). -/
def Dev.rxLen (s : Dev) (d : Nat) : Nat := if s.level7 then bits d 63 40 else bits d 191 160

/-- Bytes delivered for a queued frame: its data, and the trailer of R368. -/
def Dev.rxNeed (s : Dev) (q : Queue) (f : QFrame) : Nat := (f.len - 4) + if s.obj Obj.RX_TS q.g = 0xFF then 0 else 16

/-- Bytes that the first 16 held descriptors of a queue offer (R264). -/
def Dev.rxRoom (s : Dev) (q : Queue) : Nat := (q.held.take 16).foldl (fun a d => a + s.rxLen d.2) 0

/-- Whether a receive queue's state lets frames be delivered: READY, or FROZEN by an overrun or a failed slot, whose descriptors read before still
run (R268), on a function in D0 that is not being quiesced (R248, R285). -/
def Dev.rxRuns (s : Dev) (qk : Nat) (q : Queue) : Bool :=
  let n := qk / 16384
  (q.st == 1 || (q.st == 2 && q.status != 0x11)) && (s.fn n).dstate == 0 && s.fstate n == 2 && (s.fn n).quiesce.isNone
    && q.stopping.isNone

/-- Whether a leaf of a host-link port is blocked (R201, R264): its queue has no room for the head frame. A head frame that 16 held
descriptors cannot hold does not block: it is dropped at dequeue. -/
def Dev.leafBlocked (s : Dev) (leaf : Nat) : Bool :=
  match (s.leaf leaf).frames, s.rxQueue? leaf with
  | f :: _, some (qk, q) => !s.rxRuns qk q || (decide (s.rxRoom q < s.rxNeed q f) && decide (q.held.length < 16))
  | _, none => true
  | [], _ => true

/-- The leaves of port P with a queued frame. -/
def Dev.portLeaves (s : Dev) (P : Nat) : List Nat :=
  (s.sched.leaves.filter (fun e => !e.2.frames.isEmpty && s.leafPort? e.1 == some P)).map Prod.fst

/-- PME (R248): a frame waits for a receive queue of a function in D3hot with PME_En. -/
def Dev.pmeFor (s : Dev) (leaf : Nat) : Dev :=
  let n := s.obj Obj.NODE_FUNCTION leaf
  let f := s.fn n
  if f.dstate = 3 ∧ f.pmeEn = true ∧ f.pmeStatus = false then
    (s.setFn n { f with pmeStatus := true }).emit (.linkMsg (s.linkOf n) n .pme)
  else s

/-- The fewest descriptors that hold n bytes, and the rest (R264). -/
def takeUses (len : Nat → Nat) : Nat → List (Nat × Nat) → List (Nat × Nat) × List (Nat × Nat)
  | _, [] => ([], [])
  | 0, ds => ([], ds)
  | n + 1, d :: ds =>
    if n + 1 ≤ len d.2 then ([d], ds) else let (a, b) := takeUses len (n + 1 - len d.2) ds; (d :: a, b)

/-! ### DEQUEUE (R202) -/

/-- Whether port P's MAC, or its mover, can accept a frame: its FIFO holds two frames per priority (R104). -/
def Dev.fifoRoom (s : Dev) (P : Nat) : Bool :=
  (List.range 8).all (fun q => s.sched.excluded.contains (8 * P + q) ||
    decide (((s.fifo P).filter (fun f => s.leafPrio f.leaf == q)).length < 2))

/-- Whether Ethernet port p drops what the scheduler dequeues (R98). -/
def Dev.dropsDown (s : Dev) (P : Nat) : Bool := decide (P < 32) && !s.portUp P && s.flag Obj.LINK_DOWN_DROP P

/-- Whether port P is selectable (R97, R98, R202, R427): an Ethernet port that has been UP since an edge before, or drops; a host link
that is ACTIVE; the twin link once exchanged; a loopback port always. -/
def Dev.portReady (s : Dev) (P : Nat) : Bool :=
  portExists s.part P && s.forwards &&
    (if P < 32 then s.dropsDown P || (s.portUp P && decide ((s.port P).since < s.tick) && s.fifoRoom P)
     else if P < 40 then s.obj Obj.LINK_STATE_8000 (P - 32) == 4 && s.fifoRoom P
     else if P = 40 then s.obj Obj.TWIN_LINK_STATE == 2 && s.fifoRoom P
     else true)

/-- A frame as transmitted: its chain's bytes, truncated for a mirror copy, with CE marked (R139, R211). -/
def Dev.frameOut (s : Dev) (f : QFrame) : List Nat :=
  let d := f.data.getD (s.chainData f.chain)
  let t := if f.truncate = 0 then d else d.take (f.truncate - 4)
  if f.ce then markCe t else t

/-- Readmission of a frame at loopback port P (R200): a new parcel of kind 0x01 that keeps its chain, with the settings of Ethernet port
LOOP_AS. A copy that holds a share of its chain keeps that share, and the part of the frame that it has (log entry 20: DESIGN CHOICE, unsafe). -/
def Dev.readmit (s : Dev) (P : Nat) (f : QFrame) : Dev :=
  let a := s.obj Obj.LOOP_AS P
  let data := s.frameOut f
  let s1 := if f.first && f.ce then s.setChainData f.chain data else s
  s1.admitParcel { newParcel 1 (s.frameHash a data) (s.prioClass a (s.framePrio a data)) a f.chain (data.length + 4) 0 with
    sec := s.secBind a data, shared := !f.first, ce := f.ce && !f.first }

/-- What becomes of a frame dequeued to port P. -/
def Dev.toPort (s : Dev) (P leaf : Nat) (f : QFrame) : Dev :=
  if P < 32 then
    if s.dropsDown P then ((s.bump Obj.TX_DROP_LINK_DOWN P).jobLost f).releaseCopy f
    else s.setFifo P (s.fifo P ++ [{ f := f, leaf := leaf }])
  else if P < 40 then
    match s.rxQueue? leaf with
    | none => (s.jobLost f).releaseCopy f
    | some (qk, q) =>
      if s.rxRoom q < s.rxNeed q f then ((s.bump Obj.RX_NOFIT q.g).jobLost f).releaseCopy f
      else
        let (uses, rest) := takeUses s.rxLen (s.rxNeed q f) q.held
        let j : Job := { index := (uses.headD (0, 0)).1, count := uses.length }
        (s.setQueue qk { q with held := rest, jobs := q.jobs ++ [j] }).setFifo P (s.fifo P ++ [{ f := f, leaf := leaf, qk := qk, uses := uses }])
  else if P = 40 then s.setFifo P (s.fifo P ++ [{ f := f, leaf := leaf }])
  else (s.jobGone f).readmit P f

/-- What a dequeue of port target P finds: the blocked leaves of a host's target, and the PMEs that they ask for. -/
def Dev.blockedFor (s : Dev) (P : Nat) : Dev :=
  if 32 ≤ P ∧ P < 40 then
    (s.portLeaves P).foldl Dev.pmeFor { s with sched := { s.sched with blocked := (s.portLeaves P).filter s.leafBlocked } }
  else { s with sched := { s.sched with blocked := [] } }

/-- DEQUEUE: blocked leaves are found (R201) and PMEs sent (R248), and the head frame of the leaf selected goes to the port (R202). -/
def Dev.dequeueTo (s : Dev) (P : Nat) : Dev :=
  match (s.blockedFor P).dequeue P with
  | none => s.blockedFor P
  | some (leaf, f, s2) => s2.toPort P leaf f

/-- DEQUEUE (R202). -/
def execDequeue (P : Nat) (s : State) : Res := onMainIf s (s.portReady P) (fun s => s.dequeueTo P)

/-! ### TRANSMIT_COMPLETE (R190) -/

/-- Verified and failed checksums of a received frame (R267), by the extractor of R101 (log entry 21: DEDUCED, unsafe): CSUM_BAD, L4_OK, L3_OK. -/
def sumsOf (f : List Nat) : Nat :=
  match (extractEth f 0).bind EthHdr.ip with
  | none => 0
  | some i =>
    let l3 := !i.v6 && checksum16 (slice f i.off (4 * (nth f i.off % 16))) == 0
    let stop := if i.v6 then i.off + 40 + be16 f (i.off + 4) else i.off + be16 f (i.off + 2)
    let (l4, bad4) := match i.l4 with
      | some o =>
        if i.proto = 6 ∨ (i.proto = 17 ∧ (i.v6 = true ∨ be16 f (o + 6) ≠ 0)) then
          let n := stop - o
          let ph := i.src ++ i.dst ++ (if i.v6 then beBytes 4 n ++ [0, 0, 0, i.proto] else [0, i.proto] ++ beBytes 2 n)
          let good := checksum16 (ph ++ slice f o n) == 0
          (good, !good)
        else (false, false)
      | none => (false, false)
    ofBool (bad4 || (!i.v6 && !l3)) * 4 + ofBool l4 * 2 + ofBool l3

/-- The receive trailer of a frame on a time base (R368). -/
def Dev.trailer (s : Dev) (chain e : Nat) : List Nat :=
  match Tab.get? s.postmark.caps chain with
  | some c => leBytes 12 (time96 (c.stamps.getD e 0)) ++ [e, 1, 0, 0]
  | none => List.replicate 12 0 ++ [e, 0, 0, 0]

/-- Payload bytes written into descriptors in turn (R264). -/
def Dev.writeUses (s : Dev) (n : Nat) (q : Queue) : List Nat → List (Nat × Nat) → Dev
  | _, [] => s
  | bs, d :: ds =>
    let len := s.rxLen d.2
    let addr := if s.level7 then bits d.2 127 64 else bits d.2 255 192
    let ovr := if s.level7 then bit d.2 28 else bit d.2 52
    let ro := if ovr then (if s.level7 then bit d.2 29 else bit d.2 53) else q.ro
    (if bs.isEmpty then s else s.hostWrite n addr (bs.take len) ro).writeUses n q (bs.drop len) ds

/-- Whether the mover that writes a frame to a host, that of the drawer that executed its parcel, has room for it in this tick, and nothing of a
lower class waits for it (R43; log entry 131: DEDUCED, unsafe). -/
def Dev.moverRoom (s : Dev) (x : TxFrame) : Bool :=
  let d := x.f.p.exec
  decide (s.movedNow d + x.f.len + 12 ≤ 16384) && (s.mover d).waits.all (fun y => decide (x.f.p.cls ≤ y.cls))
    && (s.framesFor d).all (fun y => decide (x.f.p.cls ≤ y.f.p.cls))

/-- Whether a frame at a host's port is written to its receive queue: it is good, and the job for it lives (R264, R456). -/
def Dev.delivers (s : Dev) (x : TxFrame) : Bool :=
  s.rxEnd x.f.chain != .bad && !s.chainPoisoned x.f.chain &&
    (match s.queue? x.qk with | some q => q.jobs.any (fun j => j.is (x.uses.headD (0, 0)).1 && !j.done && !j.mute) | none => false)

/-- A frame is written to a host's receive queue, and its job is ready to complete (R264, R267). A frame that turned out bad, or whose
queue no longer takes it, is not written; one whose data is poisoned is not written either, and its job completes with 0x11 (R456). -/
def Dev.deliver (s : Dev) (x : TxFrame) : Dev :=
  match s.queue? x.qk with
  | none => s
  | some q =>
    let i := (x.uses.headD (0, 0)).1
    if s.rxEnd x.f.chain = .bad then
      s.setQueue x.qk { q with held := x.uses ++ q.held, jobs := q.jobs.filter (fun j => !j.is i) }
    else if q.jobs.any (fun j => j.is i && !j.done && !j.mute) then
      if s.chainPoisoned x.f.chain then s.updJob x.qk i (fun j => { j with done := true, status := 0x11 })
      else
      let e := s.obj Obj.RX_TS q.g
      let data := s.frameOut x.f
      let all := data ++ (if e = 0xFF then [] else s.trailer x.f.chain e)
      (((s.moved x.f.p.exec all.length).writeUses (x.qk / 16384) q all x.uses).updJob x.qk i (fun j =>
        { j with done := true, bytes := all.length, hash := x.f.p.flowHash, csum := sumsOf data })).addObj Obj.JOB_BYTES q.g all.length
    else s

/-- TIME_BASE of a host submission's frame, whether its job waits for the stamp, and whether its queue has ONE_STEP (R261, R275, R370, R371). -/
def Dev.sendTiming (s : Dev) (p : Parcel) : Option (Nat × Bool × Bool) :=
  p.send.map (fun g => (g.2, ((s.jobOf? p).bind (fun k => (s.queue? k.1).bind (fun q => q.job? k.2))).any Job.tsWait, s.flag Obj.ONE_STEP g.1))

/-- The last byte of a frame leaves Ethernet port P, whose timestamp point was captured at count `cap` (R366): one-step and
transparent-clock corrections are written in flight (R371 to R373), a frame that turned out bad or whose data is poisoned is stomped (R95, R456), and a transmit stamp
that a host asked for is returned (R370). -/
def Dev.ethSent (s : Dev) (P cap : Nat) (x : TxFrame) : Dev :=
  let f := x.f
  let d0 := s.frameOut f
  let tm := if f.mirror then none else s.sendTiming f.p
  let d1 := match tm with | some (e, _, true) => oneStep d0 (s.txStamp P e cap) | _ => d0
  let d2 := match Tab.get? s.postmark.caps f.chain with | some c => s.transparent c P cap d1 | none => d1
  let bad := s.rxEnd f.chain == .bad || s.chainPoisoned f.chain
  let s1 := ((s.emit (.ethFrame P d2 bad)).bump Obj.TX_FRAMES P).addObj Obj.TX_BYTES P (d2.length + 4)
  let s2 := if bad then s1.bump Obj.TX_STOMPED P else s1
  match tm with
  | some (e, true, _) => s2.jobSent f.p (time96 (nsFloor (s.txStamp P e cap)))
  | _ => s2

/-- Whether a frame given to Ethernet port P is sent (R97, R98, R438, R500): the port is UP, or it had started the frame when it was DISABLED. -/
def Dev.sendsOn (s : Dev) (P : Nat) (x : TxFrame) : Bool := s.portUp P || x.started

/-- Whether a frame in a FIFO leaves it (R43, R98, R438, R500): on an Ethernet port it is sent, or dropped where the port is not UP and drops;
for a host a mover has room; over the twin link and on an Ethernet port, while the device forwards. -/
def Dev.mayLeave (s : Dev) (P : Nat) (x : TxFrame) : Bool :=
  if P < 32 then s.forwards && (s.sendsOn P x || s.dropsDown P)
  else if P < 40 then s.moverRoom x
  else s.forwards

/-- TRANSMIT_COMPLETE at port P. -/
def Dev.transmit (s : Dev) (P cap : Nat) (x : TxFrame) : Dev :=
  let s0 := s.setFifo P ((s.fifo P).erase x)
  let s1 :=
    if P < 32 then (if s.sendsOn P x then s0.ethSent P cap x else (s0.bump Obj.TX_DROP_LINK_DOWN P).jobLost x.f)
    else if P < 40 then (if s.delivers x then (s0.deliver x).jobGone x.f else (s0.deliver x).jobLost x.f)
    else (s0.emit (.twinFrame (s.frameOut x.f))).jobGone x.f
  s1.releaseCopy x.f

/-- TRANSMIT_COMPLETE (R190): the frame's tail has been received, and it may leave. -/
def execTransmitComplete (P cap : Nat) (s : State) : Res :=
  onMainIf s (match s.nextTx P with | some x => s.rxEnd x.f.chain != .arriving && s.mayLeave P x | none => false)
    (fun s => match s.nextTx P with | some x => s.transmit P cap x | none => s)

end Sys2Proof.Machine
end

