-- ==== Sys2Proof/Machine/TwinSync.lean ====
section
/-! DEFINITION. The twin's records and acknowledgements (R427, R428, R430 to R432, R434): identity records, and what an acknowledgement
releases. -/
namespace Sys2Proof.Machine

/-- The digest of an identity record (R428): CRC-32C over the geometry objects of the mirrored tables, table by table, then every
TWIN_MIRROR, then every TWIN_PEER_FUNC, each value in its own bytes. The order is the model's (log entry 149: DESIGN CHOICE, unsafe). -/
def Dev.twinDigest (s : Dev) : Nat :=
  let val (oid i : Nat) : List Nat := leBytes (((objDef? oid).map (fun d => d.ty.size)).getD 4) (s.obj oid i)
  let tables := (List.range 64).filter (fun t => s.flag Obj.TABLE_MIRROR t)
  let fns := List.range (s.part.pick 4160 2112)
  crc32c 0 (tables.flatMap (fun t => [1, 2, 3, 4, 5, 6, 7, 8].flatMap (fun sub => val (0x500000 + sub) t)) ++
    fns.flatMap (val Obj.TWIN_MIRROR) ++ fns.flatMap (val Obj.TWIN_PEER_FUNC))

/-- An identity record is sent on the twin link (R428), with the device's present role. -/
def Dev.sendIdentity (s : Dev) : Dev :=
  s.emit (.identity (s.obj Obj.SERIAL % 2 ^ 128) (s.obj Obj.PART_CODE) (s.obj Obj.PAIR_ID) (s.obj Obj.ROLE) (s.obj Obj.LEASE_SEQ) s.twinDigest)

/-- The role changes, and an identity record reports it over an EXCHANGED link (R428, R438, R443; log entry 30: DESIGN CHOICE, unsafe). -/
def Dev.setRole (s : Dev) (r : Nat) : Dev :=
  let s1 := s.setObj Obj.ROLE 0 r
  if s1.obj Obj.TWIN_LINK_STATE = 2 then s1.sendIdentity else s1

/-- What the acknowledgement of a synchronous message releases (R430 to R432): an entry may be written, an admin command completes, a
piece or an intent write goes out, a table operation waits for its edge. -/
def Dev.syncDone (s : Dev) (op : SyncOp) : Dev :=
  match op with
  | .post qk i =>
    if (s.queue? qk).any (fun q => q.jobs.any (fun j => j.index == i)) then { s with twin := { s.twin with acked := s.twin.acked ++ [(qk, i)] } } else s
  | .admin n result => if Tab.get? s.hosts.admin n = some .peer then s.adminDone n 0 result else s
  | .piece c q m j id =>
    (s.updCmd c q m (fun y => { y with pieces := updPiece y.pieces j (fun p => if p.intent = some (id, false) then { p with intent := some (id, true) } else p) })).pump
  | .table o => { s with em := { s.em with ops := s.em.ops ++ [(s.tick, o)] } }
  | .bits o => s.ownSend o

/-- No acknowledgement is waited for any longer (R434, R438): every operation goes on. -/
def Dev.releaseSync (s : Dev) : Dev :=
  let ops := s.twin.sent.map Prod.snd
  ops.foldl Dev.syncDone { s with twin := { s.twin with sent := [], mirroring := false } }

end Sys2Proof.Machine
end

