-- ==== Sys2Proof/Machine/Fencing.lean ====
section
/-! DEFINITION. Fault containment (R16, R54 to R58, R429, R438, R445, R494 to R502): drawer and cabinet fences, the device fault, the
twin fence, and the clock fault. -/
namespace Sys2Proof.Machine

/-! ### Logs and reports (R445, R501, R502) -/

/-- A diagnostics record (R502). -/
def diagRec (tick level cause unit' detail : Nat) : Nat :=
  tick % 2 ^ 64 * 2 ^ 64 + level * 2 ^ 56 + cause * 2 ^ 48 + unit' % 65536 * 2 ^ 32 + detail % 2 ^ 32

/-- A diagnostics record is written (R502). -/
def Dev.diag (s : Dev) (level cause unit' detail : Nat) : Dev :=
  s.log Obj.DIAG_ENTRY 256 (diagRec s.tick level cause unit' detail)

/-- Corrected Internal Error on PF n: bit 14 of AER Correctable Error Status, signalled where it is enabled and not masked (R501). -/
def Dev.correctedOn (s : Dev) (n : Nat) : Dev :=
  let f := s.fn n
  let s1 := s.setFn n { f with aer := { f.aer with correctable := setBit f.aer.correctable 14 }, devStatus := setBit f.devStatus 0 }
  if !bit f.aer.corMask 14 && bit f.errEn 0 then s1.emit (.linkMsg (s.linkOf n) n .errCorrectable) else s1

/-- Corrected Internal Error is reported on every enabled PF (*Logs by level*). -/
def Dev.aerCorrected (s : Dev) : Dev :=
  ((List.range (8 * s.part.links)).filter (fun n => s.fstate n == 2 || s.fstate n == 3)).foldl Dev.correctedOn s

/-- A twin log record of a kind, with its NOTIFY (R445). -/
def Dev.twinLog (s : Dev) (kind before' : Nat) : Dev :=
  let rec' := s.tick % 2 ^ 64 * 2 ^ 64 + s.obj Obj.LEASE_SEQ * 2 ^ 32 + kind * 2 ^ 24 + before' * 2 ^ 16 + s.obj Obj.ROLE * 2 ^ 8
  (s.log Obj.TWIN_ENTRY 64 rec').notify (0xE000 + kind) Obj.ROLE rec'

/-! ### What the twins copy (R430 to R434, R442) -/

/-- The mirrored queues of the device. -/
def Dev.mirroredQueues (s : Dev) : List (Nat × Queue) := s.hosts.queues.filter (fun e => s.queueMirrored e.1)

/-- The places of the entries of mirrored tables. -/
def Dev.mirroredPlaces (s : Dev) : List (Nat × Nat × EmEntry) :=
  s.em.entries.filterMap (fun e => match s.emTableOf e.1 with
    | some t => if s.flag Obj.TABLE_MIRROR t && s.emCurrent e.2 then some (t, e.1, e.2) else none
    | none => none)

/-- The device begins a copy afresh (R429, R434, R442): its mirrored queues, intents, completion entries, the operations received and the
entries of mirrored tables are discarded, so that the copy leaves the active's state (log entry 183: DEDUCED, unsafe). -/
def Dev.discardCopy (s : Dev) : Dev :=
  let s1 := s.mirroredQueues.foldl (fun t e => t.dropQueue e.1) s
  let s2 := s1.mirroredPlaces.foldl (fun t e => t.emRemove e.2.1) s1
  let theirs (o : EmOp) : Bool := match o with | .mirrored _ => true | .gone _ _ _ => true | _ => false
  { s2 with twin := { s2.twin with intents := [], entries := [], done := [] }
            em := { s2.em with ops := s2.em.ops.filter (fun o => !theirs o.2) } }

/-! ### FENCED (R429, R438) -/

/-- Every outstanding command of every controller completes with a status. -/
def Dev.failCommands (s : Dev) (status : Nat) : Dev :=
  let work := s.storage.ctrls.flatMap (fun c => c.2.sqs.flatMap (fun q => (q.2.cmds.filter (fun m => !m.final)).map (fun m => (c.1, q.1, m.seq))))
  work.foldl (fun t w => t.cmdDone w.1 w.2.1 w.2.2 status 0) s

/-- The device enters FENCED (R438), with a twin log record of a kind. -/
def Dev.enterFenced (s : Dev) (kind : Nat) : Dev :=
  let before' := s.obj Obj.ROLE
  let s1 := (s.setRole 4).releaseSync.setObj Obj.LEASE_DEADLINE 0 0
  let s2 := if kind = 2 ∨ kind = 7 then s1.bump Obj.SELF_FENCES else s1
  let s3 := { s2 with twin := { s2.twin with switching := false, released := false, acked := [], renews := [], fenceDue := none, takeover := none, announce := none } }
  let s4 := (s3.hosts.queues.filter (fun e => s3.queueMirrored e.1)).foldl (fun t e => t.freezeQueue e.1 0x11) s3
  (s4.failCommands 0x300).twinLog kind before'

/-! ### The device fault (R499, R500) -/

/-- A device fault is declared (R500). -/
def Dev.deviceFault (s : Dev) (cause : Nat) : Dev :=
  if s.obj Obj.DEVICE_FAULT ≠ 0 then s
  else
    let s1 := s.hosts.queues.foldl (fun t e => t.freezeQueue e.1 0x11) s
    let s2 := s1.ctrlIds.foldl (fun t c => t.setCtrl c { t.ctrl c with mute := true }) s1
    let fns := (List.range s.part.links).flatMap (fun k => (s.fnsOfLink k).filter s.present)
    let s3 := fns.foldl (fun t n => t.aer n aerInternal) s2
    let s4 := s3.setObj Obj.DEVICE_FAULT 0 cause
    let s5 := if s.flag Obj.TWIN_ENABLE && s.obj Obj.ROLE != 4 then s4.enterFenced 2 else s4
    (s5.diag 5 cause 0 0).notify 0xF002 Obj.DEVICE_FAULT (diagRec s.tick 5 cause 0 0)

/-! ### What a drawer holds (R55) -/

/-- A parcel in flight: as its engine has it, and its ingress copy. -/
abbrev InFlight := Parcel × Option Parcel

/-- The parcel of a slot, with IDEMPOTENT cleared where the thread has cleared it in the slot's bytes (R35, R36). -/
def Dev.slotParcel (s : Dev) (key : Nat) (x : Slot) : Parcel :=
  { x.p with idem := x.p.idem && bit (ofLE (s.loadN (slotAddr (key / 4) (key % 4)) 2)) 12 }

/-- The parcels in flight in drawer d (R55): in its sorter, matcher, cipher slice and threads, on its punt FIFOs, finished and not yet at
the rack. -/
def Dev.running (s : Dev) (d : Nat) : List InFlight :=
  let ctx (c : SorterCtx) : InFlight := (c.p, c.ingress)
  ((s.work.ctxs.filter (fun e => e.1 / 3 == d)).map (fun e => ctx e.2)) ++
    (s.jobsOf d).map (fun j => ctx j.c) ++
    (s.sliceJobs d).filterMap (fun j => match j.work with | .parcel c _ => some (ctx c) | .thread _ _ => none) ++
    (s.work.slots.filter (fun e => e.1 / 128 == d)).map (fun e => (s.slotParcel e.1 e.2, e.2.ingress)) ++
    (Tab.getD s.work.punts d []).map (fun i => (i.p, i.ingress)) ++
    (s.work.fins.filter (fun c => c.p.exec == d)).map ctx ++
    (s.work.rackWait.filter (fun e => engineDrawer e.1 == d)).map (fun e => (e.2.p, e.2.ingress))

/-- What a drawer's fence finds in flight (R55): as above, and the parcels that wait without STEALABLE. No copy lies in the store of a cabinet
that was fenced before (R497). -/
def Dev.inFlight (s : Dev) (d : Nat) : List InFlight :=
  (s.running d ++ ((s.queue d).filter (fun e => !e.p.stealable)).map (fun e => (e.p, (e.ingress).orElse (fun _ => some e.p)))).map
    (fun x => if s.obj Obj.CABINET_STATE (x.1.home / 16) = 1 then (x.1, none) else x)

/-- A drawer stops (R54, R55, R194, R394): its bit clears, its engines, threads, streams and cipher contexts are lost, its chains are
freed, its open messages are poisoned, reads waiting at its mover go to another, and the monitors of its cabinet are told. -/
def Dev.stopDrawer (s : Dev) (d : Nat) : Dev :=
  let s0 := (s.setObj Obj.DRAWER_STATE d 1).setObj Obj.SLICE_STATE d 3
  let streams := s.streamsOf d
  let s1 : Dev := { s0 with
    work := { s0.work with
      ctxs := s0.work.ctxs.filter (fun e => e.1 / 3 != d)
      slots := s0.work.slots.filter (fun e => e.1 / 128 != d)
      punts := Tab.del s0.work.punts d
      fins := s0.work.fins.filter (fun c => c.p.exec != d)
      rackWait := s0.work.rackWait.filter (fun e => engineDrawer e.1 != d)
      queues := Tab.del s0.work.queues d
      fence := Tab.del s0.work.fence d }
    pats := { s0.pats with jobs := Tab.del s0.pats.jobs d, streams := Tab.del s0.pats.streams d }
    cipher := { s0.cipher with
      jobs := Tab.del s0.cipher.jobs d, cache := Tab.del s0.cipher.cache d, msgs := s0.cipher.msgs.filter (fun e => e.1 / 448 != d) } }
  let s2 := (streams.foldl (fun t x => t.markLost x.ident) s1).setObj Obj.CONTEXTS_IN_USE d 0
  let s3 := s2.freeOwned (fun o => o == d || o == 0x40 + d || o == ownerSlice d || (decide (0x800 ≤ o) && decide (o < 0x1000) && (o - 0x800) / 32 == d))
  let s4 := s3.poisonDrawer d
  let waits := (s4.mover d).waits
  let s5 := s4.setMover d {}
  let s6 := match s5.serviceDrawers with
    | [] => s5
    | e :: _ => waits.foldl (fun t x => t.setMover e { t.mover e with waits := (t.mover e).waits ++ [x] }) s5
  (((List.range 16).map (· + d / 16 * 16)).filter s6.inService).foldl
    (fun t e => (List.range 32).foldl (fun u i => u.raise (32 * e + i) 19) t) s6

/-- Buckets in ascending order go round robin to drawers, with no parcel pinned (R55, R497). -/
def Dev.rehome (s : Dev) (from' : Nat → Bool) (to' : List Nat) : Dev :=
  let bs := (List.range 4096).filter (fun b => from' (s.obj Obj.BUCKET_HOME b))
  if to'.isEmpty then s
  else bs.zipIdx.foldl (fun t e => (t.setObj Obj.BUCKET_HOME e.1 (nth to' (e.2 % to'.length))).setObj Obj.BUCKET_PINNED e.1 0) s

/-- A waiting parcel goes to its bucket's new home (R55). -/
def Dev.moveHome (s : Dev) (e : QEntry) : Dev :=
  let d := s.obj Obj.BUCKET_HOME (bucketOf e.p.flowHash)
  s.placeEntry true { e with p := { e.p with home := d, exec := d } }

/-- Parcels held at the hub for a drawer that has stopped are placed at their buckets' new homes; one not admitted before is now (R55). -/
def Dev.moveHeld (s : Dev) (gone : Nat → Bool) : Dev :=
  let mine := s.work.roomHeld.filter (fun h => gone h.2.p.exec)
  let s1 := { s with work := { s.work with roomHeld := s.work.roomHeld.filter (fun h => !gone h.2.p.exec) } }
  mine.foldl (fun t h =>
    if h.1 then t.moveHome h.2 else (t.rackOwns h.2.p).moveHome { h.2 with p := t.admitted h.2.p }) s1

/-- A parcel in flight in a stopped drawer (R55): reissued from its ingress copy where it may be, else retired as a drop. The answer tells
whether it was reissued. -/
def Dev.reissue (s : Dev) (x : InFlight) : Bool × Dev :=
  match x.2 with
  | some i =>
    if x.1.idem && s.flag Obj.REISSUE_ENABLE then
      (true, s.moveHome { seq := 0, p := { i with reissued := true, ticket := x.1.ticket } })
    else (false, s.finishAll (engineMonitor x.1.exec) { p := { x.1 with disp := 2, dropReason := 4, status := 0x11 }, owner := ownerRack })
  | none => (false, s.finishAll (engineMonitor x.1.exec) { p := { x.1 with disp := 2, dropReason := 4, status := 0x11 }, owner := ownerRack })

/-- Parcels in flight are reissued or dropped; the answers are the numbers of each (R55). -/
def Dev.reissueAll (s : Dev) (l : List InFlight) : Nat × Nat × Dev :=
  l.foldl (fun acc x =>
    let (r, t) := acc.2.2.reissue x
    if r then (acc.1 + 1, acc.2.1, t) else (acc.1, acc.2.1 + 1, t)) (0, 0, s)

/-! ### Drawer fences (R54 to R58) -/

/-- A fence record (R58). -/
def fenceRec (tick detect moved reissued dropped cause d : Nat) : Nat :=
  tick % 2 ^ 64 * 2 ^ 192 + detect % 2 ^ 64 * 2 ^ 128 + moved % 2 ^ 32 * 2 ^ 96 + reissued % 2 ^ 32 * 2 ^ 64 + dropped % 2 ^ 32 * 2 ^ 32 +
    cause * 2 ^ 8 + d

/-- Drawer d is fenced at this edge (R54, R55, R58); a fence that leaves no drawer in service is a device fault. -/
def Dev.fenceDrawer (s : Dev) (d : Nat) (c : FenceCause) : Dev :=
  if !s.inService d then { s with work := { s.work with fence := Tab.del s.work.fence d } }
  else
    let rest := s.serviceDrawers.filter (· != d)
    if rest.isEmpty then
      ({ s with work := { s.work with fence := Tab.del s.work.fence d } }).deviceFault 0x36
    else
      let near := rest.filter (fun e => e / 16 == d / 16)
      let flying := s.inFlight d
      let moving := (s.queue d).filter (fun e => e.p.stealable)
      let s1 := s.rehome (· == d) (if near.isEmpty then rest else near)
      let s2 := s1.stopDrawer d
      let s3 := moving.foldl Dev.moveHome s2
      let s4 := s3.moveHeld (· == d)
      let (re, dr, s5) := s4.reissueAll flying
      (s5.log Obj.FENCE_ENTRY 64 (fenceRec s.tick c.detect moving.length re dr c.cause d)).aerCorrected

/-- A cause to fence drawer d is detected (R54): the first one stands. -/
def Dev.dueFence (s : Dev) (d cause : Nat) : Dev :=
  if s.inService d && (Tab.get? s.work.fence d).isNone then
    { s with work := { s.work with fence := Tab.ins s.work.fence d { cause := cause, detect := s.tick } } }
  else s

/-! ### Cabinet fences (R496 to R498) -/

/-- Hot records held in cabinet c are lost (R497). -/
def Dev.loseHot (s : Dev) (c : Nat) : Dev := { s with em := { s.em with hot := s.em.hot.filter (fun e => e.1 / 16384 != c) } }

/-- Cabinet c is fenced at this edge (R496 to R498); a fence that leaves no cabinet in service is a device fault. -/
def Dev.fenceCabinet (s : Dev) (c : Nat) (f : FenceCause) : Dev :=
  let s0 := { s with work := { s.work with cabFence := Tab.del s.work.cabFence c } }
  if s.obj Obj.CABINET_STATE c = 1 then s0
  else
    let mine := s0.serviceDrawers.filter (fun d => d / 16 == c)
    let rest := s0.serviceDrawers.filter (fun d => d / 16 != c)
    if rest.isEmpty then s0.deviceFault 0x36
    else
      let waiting := mine.flatMap (fun d => (s0.queue d).map (fun e => (e.p, (none : Option Parcel))))
      let flying := mine.flatMap s0.running
      let lost (x : InFlight) : InFlight := if s0.obj Obj.CABINET_STATE (x.1.home / 16) = 1 ∨ x.1.home / 16 = c then (x.1, none) else x
      let s2 := s0.rehome (fun d => d / 16 == c) rest
      let s3 := mine.foldl Dev.stopDrawer s2
      let s4 := ((s3.loseHot c).setObj Obj.CABINET_STATE c 1).moveHeld (fun d => d / 16 == c)
      let (_, d1, s5) := s4.reissueAll waiting
      let (_, d2, s6) := s5.reissueAll (flying.map lost)
      ((s6.diag 4 f.cause c (d1 + d2)).notify 0xF001 Obj.CABINET_STATE (diagRec s.tick 4 f.cause c (d1 + d2))).aerCorrected

/-- A cause to fence cabinet c is detected (R496). -/
def Dev.dueCabinet (s : Dev) (c cause : Nat) : Dev :=
  if s.obj Obj.CABINET_STATE c = 0 ∧ (Tab.get? s.work.cabFence c).isNone = true ∧ c < s.part.cabinets then
    { s with work := { s.work with cabFence := Tab.ins s.work.cabFence c { cause := cause, detect := s.tick } } }
  else s

/-- A device fault is due at the next edge (R499). -/
def Dev.dueFault (s : Dev) (cause : Nat) : Dev :=
  if s.work.faultDue.isNone then { s with work := { s.work with faultDue := some (cause, s.tick) } } else s

/-! ### Step 1 of an edge -/

/-- Whether a cause detected in some tick acts at the present edge: the first after its detection (R54, R496, R499). -/
def Dev.fenceNow (s : Dev) (c : FenceCause) : Bool := decide (c.detect < s.tick)

/-- The fences due at this edge: cabinets first, so that a drawer fence inside one writes no record of its own (R495), then drawers, each
in ascending number and one after another (log entry 130: DESIGN CHOICE, unsafe). -/
def Dev.fencesEdge (s : Dev) : Dev :=
  let s1 := s.work.cabFence.foldl (fun t e => if t.fenceNow e.2 then t.fenceCabinet e.1 e.2 else t) s
  s1.work.fence.foldl (fun t e => if t.fenceNow e.2 then t.fenceDrawer e.1 e.2 else t) s1

/-- The device fault due at this edge (R499). -/
def Dev.faultEdge (s : Dev) : Dev :=
  match s.work.faultDue with
  | none => s
  | some (c, t) => if t < s.tick then ({ s with work := { s.work with faultDue := none } }).deviceFault c else s

/-! ### Commands -/

/-- SELFCHECK (R54, R496, R499): at a self-check edge, the mismatches found in drawers, cabinet crossbars and the hub crossbar. -/
def execSelfcheck (drawers cabinets : List Nat) (hub : Bool) (s : State) : Res :=
  onMainIf s (s.tick % max 1 s.work.selfCheck == 0) (fun s =>
    let s1 := drawers.foldl (fun t d => t.dueFence d 2) s
    let s2 := cabinets.foldl (fun t c => t.dueCabinet c 0x22) s1
    if hub then s2.dueFault 0x34 else s2)

/-- MONITOR_WATCHDOG (R54): cause 0x03. -/
def execMonitorWatchdog (d : Nat) (s : State) : Res := onMain s (fun s => s.dueFence d 3)

/-- A fence of cabinet c due at the present edge comes before the fences of its drawers (R495). -/
def Dev.cabinetFirst (s : Dev) (c : Nat) : Dev :=
  match Tab.get? s.work.cabFence c with
  | some f => if s.fenceNow f then s.fenceCabinet c f else s
  | none => s

/-- DRAWER_FENCE (R54, R55): an uncorrectable error in the drawer store is detected, cause 0x01; or, at a fencing edge run by steps, the
drawer is fenced, as part of its cabinet's fence where one is due at the same edge (R495). -/
def execDrawerFence (d : Nat) (storeError : Bool) (s : State) : Res :=
  onMain s (fun s =>
    if storeError then s.dueFence d 1
    else match Tab.get? s.work.fence d with
      | some c =>
        if s.edgeTodo.contains .fences && s.fenceNow c then (s.cabinetFirst (d / 16)).fenceDrawer d c else s
      | none => s)

/-- CABINET_FENCING (R496, R497): an uncorrectable error in the cabinet store is detected, cause 0x21; or, at a fencing edge run by steps,
the cabinet is fenced. -/
def execCabinetFencing (c : Nat) (storeError : Bool) (s : State) : Res :=
  onMain s (fun s =>
    if storeError then s.dueCabinet c 0x21
    else match Tab.get? s.work.cabFence c with
      | some f => if s.edgeTodo.contains .fences && s.fenceNow f then s.fenceCabinet c f else s
      | none => s)

/-- DEVICE_FAULT (R499, R500): a fault of causes 0x31 to 0x35 is detected; or, with 0, the one due at an edge run by steps is declared. -/
def execDeviceFault (cause : Nat) (s : State) : Res :=
  onMain s (fun s =>
    if 0x31 ≤ cause ∧ cause ≤ 0x35 then s.dueFault cause
    else if cause = 0 ∧ s.edgeTodo.contains .deviceFault = true then s.faultEdge
    else s)

/-- A clock fault or recovery, a device-level record, and its notice to the Owner (R16, R502). -/
def Dev.clockEvent (s : Dev) (cause : Nat) : Dev := (s.diag 5 cause 0 0).notify cause Obj.DIAG_ENTRY (diagRec s.tick 5 cause 0 0)

end Sys2Proof.Machine
end

