-- ==== Sys2Proof/Machine/Lease.lean ====
section
/-! DEFINITION. LEASE bodies to the Witness (R435, R436). -/
namespace Sys2Proof.Machine

/-- A LEASE body of the device (R435): KIND, TICK, LEASE_SEQ, ELIGIBLE and PEER_STALE. -/
def Dev.leaseBody (s : Dev) (kind tick seq : Nat) (eligible stale : Bool) : Nat :=
  s.obj Obj.SERIAL % 2 ^ 128 * 2 ^ 256 + tick % 2 ^ 64 * 2 ^ 192 + s.obj Obj.PAIR_ID * 2 ^ 160 + seq % 2 ^ 32 * 2 ^ 128 + kind * 2 ^ 104 +
    s.obj Obj.ROLE * 2 ^ 96 + ofBool eligible * 2 ^ 90 + ofBool stale * 2 ^ 88

/-- Whether HELLO carries ELIGIBLE (R435): STANDBY with an EXCHANGED link, its bulk copy done. -/
def Dev.eligibleNow (s : Dev) : Bool := s.obj Obj.ROLE == 2 && s.obj Obj.TWIN_LINK_STATE == 2

/-- HELLO is sent (R436); a SOLO device awaits a GRANT as its answer. -/
def Dev.hello (s : Dev) : Dev :=
  let awaited := if s.obj Obj.ROLE = 0 then s.twin.renews ++ [s.tick] else s.twin.renews
  ({ s with twin := { s.twin with lastSent := s.tick, renews := awaited } }).emit (.lease (s.leaseBody 3 s.tick (s.obj Obj.LEASE_SEQ) s.eligibleNow false))

/-- RENEW is sent (R436), and its answer awaited. -/
def Dev.renew (s : Dev) (tick : Nat) : Dev :=
  ({ s with twin := { s.twin with lastSent := s.tick, renews := s.twin.renews ++ [tick] } }).emit
    (.lease (s.leaseBody 1 tick (s.obj Obj.LEASE_SEQ) false s.twin.stale))

end Sys2Proof.Machine
end

