-- ==== Sys2Proof/Machine/Reset.lean ====
section
/-! DEFINITION. Warm and cold resets of the device (R80, R83, R404 to R406, R422, R424, R462 to R468, R478, R479). -/
namespace Sys2Proof.Machine

/-! ### Objects -/

/-- Whether an object's value outlives a reset: the retained registers always, the rings of the log store
and the state of DEVREF across a warm reset (R16, R425, R463, R501). -/
def keptObj (cold : Bool) (key : Nat) : Bool :=
  let oid := key / 2 ^ 32
  oid == Obj.LAST_RESET_CAUSE || oid == Obj.THERMAL_TRIPS || (!cold && oid == Obj.REF_STATE) || (!cold && decide (0xF00000 ≤ oid) && oid / 256 != 0xF010)

/-- The straps are sampled (R7, R478, R479, R80). -/
def Dev.sampleStraps (s : Dev) : Dev :=
  let v := s.pins.straps % 16
  let level := if bit v 0 then 7 else 9
  let s1 := ((s.setObj Obj.STRAPS 0 v).setObj Obj.COMPAT_STRAP 0 level).setObj Obj.COMPAT_LEVEL 0 level
  let s2 := s1.setObj Obj.MCTP_ADDRESS 0 (0x68 + v / 4)
  if bit v 1 && s.pins.vauxHigh then s2.setObj Obj.SIDEBAND_STATUS 0 (setBit (s2.obj Obj.SIDEBAND_STATUS) 12) else s2

/-- HOLDOVER, bit 3 of TB_FLAGS, of every time base set or cleared (R16). -/
def Dev.holdover (s : Dev) (on : Bool) : Dev :=
  [0, 1, 2, 3, 4, 5, 6, 7].foldl (fun t e =>
    let f := t.obj Obj.TB_FLAGS e
    t.setObj Obj.TB_FLAGS e (if on then setBit f 3 else clearBit f 3)) s

/-- Every object takes its default but those that outlive the reset, and the straps are sampled (R80). DCLK runs on through a warm reset, so
that a holdover goes on (R16, R465). -/
def Dev.resetObjs (s : Dev) (cold : Bool) : Dev :=
  let s1 := ({ s with objs := s.objs.filter (fun e => keptObj cold e.1) }).sampleStraps
  if s1.obj Obj.REF_STATE = 0 then s1 else s1.holdover true

/-! ### Units -/

/-- The main domain's units as they leave reset (R465, R468): links in reset with their PERSTh_N pins as they stand, associations closed and
the MCTP session begun again (R68, R83), the two copies of the configuration store kept, DRBGs seeded, a new key-store key drawn (R347). Accepted transactions that no edge has
applied are lost (log entry 160: DESIGN CHOICE, unsafe). -/
def Dev.resetUnits (s : Dev) : Dev :=
  let (k, s1) := s.fresh
  let pins := (s1.hosts.links.filter (fun e => !e.2.perst)).map (fun e => (e.1, ({ perst := false } : HLink)))
  { s1 with
    edgeTodo := [], snap := [], snapTick := 0
    work := {}, shelves := {}, sched := {}, eth := {}, pats := {}, em := {}, postmark := {}, storage := {}
    hosts := { links := pins, lives := s1.hosts.lives }
    cipher := { kek := some k, drbgs := (List.range s1.part.drawers).map (fun d => (d, ({ reseeded := s1.tick } : Drbg))) }
    twin := { fenceN := s1.twin.fenceN, downSince := some s1.tick }
    cores := { poisoned := s1.cores.poisoned }
    bureau := { sessions := [(0x20000, { who := .owner })], store0 := s1.bureau.store0, store1 := s1.bureau.store1 } }

/-! ### The life-cycle transition (R422, R424) -/

/-- The owner key slots with a hash fused into the lowest empty one; a hash already held counts as written (R422, R424). -/
def fuseHash (owners : Tab (Nat × Nat)) (hash : Nat) (only0 : Bool) : Tab (Nat × Nat) :=
  let slots := if only0 then [0] else [0, 1, 2, 3]
  if slots.any (fun k => Tab.get? owners k == some (1, hash)) then owners
  else match slots.find? (fun k => (Tab.getD owners k (0, 0)).1 == 0) with
    | some k => Tab.ins owners k (1, hash)
    | none => owners

/-- The owner key slots with those of a mask revoked, but for the signer's (R422). -/
def revoke (owners : Tab (Nat × Nat)) (mask signer : Nat) : Tab (Nat × Nat) :=
  owners.map (fun e => if bit mask e.1 && e.1 != signer then (e.1, (2, e.2.2)) else e)

/-- The accepted token takes effect (R424): the owner slots' fuses, then the transition step; the copies of the configuration store no
longer verify. The token held is its header, with the signer's owner slot above it. -/
def Dev.lcApply (s : Dev) : Dev :=
  match s.boot.accepted with
  | none => s
  | some w =>
    let f := s.boot.fuses
    let signer := w / 2 ^ 1024
    let fr := bits w 991 984
    let dst := bits w 983 976
    let hash := bits w 767 384
    let o1 := if fr = 0 ∨ dst = fr then fuseHash f.owners hash (fr == 0) else f.owners
    let o2 := if dst = fr then revoke o1 (bits w 967 964) signer else o1
    { s with
      boot := { s.boot with accepted := none, fuses := { f with owners := o2, lifeCycle := dst, steps := f.steps + 1 } }
      bureau := { s.bureau with store0 := { s.bureau.store0 with valid := false }, store1 := { s.bureau.store1 with valid := false } } }

/-! ### Resets -/

/-- The boot's own state as a reset begins it (R404, R406, R413, R423): a cold reset also clears KEY_LOCK, the failed marks and the token,
and draws TOKEN_NONCE. -/
def Dev.resetBoot (s : Dev) (cold : Bool) : Dev :=
  let b := s.boot
  let crash := if cold then 0 else if s.obj Obj.READINESS = 3 then s.obj Obj.CRASH_BYTES else b.crash
  let b1 : Boot := { b with
    warm := !cold, todo := [], tries := [], choosing := false, sealed' := [], booted := none, fallback := false, early := false
    released := none, install := [], crash := crash, anchors := [], due := [] }
  if cold then
    let (x, s1) := s.fresh
    { s1 with boot := { b1 with keyLock := 0, failed := [], token := [], nonce := x % 2 ^ 64 } }
  else { s with boot := b1 }

/-- A cold reset begins (R465): DCLK stops until it locks again, an accepted life-cycle token takes effect, and READINESS is AUX_ONLY. -/
def Dev.coldReset (s : Dev) (cause : Nat) : Dev :=
  let s1 := ((s.lcApply.resetBoot true).resetUnits).resetObjs true
  let s2 := s1.setObj Obj.LAST_RESET_CAUSE 0 cause
  { s2 with pins := { s2.pins with resetDue := none, throttleTick := none, avsTick := 0, avsFails := 0, bands := [], readings := [] }
            power := { s2.power with dclk := false } }

/-- A warm reset begins (R465, R468): the main domain and the Zilalys core; ticks run on. -/
def Dev.warmReset (s : Dev) (cause : Nat) : Dev :=
  let s1 := ((s.resetBoot false).resetUnits).resetObjs false
  let s2 := s1.setObj Obj.LAST_RESET_CAUSE 0 cause
  { s2 with pins := { s2.pins with resetDue := none, throttleTick := none, avsTick := s.tick, avsFails := 0, bands := [], readings := [] } }

/-- The main domain is lost or held without an orderly close (R462, R474): its units are in reset and READINESS is AUX_ONLY; objects take
their defaults at the cold reset that follows. -/
def Dev.mainDown (s : Dev) : Dev := { s with boot := { s.boot with due := [] } }.resetUnits.setObj Obj.READINESS 0 0

end Sys2Proof.Machine
end

