-- ==== Sys2Proof/Machine/BureauEffects.lean ====
section
/-! DEFINITION. What applied objects do to the device at their commit edge: changes of stored objects, and write-only requests. -/
namespace Sys2Proof.Machine

/-! ### Stored objects -/

/-- Functions that are present (R225). -/
def Dev.presentFns (s : Dev) : List Nat := (List.range 4160).filter s.present

/-- A function's Card Index is to be rewritten (R236). -/
def Dev.markIndex (s : Dev) (n : Nat) : Dev := s.setFn n { s.fn n with ciDirty := true }

/-- Every present function's Card Index is to be rewritten (R236). -/
def Dev.markIndexes (s : Dev) : Dev := s.presentFns.foldl Dev.markIndex s

/-- A change of the compatibility level (R90): every queue of every function, admin queues included, is ABSENT. -/
def Dev.levelChange (s : Dev) : Dev :=
  let clear (t : Dev) (n : Nat) : Dev :=
    let t1 := t.dropQueues n
    let t2 := { t1 with hosts := { t1.hosts with admin := Tab.del t1.hosts.admin n } }
    t2.setFn n { t2.fn n with adminEn := false, adminDue := false, adminErr := 0 }
  (s.presentFns.foldl clear s).markIndexes

/-- The root ports of controller k are made anew (R224): no drive is known on them, and a path over one is lost (R311). -/
def Dev.portsAnew (s : Dev) (k : Nat) : Dev :=
  let here (r : Nat) : Bool := r / 8 == k
  let bs := (List.range 1024).filter (fun b => s.obj Obj.BK_KIND b == 1 && here (s.obj Obj.BK_ROOT_PORT b))
  let s1 := bs.foldl (fun t b => if t.live b then t.pathLost b false else t) s
  s1.updSto (fun g => { g with drives := g.drives.filter (fun e => !here e.1), contained := g.contained.filter (fun r => !here r) })

/-- LINK_MODE of controller k changed (*Host link states*, R224): a powered controller is in RESET, and trains when PERSTh_N allows. -/
def Dev.linkModeSet (s : Dev) (k v : Nat) : Dev :=
  let s1 := s.portsAnew k
  if v = 1 ∨ v = 2 then (s1.setObj Obj.LINK_STATE_8000 k 1).leaveReset k else s1.setObj Obj.LINK_STATE_8000 k 0

/-- A swap of pattern set S to bank b (R146): the old bank drains. -/
def Dev.psetSwap (s : Dev) (S b : Nat) : Dev :=
  let old := 2 * S + (1 - b)
  let s1 := if s.obj Obj.BANK_STATE old = 4 then s.setObj Obj.BANK_STATE old 5 else s
  s1.setObj Obj.BANK_STATE (2 * S + b) 4

/-- The counters of a function (R251, R298). -/
def fnCounters : List Nat :=
  [Obj.FLRS, Obj.FUNCTION_ABORTS, Obj.BME_CLEARS, Obj.BME_DISCARDS, Obj.DOORBELL_REJECTS, Obj.BAR_ERRORS, Obj.LB_SENT, Obj.LB_RECEIVED,
    Obj.LB_THROTTLED, Obj.LB_REJECTS, Obj.QUIESCES, Obj.QUIESCE_FORCED, Obj.UNQUIESCED_REMOVALS, Obj.DIRTY_MARKS, Obj.DIRTY_OUTSIDE]

/-- A change of VF_ASSIGN of VF n (R288): on a present VF its queues, snapshot and state go, the instances of its queues that a Tenant writes
return to their defaults, and its counters are zero. -/
def Dev.assignVf (s : Dev) (n : Nat) : Dev :=
  if !s.present n then s
  else
    let gs := (s.queuesOf n).map (fun e => e.2.g)
    let s1 := s.reassign n
    let s2 := gs.foldl (fun t g => (t.setObj Obj.RX_TS g (dfltOf t.part Obj.RX_TS g)).setObj Obj.ONE_STEP g (dfltOf t.part Obj.ONE_STEP g)) s1
    let s3 := gs.foldl (fun t g => (List.range 8).foldl (fun u i => u.setObj (0x804801 + i) g 0) t) s2
    (fnCounters.foldl (fun t o => t.setObj o n 0) s3).markIndex n

/-- A backend's configuration rewritten (R310, R311): it is out of use until it is reached again; a path in use is lost. -/
def Dev.backSet (s : Dev) (b : Nat) : Dev :=
  let live := s.live b
  let s1 := s.setBack b { s.back b with seen := false }
  let kind := s1.obj Obj.BK_KIND b
  let s2 := if live then s1.pathLost b false else s1
  if kind = 0 ∨ (kind = 1 ∧ s.driveAt (s1.obj Obj.BK_ROOT_PORT b) = false) then s2.setObj Obj.BK_STATE b 0
  else if live then s2.setObj Obj.BK_STATE b 1
  else (s2.setObj Obj.BK_STATE b 1).connect b

/-- A namespace created by the Owner over NS_EXTENTS slots (R306); none where no run of slots is free, or commands to a namespace that had its number
are outstanding. -/
def Dev.ownerNs (s : Dev) (i v : Nat) : Option Dev :=
  if s.storage.deleting.any (fun d => d.1 == i) then none else
  (s.freeRun v).map (fun base =>
    let lbaf := s.obj Obj.LBA_FORMAT i
    s.makeNs i base (v * (mib / lbaData lbaf)) lbaf 0xFFFF false 0)

/-- The old value of an SA binding is kept for parcels admitted before this edge (R107). -/
def Dev.saKeep (s : Dev) (oid inst old : Nat) : Dev :=
  { s with eth := { s.eth with saHist := (s.tick, okey oid inst, old) :: s.eth.saHist } }

/-- A transmit or receive SA is bound to a key: the new SA's packet numbers begin again; parcels in flight keep the old SA's (R107). A
write of the handle that the SA has already begins them again too (log entry 161: DESIGN CHOICE, unsafe). -/
def Dev.saBind (s : Dev) (oid inst old : Nat) : Dev :=
  let s1 := s.saKeep oid inst old
  let k := saKey inst (s.obj oid inst)
  if oid = Obj.TX_SA_KEY then
    { s1 with eth := { s1.eth with txPn := Tab.del s1.eth.txPn k, pnNotified := s1.eth.pnNotified.filter (· != k) } }
  else { s1 with eth := { s1.eth with rxPn := Tab.del s1.eth.rxPn k } }

/-- What an applied stored object does where it differs from its value before, and what its writing alone does. -/
def Dev.stored (s : Dev) (x : Staged) (old : Nat) : Option Nat × Dev :=
  let i := x.inst
  let v := x.value
  let same := v == old
  let oid := x.oid
  let yes (t : Dev) : Option Nat × Dev := (none, if same then s else t)
  if oid = Obj.COMPAT_LEVEL then yes s.levelChange
  else if oid = Obj.MCTP_PRINCIPAL then
    (none, match s.session? 0x20000 with
      | some ss => s.setSession 0x20000 { ss with who := if v = 1 ∨ v = 2 then .owner else .witness }
      | none => s)
  else if oid = Obj.ENABLE_2000 then yes (if v = 1 then s.portEnable i else s.portDisable i)
  else if oid = Obj.ACTIVE_BANK then yes ((s.setObj Obj.SWAP_TICK 0 s.tick).bump Obj.SWAPS)
  else if oid = Obj.BUCKET_HOME then yes (s.loseBucket old i)
  else if oid = Obj.PSET_ACTIVE_BANK then yes (s.psetSwap i v)
  else if oid = Obj.SHAPE_EN ∨ oid = Obj.RATE ∨ oid = Obj.BURST then yes (s.shaperReload i)
  else if oid = Obj.POLICER then yes (s.policerFill i)
  else if oid = Obj.LINK_MODE then yes (s.linkModeSet i v)
  else if oid = Obj.ROOT_PORT_WIDTH then yes (s.portsAnew i)
  else if oid = Obj.PF_COUNT ∨ oid = Obj.VF_BUDGET then yes s.markIndexes
  else if oid = Obj.ACCESS_MASK ∨ oid = Obj.QUEUE_LIMIT then yes (s.markIndex i)
  else if oid = Obj.VF_ASSIGN then yes (s.assignVf i)
  else if oid = Obj.NVME_FUNCTION then yes (((s.setCtrl i {}).markIndex old).markIndex v)
  else if oid = Obj.NS_EXTENTS then
    match s.ownerNs i v with
    | some t => (none, t)
    | none => (some 0x01, s.setObj Obj.NS_EXTENTS i old)
  else if oid = Obj.ATTACH then
    let t (u : Dev) (c : Nat) : Dev := if c = 0xFFFF then u else u.nsChanged c (i / 16)
    yes (t (t s old) v)
  else if oid = Obj.INTENT_BACKEND ∨ oid = Obj.INTENT_LBA then yes (s.forgetIntents (s.obj Obj.EXTENT_BASE i) (s.extents i))
  else if oid = Obj.EXTENT then (none, s.setObj Obj.EXTENT i (putBits v 99 96 0))
  else if oid = Obj.BK_KIND ∨ oid = Obj.BK_ROOT_PORT then (none, if s.obj Obj.BK_STATE i = 4 then s else s.backSet i)
  else if oid = Obj.BK_ADDR ∨ oid = Obj.BK_NQN ∨ oid = Obj.BK_NSID then (none, s.backSet i)
  else if oid = Obj.TX_SA_KEY ∨ oid = Obj.RX_SA_KEY then (none, s.saBind oid i old)
  else if oid = Obj.TX_AN then yes (s.saKeep oid i old)
  else if oid = Obj.SA then (none, s.updCipher (fun c => { c with spent := c.spent.filter (· != i) }))
  else if oid = Obj.DIRTY_ENABLE then yes ((s.flushWrites i).flushMsix i)
  else if oid = Obj.PPS_OUT_TB then yes (if v = 0xFF then s.ppsLow else s)
  else if oid = Obj.TWIN_ENABLE then (none, if v = 0 then (s.setRole 0).resumeIo else if !same && s.obj Obj.READINESS == 3 then s.hello else s)
  else (none, s)

/-! ### Keys and the cipher (R349 to R352) -/

/-- KEY_IMPORT at its commit edge (R349), with what it unwrapped to when it was staged: a handle that holds a key keeps it. -/
def Dev.importKey (s : Dev) (k : Option (Nat × KeyRec)) : Option Nat × Dev :=
  match k with
  | none => (some 0x01, s)
  | some (h, k) => if (s.key? h).isSome then (some 0x01, s) else (none, s.updCipher (fun c => { c with keys := Tab.ins c.keys h k }))

/-- Whether an object names a handle (R349, R350): one of type HANDLE that holds it, or its VALID SA record (R348). -/
def Dev.keyNamed (s : Dev) (h : Nat) : Bool :=
  (decide (h < 1048576) && bit (s.obj Obj.SA h) 192) ||
  s.objs.any (fun e => e.2 == h && [Obj.TX_SA_KEY, Obj.RX_SA_KEY, Obj.XTS_KEY].contains (e.1 / 2 ^ 32))

/-- KEY_DELETE at its commit edge (R349). -/
def Dev.deleteKey (s : Dev) (h : Nat) : Option Nat × Dev :=
  if (s.key? h).isNone ∨ s.keyNamed h = true then (some 0x01, s)
  else (none, s.updCipher (fun c => { c with keys := Tab.del c.keys h, cache := c.cache.map (fun e => (e.1, e.2.filter (· != h))) }))

/-- TK_INSTALL (R420): the transport key replaces any in its slot. -/
def Dev.installTk (s : Dev) (v : Nat) : Option Nat × Dev :=
  let bs := leBytes 152 v
  match Config.tkUnwrap s.boot.fuses.steps bs with
  | some k => (none, s.updCipher (fun c => { c with tks := Tab.ins c.tks (nth bs 0) k }))
  | none => (some 0x01, s)

/-- CIPHER_REARM at its commit edge (R352): a new key-store key, under which no key stored before can be unwrapped, and known-answer tests on every
slice in service; whether a sensor is still out of range is not known here (log entry 5: DESIGN CHOICE, safe). -/
def Dev.rearm (s : Dev) : Option Nat × Dev :=
  let (out, s1) := s.fresh
  if out % 2 = 1 then (some 0x01, s1)
  else
    let (k, s2) := s1.fresh
    let ds := s.serviceDrawers
    let s3 := s2.updCipher (fun c => { c with
      kek := some k, keys := [], tks := [], cache := []
      drbgs := ds.foldl (fun t d => Tab.ins t d { reseeded := s.tick }) c.drbgs })
    (none, ds.foldl (fun t d => t.setObj Obj.SLICE_STATE d 0) s3)

/-! ### Images, life cycle and roles (R416 to R424, R443) -/

/-- The slot that IMG_BEGIN = 0xFF chooses (R416). -/
def Dev.pickSlot (s : Dev) : Nat :=
  let slots := List.range s.part.slots
  match slots.find? (fun i => let st := (Tab.getD s.boot.slots i {}).state; st == 0xFF || st == 0x05) with
  | some i => i
  | none =>
    match s.part with
    | .ik9c => 1 - (match s.bootRec with | some r => r.active | none => 0) % 2
    | .ik9x =>
      let seq (i : Nat) : Nat := (Tab.getD s.boot.slots i {}).seq
      let others := slots.filter (fun i => s.boot.booted != some i)
      others.foldl (fun a i => if seq i < seq a then i else a) (others.headD 0)

/-- IMG_BEGIN (R416): the state sector is erased first, then the seal, and the erasing of the rest goes on. -/
def Dev.imgBegin (s : Dev) (v : Nat) : Option Nat × Dev :=
  let i := if v = 0xFF then s.pickSlot else v
  if s.boot.booted = some i ∧ v ≠ 0xFF then (some 0x01, s)
  else
    let x := Tab.getD s.boot.slots i {}
    let s1 := { s with boot := { s.boot with slots := Tab.ins s.boot.slots i { x with state := 0xFF, seq := 0, seal' := none }, install := [] } }
    (none, (s1.setObj Obj.IMG_STATE 0 1).setObj Obj.IMG_SLOT 0 i)

/-- IMG_FINISH (R417): the check begins, unless SEQUENCE would not fit. -/
def Dev.imgFinish (s : Dev) : Option Nat × Dev :=
  let full := s.boot.slots.any (fun e => (e.2.state == 0x00 || e.2.state == 0xA5) && e.2.seq == 0xFFFFFFFF)
  if s.obj Obj.IMG_STATE ≠ 2 then (some 0x01, s)
  else if s.part = .ik9x ∧ full = true then (some 0x41, s)
  else (none, s.setObj Obj.IMG_STATE 0 4)

/-- LC_REQUEST at its commit edge (R423, R424): an accepted token is held for the cold reset, and TOKEN_NONCE is drawn anew. -/
def Dev.lcRequest (s : Dev) (v : Nat) : Option Nat × Dev :=
  match s.lcBad s.boot.token v with
  | some st => (some st, s)
  | none =>
    let (x, s1) := s.fresh
    let w := ofLE (tokenBytes s.boot.token 0 128) + (s.tokenSigner s.boot.token).getD 0 * 2 ^ 1024
    (none, { s1 with boot := { s1.boot with accepted := some w, nonce := x % 2 ^ 64 } })

/-- ROLE_REQUEST at its commit edge (R438, R443). -/
def Dev.roleRequest (s : Dev) (v : Nat) : Option Nat × Dev :=
  if v = 2 then
    if s.obj Obj.ROLE = 1 ∧ s.obj Obj.PEER_ROLE = 2 then (none, { s with twin := { s.twin with switching := true } }) else (some 0x01, s)
  else if s.obj Obj.ROLE = 4 ∧ s.twin.fenceN = false then (none, s.discardCopy.setRole 3)
  else (some 0x01, s)

/-! ### Write-only objects -/

/-- The outcome of a correction in the form of an effect. -/
def tbEffect (x : Nat × Dev) : Option Nat × Dev := (if x.1 = 0 then none else some x.1, x.2)

/-- What an applied write-only object does: a status where its own check at the edge refuses it. -/
def Dev.request' (s : Dev) (x : Staged) : Option Nat × Dev :=
  let i := x.inst
  let v := x.value
  let yes (t : Dev) : Option Nat × Dev := (none, t)
  if x.oid = Obj.RESET_REQUEST then yes { s with pins := { s.pins with resetDue := some (if v = 1 then 3 else 4) } }
  else if x.oid = Obj.STORE_SAVE then
    if s.bureau.save.isSome ∨ s.bureau.saveDue = true then (some 0x41, s) else yes { s with bureau := { s.bureau with saveDue := true } }
  else if x.oid = Obj.IMAGE_CHUNK then
    let B := loadBank s.part s.objs
    yes ({ s with pats := { s.pats with images := Tab.ins s.pats.images (B * 2 ^ 20 + i) v } } |>.setObj Obj.BANK_STATE B 1)
  else if x.oid = Obj.VERIFY then
    let B := loadBank s.part s.objs
    yes (if s.pats.verifying.contains B then s else { s with pats := { s.pats with verifying := s.pats.verifying ++ [B] } })
  else if x.oid = Obj.FLUSH then yes (s.flushJobs i)
  else if x.oid = Obj.QSTAT_CLEAR then yes s.qstatClear
  else if x.oid = Obj.RECOVER then yes (if s.obj Obj.NS_STATE i = 0 then s else s.nsRecover i)
  else if x.oid = Obj.CIPHER_REARM then s.rearm
  else if x.oid = Obj.KEY_IMPORT then s.importKey x.key
  else if x.oid = Obj.KEY_DELETE then s.deleteKey v
  else if x.oid = Obj.TK_INSTALL then s.installTk v
  else if x.oid = Obj.TB_ARM then yes (s.tbArm i)
  else if x.oid = Obj.TB_SET then tbEffect (s.tbSet i v)
  else if x.oid = Obj.TB_ADJ_FREQ then yes (s.tbFreq i v x.clamped)
  else if x.oid = Obj.TB_ADJ_PHASE then tbEffect (s.tbPhase i v)
  else if x.oid = Obj.PPS_OUT_RESTORE then yes s.ppsRestore
  else if x.oid = Obj.FENCE then yes (s.dueFence i 4)
  else if x.oid = Obj.CABINET_FENCE then yes (s.dueCabinet i 0x23)
  else if x.oid = Obj.LC_TOKEN then yes { s with boot := { s.boot with token := Tab.ins s.boot.token i v } }
  else if x.oid = Obj.LC_REQUEST then s.lcRequest v
  else if x.oid = Obj.IMG_BEGIN then s.imgBegin v
  else if x.oid = Obj.IMG_CHUNK then
    yes ({ s with boot := { s.boot with install := s.boot.install ++ [(i, v)] } } |>.setObj Obj.IMG_STATE 0 3)
  else if x.oid = Obj.IMG_FINISH then s.imgFinish
  else if x.oid = Obj.MIN_VERSION_RAISE then yes { s with boot := { s.boot with fuses := { s.boot.fuses with minVersion := v } } }
  else if x.oid = Obj.ROLE_REQUEST then s.roleRequest v
  else yes s

/-- What an applied object does (R76): `old` is its value before the transaction. -/
def Dev.effect (s : Dev) (x : Staged) (old : Nat) : Option Nat × Dev := if storedObj x.oid then s.stored x old else s.request' x

end Sys2Proof.Machine
end

