-- ==== Sys2Proof/Machine/BureauApply.lean ====
section
/-! DEFINITION. Commits (R25, R71, R76 to R79, R508): the checks of a whole transaction, its application, its log entries and its answer;
the edge's Bureau step, a save's beginning, and the load of stored values (R80). -/
namespace Sys2Proof.Machine

/-! ### Groups of records that are checked together -/

/-- The lanes that port q holds under a store (R91). -/
def lanesAt (p : Part) (o : Tab Nat) (q : Nat) : List Nat := (List.range (modeWidth (objAt p o Obj.PORT_MODE q))).map (· + q)

/-- Whether PORT_MODE v of port q claims a lane that another port holds under a store (R92). -/
def laneClash (p : Part) (o : Tab Nat) (q v : Nat) : Bool :=
  let mine := (List.range (modeWidth v)).map (· + q)
  (List.range p.ports).any (fun r => r != q && (lanesAt p o r).any (fun l => mine.contains l))

/-- The PORT_MODE records of a transaction (R92): in ascending port order, each against the store that the lower-numbered ones leave;
the store that they leave and the ports whose record is refused. -/
def portModes (p : Part) (o0 oB : Tab Nat) (l : List CItem) : Tab Nat × List Nat :=
  (List.range p.ports).foldl (fun (acc : Tab Nat × List Nat) q =>
    match l.find? (fun i => i.2.isNone && i.1.oid == Obj.PORT_MODE && i.1.inst == q) with
    | none => acc
    | some i =>
      if objAt p o0 Obj.ENABLE_2000 q = 1 ∨ laneClash p acc.1 q i.1.value = true then (acc.1, q :: acc.2)
      else (putObj p acc.1 Obj.PORT_MODE q i.1.value, acc.2)) (oB, [])

/-- The store that every PORT_MODE write of an edge leaves, its transactions in order (R92). -/
def edgeModes (p : Part) (o0 : Tab Nat) (due : List Accepted) : Tab Nat :=
  due.foldl (fun o a => (portModes p o0 o (a.items.map (fun x => (x, none)))).1) o0

/-- The PORT_MODE and ENABLE records of a transaction (R92): an ENABLE = 1 is judged by the modes that the edge leaves. -/
def checkPorts (p : Part) (o0 oE oB : Tab Nat) (l : List CItem) : List CItem :=
  let bad := (portModes p o0 oB l).2
  refuseIf l (fun x =>
    if x.oid = Obj.PORT_MODE then no (bad.contains x.inst)
    else if x.oid = Obj.ENABLE_2000 then no (x.value == 1 && objAt p oE Obj.PORT_MODE x.inst == 0)
    else none)

/-- Whether table t's slot range reaches beyond the rule slots of a placement (R133, R143). -/
def slotsBeyond (p : Part) (o : Tab Nat) (placement t : Nat) : Bool :=
  objAt p o Obj.SLOT_COUNT t != 0 && decide (ruleSlots p placement < objAt p o Obj.SLOT_BASE t + objAt p o Obj.SLOT_COUNT t)

/-- Whether table t's slot range breaks R133's alignment or overlaps another's under a store (R143). -/
def slotRangeBad (p : Part) (o : Tab Nat) (t : Nat) : Bool :=
  let base (u : Nat) : Nat := objAt p o Obj.SLOT_BASE u
  let count (u : Nat) : Nat := objAt p o Obj.SLOT_COUNT u
  count t != 0 && (base t % count t != 0 ||
    (List.range 16).any (fun u => u != t && count u != 0 && decide (base t < base u + count u ∧ base u < base t + count t)))

/-- The slot ranges of a transaction judged by a test until it refuses none: no range is judged on a record that is refused. -/
def settleRanges (p : Part) (oB : Tab Nat) (bad : Tab Nat → Nat → Bool) (l : List CItem) : List CItem :=
  settle (fun l => let o := leaves p oB l
    refuseIf l (fun x => if x.oid = Obj.SLOT_BASE ∨ x.oid = Obj.SLOT_COUNT then no (bad o x.inst) else none)) l.length l

/-- The tables' and groups' records of a transaction (R143): what is in use is judged on the store before the transaction, the ranges by
each other, RULE_PLACEMENT by the ranges that stand, and the ranges then by the placement that stands. -/
def checkTables (p : Part) (oB : Tab Nat) (l : List CItem) : List CItem :=
  let l1 := refuseIf l (fun x =>
    if x.oid = Obj.KEY_MAP ∨ x.oid = Obj.SLOT_BASE ∨ x.oid = Obj.SLOT_COUNT then no (validRulesOf p oB x.inst != 0)
    else if x.oid = Obj.GROUPS then no ((List.range 8).any (fun g => decide (x.value ≤ g) && groupInUse p oB x.inst g))
    else if x.oid = Obj.GROUP_MASK ∨ x.oid = Obj.GROUP_SEED then no (groupInUse p oB (x.inst / 8) (x.inst % 8))
    else if x.oid = Obj.RULE_PLACEMENT then no (x.value != objAt p oB Obj.RULE_PLACEMENT 0 && !(validRules oB).isEmpty)
    else none)
  let l2 := settleRanges p oB (slotRangeBad p) l1
  let o2 := leaves p oB l2
  let l3 := refuseIf l2 (fun x =>
    if x.oid = Obj.RULE_PLACEMENT then
      no (x.value != objAt p oB Obj.RULE_PLACEMENT 0 && (List.range 16).any (slotsBeyond p o2 x.value))
    else none)
  settleRanges p oB (fun o t => slotRangeBad p o t || slotsBeyond p o (objAt p o Obj.RULE_PLACEMENT 0) t) l3

/-- Whether a RULE_HEAD with VALID = 1 may not stand in slot r under a store (R142). -/
def ruleBad (p : Part) (o : Tab Nat) (r head : Nat) : Bool :=
  match tableOfSlot p o r with
  | none => true
  | some t =>
    let g := bits head 3 1
    let key := bits (objAt p o Obj.RULE_DATA r) 447 64
    decide (objAt p o Obj.GROUPS t ≤ g) || (key &&& objAt p o Obj.GROUP_MASK (8 * t + g)) != key || ruleBucket p o t g key != r / 4

/-- The rule slots' records of a transaction (R142): a slot's two records stand or fall together. -/
def checkRules (p : Part) (o0 oB : Tab Nat) (l : List CItem) : List CItem :=
  let o := leaves p oB l
  let has (oid r : Nat) : Bool := l.any (fun i => i.1.oid == oid && i.1.inst == r)
  let l1 := refuseIf l (fun x =>
    if x.oid = Obj.RULE_DATA then no (objAt p o0 Obj.RULE_HEAD x.inst % 2 == 1 && !has Obj.RULE_HEAD x.inst)
    else if x.oid = Obj.RULE_HEAD then no (x.value % 2 == 1 && ruleBad p o x.inst x.value)
    else none)
  let isRule (oid : Nat) : Bool := oid == Obj.RULE_DATA || oid == Obj.RULE_HEAD
  let bad := (l1.filter (fun i => i.2.isSome && isRule i.1.oid)).map (fun i => i.1.inst)
  refuseIf l1 (fun x => no (isRule x.oid && bad.contains x.inst))

/-- The place, offset and buffers of shelf f under a store (R179). -/
def shelfArea (p : Part) (o : Tab Nat) (f : Nat) : Nat × Nat × Nat :=
  let place (g : Nat) : Nat := objAt p o Obj.SHELF_PLACE g
  let size (g : Nat) : Nat := objAt p o Obj.SHELF_BUFFERS g * (shelfSize g + 16)
  (place f, ((List.range f).filter (fun g => place g == place f)).foldl (fun n g => n + size g) 0, objAt p o Obj.SHELF_BUFFERS f)

/-- The bytes of the shelves in a placement under a store (R179). -/
def shelfTotal (p : Part) (o : Tab Nat) (place : Nat) : Nat :=
  ([0, 1, 2, 3, 4, 5].filter (fun f => objAt p o Obj.SHELF_PLACE f == place)).foldl
    (fun n f => n + objAt p o Obj.SHELF_BUFFERS f * (shelfSize f + 16)) 0

/-- Whether the shelves fit under a store (R2, R179). -/
def shelvesFit (p : Part) (o : Tab Nat) : Bool :=
  decide (shelfTotal p o 0 ≤ p.pick 67108864 33554432 ∧ shelfTotal p o 1 ≤ objAt p o Obj.SHELF_REGION_GIB 0 * gib)

/-- The shelf records of a transaction, together (R180). -/
def Dev.checkShelves (s : Dev) (l : List CItem) : List CItem :=
  let o := leaves s.part s.objs l
  let moved (f : Nat) : Bool := shelfArea s.part o f != shelfArea s.part s.objs f && s.shelfUsed f != 0
  refuseAll l [Obj.SHELF_PLACE, Obj.SHELF_BUFFERS] (!shelvesFit s.part o || [0, 1, 2, 3, 4, 5].any moved) 0x01

/-- The objects that size the GDDR6 regions (R455). -/
def regionObjs : List Nat := [Obj.SHELF_REGION_GIB, Obj.EM_REGION_GIB, Obj.VOLATILE_REGION_GIB, Obj.EXTENT_SLOTS]

/-- The region sizes of a transaction, together (R455). -/
def Dev.checkRegions (s : Dev) (l : List CItem) : List CItem :=
  let p := s.part
  let o := leaves p s.objs l
  let now (oid : Nat) : Nat := objAt p o oid 0
  let was (oid : Nat) : Nat := s.obj oid
  let m7 := now Obj.SHELF_REGION_GIB != was Obj.SHELF_REGION_GIB
  let m8 := m7 || now Obj.EM_REGION_GIB != was Obj.EM_REGION_GIB
  let m9 := m8 || now Obj.VOLATILE_REGION_GIB != was Obj.VOLATILE_REGION_GIB
  let m10 := m9 || now Obj.EXTENT_SLOTS != was Obj.EXTENT_SLOTS
  let total := (now Obj.SHELF_REGION_GIB + now Obj.EM_REGION_GIB + now Obj.VOLATILE_REGION_GIB + 8) * gib + now Obj.EXTENT_SLOTS * 32
  let created := s.storage.nss.map Prod.fst
  let vol (i : Nat) : Bool :=
    (List.range (s.extents i)).any (fun e => bits (s.obj Obj.EXTENT (s.obj Obj.EXTENT_BASE i + e)) 1 0 == 2)
  let tables := (List.range 64).all (fun t => objAt p o Obj.BUCKET_COUNT t == 0 ||
    decide (objAt p o Obj.BUCKET_BASE t + objAt p o Obj.BUCKET_COUNT t ≤ now Obj.EM_REGION_GIB * 2 ^ 22))
  let bad := decide (s.obj Obj.MEM_USABLE_BYTES < total) ||
    (m7 && [0, 1, 2, 3, 4, 5].any (fun f => !s.shelfOnChip f && s.shelfUsed f != 0)) ||
    (m8 && !s.em.entries.isEmpty) || (m9 && created.any vol) || (m10 && !created.isEmpty) || !shelvesFit p o || !tables
  refuseAll l regionObjs (bad && l.any (fun i => regionObjs.contains i.1.oid)) 0x01

/-- Ranges that depend on another object (R508): a value that has left its range is clamped, or refused, by its CLAMP. -/
def Dev.checkRanges (s : Dev) (l : List CItem) (a : Accepted) : List CItem :=
  let view := objAt s.part (leaves s.part s.objs l)
  l.map (fun i =>
    match i.2, objDef? i.1.oid with
    | none, some d =>
      if [Obj.XON_THRESHOLD, Obj.HIGH_WM_BP, Obj.MEM_TEMP_CRIT, Obj.MEM_RATE, Obj.FEC_MODE, Obj.LEARN_ENABLE].contains i.1.oid then
        match s.verdict view a.who a.fn d i.1.inst i.1.value with
        | .legal => i
        | .clamped v => ({ i.1 with value := v, clamped := true }, none)
        | .refused st => i.refuse st
      else i
    | _, _ => i)

/-- The swap of the parse graph (R125): refused where the other bank fails the bank check, with the first failure. -/
def Dev.checkBank (s : Dev) (l : List CItem) : List CItem × Option Nat :=
  let o := leaves s.part s.objs l
  match l.find? (fun i => i.2.isNone && i.1.oid == Obj.ACTIVE_BANK && i.1.value != s.obj Obj.ACTIVE_BANK) with
  | none => (l, none)
  | some i =>
    match bankFault s.part o i.1.value with
    | none => (l, none)
    | some f => (refuseAll l [Obj.ACTIVE_BANK] true 0x01, some f)

/-- Whether this is the load of stored values (R80). -/
def Accepted.load (a : Accepted) : Bool := a.key == 0x40000

/-- The store with no lanes held by the ports whose mode is loaded (R80): a load's modes are judged by each other, not by the defaults. -/
def vacate (p : Part) (o : Tab Nat) (l : List CItem) : Tab Nat :=
  l.foldl (fun o i => if i.1.oid = Obj.PORT_MODE then putObj p o Obj.PORT_MODE i.1.inst 0 else o) o

/-- Every check of a transaction at its commit edge but the graph's (R76, R508), each on what the items not yet refused leave. -/
def Dev.checkPass (s : Dev) (o0 oE : Tab Nat) (a : Accepted) (l : List CItem) : List CItem :=
  let p := s.part
  let l0 := s.checkRegions l
  let l1 := refuseIf l0 (fun x => s.checkOne o0 (leaves p s.objs l0) a x)
  let l2 := settle (fun m => let o := leaves p s.objs m; refuseIf m (s.checkLeft o)) l1.length (s.checkSwaps l1)
  let l3 := checkRules p o0 s.objs (checkTables p s.objs (checkPorts p o0 oE (if a.load then vacate p s.objs l2 else s.objs) l2))
  s.checkRanges (s.checkRegions (s.checkShelves l3)) a

/-- Every check of a transaction at its commit edge (R76): the items with what is refused, and the graph's first failure. The checks are
made again while they refuse more, so that no item stands on one that is refused. -/
def Dev.checkTxn (s : Dev) (o0 oE : Tab Nat) (a : Accepted) (l : List CItem) : List CItem × Option Nat :=
  s.checkBank (settle (s.checkPass o0 oE a) l.length l)

/-! ### Applying a transaction (R76 to R78) -/

/-- A clamp log entry (R78). -/
def clampRec (tick written applied inst oid who outcome fn txn : Nat) : Nat :=
  tick % 2 ^ 64 * 2 ^ 448 + written % 2 ^ 96 * 2 ^ 352 + applied % 2 ^ 96 * 2 ^ 256 + inst % 2 ^ 32 * 2 ^ 224 + oid * 2 ^ 200 +
    who * 2 ^ 196 + outcome * 2 ^ 192 + fn % 65536 * 2 ^ 176 + txn % 65536 * 2 ^ 160

/-- PRINCIPAL of a transaction's log entries (R78); the spec gives none for a thread's correction (log entry 5: DESIGN CHOICE, safe). -/
def Dev.logWho (s : Dev) (a : Accepted) : Nat × Dev :=
  if 0x30000 ≤ a.key ∧ a.key < 0x40000 then let (x, s1) := s.fresh; (x % 16, s1) else (a.who.code + 1, s)

/-- An item's entry in the clamp log (R78): a clamp, or a refusal. -/
def Dev.logItem (a : Accepted) (s : Dev) (i : CItem) : Dev :=
  if i.2.isNone && !i.1.clamped then s
  else
    let ext (v : Nat) : Nat := match objDef? i.1.oid with | some d => d.ty.extend v | none => v
    let (who, s1) := s.logWho a
    let applied := if i.2.isSome then s.readObj i.1.oid i.1.inst else i.1.value
    let fn := if a.who = .manager ∨ a.who = .tenant then a.fn else 0xFFFF
    s1.log Obj.CLAMP_ENTRY 256
      (clampRec s.tick (ext i.1.written) (ext applied) i.1.inst i.1.oid who (if i.2.isSome then 2 else 1) fn (if a.rw then 0 else a.id))

/-- The COMMIT status (R76). -/
def commitStatus (l : List CItem) : Nat :=
  match l.find? (fun i => i.2.isSome) with
  | some i => i.2.getD 0
  | none => if l.any (fun i => i.1.clamped) then 2 else 0

/-- The records of the objects refused (R77). -/
def refusedRecs (l : List CItem) : List RespRec :=
  l.filterMap (fun i => i.2.map (fun st =>
    refusedRec { oid := i.1.oid, inst := i.1.inst, run := false, staged := false, desc := false, count := 1, len := 0, value := 0 } st))

/-- The records that fit in a buffer, as many as come first (R273). -/
def fitRecs : Nat → List RespRec → List RespRec
  | _, [] => []
  | room, r :: rs => if room < r.encode.length then [] else r :: fitRecs (room - r.encode.length) rs

/-- A transaction's answer (R77, R273, R365), with as many records as a PDU or message holds (R84, R87; log entry 124: DESIGN CHOICE, unsafe): the admin command's completion, the session's response, or a correction port's result. An RW
write was answered when it was accepted, and a reset is answered with nothing (R467). -/
def Dev.answerTxn (s : Dev) (a : Accepted) (l : List CItem) : Dev :=
  let st := a.refused.getD (commitStatus l)
  if a.rw then (if 0x30000 ≤ a.key ∧ a.key < 0x40000 then s.corrDone (a.key - 0x30000) a.seq st else s)
  else if a.key < 0x10000 then
    match Tab.get? s.hosts.admin a.key with
    | some (.commit addr len) =>
      let rs := refusedRecs l
      s.bureauDone a.key (addr * 2 ^ 96) st a.id s.tick (fitRecs len rs) rs.length
    | _ => s
  else if l.any (fun i => i.2.isNone && i.1.oid == Obj.RESET_REQUEST) then s
  else if (s.session? a.key).isNone then s
  else
    s.respond a.key a.seq
      { result := 0, txnId := a.id, status := st, edge := s.tick, records := fitRecs (roomOf a.key) (refusedRecs l) }

/-- The order of a transaction's effects: namespaces are created before their extents are mapped (R306, R309), and the corrections of a time base go
ARM, SET, ADJ_FREQ, ADJ_PHASE (R359). -/
def effectRank (oid : Nat) : Nat :=
  if oid = Obj.NS_EXTENTS ∨ oid = Obj.TB_ARM then 0 else if oid = Obj.TB_SET then 1 else if oid = Obj.TB_ADJ_FREQ then 2 else if oid = Obj.TB_ADJ_PHASE then 3 else 4

/-- The effect of an item with its number, if it is not refused: a write-only request may still be refused by its own check. -/
def effectStep (oB : Tab Nat) (acc : Tab CItem × Dev) (i : CItem × Nat) : Tab CItem × Dev :=
  if i.1.2.isSome then (Tab.ins acc.1 i.2 i.1, acc.2)
  else
    let r := acc.2.effect i.1.1 (objAt acc.2.part oB i.1.1.oid i.1.1.inst)
    (Tab.ins acc.1 i.2 (i.1.1, r.1), r.2)

/-- The effects of the items not refused, in the order of their ranks and, within one, in staging order. -/
def Dev.effects (s : Dev) (oB : Tab Nat) (l : List CItem) : List CItem × Dev :=
  let out := ((List.range 5).flatMap (fun r => l.zipIdx.filter (fun i => effectRank i.1.1.oid == r))).foldl (effectStep oB) ([], s)
  (out.1.map Prod.snd, out.2)

/-- A transaction is checked and applied, logged and answered (R76 to R78). -/
def Dev.applyItems (s : Dev) (o0 oE : Tab Nat) (a : Accepted) (l0 : List CItem) : Dev :=
  let r := s.checkTxn o0 oE a l0
  let s1 := match r.2 with | some f => s.setObj Obj.CHECK_FAULT 0 f | none => s
  let e := ({ s1 with objs := leaves s1.part s1.objs r.1 } : Dev).effects s.objs r.1
  (e.1.foldl (Dev.logItem a) e.2).answerTxn a e.1

/-- An accepted transaction or RW write applied at this edge (R25, R63); a table command has its effect among the table's (R166). -/
def Dev.applyTxn (o0 oE : Tab Nat) (s : Dev) (a : Accepted) : Dev :=
  (if a.isEm then s else s.applyItems o0 oE a (a.items.map (fun x => (x, none)))).setObj Obj.LAST_COMMIT_TICK 0 s.tick

/-! ### The edge -/

/-- The stored values that a save takes (R79). -/
def Dev.saveVals (s : Dev) : Tab Nat := s.objs.filter (fun e => (objDef? (e.1 / 2 ^ 32)).any (fun d => d.persist))

/-- A save that this edge has applied begins (R79): the copy it writes is valid again when it is sealed. -/
def Dev.saveBegin (s : Dev) : Dev :=
  if !s.bureau.saveDue then s
  else
    let a := s.bureau.store0
    let b := s.bureau.store1
    let c := if a.valid && b.valid then (if b.seq < a.seq then 1 else 0) else if a.valid then 1 else 0
    let s1 := { s with bureau := { s.bureau with saveDue := false, save := some { copy := c, vals := s.saveVals, start := s.tick } } }
    (s1.setStoreCopy c { valid := false }).setObj Obj.STORE_STATE 0 1

/-- A waiting request as it stands when its turn comes: a COMMIT carries what its transaction then holds, and none where the transaction
has been discarded or aborted meanwhile (R70, R73). -/
def Dev.waitingNow (s : Dev) (a : Accepted) : Option Accepted :=
  if !a.ofSession then some a
  else match (s.session? a.key).bind (fun ss => ss.txn) with
    | some t => if t.id = a.id then some { a with items := t.items } else none
    | none => none

/-- A COMMIT that waited and finds its transaction gone is refused with 0x01 (R70). -/
def Dev.commitGone (s : Dev) (a : Accepted) : Dev :=
  if a.key < 0x10000 then
    match Tab.get? s.hosts.admin a.key with
    | some (.commit _ _) => s.bureauDone a.key 0 0x01 a.id 0 [] 0
    | _ => s
  else if (s.session? a.key).isNone then s
  else s.respond a.key a.seq (plainResponse 0 a.id 0x01 0)

/-- Requests that waited for the limit of a tick are accepted while there is room (R71). -/
def Dev.acceptWaiting (s : Dev) : Nat → Dev
  | 0 => s
  | k + 1 =>
    match s.bureau.waiting with
    | [] => s
    | a :: rest =>
      let s1 := { s with bureau := { s.bureau with waiting := rest } }
      match s.waitingNow a with
      | none => Dev.acceptWaiting (s1.commitGone a) k
      | some b => if 16384 < s.acceptedHeld + b.items.length then s else Dev.acceptWaiting (s1.acceptNow b) k

/-- Step 2's Bureau commits and RW writes (R24, R63, R71), a save, and the watermarks and pauses that applied objects change. -/
def Dev.commitEdge (s : Dev) : Dev :=
  let due := s.bureau.accepted.filter (fun a => decide (a.tick < s.tick))
  let s1 := { s with bureau := { s.bureau with accepted := s.bureau.accepted.filter (fun a => decide (s.tick ≤ a.tick)) } }
  let s2 := (due.foldl (Dev.applyTxn s.objs (edgeModes s.part s.objs due)) s1).saveBegin
  let s3 := (s2.acceptWaiting s2.bureau.waiting.length)
  if due.isEmpty then s3 else s3.lowEval

/-! ### Loading stored values (R80) -/

/-- The stored values of a load as items, in an order: a value that the part lacks is discarded, and the rest are checked against what the
load leaves. -/
def Dev.loadItems (s : Dev) (vals order : Tab Nat) : List CItem :=
  let view (oid inst : Nat) : Nat := match Tab.get? vals (okey oid inst) with | some v => v | none => s.obj oid inst
  order.filterMap (fun e =>
    let oid := e.1 / 2 ^ 32
    let inst := e.1 % 2 ^ 32
    match objDef? oid with
    | none => none
    | some d =>
      if !s.instanceOk d inst then none
      else
        let x (v : Nat) (c : Bool) : Staged := { oid := oid, inst := inst, written := e.2, value := v, clamped := c }
        match s.verdict view .owner 0xFFFF d inst e.2 with
        | .legal => some (x e.2 false, none)
        | .clamped v => some (x v true, none)
        | .refused st => some (x e.2 false, some st))

/-- Stored values are applied (R80, R455): the regions' sizes first, then the rest, each judged on what the load leaves, with the entries of
R78. -/
def Dev.loadVals (s : Dev) (vals : Tab Nat) : Dev :=
  let a : Accepted := { key := 0x40000, who := .owner, fn := 0xFFFF, id := 0, items := [], rw := true, seq := 0, tick := s.tick }
  let size (e : Nat × Nat) : Bool := regionObjs.contains (e.1 / 2 ^ 32)
  let l := s.loadItems vals (vals.filter size ++ vals.filter (fun e => !size e))
  (s.applyItems s.objs (portModes s.part s.objs (vacate s.part s.objs l) l).1 a l).lowEval

/-- The valid copy of the configuration store with the highest sequence number (R79, R80). -/
def Dev.loadCopy (s : Dev) : Option StoreCopy :=
  let a := s.bureau.store0
  let b := s.bureau.store1
  if a.valid && b.valid then some (if a.seq < b.seq then b else a) else if a.valid then some a else if b.valid then some b else none

end Sys2Proof.Machine
end

