-- ==== Sys2Proof/Machine/Power.lean ====
section
/-! DEFINITION. Power domains and resets from the pins, the core voltage, throttling, the thermal trip, memory temperature and the patrol
scrub (R424, R447 to R450, R457, R460 to R466, R470, R473, R474). -/
namespace Sys2Proof.Machine

/-! ### Domains and resets (R462, R463, R466, R470) -/

/-- VAUX_GOOD (R463, R478): the whole device starts with a cold reset; the straps stand as given. -/
def execVauxGood (straps : Nat) (vauxHigh : Bool) (s : State) : Res :=
  always s (fun s => if s.power.vaux then s
    else
      let s1 := { s with power := { s.power with vaux := true, main := false, hold := false, dclk := false, lost := none }
                         pins := { s.pins with straps := straps % 16, vauxHigh := vauxHigh } }
      s1.coldReset 0)

/-- VAUX_LOSS (R463): the whole device is held in reset and the retained registers are cleared; the boot flash, the fuses and the levels of
the pins stay. -/
def execVauxLoss (s : State) : Res :=
  ok s { part := s.part, tick := s.tick, free := s.free, out := s.out
         power := { vaux := false, main := false, hold := false, dclk := false, lost := none }
         boot := { slots := s.boot.slots, recA := s.boot.recA, recB := s.boot.recB, fuses := s.boot.fuses }
         pins := { straps := s.pins.straps, vauxHigh := s.pins.vauxHigh, resetLow := s.pins.resetLow }
         hosts := { links := (s.hosts.links.filter (fun e => !e.2.perst)).map (fun e => (e.1, ({ perst := false } : HLink))) }
         twin := { fenceN := s.twin.fenceN }
         bureau := { sessions := [(0x20000, { who := .owner })], store0 := s.bureau.store0, store1 := s.bureau.store1 } }

/-- MAIN_DOMAIN_GOOD (R462): after a loss the device starts with a cold reset; the first time after VAUX the main domain joins the cold
reset that VAUX began. RESET_N still low holds it in reset (R466, R483). -/
def execMainDomainGood (s : State) : Res :=
  always s (fun s => if s.power.vaux && !s.power.main then
      let s1 := { s with power := { s.power with main := true, hold := s.pins.resetLow, dclk := false, lost := none } }
      match s.power.lost with
      | some cause => s1.coldReset cause
      | none => s1.resetUnits
    else s)

/-- MAIN_RAIL_LOSS (R462, R474): the main domain is reset at once; THERMTRIP_N ends with its power. -/
def execMainRailLoss (s : State) : Res :=
  always s (fun s => if s.power.main then
      let s1 := s.mainDown
      { s1 with power := { s1.power with main := false, hold := false, dclk := false, lost := some (if s.pins.thermtrip then 6 else 1) }
                pins := { s1.pins with thermtrip := false } }
    else s)

/-- RESET_N_ASSERT (R466): low for 1 µs: a warm reset begins, and the main domain is held in reset; no effect but the level while it is not
good. -/
def execResetNAssert (s : State) : Res :=
  always s (fun s0 =>
    let s := { s0 with pins := { s0.pins with resetLow := true } }
    if s.power.vaux && s.power.main then
      let s1 := s.warmReset 2
      { s1 with power := { s1.power with hold := true } }
    else s)

/-- RESET_N_RELEASE (R466): the warm reset proceeds, but for a thermal trip's hold (R474). -/
def execResetNRelease (s : State) : Res :=
  ok s { s with power := { s.power with hold := s.pins.thermtrip }, pins := { s.pins with resetLow := false } }

/-- DCLK_LOCK (R18, R470): ticks run from zero. -/
def execDclkLock (s : State) : Res :=
  always s (fun s => if s.power.main && !s.power.dclk then
      { s with
        tick := 0, snapTick := 0
        power := { s.power with dclk := true }
        cipher := { s.cipher with drbgs := s.cipher.drbgs.map (fun e => (e.1, { e.2 with reseeded := 0 })) }
        twin := { s.twin with downSince := some 0 } }
    else s)

/-- LC_TRANSITION (R424): Zilalys starts a cold reset, at which the accepted token takes effect. -/
def execLcTransition (s : State) : Res := always s (fun s => if s.power.vaux && s.boot.accepted.isSome then s.coldReset 7 else s)

/-! ### The core voltage (R464) -/

/-- AVS_UPDATE's command (R464): the set point moves toward the target by at most 5 mV; three commands not acknowledged in a row stop it. A
command that finds the bus stuck is not acknowledged (R486). -/
def Dev.avsUpdate (s : Dev) (target : Nat) (ack' : Bool) : Dev :=
  let ack := ack' && !bit (s.obj Obj.SIDEBAND_STATUS) 18
  let s1 := { s with pins := { s.pins with avsTick := s.tick, avsFails := if ack then 0 else s.pins.avsFails + 1 } }
  if ack then
    let v := s.obj Obj.VCORE_SETPOINT
    s1.setObj Obj.VCORE_SETPOINT 0 (clampNat (v - 5) (v + 5) (clampNat 650 850 target))
  else if s1.pins.avsFails = 3 then
    (s1.setObj Obj.RAIL_STATUS 0 (setBit (s.obj Obj.RAIL_STATUS) 6)).notify 0x10A3 Obj.RAIL_STATUS 0
  else s1

/-- AVS_UPDATE (R464): from READY, at most one VOUT_COMMAND per 2,048 ticks; `target`: the point for the part's fused voltage and its die
temperature, in mV. -/
def execAvsUpdate (target : Nat) (ack : Bool) (s : State) : Res :=
  onMainIf s (s.obj Obj.READINESS == 3 && decide (s.pins.avsTick + 2048 ≤ s.tick) && !bit (s.obj Obj.RAIL_STATUS) 6)
    (fun s => s.avsUpdate target ack)

/-! ### Throttling and the thermal trip (R473, R474) -/

/-- The throttle level changes by one, and is notified (R473, R475); `power` and `temp` tell what the change is due to, and which event a
change due to both carries is not stated (log entry 5: DESIGN CHOICE, safe). -/
def Dev.throttleTo (s : Dev) (l : Nat) (temp power : Bool) : Dev :=
  let (x, s1) := s.fresh
  let code := if temp && !power then 0x10A1 else if power && !temp then 0x10A2 else 0x10A1 + x % 2
  ({ s1 with pins := { s1.pins with throttleTick := some s1.tick } }.setObj Obj.THROTTLE_LEVEL 0 l).notify code Obj.THROTTLE_LEVEL l

/-- The readings are shown (R473): `temps` in °C × 16, sensor by sensor, `power` in W over the last 2,048 ticks. -/
def Dev.readPower (s : Dev) (temps : List Int) (power : Nat) : Dev :=
  (((temps.take 6).zipIdx.filter (fun e => s.part.sensors.contains e.2)).foldl
    (fun t e => t.setObj Obj.TJ e.2 (ofSigned 32 e.1)) s).setObj Obj.PACKAGE_POWER 0 power

/-- THROTTLE_UPDATE (R473): sensors and package power are read; the level follows at edges. -/
def execThrottleUpdate (temps : List Int) (power : Nat) (s : State) : Res := onMain s (fun s => s.readPower temps power)

/-- The highest junction temperature (R473), in °C × 16. -/
def Dev.tjMax (s : Dev) : Int := (s.part.sensors.map (fun i => toSigned 32 (s.obj Obj.TJ i))).foldl max (-4096)

/-- At an edge the throttle level follows the readings, by one and at most once per 2,048 ticks (R473). -/
def Dev.throttleEdge (s : Dev) : Dev :=
  let power := s.obj Obj.PACKAGE_POWER
  let hot := decide (16 * (s.obj Obj.THROTTLE_TEMP : Int) ≤ s.tjMax)
  let heavy := decide (s.obj Obj.POWER_LIMIT < power)
  let cool := decide (s.tjMax < 16 * ((s.obj Obj.THROTTLE_TEMP : Int) - 3)) && decide (100 * power ≤ 95 * s.obj Obj.POWER_LIMIT)
  let l := s.obj Obj.THROTTLE_LEVEL
  let may := match s.pins.throttleTick with | some t => decide (t + 2048 ≤ s.tick) | none => true
  if !may then s
  else if hot || heavy then (if l < 8 then s.throttleTo (l + 1) hot heavy else s)
  else if cool ∧ 0 < l then s.throttleTo (l - 1) true true
  else s

/-- THERMAL_TRIP (R474): Tj has reached 115 °C. -/
def execThermalTrip (s : State) : Res :=
  always s (fun s => if s.power.main && !s.pins.thermtrip then
      let s1 := (s.mainDown.setObj Obj.LAST_RESET_CAUSE 0 6).setObj Obj.THERMAL_TRIPS 0 (s.obj Obj.THERMAL_TRIPS + 1)
      { s1 with power := { s1.power with hold := true }, pins := { s1.pins with thermtrip := true } }
    else s)

/-! ### Memory temperature and the patrol scrub (R449, R450, R457, R460) -/

/-- The temperature band of a reading (R457). -/
def Dev.bandOf (s : Dev) (t : Int) : Nat :=
  let hot : Int := s.obj Obj.MEM_TEMP_HOT
  let crit : Int := clampInt (hot + 5) 110 (s.obj Obj.MEM_TEMP_CRIT)
  if t < 85 then 0 else if t < hot then 1 else if t < crit then 2 else 3

/-- The band that a controller takes on a reading (R457): it leaves one only 3 °C below its lower bound. -/
def Dev.bandNext (s : Dev) (b : Nat) (t : Int) : Nat := if b ≤ s.bandOf t then s.bandOf t else min b (s.bandOf (t + 2))

/-- MEM_TEMP_READ (R457): controller c reads its two devices, of channels 4c and 4c + 1, and 4c + 2 and 4c + 3. -/
def Dev.memTemp (s : Dev) (c : Nat) (t0 t1 : Int) : Dev :=
  let put (t : Dev) (ch : Nat) (x : Int) : Dev := t.setObj Obj.CHANNEL_TEMP ch (ofSigned 32 x)
  let s1 := put (put (put (put s (4 * c) t0) (4 * c + 1) t0) (4 * c + 2) t1) (4 * c + 3) t1
  { s1 with pins := { s1.pins with readings := Tab.ins s1.pins.readings c (max t0 t1) } }

/-- A controller acts on a reading at an edge (R457): a change of band is recorded, and one into a limited band is notified (R459, R460).
The record's ADDRESS is not stated (log entry 5: DESIGN CHOICE, safe). -/
def Dev.memBand (s : Dev) (c : Nat) (t : Int) : Dev :=
  let b := Tab.getD s.pins.bands c 0
  let b' := s.bandNext b t
  if b' = b then s
  else
    let (x, s2) := { s with pins := { s.pins with bands := Tab.put 0 s.pins.bands c b' } }.fresh
    let s3 := s2.log Obj.MEMORY_ERROR_ENTRY 256 (memErrRec x s2.tick 0xFFFF 7 (4 * c))
    if b' = 2 then s3.notify 0x1091 Obj.CHANNEL_TEMP (4 * c) else if b' = 3 then s3.notify 0x1092 Obj.CHANNEL_TEMP (4 * c) else s3

/-- Every controller acts on its last reading (R457). -/
def Dev.memBandsEdge (s : Dev) : Dev :=
  s.pins.readings.foldl (fun t e => t.memBand e.1 e.2) { s with pins := { s.pins with readings := [] } }

/-- MEM_TEMP_READ (R457). -/
def execMemTempRead (c : Nat) (t0 t1 : Int) (s : State) : Res :=
  onMainIf s (decide (c < s.part.memCtrls) && decide (s.obj Obj.MEM_STATE = 3)) (fun s => s.memTemp c t0 t1)

/-- PATROL_SCRUB (R450): the scrub reads a usable line; `found`: 0 good, 1 corrected and rewritten, else uncorrectable. -/
def execPatrolScrub (addr found : Nat) (s : State) : Res :=
  onMainIf s (s.obj Obj.MEM_STATE == 3 && (s.regionOf addr).isSome) (fun s =>
    if found = 0 then s else if found = 1 then s.memCorrected addr 0xFFFF else s.memLost addr 0xFFFF)

end Sys2Proof.Machine
end

