-- ==== Sys2Proof/Machine/Boot.lean ====
section
/-! DEFINITION. From reset to READY (R404 to R421, R451 to R453, R469 to R472): the ROM's handling of image slots, the configuration store's
loads, memory training and wipes, core release, and image installation. -/
namespace Sys2Proof.Machine

/-! ### Images in the boot flash (R407 to R409) -/

/-- A slot of the boot flash. -/
def Dev.flash (s : Dev) (i : Nat) : FlashSlot := Tab.getD s.boot.slots i {}

/-- The state with a slot of the boot flash replaced. -/
def Dev.setFlash (s : Dev) (i : Nat) (x : FlashSlot) : Dev := { s with boot := { s.boot with slots := Tab.ins s.boot.slots i x } }

/-- Bytes [off, off + n) of a slot's package: slot bytes [0, 0x4000), then the bundle (R407); erased flash reads all ones. -/
def FlashSlot.bytes (x : FlashSlot) (off n : Nat) : List Nat :=
  (List.range n).map (fun i => octet (Tab.getD x.chunks ((off + i) / 256) (2 ^ 2048 - 1)) ((off + i) % 256))

/-- The image header of a slot, as a number (R408). -/
def FlashSlot.head (x : FlashSlot) : Nat := ofLE (x.bytes 0 128)

/-- Bytes [off, off + n) of a slot's bundle (R407). -/
def FlashSlot.bundle (x : FlashSlot) (off n : Nat) : List Nat := x.bytes (0x4000 + off) n

/-- Whether a header's keys are recognised here (R408, R422): its hash is an owner slot's in use, or, in MANUFACTURE, Kerinagar's, and its
KEY_CLASS is the one booted in this life-cycle state; none is in RETIRED. -/
def Dev.keyKnown (s : Dev) (x : FlashSlot) : Bool :=
  let hash := Config.sha384 (x.bytes 0x1000 97 ++ x.bytes 0x1068 2592)
  let cls := bits x.head 967 960
  match s.boot.fuses.lifeCycle with
  | 0 => cls == 0 && hash == Config.romHash
  | 4 => false
  | _ => cls == 1 && s.boot.fuses.owners.any (fun e => e.2 == (1, ofLE hash))

/-- The checks of R408 on a slot: 0, or the reason of R417: 1 header, 6 part code, 2 digest, 3 key, 4 signature, 5 version. R408 names no check
of the header's reserved bits, which are ignored (R10). -/
def Dev.imageReason (s : Dev) (x : FlashSlot) : Nat :=
  let h := x.head
  let len := bits h 927 896
  if bits h 1023 992 ≠ 0x494B0009 ∨ bits h 991 976 ≠ 1 ∨ len < 4096 ∨ 33554432 < len then 1
  else if bits h 975 968 ≠ s.obj Obj.PART_CODE then 6
  else if Config.sha384 (x.bundle 0 len) ≠ leBytes 48 (bits h 831 448) then 2
  else if s.keyKnown x = false then 3
  else if Config.sigsVerify (x.bytes 0 128) (x.bytes 0x1000 97 ++ x.bytes 0x1068 2592) (x.bytes 0x1A88 96 ++ x.bytes 0x1AE8 4627) = false then 4
  else if bits h 959 928 < s.boot.fuses.minVersion then 5
  else 0

/-- Whether a slot's seal is valid (R409): written in this life-cycle state, under the present seal key. -/
def Dev.sealOk (s : Dev) (x : FlashSlot) : Bool :=
  match x.seal' with | some l => l.lifeCycle == s.boot.fuses.lifeCycle && l.steps == s.boot.fuses.steps | none => false

/-! ### The ROM's handling of slots (R410 to R412) -/

/-- The ROM seals a slot over its verified copy (R409, R410). -/
def Dev.sealSlot (s : Dev) (i : Nat) : Dev :=
  let x := s.flash i
  let f := s.boot.fuses
  let l : Seal := { seq := s.part.pick x.seq 0, lifeCycle := f.lifeCycle, version := x.version, steps := f.steps }
  let s1 := s.setFlash i { x with seal' := some l }
  { s1 with boot := { s1.boot with sealed' := s1.boot.sealed' ++ [i] } }

/-- The boot record's copies written anew when neither is valid (R412). -/
def Dev.rebuildRec (s : Dev) : Dev :=
  if s.part = .ik9x ∨ s.bootRec.isSome = true then s
  else
    let named : Nat :=
      match s.boot.recA, s.boot.recB with
      | some a, some b => if a.counter < b.counter then b.active else a.active
      | some a, none => a.active
      | none, some b => b.active
      | none, none => 0
    let r : BootRec := { counter := 1, active := if s.imageReason (s.flash named) = 0 then named else 1 - named, steps := s.boot.fuses.steps }
    { s with boot := { s.boot with recA := some r, recB := some r } }

/-- A PENDING slot with a valid seal becomes DONE: on the IK9C after the flip, unless it is the active one already (R410, R412). -/
def Dev.slotDone (s : Dev) (i : Nat) : Dev :=
  let s1 := s.setFlash i { s.flash i with state := 0x00 }
  match s.part, s.bootRec with
  | .ik9c, some r =>
    if r.active = i then s1
    else
      let r' : BootRec := { counter := r.counter + 1, active := i, steps := s.boot.fuses.steps }
      if s.boot.recA = some r then { s1 with boot := { s1.boot with recB := some r' } } else { s1 with boot := { s1.boot with recA := some r' } }
  | _, _ => s1

/-- One slot of *Slot handling at boot* (R410): PENDING, or DONE with a seal that is not valid. -/
def Dev.handleSlot (s : Dev) (i : Nat) : Dev :=
  let x := s.flash i
  let pass := s.imageReason x == 0
  if x.state = 0xA5 then
    if s.sealOk x then s.slotDone i
    else if pass then (s.sealSlot i).slotDone i
    else s.setFlash i { x with state := 0x05 }
  else if x.state = 0x00 ∧ s.sealOk x = false ∧ pass = true then s.sealSlot i
  else s

/-- The slots that the ROM handles first (R410): PENDING ones, then DONE ones whose seal is not valid. -/
def Dev.slotsToHandle (s : Dev) : List Nat :=
  let slots := List.range s.part.slots
  slots.filter (fun i => (s.flash i).state == 0xA5) ++ slots.filter (fun i => (s.flash i).state == 0x00 && !s.sealOk (s.flash i))

/-- The slots that the ROM tries, in order (R411, R412): on the IK9X the candidates, DONE slots with a seal of this life-cycle state that are
not marked failed. -/
def Dev.slotsToTry (s : Dev) : List Nat :=
  match s.part with
  | .ik9c => match s.bootRec with | some r => [r.active, 1 - r.active] | none => []
  | .ik9x =>
    let seq (i : Nat) : Nat := match (s.flash i).seal' with | some l => l.seq | none => 0
    ((List.range 4).filter (fun i => (s.flash i).state == 0x00 &&
        (match (s.flash i).seal' with | some l => l.lifeCycle == s.boot.fuses.lifeCycle | none => false) && !s.boot.failed.contains i)).mergeSort
      (fun a b => decide (seq b ≤ seq a))

/-- Whether a tried slot boots (R409, R410, R411, R413, R419). -/
def Dev.slotBoots (s : Dev) (i : Nat) : Bool :=
  let x := s.flash i
  x.state == 0x00 && s.sealOk x && !s.boot.failed.contains i && decide (s.boot.fuses.minVersion ≤ x.version)

/-- Bytes of the staging area (R414). -/
abbrev stagingBase : Nat := 0x000200000000

/-- A slot passes (R410, R414): its copy is staged, and RESET_VECTOR names stage 1's first instruction. -/
def Dev.bootSlot (s : Dev) (i : Nat) (first : Bool) : Dev :=
  let x := s.flash i
  let s1 := (s.putBytes (stagingBase + 0x4000) (x.bytes 0 0x4000)).putBytes (stagingBase + 0x10000) (x.bundle 0 (bits x.head 927 896))
  let s2 := { s1 with boot := { s1.boot with booted := some i, fallback := !first, tries := [] } }
  (((s2.setObj Obj.BOOT_SLOT 0 i).setObj Obj.BOOT_KIND 0 (ofBool s.boot.warm)).setObj Obj.FALLBACK 0 (ofBool !first)).setObj Obj.RESET_VECTOR 0
    (stagingBase + 0x10000 + bits x.head 895 864)

/-- Something is left for a coming edge to do to the boot (R469, R470). -/
def Dev.bootNext (s : Dev) (x : BootDue) : Dev := { s with boot := { s.boot with due := s.boot.due ++ [x] } }

/-- READINESS becomes FAULT at the next edge (R405, R413, R451, R469), recorded as a boot failure; a record that concerns no slot has no
stated UNIT. -/
def Dev.bootFault (s : Dev) : Dev :=
  let (x, s1) := s.fresh
  (s1.bootNext (.enter 4)).diag 0 0x10 (x % 65536) 0

/-- Whether the boot is in a READINESS state that no coming edge is to change (R469). -/
def Dev.bootIn (s : Dev) (r : Nat) : Bool := s.obj Obj.READINESS == r && s.boot.due.isEmpty

/-- One slot's copy and check end (R410): a slot handled, or a slot tried; with none left the device boots nothing. -/
def Dev.imageCheck (s : Dev) : Dev :=
  match s.boot.todo with
  | i :: rest => ({ s with boot := { s.boot with todo := rest } }.rebuildRec).handleSlot i
  | [] =>
    let s0 := s.rebuildRec
    let s1 := if s0.boot.choosing then s0 else { s0 with boot := { s0.boot with choosing := true, tries := s0.slotsToTry } }
    match s1.boot.tries with
    | [] => s1.bootFault
    | i :: rest =>
      if s1.slotBoots i then s1.bootSlot i (s1.slotsToTry.head? == some i)
      else
        let s2 := { s1 with boot := { s1.boot with tries := rest } }
        if rest.isEmpty then s2.bootFault else s2

/-- IMAGE_CHECK_DONE (R410). -/
def execImageCheckDone (s : State) : Res :=
  onMainIf s (s.bootIn 1 && s.boot.early && s.boot.booted.isNone) Dev.imageCheck

/-! ### From the wipe of on-chip SRAM to core release (R405, R451 to R453, R470, R471) -/

/-- SRAM_WIPE_DONE (R405, R410, R425, R470): on-chip memory reads zero and the ROM starts; `puf`: the PUF response could be corrected, which
matters at a cold reset. BOOTING is entered at the next edge (R469). -/
def execSramWipeDone (puf : Bool) (s : State) : Res :=
  onMainIf s (s.bootIn 0) (fun s =>
    let s1 := { s with mem := s.mem.filter (fun c => decide (gddrBase ≤ c.1)) }
    let s2 := s1.bootNext (.enter 1)
    if !puf && !s.boot.warm then s2.bootFault else { s2 with boot := { s2.boot with todo := s2.slotsToHandle } })

/-- The objects of the early set (R471). -/
def isEarly (oid : Nat) : Bool :=
  oid == Obj.MEM_RATE || oid / 256 == 0x8000 || oid / 256 == 0x8010 || oid == Obj.QUEUE_LIMIT || oid == Obj.NVME_FUNCTION ||
    oid == Obj.TWIN_ENABLE || oid == Obj.PAIR_ID || oid == Obj.PEER_SERIAL || oid == Obj.POWER_LIMIT

/-- A controller of mode ROOT-less 1 or 2 leaves OFF once the early set is applied (R229, R472). -/
def Dev.linkStart (s : Dev) (k : Nat) : Dev :=
  if s.obj Obj.LINK_STATE_8000 k = 0 ∧ (s.obj Obj.LINK_MODE k = 1 ∨ s.obj Obj.LINK_MODE k = 2) then s.linkModeSet k (s.obj Obj.LINK_MODE k) else s

/-- The early set is applied (R471): the host links may train, GDDR6 training starts, and the role is taken (R429). -/
def Dev.earlySet (s : Dev) : Dev :=
  let vals := match s.loadCopy with | some c => c.vals.filter (fun e => isEarly (e.1 / 2 ^ 32)) | none => []
  let s1 := (List.range s.part.links).foldl Dev.linkStart (s.loadVals vals)
  let s2 := { s1 with boot := { s1.boot with early := true, phaseTick := s1.tick } }.setObj Obj.MEM_STATE 0 1
  if s2.flag Obj.TWIN_ENABLE && s2.twin.fenceN then s2.setObj Obj.ROLE 0 4 else s2

/-- EARLY_SET_APPLY (R471). -/
def execEarlySetApply (s : State) : Res := onMainIf s (s.bootIn 1 && !s.boot.early) Dev.earlySet

/-- The pin rate in force (R447, R508): MEM_RATE within the limits of the devices and the supply. -/
def memRateFor (rate density vddq : Nat) : Nat := clampNat (if density = 2 then 20 else 16) (if vddq = 1 then 20 else 24) rate

/-- MEM_TRAINING_DONE (R446, R451): `ok`: every channel trained and every device is like device 0; else `ch` did not. The record of a
failure has no stated address (log entry 5: DESIGN CHOICE, safe). -/
def Dev.memTrained (s : Dev) (density vddq : Nat) (ok : Bool) (ch : Nat) : Dev :=
  let s1 := (s.setObj Obj.TRAIN_TICKS 0 (s.tick - s.boot.phaseTick)).setObj Obj.MEM_VDDQ 0 vddq
  if ok then
    let raw := 64 * (if density = 2 then 2 else 1) * gib / s.part.pick 1 2
    let s2 := ((s1.setObj Obj.MEM_DENSITY 0 density).setObj Obj.MEM_RAW_BYTES 0 raw).setObj Obj.MEM_USABLE_BYTES 0 (usableBytes s.part density)
    let s3 := (s2.setObj Obj.MEM_RATE_ACTIVE 0 (memRateFor (s.obj Obj.MEM_RATE) density vddq)).setObj Obj.MEM_STATE 0 2
    { s3 with boot := { s3.boot with phaseTick := s3.tick } }
  else
    let (x, s2) := (s1.setObj Obj.MEM_STATE 0 4).fresh
    (s2.log Obj.MEMORY_ERROR_ENTRY 256 (memErrRec x s2.tick 0xFFFF 6 ch)).bootFault

/-- MEM_TRAINING_DONE (R451): density code 1 or 2, VDDQ code 0 or 1. -/
def execMemTrainingDone (density vddq : Nat) (good : Bool) (ch : Nat) (s : State) : Res :=
  onMainIf s (s.obj Obj.MEM_STATE == 1 && (density == 1 || density == 2) && decide (vddq ≤ 1)) (fun s => s.memTrained density vddq good ch)

/-- MEM_WIPE_DONE (R452, R453): GDDR6 reads zero, but for the crash area at a warm reset. -/
def Dev.memWiped (s : Dev) : Dev :=
  let kept (a : Nat) : Bool := decide (a < gddrBase) || decide (0x001004000000 ≤ a ∧ a < 0x001004000000 + s.boot.crash)
  let s1 := { s with mem := s.mem.filter (fun c => kept c.1), cores := { s.cores with poisoned := s.cores.poisoned.filter kept } }
  (s1.setObj Obj.WIPE_TICKS 0 (s.tick - s.boot.phaseTick)).setObj Obj.MEM_STATE 0 3

/-- MEM_WIPE_DONE (R452). -/
def execMemWipeDone (s : State) : Res := onMainIf s (s.obj Obj.MEM_STATE == 2) Dev.memWiped

/-- The hand-over record (R414). -/
def Dev.handOver (s : Dev) (i : Nat) : Nat :=
  let x := s.flash i
  let f := s.boot.fuses
  let mask (l : List Nat) : Nat := (List.range 8).foldl (fun m k => if l.contains k then m + 2 ^ k else m) 0
  let seq := s.part.pick x.seq (match s.bootRec with | some r => r.counter | none => 0)
  0x484F0009 * 2 ^ 480 + ofBool s.boot.warm * 2 ^ 472 + i * 2 ^ 464 + f.lifeCycle * 2 ^ 456 + ofBool s.boot.fallback * 2 ^ 448 +
    seq % 2 ^ 32 * 2 ^ 416 + x.version % 2 ^ 32 * 2 ^ 384 + bits x.head 927 896 * 2 ^ 352 + mask s.boot.sealed' * 2 ^ 344 +
    mask s.boot.failed * 2 ^ 336 + f.minVersion % 256 * 2 ^ 328 + s.tick % 2 ^ 64 * 2 ^ 256 + (stagingBase + 0x10000) * 2 ^ 192

/-- A thread at core release (R384): mhartid in a0, the hand-over record's address in a1. -/
def startHart (vector tick h : Nat) : Hart :=
  { on := true, pc := vector, regs := Tab.put 0 [(11, stagingBase)] 10 h, awake := tick }

/-- The cores are released (R384, R406, R410), and stage 1 runs, so that FIRMWARE_VERSION is its image's VERSION (R88, R408): KEY_LOCK is set; drawers that failed their self-check are fenced with cause 0x02 (R54). -/
def Dev.release (s : Dev) (failed : List Nat) : Dev :=
  let i := s.boot.booted.getD 0
  let s1 := (s.putBytes stagingBase (leBytes 64 (s.handOver i))).setObj Obj.FIRMWARE_VERSION 0 (s.flash i).version
  let s2 := { s1 with boot := { s1.boot with keyLock := 3, released := some s1.tick } }
  let bad := failed.filter s.inService
  let s3 := bad.foldl (fun t d => t.fenceDrawer d { cause := 2, detect := s.tick }) s2
  let hs := s3.serviceDrawers.flatMap (fun d => (List.range 32).map (fun k => 32 * d + k))
  hs.foldl (fun t h => t.setHart h (startHart (s.obj Obj.RESET_VECTOR) s.tick h)) s3

/-- CORE_RELEASE (R384, R410, R470): the image check and the GDDR6 wipe have ended, and the cores are released at the next edge; `failed`: the
drawers whose self-check failed. -/
def execCoreRelease (failed : List Nat) (s : State) : Res :=
  onMainIf s (s.bootIn 1 && s.boot.booted.isSome && s.obj Obj.MEM_STATE == 3 && s.boot.released.isNone) (fun s => s.bootNext (.release failed))

/-! ### CONFIG_LOADING and READY (R413, R415, R421, R470 to R472) -/

/-- The trust anchors' entry of a bundle's manifest, as its bytes (R415, R421). -/
def FlashSlot.anchorBytes (x : FlashSlot) : List Nat :=
  let m := bits x.head 863 832
  let n := ofLE (x.bundle m 8)
  let entries := (List.range (min n 4096)).map (fun k => ofLE (x.bundle (m + 8 + 16 * k) 16))
  match entries.find? (fun e => bits e 15 0 == 3) with
  | some e => x.bundle (bits e 127 96) (bits e 95 64)
  | none => []

/-- CONFIG_LOADING (R415, R421, R469): stage 1 has installed the trust anchors and locked the code region; the state is entered at the next
edge. -/
def execConfigLoading (s : State) : Res :=
  onMainIf s (s.bootIn 1 && s.boot.released.isSome) (fun s =>
    let x := s.flash (s.boot.booted.getD 0)
    { s with boot := { s.boot with anchors := x.anchorBytes }, cores := { s.cores with codeLock := true } }.bootNext (.enter 2))

/-- The full configuration store is applied (R80, R470, R471): the early set's objects have been already. -/
def Dev.fullLoad (s : Dev) : Dev :=
  let s1 := match s.loadCopy with
    | some c => (s.loadVals (c.vals.filter (fun e => !isEarly (e.1 / 2 ^ 32)))).setObj Obj.STORE_SEQUENCE 0 c.seq
    | none => s.setObj Obj.STORE_STATE 0 2
  s1.bootNext (.enter 3)

/-- FULL_LOAD_DONE (R470): READY is entered at the next edge. -/
def execFullLoadDone (s : State) : Res := onMainIf s (s.bootIn 2) Dev.fullLoad

/-- READY is entered (R469, R470, R472): recorded doorbells are applied, and a twinned device says HELLO. -/
def Dev.enterReady (s : Dev) : Dev :=
  let s1 := (s.setObj Obj.READINESS 0 3).setObj Obj.READY_TICK 0 s.tick
  let s2 := s1.hosts.queues.foldl (fun t e => t.ringHeld e.1 e.2.bells.length) s1
  if s2.flag Obj.TWIN_ENABLE then s2.hello else s2

/-- What an edge does to the boot (R384, R469, R470): READINESS changes, and the cores are released, at edges alone. -/
def Dev.bootEdge (s : Dev) : Dev :=
  match s.boot.due with
  | [] => s
  | x :: rest =>
    let s1 := { s with boot := { s.boot with due := rest } }
    match x with
    | .enter 3 => s1.enterReady
    | .enter r => s1.setObj Obj.READINESS 0 r
    | .release failed => s1.release failed

/-- BOOT_WATCHDOG (R413): READY has not come within 4 s of core release. -/
def execBootWatchdog (s : State) : Res :=
  onMainIf s ((match s.boot.released with | some t => decide (t + 7812500 ≤ s.tick) | none => false) &&
      (s.obj Obj.READINESS == 1 || s.obj Obj.READINESS == 2)) (fun s =>
    let i := s.boot.booted.getD 0
    let s1 := { s with boot := { s.boot with failed := if s.boot.failed.contains i then s.boot.failed else s.boot.failed ++ [i] } }
    (s1.diag 0 0x10 i 0).warmReset 5)

/-! ### Installing an image (R416, R417) -/

/-- IMG_ERASE_DONE (R416). -/
def execImgEraseDone (s : State) : Res :=
  onMainIf s (s.obj Obj.IMG_STATE == 1) (fun s =>
    let i := s.obj Obj.IMG_SLOT
    (s.setFlash i { s.flash i with chunks := [] }).setObj Obj.IMG_STATE 0 2)

/-- A chunk programmed into a slot: bits of the flash are only cleared (R409, R416). -/
def FlashSlot.program (x : FlashSlot) (c : Nat × Nat) : FlashSlot :=
  { x with chunks := Tab.ins x.chunks c.1 (Tab.getD x.chunks c.1 (2 ^ 2048 - 1) &&& c.2) }

/-- IMG_PROGRAM_DONE (R416). -/
def execImgProgramDone (s : State) : Res :=
  onMainIf s (s.obj Obj.IMG_STATE == 3) (fun s =>
    let i := s.obj Obj.IMG_SLOT
    let s1 := s.setFlash i (s.boot.install.foldl FlashSlot.program (s.flash i))
    { s1 with boot := { s1.boot with install := [] } }.setObj Obj.IMG_STATE 0 2)

/-- The highest SEQUENCE of a DONE or PENDING slot (R417). -/
def Dev.topSequence (s : Dev) : Nat :=
  ((List.range 4).filter (fun j => (s.flash j).state == 0x00 || (s.flash j).state == 0xA5)).foldl (fun m j => max m (s.flash j).seq) 0

/-- IMG_CHECK_DONE's outcome (R417). -/
def Dev.imgChecked (s : Dev) : Dev :=
  let i := s.obj Obj.IMG_SLOT
  let x := s.flash i
  let r := s.imageReason x
  if r = 0 then
    (s.setFlash i { x with state := 0xA5, seq := s.part.pick (s.topSequence + 1) 0 }).setObj Obj.IMG_STATE 0 5
  else (s.setObj Obj.IMG_STATE 0 6).setObj Obj.IMG_REASON 0 r

/-- IMG_CHECK_DONE (R417). -/
def execImgCheckDone (s : State) : Res := onMainIf s (s.obj Obj.IMG_STATE == 4) Dev.imgChecked

end Sys2Proof.Machine
end

