-- ==== Sys2Proof/Machine/CorePorts.lean ====
section
/-! DEFINITION. The control window of a drawer (R33): the ports of its threads (R39, R165, R193, R338, R365, R395) and the stall records
(R399), as its threads load and store them. -/
namespace Sys2Proof.Machine

/-! ### Parcels on threads (R395, R396) -/

/-- TAKE by thread h, with the slot's bytes written (R395): the answer is the slot's local-alias address, or 0. -/
def Dev.takeSlot (s : Dev) (h : Nat) : Nat × Dev :=
  match s.take h with
  | (some (i, x), s1) => (slotAlias h i, (s1.putBytes (slotAddr h i) (s1.slotBytes x)).overwritten none (slotAddr h i) (slotAddr h i + 0x168))
  | (none, s1) => (0, s1)

/-- The descriptor in slot i of thread h, as its bytes stand. -/
def Dev.slotWord (s : Dev) (h i : Nat) : Nat := ofLE (s.bytesAt (slotAddr h i) 64)

/-- A load of OVERDUE by thread h (R395). -/
def Dev.overdueMask (s : Dev) (h : Nat) : Nat :=
  [0, 1, 2, 3].foldl (fun m i => m + (match s.slot? h i with | some x => if x.overdue then 2 ^ i else 0 | none => 0)) 0

/-- Whether thread h can access its ports: it exists and its drawer is in service. -/
def Dev.hasPort (s : Dev) (h : Nat) : Bool := decide (h < s.part.threads) && s.inService (h / 32)

/-- TAKE (R396). -/
def execTakeParcel (h : Nat) (s : State) : Res := onMainIf s (s.hasPort h) (fun s => (s.takeSlot h).2)

/-- RETIRE (R396): slot number and disposition as in the written value. -/
def execRetire (h slot disp : Nat) (s : State) : Res :=
  onMainIf s (s.hasPort h && decide (slot < 4)) (fun s => s.retireSlot h slot disp (s.slotWord h slot))

/-- YIELD (R45, R396). -/
def execYieldSlot (h slot : Nat) (s : State) : Res :=
  onMainIf s (s.hasPort h && decide (slot < 4)) (fun s => s.yieldSlot h slot (s.slotWord h slot))

/-! ### Ports of the window -/

/-- What lies at an offset of the control window. -/
inductive CtrlPort where
  | queue | exact | parcel | stall | buffer | cipher | correction
  deriving DecidableEq, Repr

/-- The port at an offset of the window, its number t = 8j + i, and the offset in it; none where the spec names nothing. Buffer ports 32 to 34
are the sorter's, the slice's and the mover's (R193). -/
def ctrlAt (o : Nat) : Option (CtrlPort × Nat × Nat) :=
  if o < 0x1000 then some (.queue, 0, o)
  else if o < 0x5000 then some (.exact, (o - 0x1000) / 0x200, (o - 0x1000) % 0x200)
  else if 0x6000 ≤ o ∧ o < 0x6800 then some (.parcel, (o - 0x6000) / 0x40, (o - 0x6000) % 0x40)
  else if 0x6800 ≤ o ∧ o < 0x6840 then some (.stall, (o - 0x6800) / 0x10, (o - 0x6800) % 0x10)
  else if 0x8000 ≤ o ∧ o < 0x88C0 then some (.buffer, (o - 0x8000) / 0x40, (o - 0x8000) % 0x40)
  else if 0xA000 ≤ o ∧ o < 0xB000 then some (.cipher, (o - 0xA000) / 0x80, (o - 0xA000) % 0x80)
  else if 0xC000 ≤ o ∧ o < 0xC040 then some (.correction, 0, o - 0xC000)
  else none

/-- The bytes of a port's record, and the offset and bytes of its result. -/
def CtrlPort.shape : CtrlPort → Nat × Nat × Nat
  | .queue => (64, 0x40, 8)
  | .exact => (256, 0x100, 256)
  | .parcel => (0, 0, 0)
  | .stall => (16, 0, 0)
  | .buffer => (16, 0x20, 16)
  | .cipher => (64, 0x40, 16)
  | .correction => (32, 0x20, 16)

/-- The owner id that issues what is written at buffer port t of drawer d (R183, R193; log entry 142: DEDUCED, unsafe). -/
def bufIssuer (d t : Nat) : Nat :=
  if t < 32 then ownerThread (32 * d + t) else if t = 32 then d else if t = 33 then ownerSlice d else 0x40 + d

/-- n bytes of drawer d's window as they were written. -/
def Dev.windowBytes (s : Dev) (d o n : Nat) : List Nat :=
  (List.range n).map (fun i => Tab.getD s.cores.window (65536 * d + o + i) 0)

/-- Drawer d's window with bytes written from an offset. -/
def Dev.setWindow (s : Dev) (d o : Nat) (bs : List Nat) : Dev :=
  { s with cores := { s.cores with
      window := bs.zipIdx.foldl (fun t e => Tab.put 0 t (65536 * d + o + e.2) (e.1 % 256)) s.cores.window } }

/-- The result of a port, as thread h finds it. The parcel queue port's status word is the accessing thread's (R39). -/
def Dev.portResult (s : Dev) (h t : Nat) : CtrlPort → Nat
  | .queue => Tab.getD s.work.portStatus h 0
  | .exact => Tab.getD s.em.results (h / 32 * 32 + t) 0
  | .buffer => Tab.getD s.shelves.results (bufIssuer (h / 32) t) 0
  | .cipher => Tab.getD s.cipher.results (h / 32 * 32 + t) 0
  | .correction => Tab.getD s.postmark.results (h / 32) 0
  | _ => 0

/-- A load of n bytes at offset x of thread t's parcel port (R395); none for what is not readable or not 8 bytes wide. -/
def Dev.parcelPortLoad (s : Dev) (t x n : Nat) : Option Nat × Dev :=
  if n ≠ 8 then (none, s)
  else
    match x with
    | 0x00 => let (v, s1) := s.takeSlot t; (some v, s1)
    | 0x10 => (some (s.hart t).portStatus, s)
    | 0x20 => (some (s.overdueMask t), s)
    | _ => (none, s)

/-- A load of n bytes at an offset of the control window by thread h. What the spec names nothing for reads a free value (log entry 35: DESIGN CHOICE, unsafe). -/
def Dev.ctrlLoad (s : Dev) (h o n : Nat) : Nat × Dev :=
  let free (t : Dev) : Nat × Dev := let (x, t1) := t.fresh; (x % 2 ^ (8 * n), t1)
  match ctrlAt o with
  | none => free s
  | some (.parcel, t, x) =>
    match s.parcelPortLoad (h / 32 * 32 + t) x n with
    | (some v, s1) => (v, s1)
    | (none, s1) => free s1
  | some (p, t, x) =>
    let (rec, off, len) := p.shape
    if x + n ≤ rec then (ofLE (s.windowBytes (h / 32) o n), s)
    else if off ≤ x ∧ x + n ≤ off + len then (s.portResult h t p / 2 ^ (8 * (x - off)) % 2 ^ (8 * n), s)
    else free s

/-- A buffer operation record of issuer o (R193). The operation completes, and its result gets DONE, in the step that writes the record, so no
record is written before the previous one has DONE (log entry 142: DEDUCED, unsafe). -/
def Dev.bufRecord (s : Dev) (o r : Nat) : Dev :=
  let hd := givenHandle (bits r 127 96)
  Dev.bufDone (match bits r 7 0 with
    | 1 => s.alloc o (bits r 95 71)
    | 2 => s.bufFree o hd
    | 3 => s.bufShare o hd (bits r 70 55)
    | 4 => s.bufDetach o hd
    | 5 => s.bufHandover o hd (bits r 70 55)
    | _ => ({ status := 1, handle := hd }, s)) o (bits r 7 0 == 1)

/-- A correction record of thread h (R365). -/
def Dev.corrRecord (s : Dev) (h r : Nat) : Dev := s.correction h (bits r 7 0) r

/-- A whole record stands in a port of drawer h / 32, written by thread h. -/
def Dev.portRecord (s : Dev) (h t r : Nat) : CtrlPort → Dev
  | .queue => s.parcelCreate h r
  | .exact => s.emAccept true (h / 32 * 32 + t) 0 r
  | .buffer => s.bufRecord (bufIssuer (h / 32) t) r
  | .cipher => s.threadRun (h / 32 * 32 + t) r true
  | .correction => s.corrRecord h r
  | _ => s

/-- A store of n bytes at an offset of the control window by thread h. A port takes its record with the store of the record's last bytes;
stores to what is not writable do nothing (log entry 35: DESIGN CHOICE, unsafe). -/
def Dev.ctrlStore (s : Dev) (h o n v : Nat) : Dev :=
  match ctrlAt o with
  | none => s
  | some (.stall, _, _) => s
  | some (.parcel, t, x) =>
    let t' := h / 32 * 32 + t
    if n = 8 ∧ x = 0x08 then s.retireSlot t' (bits v 9 8) (bits v 2 0) (s.slotWord t' (bits v 9 8))
    else if n = 8 ∧ x = 0x18 then s.yieldSlot t' (bits v 9 8) (s.slotWord t' (bits v 9 8))
    else s
  | some (p, t, x) =>
    let len := p.shape.1
    if x + n ≤ len then
      let s1 := s.setWindow (h / 32) o (leBytes n v)
      if x + n = len then s1.portRecord h t (ofLE (s1.windowBytes (h / 32) (o - x) len)) p else s1
    else s

end Sys2Proof.Machine
end

