-- ==== Sys2Proof/Machine/Migration.lean ====
section
/-! DEFINITION. Dev save and restore of a VF (R291 to R295). -/
namespace Sys2Proof.Machine

/-! ### The image (R291, R295) -/

/-- The objects of a VF that an image holds, by its function number: those whose Writers include Manager or Tenant (*Image sections*). -/
def imageObjs : List Nat := [Obj.VF_ASSIGN, Obj.LB_INTERVAL, Obj.DIRTY_ENABLE, Obj.DIRTY_MAP_ADDR, Obj.DIRTY_BASE, Obj.DIRTY_PAGES]

/-- An object record with its value, INSTANCE 0 (R81). -/
def Dev.imageRec (s : Dev) (n oid : Nat) : List Nat :=
  let size := match objDef? oid with | some d => d.ty.size | none => 0
  leBytes 16 (oid * 2 ^ 72 + 1 * 2 ^ 48 + size * 2 ^ 32) ++ padTo 8 (leBytes size (s.obj oid n))

/-- The bridge port of VF n (R169). -/
def vfPort (n : Nat) : Nat := 96 + (n - 64)

/-- The keys section's part for table t: the learned, current entries of the VF's bridge port, with a head (*Image sections*). -/
def Dev.imageKeys (s : Dev) (n t : Nat) : List Nat :=
  let kb := s.obj Obj.KEY_BYTES t
  let mine := s.em.entries.filter (fun e => e.2.learned && e.2.bport == vfPort n && s.emCurrent e.2 && s.emTableOf e.1 == some t)
  if mine.isEmpty then [] else
    leBytes 16 (t + kb * 2 ^ 8 + mine.length * 2 ^ 32) ++ mine.flatMap (fun e => padTo 8 (leBytes kb e.2.key))

/-- The held receive descriptors of a queue, with a head (*Image sections*). -/
def imageHeld (qk : Nat) (q : Queue) : List Nat :=
  if q.type = 2 ∧ q.held.isEmpty = false then
    leBytes 16 (qk % 16384 + q.held.length * 2 ^ 16) ++ q.held.flatMap (fun h => leBytes 32 h.2)
  else []

/-- The bytes of VF n's MSI-X table, pending bits, INTR_STATUS and INTR_ENABLE. -/
def Func.imageIntr (f : Func) : List Nat :=
  (List.range 64).flatMap (fun i => leBytes 16 (Tab.getD f.msix i (2 ^ 96))) ++
    leBytes 8 ((List.range 64).foldl (fun a i => a + if f.msixPend.contains i then 2 ^ i else 0) 0) ++ leBytes 8 f.intrStatus ++ leBytes 8 f.intrEnable

/-- The image of VF n at an edge (R291, R295). -/
def Dev.vfImage (s : Dev) (n : Nat) : List Nat :=
  let qs := s.queuesOf n
  let fnCtrs := (List.range 6).flatMap (fun i => leBytes 8 (s.obj (0x801801 + i) n))
  let qCtrs := qs.flatMap (fun e => (List.range 8).flatMap (fun i => leBytes 8 (s.obj (0x804801 + i) e.2.g)))
  let secs : List (Nat × List Nat) :=
    [(1, qs.flatMap (fun e => leBytes 64 (s.queueCtx e.1 e.2))), (2, imageObjs.flatMap (s.imageRec n)), (3, (List.range 64).flatMap (s.imageKeys n)),
      (4, fnCtrs ++ qCtrs), (5, (s.fn n).imageIntr), (6, qs.flatMap (fun e => imageHeld e.1 e.2))]
  let body := layout (fun t o l => leBytes 16 (o * 2 ^ 64 + l * 2 ^ 32 + t)) (64 + 16 * secs.length) secs
  leBytes 64 (0x56530009 * 2 ^ 480 + 1 * 2 ^ 464 + secs.length * 2 ^ 448 + (64 + body.length) * 2 ^ 416 + crc32c 0 body * 2 ^ 384 +
    s.obj Obj.COMPAT_LEVEL * 2 ^ 376 + s.obj Obj.PART_CODE * 2 ^ 368 + n * 2 ^ 352 + s.tick % 2 ^ 64 * 2 ^ 288 + qs.length * 2 ^ 272) ++ body

/-- Bytes of every image held (*Attached memory*). -/
def Dev.imagesHeld (s : Dev) : Nat := s.hosts.funcs.foldl (fun a e => a + e.2.image.length) 0

/-! ### FREEZE_STATE, SAVE_STATE and THAW_STATE (R291, R292, R294, R326) -/

/-- A migration command of PF n on its target: 0x40 for a function that is no VF of the PF, 0x01 in a wrong state. -/
def Dev.onVf (s : Dev) (n desc : Nat) (good : Nat → Bool) (f : Nat → Dev) : Dev :=
  let t := adminArg desc
  if !(s.vfsOf n).contains t then s.adminDone n 0x40 0 else if good t then f t else s.adminDone n 0x01 0

/-- FREEZE_STATE (R291, R326): a QUIESCED VF whose controller, if it has one, has CC.EN = 0. -/
def execFreezeState (n desc : Nat) (s : State) : Res :=
  adminRun s n desc 0x30 true (fun s =>
    s.onVf n desc (fun t => s.fstate t == 4 && !(s.ctrlOfFn t).any (fun c => (s.ctrl c).en)) (fun t => s.adminBegin n (.freeze t)))

/-- FREEZE_STATE at its edge (R291): the image is taken, or 0x41 where it is above MAX_IMAGE or the region has no room. -/
def Dev.freezeApply (s : Dev) (n t : Nat) : Dev :=
  if s.fstate t ≠ 4 then s.adminDone n 0x01 0
  else
    let im := s.vfImage t
    if s.obj Obj.MAX_IMAGE < im.length ∨ 1152 * 1048576 < s.imagesHeld + im.length then s.adminDone n 0x41 0
    else
      (((s.setFn t { s.fn t with image := im }).setObj Obj.SNAPSHOT_BYTES t im.length).setFstate t 7).adminDone n 0 0

/-- A snapshot is discarded. -/
def Dev.dropImage (s : Dev) (t : Nat) : Dev := (s.setFn t { s.fn t with image := [] }).setObj Obj.SNAPSHOT_BYTES t 0

/-- SAVE_STATE on a VF with a snapshot (R292): bytes from the offset, as far as the buffer or the image allows. -/
def Dev.saveState (s : Dev) (n t desc off : Nat) : Dev :=
  let im := (s.fn t).image
  let out := slice im off (bits desc 95 64)
  if off % 8 ≠ 0 ∨ im.length ≤ off then s.adminDone n 0x01 0
  else (if out.isEmpty then s else s.hostWrite n (bits desc 159 96) out false).adminDone n 0 (im.length * 2 ^ 64 + out.length)

/-- SAVE_STATE (R292, R456): `input` is the input buffer as read, none if the read failed; `err`: an error of a line read from
the snapshot region, a corrected one of which does not harm. The requester is a hub unit (log entry 184: DESIGN CHOICE, unsafe). -/
def execSaveState (n desc : Nat) (input : Option (List Nat)) (err : Option (Nat × Nat)) (s : State) : Res :=
  adminRun s n desc 0x31 true (fun s =>
    s.onVf n desc (fun t => s.fstate t == 7 && decide (8 ≤ bits desc 191 160)) (fun t =>
      match input with
      | none => s.adminDone n 0x11 0
      | some b =>
        let (good, s1) := s.lineRead true 0xFFFF err
        if good then s1.saveState n t desc (ofLE (b.take 8)) else ((s1.dropImage t).setFstate t 4).adminDone n 0x11 0))

/-- THAW_STATE (R294): a SNAPSHOT, or a RESTORED VF with Bus Master Enable. -/
def execThawState (n desc : Nat) (s : State) : Res :=
  adminRun s n desc 0x33 true (fun s =>
    s.onVf n desc (fun t => s.fstate t == 7 || (s.fstate t == 8 && (s.fn t).bme)) (fun t => s.adminBegin n (.thaw t)))

/-- THAW_STATE at its edge (R294): a SNAPSHOT is QUIESCED again, its image discarded; a RESTORED VF's queues are READY, its recorded doorbells
and then a refresh of every READY work queue are applied, and its pending vectors are sent. -/
def Dev.thawApply (s : Dev) (n t : Nat) : Dev :=
  if s.fstate t = 7 then ((s.dropImage t).setFstate t 4).adminDone n 0 0
  else if s.fstate t = 8 ∧ (s.fn t).bme = true then
    let s1 := s.runQueues t
    let ks := ((s1.queuesOf t).filter (fun e => e.2.st == 1 && (e.2.type == 1 || e.2.type == 2) && !e.2.refreshing)).map Prod.fst
    let s2 := ks.foldl (fun u k => u.ring k (2 * 2 ^ 24)) s1
    ((s2.setFstate t 2).flushMsix t).adminDone n 0 0
  else s.adminDone n 0x01 0

/-! ### RESTORE_STATE (R293) -/

/-- The bytes of an image's section of a type. -/
def sectionOf (im : List Nat) (type : Nat) : List Nat :=
  match (List.range (bits (ofLE (im.take 64)) 463 448)).findSome? (fun i =>
    let e := ofLE (slice im (64 + 16 * i) 16)
    if bits e 15 0 = type then some (bits e 127 64, bits e 63 32) else none) with
  | some (o, l) => slice im o l
  | none => []

/-- The queue contexts of an image. -/
def imageCtxs (im : List Nat) : List Nat := (chunks 64 (bits (ofLE (im.take 64)) 287 272) (sectionOf im 1)).map ofLE

/-- The keys of an image, by table: table, KEY_BYTES and keys; at most k tables. -/
def keyTables : Nat → List Nat → List (Nat × Nat × List Nat)
  | 0, _ => []
  | k + 1, b =>
    if b.length < 16 then []
    else
      let h := ofLE (b.take 16)
      let kb := bits h 15 8
      let n := bits h 63 32
      let w := ceilDiv kb 8 * 8
      (bits h 7 0, kb, (chunks w n (b.drop 16)).map (fun c => ofLE (c.take kb))) :: keyTables k (b.drop (16 + w * n))

/-- The held descriptors of an image, by queue; at most k queues. -/
def heldQueues : Nat → List Nat → List (Nat × List Nat)
  | 0, _ => []
  | k + 1, b =>
    if b.length < 16 then []
    else
      let h := ofLE (b.take 16)
      let n := bits h 20 16
      (bits h 13 0, (chunks 32 n (b.drop 16)).map ofLE) :: heldQueues k (b.drop (16 + 32 * n))

/-- Why an image is refused for target t (*Restore refusals*): reason and status; none for a good one. -/
def Dev.imageBad (s : Dev) (t : Nat) (im : List Nat) : Option (Nat × Nat) :=
  let h := ofLE (im.take 64)
  let ctxs := imageCtxs im
  let leaves := (ctxs.filter (fun c => bits c 338 336 == 2)).foldl (fun a c => max a (bits c 389 372 + 1)) 0
  if bits h 511 480 ≠ 0x56530009 ∨ bits h 479 464 ≠ 1 ∨ bits h 415 384 ≠ crc32c 0 (im.drop 64) then some (1, 0x01)
  else if bits h 383 376 ≠ s.obj Obj.COMPAT_LEVEL then some (2, 0x01)
  else if s.obj Obj.QUEUE_LIMIT t < ctxs.length ∨ s.part.pick 262144 131072 < s.hosts.queues.length + ctxs.length then some (3, 0x41)
  else if (s.fnLeaves t).length < leaves then some (4, 0x41)
  else if (keyTables 64 (sectionOf im 3)).any (fun x => decide (64 ≤ x.1) || x.2.1 != s.obj Obj.KEY_BYTES x.1 || !s.learns x.1) then
    some (5, 0x01)
  else if s.obj Obj.MAX_IMAGE < im.length then some (6, 0x41)
  else none

/-- RESTORE_STATE's bytes for target t (R293): kept until LENGTH is reached, and then checked. -/
def Dev.restoreBytes (s : Dev) (n t : Nat) (b : List Nat) : Dev :=
  let f := s.fn t
  let off := ofLE (b.take 8)
  if off ≠ 0 ∧ off ≠ f.restore.length then s.adminDone n 0x01 0
  else
    let all := (if off = 0 then [] else f.restore) ++ b.drop 8
    let len := bits (ofLE (all.take 64)) 447 416
    if all.length < 64 ∨ all.length < len then (s.setFn t { f with restore := all }).adminDone n 0 0
    else
      let im := all.take len
      match s.imageBad t im with
      | some (r, st) => ((s.setFn t { f with restore := [] }).tenantLog t 3 r 0).adminDone n st (r * 2 ^ 16)
      | none => (s.setFn t { f with restore := im }).adminBegin n (.image t)

/-- RESTORE_STATE (R293): a DISABLED VF with no queues. -/
def execRestoreState (n desc : Nat) (input : Option (List Nat)) (s : State) : Res :=
  adminRun s n desc 0x32 true (fun s =>
    s.onVf n desc (fun t => s.fstate t == 1 && (s.queuesOf t).isEmpty && decide (8 ≤ bits desc 191 160)) (fun t =>
      match input with
      | none => s.adminDone n 0x11 0
      | some b => s.restoreBytes n t (b.take (bits desc 191 160))))

/-- One restored Bureau record, with the Manager rights of PF n, range checks and clamp logging (R293); o0 is the objects before the edge. -/
def Dev.restoreRec (n t : Nat) (o0 : Tab Nat) (s : Dev) (r : ObjRec) : Dev :=
  match objDef? r.oid with
  | none => s
  | some d =>
    let a : Accepted := { key := n, who := .manager, fn := n, id := 0, items := [], rw := true, seq := 0, tick := s.tick }
    let item (v : Nat) (c : Bool) : Staged := { oid := r.oid, inst := t, written := r.value, value := v, clamped := c }
    let held := (r.oid == Obj.DIRTY_MAP_ADDR || r.oid == Obj.DIRTY_BASE || r.oid == Obj.DIRTY_PAGES) && objAt s.part o0 Obj.DIRTY_ENABLE t == 1
    if !imageObjs.contains r.oid || r.len != d.ty.size then Dev.logItem a s (item r.value false, some 0x01)
    else if !s.mayWriteObj .manager n n d t then Dev.logItem a s (item r.value false, some 0x40)
    else if held then Dev.logItem a s (item r.value false, some 0x01)
    else match s.verdict (fun o i => s.obj o i) .manager n d t r.value with
      | .legal => s.setObj r.oid t r.value
      | .clamped v => Dev.logItem a (s.setObj r.oid t v) (item v true, none)
      | .refused st => Dev.logItem a s (item r.value false, some st)

/-- A restored admin queue runs again: the registers it was created from, and the session (R68, R269; log entry 33: DEDUCED, unsafe). -/
def Dev.restoreAdmin (s : Dev) (t : Nat) : Dev :=
  match s.queue? (qkey t 0), s.queue? (qkey t 1) with
  | some q, some c =>
    let f := s.fn t
    let s1 := s.setFn t { f with adminEn := true, adminSq := q.ring, adminCq := c.ring, adminIdx := q.idx, adminSizes := q.log2 + c.log2 * 256 }
    { s1 with bureau := { s1.bureau with sessions := Tab.ins s1.bureau.sessions t { who := .tenant, fn := t } } }
  | _, _ => s

/-- The keys of a restored VF wait for their edges, in acceptance order like commands (R166, R293). -/
def Dev.restoreKeys (s : Dev) (t : Nat) (ks : List (Nat × Nat)) : Dev :=
  ks.foldl (fun u k => u.emQueue (u.tableMirrors k.1) (.learn k.1 k.2 (vfPort t)) (.restored t k.1 k.2)) s

/-- RESTORE_IMAGE_APPLY (R293): a good image is applied at the edge after its acceptance, in the order of steps 1 to 6. -/
def Dev.restoreApply (s : Dev) (n t : Nat) : Dev :=
  let im := (s.fn t).restore
  if s.fstate t ≠ 1 ∨ im.isEmpty = true then s.adminDone n 0x01 0
  else
    let s1 := (imageCtxs im).foldl (fun u c => u.installQueue (qkey t (bits c 221 208)) (u.ctxQueue t c)) s
    let s2 := (heldQueues 16384 (sectionOf im 6)).foldl (fun u h => u.updQueue (qkey t h.1) (fun q =>
      { q with held := h.2.zipIdx.map (fun d => (q.cons - h.2.length + d.2, d.1)) })) s1
    let x := sectionOf im 5
    let f := s2.fn t
    let pend := ofLE (slice x 1024 8)
    let s3 := s2.setFn t { f with
      msix := ((List.range 64).map (fun i => (i, ofLE (slice x (16 * i) 16)))).filter (fun e => e.2 != 2 ^ 96)
      msixPend := (List.range 64).filter (bit pend)
      intrStatus := ofLE (slice x 1032 8) % 32, intrEnable := ofLE (slice x 1040 8) % 32, restore := [] }
    let recs := (parseRecs im.length (sectionOf im 2)).getD []
    let s4 := recs.foldl (Dev.restoreRec n t s3.objs) (s3.restoreAdmin t)
    let cs := sectionOf im 4
    let s5 := (List.range 6).foldl (fun u i => u.setObj (0x801801 + i) t (ofLE (slice cs (8 * i) 8))) s4
    let gs := (imageCtxs im).map (fun c => match s5.queue? (qkey t (bits c 221 208)) with | some q => q.g | none => 0)
    let s6 := gs.zipIdx.foldl (fun u g =>
      (List.range 8).foldl (fun v i => v.setObj (0x804801 + i) g.1 (ofLE (slice cs (48 + 64 * g.2 + 8 * i) 8))) u) s5
    let keys := (keyTables 64 (sectionOf im 3)).flatMap (fun k => k.2.2.map (fun y => (k.1, y)))
    (s6.restoreKeys t keys).adminBegin n (.restore t keys.length 0)

/-- A RESTORE_STATE whose keys are all applied or refused completes: the VF is RESTORED and its Letterbox emptied (R284, R293). -/
def Dev.restoreDone (s : Dev) : Dev :=
  s.hosts.admin.foldl (fun u e => match e.2 with
    | .restore t 0 refused => ((u.emptyBox t).setFstate t 8).adminDone e.1 0 (refused * 2 ^ 32)
    | _ => u) s

/-- The images that wait for this edge are applied (R293). -/
def Dev.imagesEdge (s : Dev) : Dev :=
  s.hosts.admin.foldl (fun u e => match e.2 with | .image t => u.restoreApply e.1 t | _ => u) s

/-- RESTORE_IMAGE_APPLY (R293): at an edge run by steps, the image that RESTORE_STATE of PF n completed is applied. -/
def execRestoreImageApply (n : Nat) (s : State) : Res :=
  match Tab.get? s.hosts.admin n with
  | some (.image t) => onMainIf s (s.edgeTodo.contains .bureau) (fun s => (s.restoreApply n t).restoreDone)
  | _ => ok s s.toDev

end Sys2Proof.Machine
end

