-- ==== Sys2Proof/Machine/CoreMemory.lean ====
section
/-! DEFINITION. What a core reaches and how (R33, R34, R381, R382, R454, R456): windows, the two caches, loads, stores and reservations. -/
namespace Sys2Proof.Machine

/-- A window of the device physical address map as a core finds it (R33), with the physical address in it. -/
inductive CoreWin where
  | sram (a : Nat)
  | packet (a : Nat)
  | control (o : Nat)
  | ticks
  | gddr (a r : Nat)
  deriving DecidableEq, Repr

/-- Whether cores reach region r of GDDR6 (R454). -/
def coreRegion (r : Nat) : Bool := [0, 1, 7, 9, 10, 11].contains r

/-- The window of an address of thread h; none for what the map does not grant (R34, R381). -/
def Dev.coreWin (s : Dev) (h a : Nat) : Option CoreWin :=
  if a < 0x200000 then some (.sram (0x000100000000 + h / 32 * 0x200000 + a))
  else if 0x01000000 ≤ a ∧ a < 0x01010000 then some (.control (a - 0x01000000))
  else if 0x000100000000 ≤ a ∧ a < 0x000100000000 + s.part.drawers * 0x200000 then some (.sram a)
  else if 0x000200000000 ≤ a ∧ a < 0x000200000000 + s.part.cabinets * 0x1800000 then some (.sram a)
  else if 0x000300000000 ≤ a ∧ a < 0x000300000000 + s.part.pick 67108864 33554432 then some (.packet a)
  else if 0x000400000000 ≤ a ∧ a < 0x000401000000 then some .ticks
  else
    match s.regionOf a with
    | some r => if coreRegion r then some (.gddr a r) else none
    | none => none

/-! ### Caches (R382) -/

/-- A cache with a line filled: 128 sets of four ways; a full set loses the line that `pick` names (log entry 35: DESIGN CHOICE, unsafe). -/
def cacheFill (c : Tab Nat) (l v pick : Nat) : Tab Nat :=
  let inSet := (c.map Prod.fst).filter (fun k => k / 64 % 128 == l / 64 % 128 && k != l)
  Tab.ins (if 4 ≤ inSet.length then Tab.del c (inSet.getD (pick % inSet.length) 0) else c) l v

/-- The data cache of core n. -/
def Dev.dcacheOf (s : Dev) (n : Nat) : Tab Nat := Tab.getD s.cores.dcache n []
/-- The instruction cache of core n. -/
def Dev.icacheOf (s : Dev) (n : Nat) : Tab Nat := Tab.getD s.cores.icache n []
/-- The state with core n's data cache replaced. -/
def Dev.setDcache (s : Dev) (n : Nat) (c : Tab Nat) : Dev :=
  { s with cores := { s.cores with dcache := Tab.put [] s.cores.dcache n c } }
/-- The state with core n's instruction cache replaced. -/
def Dev.setIcache (s : Dev) (n : Nat) (c : Tab Nat) : Dev :=
  { s with cores := { s.cores with icache := Tab.put [] s.cores.icache n c } }

/-- n bytes at an address of a cache line's value. -/
def lineBytes (v a n : Nat) : Nat := v / 2 ^ (8 * (a % 64)) % 2 ^ (8 * n)

/-- A line read from GDDR6 by thread h: `err` 0 good, 1 corrected (R449), 2 uncorrectable (R449), 3 MAC failure, which a region that is not
protected does not have (R454, R456). None: poisoned data. -/
def Dev.gddrLine (s : Dev) (h a r err : Nat) (fetch : Bool) : Option Nat × Dev :=
  let s1 := match err with
    | 0 => s
    | 1 => s.memCorrected a (ownerThread h)
    | 2 => s.memLost a (ownerThread h)
    | _ => if r = 0 then s.macFail a (ownerThread h) (if fetch then 4 else 3) else s
  if s1.isPoisoned a then (none, s1) else (some (ofLE (s1.loadN (lineOf a) 64)), s1)

/-! ### Fetch, load, store -/

/-- Two bytes of an instruction of thread h at an address, through the instruction cache; none: an instruction access fault. -/
def Dev.fetch2 (s : Dev) (h a err : Nat) : Option Nat × Dev :=
  let fill (v : Nat) (l : Nat) (t : Dev) : Option Nat × Dev :=
    let (x, t1) := t.fresh
    (some (lineBytes v l 2), t1.setIcache (h / 8) (cacheFill (t1.icacheOf (h / 8)) (lineOf l) v x))
  let via (p : Nat) (miss : Dev → Option Nat × Dev) : Option Nat × Dev :=
    match Tab.get? (s.icacheOf (h / 8)) (lineOf p) with
    | some v => (some (lineBytes v p 2), s)
    | none =>
      match miss s with
      | (some v, t) => fill v p t
      | (none, t) => (none, t)
  match s.coreWin h a with
  | some (.sram p) => via p (fun t => (some (ofLE (t.loadN (lineOf p) 64)), t))
  | some (.gddr p r) => via p (fun t => t.gddrLine h p r err true)
  | _ => (none, s)

/-- A load of n bytes by thread h: the value, or none for an access fault. `amo`: an AMO, LR or SC, made at memory. -/
def Dev.loadMem (s : Dev) (h a n err : Nat) (amo : Bool) : Option Nat × Dev :=
  match s.coreWin h a with
  | some (.sram p) => (some (ofLE (s.loadN p n)), s)
  | some (.packet p) => if amo then (none, s) else (some (ofLE (s.loadN p n)), s)
  | some (.control o) => if amo || decide (n < 4) then (none, s) else let (v, t) := s.ctrlLoad h o n; (some v, t)
  | some .ticks => if amo then (none, s) else let (x, t) := s.fresh; (some (x % 2 ^ (8 * n)), t)
  | some (.gddr p r) =>
    let n' := h / 8
    if amo then
      let s1 := s.setDcache n' (Tab.del (s.dcacheOf n') (lineOf p))
      match s1.gddrLine h p r err false with
      | (some v, t) => (some (lineBytes v p n), t)
      | (none, t) => (none, t)
    else
      match Tab.get? (s.dcacheOf n') (lineOf p) with
      | some v => (some (lineBytes v p n), s)
      | none =>
        match s.gddrLine h p r err false with
        | (some v, t) =>
          let (x, t1) := t.fresh
          (some (lineBytes v p n), t1.setDcache n' (cacheFill (t1.dcacheOf n') (lineOf p) v x))
        | (none, t) => (none, t)
  | none => (none, s)

/-- Whether a store of n bytes by thread h at an address is granted (R34, R381, R415). -/
def Dev.storeOk (s : Dev) (h a n : Nat) (amo : Bool) : Bool :=
  match s.coreWin h a with
  | some (.sram _) => true
  | some (.packet _) => !amo
  | some (.control _) => !amo && decide (4 ≤ n)
  | some (.gddr _ r) => !(r == 0 && s.cores.codeLock)
  | _ => false

/-- A store of n bytes by thread h that is granted: memory, other threads' reservations, poison, and a line it hits in its data cache. -/
def Dev.storeMem (s : Dev) (h a n v : Nat) : Dev :=
  let put (p : Nat) (t : Dev) : Dev := (t.storeN p (leBytes n v)).overwritten (some h) p (p + n)
  match s.coreWin h a with
  | some (.sram p) => put p s
  | some (.packet p) => put p s
  | some (.control o) => s.ctrlStore h o n v
  | some (.gddr p _) =>
    let s1 := put p s
    match Tab.get? (s1.dcacheOf (h / 8)) (lineOf p) with
    | some l => s1.setDcache (h / 8) (Tab.ins (s1.dcacheOf (h / 8)) (lineOf p) (ofLE (putAt (leBytes 64 l) (p % 64) (leBytes n v))))
    | none => s1
  | _ => s

/-- The granule of an access as a physical address (R382). -/
def Dev.granule (s : Dev) (h a : Nat) : Option Nat :=
  match s.coreWin h a with
  | some (.sram p) => some (p / 8 * 8)
  | some (.gddr p _) => some (p / 8 * 8)
  | _ => none

/-- Thread h's reservation set or cleared (R382). -/
def Dev.reserve (s : Dev) (h : Nat) (g : Option Nat) : Dev := s.setHart h { s.hart h with resv := g }

end Sys2Proof.Machine
end

