-- ==== Sys2Proof/Machine/Operands.lean ====
section
/-! DEFINITION. The operand forms of a thread's instructions (R380, R386; log entry 34: PRESUMED, unsafe): fields and immediates of the 32-bit formats, and the
32-bit form of each compressed instruction. -/
namespace Sys2Proof.Machine

/-! ### Fields and immediates -/

/-- A value of the low w bits, sign-extended to 64. -/
def sx (w v : Nat) : Nat := ofSigned 64 (toSigned w v)

/-- The rd field. -/
def rvRd (w : Nat) : Nat := bits w 11 7
/-- The funct3 field. -/
def rvF3 (w : Nat) : Nat := bits w 14 12
/-- The rs1 field. -/
def rvRs1 (w : Nat) : Nat := bits w 19 15
/-- The rs2 field. -/
def rvRs2 (w : Nat) : Nat := bits w 24 20
/-- The funct7 field. -/
def rvF7 (w : Nat) : Nat := bits w 31 25
/-- The immediate of an I-type instruction. -/
def rvImmI (w : Nat) : Nat := sx 12 (bits w 31 20)
/-- The immediate of an S-type instruction. -/
def rvImmS (w : Nat) : Nat := sx 12 (bits w 31 25 * 32 + bits w 11 7)
/-- The immediate of a B-type instruction. -/
def rvImmB (w : Nat) : Nat := sx 13 (bits w 31 31 * 4096 + bits w 7 7 * 2048 + bits w 30 25 * 32 + bits w 11 8 * 2)
/-- The immediate of a U-type instruction. -/
def rvImmU (w : Nat) : Nat := sx 32 (bits w 31 12 * 4096)
/-- The immediate of a J-type instruction. -/
def rvImmJ (w : Nat) : Nat := sx 21 (bits w 31 31 * 2 ^ 20 + bits w 19 12 * 4096 + bits w 20 20 * 2048 + bits w 30 21 * 2)

/-! ### Compressed instructions -/

/-- An I-type word. -/
def encI (op f3 rd rs1 imm : Nat) : Nat := imm % 4096 * 2 ^ 20 + rs1 * 2 ^ 15 + f3 * 2 ^ 12 + rd * 2 ^ 7 + op
/-- An R-type word. -/
def encR (op f3 f7 rd rs1 rs2 : Nat) : Nat := f7 * 2 ^ 25 + rs2 * 2 ^ 20 + rs1 * 2 ^ 15 + f3 * 2 ^ 12 + rd * 2 ^ 7 + op
/-- An S-type word. -/
def encS (f3 rs1 rs2 imm : Nat) : Nat :=
  bits imm 11 5 * 2 ^ 25 + rs2 * 2 ^ 20 + rs1 * 2 ^ 15 + f3 * 2 ^ 12 + bits imm 4 0 * 2 ^ 7 + 0x23
/-- A B-type word. -/
def encB (f3 rs1 imm : Nat) : Nat :=
  bits imm 12 12 * 2 ^ 31 + bits imm 10 5 * 2 ^ 25 + rs1 * 2 ^ 15 + f3 * 2 ^ 12 + bits imm 4 1 * 2 ^ 8 + bits imm 11 11 * 2 ^ 7 + 0x63
/-- A J-type word. -/
def encJ (rd imm : Nat) : Nat :=
  bits imm 20 20 * 2 ^ 31 + bits imm 10 1 * 2 ^ 21 + bits imm 11 11 * 2 ^ 20 + bits imm 19 12 * 2 ^ 12 + rd * 2 ^ 7 + 0x6F

/-- Quadrant 0: stack-address arithmetic, loads and stores. -/
def expand0 (c : Nat) : Option Nat :=
  let rp := 8 + bits c 4 2
  let rb := 8 + bits c 9 7
  let offW := bits c 5 5 * 64 + bits c 12 10 * 8 + bits c 6 6 * 4
  let offD := bits c 6 5 * 64 + bits c 12 10 * 8
  match bits c 15 13 with
  | 0 =>
    let imm := bits c 10 7 * 64 + bits c 12 11 * 16 + bits c 5 5 * 8 + bits c 6 6 * 4
    if imm = 0 then none else some (encI 0x13 0 rp 2 imm)
  | 2 => some (encI 0x03 2 rp rb offW)
  | 3 => some (encI 0x03 3 rp rb offD)
  | 6 => some (encS 2 rb rp offW)
  | 7 => some (encS 3 rb rp offD)
  | _ => none

/-- Quadrant 1: immediates, arithmetic on x8 to x15, jumps and branches. -/
def expand1 (c : Nat) : Option Nat :=
  let rd := bits c 11 7
  let imm6 := sx 6 (bits c 12 12 * 32 + bits c 6 2)
  let rb := 8 + bits c 9 7
  let r2 := 8 + bits c 4 2
  let sh := bits c 12 12 * 32 + bits c 6 2
  let immB := sx 9 (bits c 12 12 * 256 + bits c 6 5 * 64 + bits c 2 2 * 32 + bits c 11 10 * 8 + bits c 4 3 * 2)
  match bits c 15 13 with
  | 0 => some (encI 0x13 0 rd rd imm6)
  | 1 => if rd = 0 then none else some (encI 0x1B 0 rd rd imm6)
  | 2 => some (encI 0x13 0 rd 0 imm6)
  | 3 =>
    if rd = 2 then
      let imm := sx 10 (bits c 12 12 * 512 + bits c 4 3 * 128 + bits c 5 5 * 64 + bits c 2 2 * 32 + bits c 6 6 * 16)
      if imm = 0 then none else some (encI 0x13 0 2 2 imm)
    else if imm6 = 0 then none else some (imm6 % 2 ^ 20 * 2 ^ 12 + rd * 2 ^ 7 + 0x37)
  | 4 =>
    match bits c 11 10 with
    | 0 => some (encI 0x13 5 rb rb sh)
    | 1 => some (encI 0x13 5 rb rb (0x400 + sh))
    | 2 => some (encI 0x13 7 rb rb imm6)
    | _ =>
      match bits c 12 12, bits c 6 5 with
      | 0, 0 => some (encR 0x33 0 0x20 rb rb r2)
      | 0, 1 => some (encR 0x33 4 0 rb rb r2)
      | 0, 2 => some (encR 0x33 6 0 rb rb r2)
      | 0, 3 => some (encR 0x33 7 0 rb rb r2)
      | 1, 0 => some (encR 0x3B 0 0x20 rb rb r2)
      | 1, 1 => some (encR 0x3B 0 0 rb rb r2)
      | _, _ => none
  | 5 =>
    some (encJ 0 (sx 12 (bits c 12 12 * 2048 + bits c 8 8 * 1024 + bits c 10 9 * 256 + bits c 6 6 * 128 + bits c 7 7 * 64 +
      bits c 2 2 * 32 + bits c 11 11 * 16 + bits c 5 3 * 2)))
  | 6 => some (encB 0 rb immB)
  | _ => some (encB 1 rb immB)

/-- Quadrant 2: shifts, stack-pointer loads and stores, register jumps and moves. -/
def expand2 (c : Nat) : Option Nat :=
  let rd := bits c 11 7
  let r2 := bits c 6 2
  match bits c 15 13 with
  | 0 => some (encI 0x13 1 rd rd (bits c 12 12 * 32 + r2))
  | 2 => if rd = 0 then none else some (encI 0x03 2 rd 2 (bits c 3 2 * 64 + bits c 12 12 * 32 + bits c 6 4 * 4))
  | 3 => if rd = 0 then none else some (encI 0x03 3 rd 2 (bits c 4 2 * 64 + bits c 12 12 * 32 + bits c 6 5 * 8))
  | 4 =>
    if bits c 12 12 = 0 then
      if r2 = 0 then (if rd = 0 then none else some (encI 0x67 0 0 rd 0)) else some (encR 0x33 0 0 rd 0 r2)
    else if r2 = 0 then (if rd = 0 then some 0x00100073 else some (encI 0x67 0 1 rd 0))
    else some (encR 0x33 0 0 rd rd r2)
  | 6 => some (encS 2 2 r2 (bits c 8 7 * 64 + bits c 12 9 * 4))
  | 7 => some (encS 3 2 r2 (bits c 9 7 * 64 + bits c 12 10 * 8))
  | _ => none

/-- The 32-bit form of a compressed instruction; none where R380's extensions define none. -/
def expandC (c : Nat) : Option Nat :=
  match c % 4 with
  | 0 => expand0 c
  | 1 => expand1 c
  | _ => expand2 c

end Sys2Proof.Machine
end

