-- ==== Sys2Proof/Machine/Rv.lean ====
section
/-! DEFINITION. The base instruction set of R380 as RISC-V International ratified it (log entry 34: PRESUMED, unsafe): the arithmetic of RV64IM, Zba and Zbb,
branches and atomic operations. -/
namespace Sys2Proof.Machine

/-! ### Arithmetic -/

/-- Signed comparison of 64-bit values. -/
def sltNat (a b : Nat) : Bool := decide (toSigned 64 a < toSigned 64 b)

/-- Arithmetic right shift of the low w bits, sign-extended. -/
def sraNat (w a n : Nat) : Nat := ofSigned 64 (toSigned w a / (2 : Int) ^ n)

/-- Rotation of the low w bits left by n. -/
def rolNat (w a n : Nat) : Nat :=
  let x := a % 2 ^ w
  let k := n % w
  (x * 2 ^ k + x / 2 ^ (w - k)) % 2 ^ w

/-- Ones in the low w bits. -/
def popNat (w a : Nat) : Nat := ((List.range w).filter (bit a)).length

/-- Leading zeros of the low w bits. -/
def clzNat (w a : Nat) : Nat := let x := a % 2 ^ w; if x = 0 then w else w - 1 - Nat.log2 x

/-- Trailing zeros of the low w bits. -/
def ctzNat (w a : Nat) : Nat := ((List.range w).find? (bit a)).getD w

/-- Signed division of w-bit values, rounded to zero; by zero all ones; overflow gives the dividend. -/
def divS (w a b : Nat) : Nat :=
  let y := toSigned w b
  if y = 0 then 2 ^ 64 - 1 else sx w (ofSigned w ((toSigned w a).tdiv y))

/-- Unsigned division of w-bit values; by zero all ones. -/
def divU (w a b : Nat) : Nat := if b % 2 ^ w = 0 then 2 ^ 64 - 1 else sx w (a % 2 ^ w / (b % 2 ^ w))

/-- Signed remainder of w-bit values; by zero the dividend. -/
def remS (w a b : Nat) : Nat :=
  let y := toSigned w b
  if y = 0 then sx w a else sx w (ofSigned w ((toSigned w a).tmod y))

/-- Unsigned remainder of w-bit values; by zero the dividend. -/
def remU (w a b : Nat) : Nat := if b % 2 ^ w = 0 then sx w a else sx w (a % 2 ^ w % (b % 2 ^ w))

/-- Register-register operations on 64 bits: funct7, funct3 and the operands. -/
def rvOp (f7 f3 a b : Nat) : Option Nat :=
  let sh := b % 64
  match f7, f3 with
  | 0x00, 0 => some (a + b)
  | 0x00, 1 => some (a * 2 ^ sh)
  | 0x00, 2 => some (ofBool (sltNat a b))
  | 0x00, 3 => some (ofBool (decide (a < b)))
  | 0x00, 4 => some (a ^^^ b)
  | 0x00, 5 => some (a / 2 ^ sh)
  | 0x00, 6 => some (a ||| b)
  | 0x00, 7 => some (a &&& b)
  | 0x20, 0 => some (a + 2 ^ 64 - b)
  | 0x20, 4 => some (2 ^ 64 - 1 - (a ^^^ b))
  | 0x20, 5 => some (sraNat 64 a sh)
  | 0x20, 6 => some (a ||| (2 ^ 64 - 1 - b))
  | 0x20, 7 => some (a &&& (2 ^ 64 - 1 - b))
  | 0x01, 0 => some (a * b)
  | 0x01, 1 => some (ofSigned 64 (toSigned 64 a * toSigned 64 b / (2 : Int) ^ 64))
  | 0x01, 2 => some (ofSigned 64 (toSigned 64 a * (b : Int) / (2 : Int) ^ 64))
  | 0x01, 3 => some (a * b / 2 ^ 64)
  | 0x01, 4 => some (divS 64 a b)
  | 0x01, 5 => some (divU 64 a b)
  | 0x01, 6 => some (remS 64 a b)
  | 0x01, 7 => some (remU 64 a b)
  | 0x10, 2 => some (a * 2 + b)
  | 0x10, 4 => some (a * 4 + b)
  | 0x10, 6 => some (a * 8 + b)
  | 0x05, 4 => some (if sltNat a b then a else b)
  | 0x05, 5 => some (min a b)
  | 0x05, 6 => some (if sltNat a b then b else a)
  | 0x05, 7 => some (max a b)
  | 0x30, 1 => some (rolNat 64 a sh)
  | 0x30, 5 => some (rolNat 64 a (64 - sh))
  | _, _ => none

/-- Register-register operations on words; `rs2` is the register field. -/
def rvOpW (f7 f3 a b rs2 : Nat) : Option Nat :=
  let sh := b % 32
  let u := a % 2 ^ 32
  match f7, f3 with
  | 0x00, 0 => some (sx 32 (a + b))
  | 0x00, 1 => some (sx 32 (a * 2 ^ sh))
  | 0x00, 5 => some (sx 32 (u / 2 ^ sh))
  | 0x20, 0 => some (sx 32 (a + 2 ^ 64 - b))
  | 0x20, 5 => some (sraNat 32 a sh)
  | 0x01, 0 => some (sx 32 (a * b))
  | 0x01, 4 => some (divS 32 a b)
  | 0x01, 5 => some (divU 32 a b)
  | 0x01, 6 => some (remS 32 a b)
  | 0x01, 7 => some (remU 32 a b)
  | 0x04, 0 => some (u + b)
  | 0x04, 4 => if rs2 = 0 then some (a % 2 ^ 16) else none
  | 0x10, 2 => some (u * 2 + b)
  | 0x10, 4 => some (u * 4 + b)
  | 0x10, 6 => some (u * 8 + b)
  | 0x30, 1 => some (sx 32 (rolNat 32 a sh))
  | 0x30, 5 => some (sx 32 (rolNat 32 a (32 - sh)))
  | _, _ => none

/-- Each byte all ones if it is not zero (orc.b). -/
def orcb (a : Nat) : Nat := ofLE ((leBytes 8 a).map (fun b => if b = 0 then 0 else 255))

/-- Register-immediate operations on 64 bits: the 12-bit field, funct3 and the operand. -/
def rvOpImm (f12 f3 a : Nat) : Option Nat :=
  let imm := sx 12 f12
  let sh := f12 % 64
  match f3 with
  | 0 => some (a + imm)
  | 2 => some (ofBool (sltNat a imm))
  | 3 => some (ofBool (decide (a < imm)))
  | 4 => some (a ^^^ imm)
  | 6 => some (a ||| imm)
  | 7 => some (a &&& imm)
  | 1 =>
    if f12 / 64 = 0 then some (a * 2 ^ sh)
    else
      match f12 with
      | 0x600 => some (clzNat 64 a)
      | 0x601 => some (ctzNat 64 a)
      | 0x602 => some (popNat 64 a)
      | 0x604 => some (sx 8 a)
      | 0x605 => some (sx 16 a)
      | _ => none
  | _ =>
    match f12 / 64 with
    | 0x00 => some (a / 2 ^ sh)
    | 0x10 => some (sraNat 64 a sh)
    | 0x18 => some (rolNat 64 a (64 - sh))
    | _ => if f12 = 0x287 then some (orcb a) else if f12 = 0x6B8 then some (ofBE (leBytes 8 a)) else none

/-- Register-immediate operations on words. -/
def rvOpImmW (f12 f3 a : Nat) : Option Nat :=
  let sh := f12 % 32
  match f3 with
  | 0 => some (sx 32 (a + sx 12 f12))
  | 1 =>
    if f12 / 32 = 0 then some (sx 32 (a * 2 ^ sh))
    else if f12 / 64 = 2 then some (a % 2 ^ 32 * 2 ^ (f12 % 64))
    else
      match f12 with
      | 0x600 => some (clzNat 32 a)
      | 0x601 => some (ctzNat 32 a)
      | 0x602 => some (popNat 32 a)
      | _ => none
  | 5 =>
    match f12 / 32 with
    | 0x00 => some (sx 32 (a % 2 ^ 32 / 2 ^ sh))
    | 0x20 => some (sraNat 32 a sh)
    | 0x30 => some (sx 32 (rolNat 32 a (32 - sh)))
    | _ => none
  | _ => none

/-- Whether a branch is taken; none for an unassigned funct3. -/
def rvBranch (f3 a b : Nat) : Option Bool :=
  match f3 with
  | 0 => some (a == b)
  | 1 => some (a != b)
  | 4 => some (sltNat a b)
  | 5 => some (!sltNat a b)
  | 6 => some (decide (a < b))
  | 7 => some (decide (b ≤ a))
  | _ => none

/-- What an AMO writes: funct5, the width in bits, the value in memory and the register's, both cut to the width. -/
def rvAmo (f5 w m r : Nat) : Option Nat :=
  let less := decide (toSigned w m < toSigned w r)
  match f5 with
  | 0x00 => some ((m + r) % 2 ^ w)
  | 0x01 => some r
  | 0x04 => some (m ^^^ r)
  | 0x08 => some (m ||| r)
  | 0x0C => some (m &&& r)
  | 0x10 => some (if less then m else r)
  | 0x14 => some (if less then r else m)
  | 0x18 => some (min m r)
  | 0x1C => some (max m r)
  | _ => none

end Sys2Proof.Machine
end

