-- ==== Sys2Proof/Machine/Isa.lean ====
section
/-! DEFINITION. A thread's instructions (R380 to R386, R389): fetching, the CSRs, the base instruction set, and its traps. -/
namespace Sys2Proof.Machine

/-! ### Traps and the end of an instruction -/

/-- An exception for which the spec leaves open whether mtval holds the value or zero (log entry 34: PRESUMED, unsafe). -/
def Dev.exceptOpen (s : Dev) (h code v : Nat) : Dev := let (x, s1) := s.fresh; s1.except h code (if x % 2 = 0 then 0 else v)

/-- The illegal-instruction exception (R380). -/
def Dev.illegalOp (s : Dev) (h w : Nat) : Dev := s.exceptOpen h 2 w

/-- An instruction ends with a value in rd. -/
def Dev.writeRd (s : Dev) (h rd v len : Nat) : Dev := (s.setHart h ((s.hart h).setReg rd v)).retired h len

/-- An instruction ends with the pc at a target. -/
def Dev.jumpTo (s : Dev) (h target : Nat) : Dev :=
  let s1 := s.retired h 0
  s1.setHart h { s1.hart h with pc := target % 2 ^ 64 }

/-- The pc of a thread set. -/
def Dev.setPc (s : Dev) (h v : Nat) : Dev := s.setHart h { s.hart h with pc := v % 2 ^ 64 }

/-- The interrupts of thread h that are pending and enabled in mie (R387, R389). -/
def Dev.intsOf (s : Dev) (h : Nat) : Nat := s.mipOf h &&& (s.hart h).mie

/-- The interrupt that thread h takes next, the highest bit first (R389). -/
def Dev.intNext (s : Dev) (h : Nat) : Option Nat :=
  if (s.hart h).mie_ then [21, 20, 19, 18, 17, 16].find? (bit (s.intsOf h)) else none

/-- Whether thread h issues its next instruction (R385, R389): it runs, waits for nothing and has no interrupt to take. -/
def Dev.issues (s : Dev) (h : Nat) : Bool :=
  s.hartRuns h && (s.hart h).wait == .run && (s.intNext h).isNone

/-! ### Triggers (R400) -/

/-- tdata1, 2 or 3 of trigger t. -/
def Hart.trig (t : Hart) (k i : Nat) : Nat := Tab.getD t.tdata (4 * k + i) 0

/-- Whether a trigger of thread h fires on an address, for an access of kind b: 0 load, 1 store, 2 execute (log entry 34: PRESUMED, unsafe). -/
def Dev.trigFires (s : Dev) (h b a : Nat) : Bool :=
  let t := s.hart h
  t.mie_ && [0, 1, 2, 3].any (fun k => bit (t.trig k 1) b && bit (t.trig k 1) 6 && t.trig k 2 == a)

/-! ### CSRs (R380, R382, R389, *Nirah CSRs*) -/

/-- What mcycle counts: the DCLK cycles to the present tick, and a part of a tick that is not modelled (R380, log entry 5: DESIGN CHOICE, safe). -/
def Dev.cycles (s : Dev) : Nat × Dev := let (x, s1) := s.fresh; (1024 * s.tick + x % 1024, s1)

/-- A CSR of thread h as read; none if the thread has no such CSR outside Debug Mode. -/
def Dev.csrRead (s : Dev) (h c : Nat) : Option Nat × Dev :=
  let t := s.hart h
  let yes (v : Nat) : Option Nat × Dev := (some (v % 2 ^ 64), s)
  match c with
  | 0x300 => yes t.mstatus
  | 0x301 => yes 0x8000000000001105
  | 0x304 => yes t.mie
  | 0x305 => yes t.mtvec
  | 0x320 => yes t.mcountinhibit
  | 0x340 => yes t.mscratch
  | 0x341 => yes t.mepc
  | 0x342 => yes t.mcause
  | 0x343 => yes t.mtval
  | 0x344 => yes (s.mipOf h)
  | 0x7A0 => yes t.tselect
  | 0x7A1 => yes (6 * 2 ^ 60 + t.trig t.tselect 1)
  | 0x7A2 => yes (t.trig t.tselect 2)
  | 0x7A3 => yes (t.trig t.tselect 3)
  | 0x7A4 => yes 0x01000040
  | 0x7C0 => yes t.nevpend
  | 0x7C1 => yes t.nevext
  | 0x7C2 => yes t.ntickcmp
  | 0x7C3 => yes t.nchtmo
  | 0x7C4 => yes t.nchstat
  | 0xB02 => yes t.minstret
  | 0xC01 => yes s.tick
  | 0xC02 => yes t.minstret
  | 0xF11 => yes 0
  | 0xF12 => yes 9
  | 0xF13 => yes (s.obj Obj.STEPPING)
  | 0xF14 => yes h
  | 0xF15 => yes 0
  | _ =>
    if c = 0xB00 ∨ c = 0xC00 then
      if bit t.mcountinhibit 0 then yes t.mcycleOff
      else let (n, s1) := s.cycles; (some ((n + t.mcycleOff) % 2 ^ 64), s1)
    else if (0x323 ≤ c ∧ c ≤ 0x33F) ∨ (0xB03 ≤ c ∧ c ≤ 0xB1F) then yes 0
    else (none, s)

/-- mcountinhibit of thread h written: mcycle stops and goes on (log entry 34: PRESUMED, unsafe). -/
def Dev.setInhibit (s : Dev) (h v : Nat) : Dev :=
  let t := s.hart h
  let (n, s1) := s.cycles
  let off := match bit t.mcountinhibit 0, bit v 0 with
    | false, true => (n + t.mcycleOff) % 2 ^ 64
    | true, false => (t.mcycleOff + 2 ^ 64 - n % 2 ^ 64) % 2 ^ 64
    | _, _ => t.mcycleOff
  s1.setHart h { t with mcountinhibit := v &&& 5, mcycleOff := off }

/-- A CSR of thread h written with `v`; `ones` are the bits that the instruction names, by which mip is cleared (R389). What is read-only in
a writable CSR keeps its value. -/
def Dev.csrWrite (s : Dev) (h c v ones : Nat) : Dev :=
  let t := s.hart h
  let put (u : Hart) : Dev := s.setHart h u
  match c with
  | 0x300 => put { t with mie_ := bit v 3, mpie := bit v 7 }
  | 0x304 => put { t with mie := v &&& 0x3F0000 }
  | 0x305 => put { t with mtvec := v / 4 * 4 + v % 2 }
  | 0x320 => s.setInhibit h v
  | 0x340 => put { t with mscratch := v }
  | 0x341 => put { t with mepc := v / 2 * 2 }
  | 0x342 => put { t with mcause := v }
  | 0x343 => put { t with mtval := v }
  | 0x344 => put { t with mip := t.mip - (t.mip &&& ones) }
  | 0x7A0 => put { t with tselect := if v < 4 then v else t.tselect }
  | 0x7A1 => put { t with tdata := Tab.put 0 t.tdata (4 * t.tselect + 1) (v &&& 0x47) }
  | 0x7A2 => put { t with tdata := Tab.put 0 t.tdata (4 * t.tselect + 2) v }
  | 0x7A3 => put { t with tdata := Tab.put 0 t.tdata (4 * t.tselect + 3) v }
  | 0x7C0 => put { t with nevpend := v % 2 ^ 32 }
  | 0x7C1 => put { t with nevext := v % 2 ^ 32 }
  | 0x7C2 => put { t with ntickcmp := v }
  | 0x7C3 => put { t with nchtmo := v }
  | 0xB00 =>
    if bit t.mcountinhibit 0 then put { t with mcycleOff := v }
    else let (n, s1) := s.cycles; s1.setHart h { t with mcycleOff := (v + 2 ^ 64 - n % 2 ^ 64) % 2 ^ 64 }
  | 0xB02 => put { t with minstret := v }
  | _ => s

/-- CSRRW, CSRRS, CSRRC and their immediate forms (Zicsr): `w` the instruction, `raw` as fetched. A write of minstret stands after the
instruction's own count. -/
def Dev.csrOp (s : Dev) (h w raw : Nat) : Dev :=
  let t := s.hart h
  let c := bits w 31 20
  let x := if bit w 14 then rvRs1 w else t.reg (rvRs1 w)
  let writes := rvF3 w % 4 == 1 || rvRs1 w != 0
  if writes && c / 1024 == 3 then s.illegalOp h raw
  else
    match s.csrRead h c with
    | (none, _) => s.illegalOp h raw
    | (some old, s1) =>
      let v := match rvF3 w % 4 with
        | 1 => x
        | 2 => old ||| x
        | _ => old - (old &&& x)
      let s2 := s1.writeRd h (rvRd w) old 4
      if writes then s2.csrWrite h c v x else s2

/-! ### Loads, stores and atomic operations -/

/-- A load (R381): `f3` gives width and extension. -/
def Dev.loadOp (s : Dev) (h w raw len err : Nat) : Dev :=
  let f3 := rvF3 w
  let n := 2 ^ (f3 % 4)
  let a := ((s.hart h).reg (rvRs1 w) + rvImmI w) % 2 ^ 64
  if f3 = 7 then s.illegalOp h raw
  else if s.trigFires h 0 a then s.exceptOpen h 3 a
  else if a % n ≠ 0 then s.except h 4 a
  else
    match s.loadMem h a n err false with
    | (some v, s1) => s1.writeRd h (rvRd w) (if f3 < 4 then sx (8 * n) v else v) len
    | (none, s1) => s1.except h 5 a

/-- A store (R381). -/
def Dev.storeOp (s : Dev) (h w raw len : Nat) : Dev :=
  let f3 := rvF3 w
  let n := 2 ^ f3
  let a := ((s.hart h).reg (rvRs1 w) + rvImmS w) % 2 ^ 64
  if 4 ≤ f3 then s.illegalOp h raw
  else if s.trigFires h 1 a then s.exceptOpen h 3 a
  else if a % n ≠ 0 then s.except h 6 a
  else if s.storeOk h a n false then (s.storeMem h a n ((s.hart h).reg (rvRs2 w) % 2 ^ (8 * n))).retired h len
  else s.except h 7 a

/-- LR of n bytes (R382). -/
def Dev.lrOp (s : Dev) (h a n err rd : Nat) : Dev :=
  if s.trigFires h 0 a then s.exceptOpen h 3 a
  else if a % n ≠ 0 then s.except h 4 a
  else
    match s.loadMem h a n err true with
    | (some v, s1) => (s1.reserve h (s1.granule h a)).writeRd h rd (sx (8 * n) v) 4
    | (none, s1) => s1.except h 5 a

/-- SC of n bytes (R382): it stores if the thread's reservation covers the granule, and the reservation ends. -/
def Dev.scOp (s : Dev) (h a n v rd : Nat) : Dev :=
  if s.trigFires h 1 a then s.exceptOpen h 3 a
  else if a % n ≠ 0 then s.except h 6 a
  else if !s.storeOk h a n true then s.except h 7 a
  else
    let held := (s.granule h a).isSome && (s.hart h).resv == s.granule h a
    let s1 := s.reserve h none
    let s2 := match s1.coreWin h a with
      | some (.gddr p _) => s1.setDcache (h / 8) (Tab.del (s1.dcacheOf (h / 8)) (lineOf p))
      | _ => s1
    (if held then s2.storeMem h a n v else s2).writeRd h rd (ofBool !held) 4

/-- AMO of n bytes (R381, R382, R456). -/
def Dev.amoOp (s : Dev) (h f5 a n v err rd raw : Nat) : Dev :=
  if (rvAmo f5 (8 * n) 0 0).isNone then s.illegalOp h raw
  else if s.trigFires h 0 a || s.trigFires h 1 a then s.exceptOpen h 3 a
  else if a % n ≠ 0 then s.except h 6 a
  else if !s.storeOk h a n true then s.except h 7 a
  else
    match s.loadMem h a n err true with
    | (some m, s1) => (s1.storeMem h a n ((rvAmo f5 (8 * n) m v).getD 0)).writeRd h rd (sx (8 * n) m) 4
    | (none, s1) => s1.except h 5 a

/-- The A extension. -/
def Dev.atomicOp (s : Dev) (h w raw err : Nat) : Dev :=
  let n := 2 ^ rvF3 w
  let a := (s.hart h).reg (rvRs1 w)
  let v := (s.hart h).reg (rvRs2 w) % 2 ^ (8 * n)
  let f5 := bits w 31 27
  if rvF3 w ≠ 2 ∧ rvF3 w ≠ 3 then s.illegalOp h raw
  else if f5 = 2 then (if rvRs2 w = 0 then s.lrOp h a n err (rvRd w) else s.illegalOp h raw)
  else if f5 = 3 then s.scOp h a n v (rvRd w)
  else s.amoOp h f5 a n v err (rvRd w) raw

/-! ### Fences and system instructions -/

/-- FENCE and FENCE.I (R382). -/
def Dev.fenceOp (s : Dev) (h w raw : Nat) : Dev :=
  match rvF3 w with
  | 0 => (if bit w 21 then s.setDcache (h / 8) [] else s).retired h 4
  | 1 => (s.setIcache (h / 8) []).retired h 4
  | _ => s.illegalOp h raw

/-- Return from a trap: MIE takes MPIE, MPIE is set, and the pc is mepc. -/
def Dev.mret (s : Dev) (h : Nat) : Dev :=
  let s1 := s.jumpTo h (s.hart h).mepc
  s1.setHart h { s1.hart h with mie_ := (s.hart h).mpie, mpie := true }

/-- SYSTEM instructions: ECALL, EBREAK, MRET, WFI and Zicsr (log entry 34: PRESUMED, unsafe). -/
def Dev.systemOp (s : Dev) (h w raw len : Nat) : Dev :=
  if rvF3 w = 0 then
    match w with
    | 0x00000073 => s.except h 11 0
    | 0x00100073 => s.exceptOpen h 3 (s.hart h).pc
    | 0x30200073 => s.mret h
    | 0x10500073 => s.retired h len
    | _ => s.illegalOp h raw
  else if rvF3 w = 4 then s.illegalOp h raw
  else s.csrOp h w raw

/-! ### One instruction -/

/-- A result for rd, or an illegal instruction. -/
def Dev.aluOp (s : Dev) (h w raw len : Nat) (r : Option Nat) : Dev :=
  match r with
  | some v => s.writeRd h (rvRd w) v len
  | none => s.illegalOp h raw

/-- An instruction of the base set in its 32-bit form `w`, `raw` and `len` as fetched; `err` what the read of GDDR6 data meets. -/
def Dev.baseOp (s : Dev) (h w raw len err : Nat) : Dev :=
  let t := s.hart h
  let a := t.reg (rvRs1 w)
  let b := t.reg (rvRs2 w)
  match bits w 6 0 with
  | 0x37 => s.writeRd h (rvRd w) (rvImmU w) len
  | 0x17 => s.writeRd h (rvRd w) (t.pc + rvImmU w) len
  | 0x6F => (s.writeRd h (rvRd w) (t.pc + len) len).setPc h (t.pc + rvImmJ w)
  | 0x67 => if rvF3 w = 0 then (s.writeRd h (rvRd w) (t.pc + len) len).setPc h ((a + rvImmI w) % 2 ^ 64 / 2 * 2) else s.illegalOp h raw
  | 0x63 =>
    match rvBranch (rvF3 w) a b with
    | some true => s.jumpTo h (t.pc + rvImmB w)
    | some false => s.retired h len
    | none => s.illegalOp h raw
  | 0x03 => s.loadOp h w raw len err
  | 0x23 => s.storeOp h w raw len
  | 0x13 => s.aluOp h w raw len (rvOpImm (bits w 31 20) (rvF3 w) a)
  | 0x33 => s.aluOp h w raw len (rvOp (rvF7 w) (rvF3 w) a b)
  | 0x1B => s.aluOp h w raw len (rvOpImmW (bits w 31 20) (rvF3 w) a)
  | 0x3B => s.aluOp h w raw len (rvOpW (rvF7 w) (rvF3 w) a b (rvRs2 w))
  | 0x0F => s.fenceOp h w raw
  | 0x2F => s.atomicOp h w raw err
  | 0x73 => s.systemOp h w raw len
  | _ => s.illegalOp h raw

/-- What a fetch gives: a whole instruction with its length, a fault at an address, or a breakpoint. -/
inductive Fetched where
  | word (raw len : Nat)
  | fault (a : Nat)
  deriving DecidableEq, Repr

/-- The instruction at thread h's pc (R381, R382): its first two bytes, and two more where they ask for them. -/
def Dev.fetch (s : Dev) (h err : Nat) : Fetched × Dev :=
  let pc := (s.hart h).pc
  match s.fetch2 h pc err with
  | (none, s1) => (.fault pc, s1)
  | (some lo, s1) =>
    if lo % 4 ≠ 3 then (.word lo 2, s1)
    else
      match s1.fetch2 h ((pc + 2) % 2 ^ 64) err with
      | (none, s2) => (.fault ((pc + 2) % 2 ^ 64), s2)
      | (some hi, s2) => (.word (lo + hi * 65536) 4, s2)

/-- The thread-extension instruction that a word is (R386): its funct3, for 0 to 6 and funct7 zero. -/
def extOp (raw : Nat) : Option Nat := if raw % 128 = 0x0B ∧ rvF7 raw = 0 ∧ rvF3 raw < 7 then some (rvF3 raw) else none

/-- Thread h issues an instruction of the base set (R380); one of the thread extension is its own command. -/
def Dev.isa (s : Dev) (h fetchErr err : Nat) : Dev :=
  let pc := (s.hart h).pc
  if s.trigFires h 2 pc then s.exceptOpen h 3 pc
  else
    match s.fetch h fetchErr with
    | (.fault a, s1) => s1.except h 1 a
    | (.word raw len, s1) =>
      if len = 2 then
        match expandC raw with
        | some w => s1.baseOp h w raw 2 err
        | none => s1.illegalOp h raw
      else if (extOp raw).isSome then s
      else s1.baseOp h raw raw 4 err

/-- ISA_INSTRUCTION (R380): thread h; `fetchErr` and `err`: what a read of GDDR6 for the fetch and for the data meets (R449, R456). -/
def execIsaInstruction (h fetchErr err : Nat) (s : State) : Res := onMainIf s (s.issues h) (fun s => s.isa h fetchErr err)

end Sys2Proof.Machine
end

