-- ==== Sys2Proof/Machine/Signals.lean ====
section
/-! DEFINITION. References, sideband pins and LEDs (R16, R476 to R493). -/
namespace Sys2Proof.Machine

/-! ### DEVREF (R16) -/

/-- DEVREF_LOSS (R16): holdover begins; the tick goes on. -/
def execDevrefLoss (s : State) : Res :=
  onMainIf s (s.obj Obj.REF_STATE != 1) (fun s =>
    (((s.setObj Obj.REF_STATE 0 1).bump Obj.HOLDOVER_EVENTS).holdover true).clockEvent 1)

/-- DEVREF_RELOCK (R16): DEVREF has returned, or the relock is done and recorded. -/
def execDevrefRelock (done : Bool) (s : State) : Res :=
  onMainIf s (s.obj Obj.REF_STATE != 0) (fun s =>
    if done then ((s.setObj Obj.REF_STATE 0 0).holdover false).clockEvent 2 else s.setObj Obj.REF_STATE 0 2)

/-! ### Sideband lines (R477, R479, R484, R486) -/

/-- A bit of SIDEBAND_STATUS set or cleared. -/
def Dev.sideband (s : Dev) (b : Nat) (on : Bool) : Dev :=
  let v := s.obj Obj.SIDEBAND_STATUS
  s.setObj Obj.SIDEBAND_STATUS 0 (if on then setBit v b else clearBit v b)

/-- Whether SIDEBAND_STATUS has a bit set. -/
def Dev.sideOn (s : Dev) (b : Nat) : Bool := bit (s.obj Obj.SIDEBAND_STATUS) b

/-- Whether bit b of SIDEBAND_STATUS is an open-drain output of the part (R484): the IK9C has no WAKEh_N and CLKREQh_N of links 2 and 3. -/
def openDrain (p : Part) (b : Nat) : Bool := decide (b ≤ 10) && !(p == .ik9c && [5, 6, 9, 10].contains b)

/-- OPEN_DRAIN_STUCK (R484): output b, bits 0 to 10 of SIDEBAND_STATUS, driven low, has read high for 10 µs. -/
def execOpenDrainStuck (b : Nat) (s : State) : Res :=
  always s (fun s => if s.power.vaux && openDrain s.part b && !s.sideOn b && (b != 0 || s.twin.peerFence) && (b != 1 || s.pins.thermtrip) then
    ((s.sideband b true).bump Obj.SIDEBAND_EVENTS).notify 0x10B1 Obj.SIDEBAND_STATUS b
  else s)

/-- STUCK_OUTPUT_CLEAR (R484): output b reads low while driven. -/
def execStuckOutputClear (b : Nat) (s : State) : Res := always s (fun s => if s.power.vaux && decide (b ≤ 10) then s.sideband b false else s)

/-- The bit of a bus in SIDEBAND_STATUS: 18 for the PMBus, 11 for the MCTP bus. -/
def busBit (pmb : Bool) : Nat := if pmb then 18 else 11

/-- BUS_STUCK (R486): a line has been low for 30 ms without the device driving it; the event is raised once. -/
def execBusStuck (pmb : Bool) (s : State) : Res :=
  always s (fun s => if s.power.vaux && !s.sideOn (busBit pmb) then (s.sideband (busBit pmb) true).notify 0x10B3 Obj.SIDEBAND_STATUS (busBit pmb) else s)

/-- BUS_STUCK_CLEAR (R486): both lines have been high for 1 ms. -/
def execBusStuckClear (pmb : Bool) (s : State) : Res := always s (fun s => if s.power.vaux then s.sideband (busBit pmb) false else s)

/-- I3C_TARGET_RESET (R479): only the endpoint's bus interface is reset, which the state has no part of (log entry 5: DESIGN CHOICE, safe). -/
def execI3cTargetReset (s : State) : Res := ok s s.toDev

/-- PMB_ALERT (R477): the VDD_CORE regulator's alert is read into bit 0 of RAIL_STATUS (log entry 27: DESIGN CHOICE, unsafe). -/
def execPmbAlert (s : State) : Res := always s (fun s => if s.power.vaux then s.setObj Obj.RAIL_STATUS 0 (setBit (s.obj Obj.RAIL_STATUS) 0) else s)

/-! ### LEDs (R485) -/

/-- Whether LED i is driven on: by its mode, `phase` being that of a blinking one; off before CONFIG_LOADING. -/
def Dev.ledOn (s : Dev) (i : Nat) (phase : Bool) : Bool :=
  decide (2 ≤ s.obj Obj.READINESS) && (match s.obj Obj.LED_MODE i with | 0 => false | 1 => true | _ => phase)

/-- The result of an LED test by the pin's level: 0 below 0.15 V, 1 below 0.3 of VAUX, 3 above VAUX less 0.3 V, 2 otherwise (*LED tests*). -/
def ledResult (on : Bool) (level : Nat) : Nat :=
  if on then (if level = 0 then 1 else if level = 3 then 3 else 0) else (if level ≤ 1 then 2 else 0)

/-- LED_TEST (R485): the result is reported, and a fault that has held for 100 µs is raised. -/
def execLedTest (i level : Nat) (phase held : Bool) (s : State) : Res :=
  always s (fun s => if s.power.vaux && decide (i < 4) then
    let r := ledResult (s.ledOn i phase) level
    let s1 := s.setObj Obj.LED_STATUS i r
    if r ≠ 0 ∧ held = true then s1.notify 0x10B2 Obj.LED_STATUS i else s1
  else s)

/-! ### Reference clocks (R489) -/

/-- The Ethernet reference is lost for a port (R97, R489): one that was UP has lost lock, one that was aligning trains again. -/
def Dev.etherLost (s : Dev) (p : Nat) : Dev :=
  let x := s.port p
  if s.linkState p = 3 then
    (s.frameDone p [] false true).setPort p { (s.frameDone p [] false true).port p with lossSince := x.lossSince.orElse (fun _ => some s.tick) }
  else if s.linkState p = 2 then s.restartPort p
  else s

/-- ETHREF_ABSENT (R489): no Ethernet or twin-link lane trains. -/
def execEthrefAbsent (s : State) : Res :=
  onMainIf s (!s.sideOn 13) (fun s =>
    let s1 := (s.sideband 13 true).notify 0x10B4 Obj.SIDEBAND_STATUS 13
    let s2 := (List.range s.part.ports).foldl Dev.etherLost s1
    let s3 := { s2 with twin := { s2.twin with downSince := s2.twin.downSince.orElse (fun _ => some s2.tick) } }
    s3.setObj Obj.TWIN_LINK_STATE 0 0)

/-- ETHREF is back (R489): everything resumes; a port that starts without autonegotiation aligns now. -/
def Dev.etherBack (s : Dev) : Dev :=
  (List.range s.part.ports).foldl (fun t p => if t.linkState p = 1 ∧ (t.port p).adv.isNone = true then t.restartPort p else t) (s.sideband 13 false)

/-- ETHREF_RETURN (R489). -/
def execEthrefReturn (s : State) : Res := onMainIf s (s.sideOn 13) Dev.etherBack

end Sys2Proof.Machine
end

