-- ==== Sys2Proof/Machine/Threads.lean ====
section
/-! DEFINITION. The thread extension (R386 to R394), interrupts (R389), stalled cores (R398, R399, R403) and debug (R400, R401). -/
namespace Sys2Proof.Machine

/-! ### Issuing an instruction of the thread extension -/

/-- Thread h issues the thread-extension instruction of funct3 `f`, if that is what stands at its pc; nothing otherwise. `act` gets the word,
the value of rs1 and the value of rs2. -/
def Dev.ext (s : Dev) (h f : Nat) (act : Dev → Nat → Nat → Nat → Dev) : Dev :=
  let t := s.hart h
  if s.trigFires h 2 t.pc then s.exceptOpen h 3 t.pc else
  match s.fetch h 0 with
  | (.word raw 4, s1) => if extOp raw = some f then act s1 raw (t.reg (rvRs1 raw)) (t.reg (rvRs2 raw)) else s
  | _ => s

/-- WAITEV (R387): at once with pending events of the mask, else the thread waits. -/
def Dev.waitev (s : Dev) (h raw a : Nat) : Dev :=
  (s.setHart h { s.hart h with wait := .event (a % 2 ^ 32) (rvRd raw), awake := s.tick }).wakeEval h

/-- WAITEV (R387). -/
def execWaitev (h : Nat) (s : State) : Res := onMainIf s (s.issues h) (fun s => s.ext h 0 (fun t raw a _ => t.waitev h raw a))

/-- SIGEV (R388): an absent target faults; a fenced drawer's thread gets nothing; else the event is on its way. -/
def Dev.sigev (s : Dev) (h target event : Nat) : Dev :=
  if s.part.threads ≤ target then s.except h 7 target
  else if !s.inService (target / 32) then (s.bump Obj.SIGEV_DISCARDED h).retired h 4
  else ({ s with cores := { s.cores with sigs := s.cores.sigs ++ [(h, target, event % 32)] } }).retired h 4

/-- SIGEV (R388). -/
def execSigev (h : Nat) (s : State) : Res := onMainIf s (s.issues h) (fun s => s.ext h 1 (fun t _ a b => t.sigev h a b))

/-- The oldest event on its way from a thread to a target. -/
def Dev.sigFor (s : Dev) (h target : Nat) : Option (Nat × Nat × Nat) :=
  s.cores.sigs.find? (fun x => x.1 == h && x.2.1 == target)

/-- SIGEV_ARRIVE: the oldest event from h to the target becomes pending (R387, R388). -/
def Dev.sigArrive (s : Dev) (h target : Nat) : Dev :=
  match s.sigFor h target with
  | none => s
  | some x =>
    let s1 := { s with cores := { s.cores with sigs := s.cores.sigs.erase x } }
    if s1.inService (target / 32) then s1.event target x.2.2 else s1.bump Obj.SIGEV_DISCARDED h

/-- SIGEV_ARRIVE (R388). -/
def execSigevArrive (h target : Nat) (s : State) : Res := onMainIf s (s.sigFor h target).isSome (fun s => s.sigArrive h target)

/-! ### Channels (R390 to R394) -/

/-- The threads of a core that are blocked receiving on end E: they had an armed outside source in this tick (R398). -/
def Dev.armedNow (s : Dev) (E : Nat) : Dev :=
  ((List.range 8).map (· + 8 * (E / 32))).foldl (fun t h =>
    let x := t.hart h
    if x.receiving (E % 32) then t.setHart h { x with awake := t.tick } else t) s

/-- CHBIND (R390): end e of the thread's core gets a destination; not while a message is open. -/
def Dev.chbind (s : Dev) (h e dest : Nat) : Dev :=
  let E := endOf h e
  let x := s.chan E
  if x.sending.isSome then s.chanFault h E 7
  else
    let s1 := match x.dest with
      | some D => if D / 32 = E / 32 then s else s.armedNow D
      | none => s
    (s1.setChan E { x with dest := some (dest % 2 ^ 13) }).retired h 4

/-- CHBIND (R390). -/
def execChbind (h : Nat) (s : State) : Res := onMainIf s (s.issues h) (fun s => s.ext h 2 (fun t _ a b => t.chbind h a b))

/-- The edges that a channel wait of thread h may last: NCHTMO, and none for 0 (R393). -/
def Hart.limit (t : Hart) : Option Nat := if t.nchtmo = 0 then none else some t.nchtmo

/-- Thread h blocks in a channel instruction (R391 to R393). -/
def Dev.block (s : Dev) (h : Nat) (w : HWait) : Dev :=
  let t := s.hart h
  s.setHart h { t with wait := w, left := t.limit, awake := s.tick }

/-- The destination has gone or its drawer is fenced: the message is closed (*Channel faults*, reason 3). -/
def Dev.noDest (s : Dev) (h E : Nat) : Dev :=
  ((s.withdraw E).setChan E { (s.withdraw E).chan E with sending := none }).chanFault h E 3

/-- CHPUT of a word (R391, *Channel faults*): the first opens a message; the thread blocks until the word is accepted. -/
def Dev.chput (s : Dev) (h e word : Nat) : Dev :=
  let E := endOf h e
  let x := s.chan E
  match x.sending, x.dest with
  | none, none => s.chanFault h E 1
  | none, some D =>
    if s.endPresent D then ((s.setChan E { x with sending := some (D, 0) }).queueAt D E).block h (.put (e % 32) word) else s.noDest h E
  | some (D, n), _ =>
    if 16 ≤ n then s.chanFault h E 2
    else if s.endPresent D then (s.queueAt D E).block h (.put (e % 32) word)
    else s.noDest h E

/-- CHPUT (R391). -/
def execChput (h : Nat) (s : State) : Res := onMainIf s (s.issues h) (fun s => s.ext h 3 (fun t _ a b => t.chput h a b))

/-- CHEND (R391, *Channel faults*): the thread blocks until END is accepted. -/
def Dev.chend (s : Dev) (h e : Nat) : Dev :=
  let E := endOf h e
  let x := s.chan E
  match x.sending, x.dest with
  | none, none => s.chanFault h E 1
  | none, some _ => s.chanFault h E 8
  | some (D, _), _ => if s.endPresent D then (s.queueAt D E).block h (.fin (e % 32)) else s.noDest h E

/-- CHEND (R391). -/
def execChend (h : Nat) (s : State) : Res := onMainIf s (s.issues h) (fun s => s.ext h 6 (fun t _ a _ => t.chend h a))

/-- CHGET or CHTOK (R392): it blocks, and completes at once if a token is there. -/
def Dev.receive (s : Dev) (h e : Nat) (w : HWait) : Dev :=
  let E := endOf h e
  let s1 := s.block h w
  if (s1.chan E).buffer.isEmpty then s1 else s1.takeToken h E w

/-- CHGET (R392). -/
def execChget (h : Nat) (s : State) : Res :=
  onMainIf s (s.issues h) (fun s => s.ext h 4 (fun t raw a _ => t.receive h a (.get (a % 32) (rvRd raw))))

/-- CHTOK (R392). -/
def execChtok (h : Nat) (s : State) : Res :=
  onMainIf s (s.issues h) (fun s => s.ext h 5 (fun t raw a _ => t.receive h a (.tok (a % 32) (rvRd raw))))

/-- Whether a wait is a CHPUT or CHEND on local end e. -/
def HWait.sends (w : HWait) (e : Nat) : Bool :=
  match w with
  | .put e' _ => e' == e
  | .fin e' => e' == e
  | _ => false

/-- The thread blocked sending on end E, the lowest first. -/
def Dev.sender (s : Dev) (E : Nat) : Option Nat :=
  ((List.range 8).map (· + 8 * (E / 32))).find? (fun h => s.hartRuns h && (s.hart h).wait.sends (E % 32))

/-- The token of thread h that blocks on end E is accepted at D, and the instruction completes (R391). -/
def Dev.tokenTaken (s : Dev) (h E D n : Nat) : Dev :=
  match (s.hart h).wait with
  | .put _ word => (((s.setChan E { s.chan E with sending := some (D, n + 1) }).accept D E (.data word)).retired h 4)
  | .fin _ => (((s.setChan E { s.chan E with sending := none }).accept D E .fin).retired h 4)
  | _ => s

/-- CHANNEL_TOKEN_ACCEPT: end E's waiting POISON or token is accepted by its destination, if that has room and takes E's message (R391,
R394); a blocked sender whose destination has gone takes reason 3. -/
def Dev.tokenAccept (s : Dev) (E : Nat) : Dev :=
  match s.poisonDue E with
  | some D => s.accept D E .poison
  | none =>
    match s.sender E, (s.chan E).sending with
    | some h, some (D, n) => if !s.endPresent D then s.noDest h E else if s.accepts D E false then s.tokenTaken h E D n else s
    | _, _ => s

/-- CHANNEL_TOKEN_ACCEPT (R391). -/
def execChannelTokenAccept (E : Nat) (s : State) : Res := onMain s (fun s => s.tokenAccept E)

/-- The channel instruction of thread h is abandoned: nothing is sent or consumed (R393, R399, R401). -/
def Dev.abandon (s : Dev) (h : Nat) : Dev :=
  let t := s.hart h
  let drop (e : Nat) : Dev := if ((s.chan (endOf h e)).sending.map Prod.snd) == some 0 then s.withdraw (endOf h e) else s
  let s1 := match t.wait with
    | .put e _ => drop e
    | .fin e => drop e
    | _ => s
  s1.setHart h { t with wait := .run, left := none, awake := s.tick }

/-- The local end of a channel wait. -/
def HWait.chan? : HWait → Option Nat
  | .put e _ => some e
  | .fin e => some e
  | .get e _ => some e
  | .tok e _ => some e
  | _ => none

/-- Whether the wait limit of thread h is reached (R393). -/
def Dev.timedOut (s : Dev) (h : Nat) : Bool := (s.hart h).left == some 0 && (s.hart h).wait.chan?.isSome && s.hartRuns h

/-- CHANNEL_TIMEOUT: reason 4; the instruction is abandoned and its message stays open (R393). -/
def Dev.channelTimeout (s : Dev) (h : Nat) : Dev :=
  match (s.hart h).wait.chan? with
  | some e => (s.abandon h).chanFault h (endOf h e) 4
  | none => s

/-- CHANNEL_TIMEOUT (R393). -/
def execChannelTimeout (h : Nat) (s : State) : Res := onMainIf s (s.timedOut h) (fun s => s.channelTimeout h)

/-- An edge counts on channel waits, but not those of a core with a halted thread (R393, R401). -/
def Dev.countChannels (s : Dev) : Dev :=
  let halted (h : Nat) : Bool := (List.range 8).any (fun i => (s.hart (h / 8 * 8 + i)).halted)
  { s with cores := { s.cores with
      harts := s.cores.harts.map (fun e => if halted e.1 then e else (e.1, { e.2 with left := e.2.left.map (· - 1) })) } }

/-! ### Interrupts (R389) -/

/-- INTERRUPT_TAKE: thread h traps to its highest enabled pending interrupt before its next instruction. -/
def Dev.takeInt (s : Dev) (h : Nat) : Dev :=
  match s.intNext h with
  | some b => s.setHart h ((s.hart h).trap true b 0 (s.hart h).pc s.tick)
  | none => s

/-- INTERRUPT_TAKE (R389). -/
def execInterruptTake (h : Nat) (s : State) : Res :=
  onMainIf s (s.hartRuns h && (s.hart h).wait == .run && (s.intNext h).isSome) (fun s => s.takeInt h)

/-! ### Stalled cores (R398, R399, R403) -/

/-- Whether thread h is asleep with an armed outside source (R398). -/
def Dev.armed (s : Dev) (h : Nat) : Bool :=
  let t := s.hart h
  match t.wait with
  | .run => true
  | .event mask _ => (mask &&& t.nevext) != 0 || bits t.mie 19 16 != 0
  | .put e _ => (match (s.chan (endOf h e)).sending with | some (D, _) => D / 32 != h / 8 | none => false)
  | .fin e => (match (s.chan (endOf h e)).sending with | some (D, _) => D / 32 != h / 8 | none => false)
  | .get e _ => s.cores.ends.any (fun x => x.1 / 32 != h / 8 && x.2.dest == some (endOf h e))
  | .tok e _ => s.cores.ends.any (fun x => x.1 / 32 != h / 8 && x.2.dest == some (endOf h e))

/-- The stall record last written for core n (R399). -/
def Dev.stallRecord (s : Dev) (n : Nat) : Nat := ofLE (s.windowBytes (n / 4) (0x6800 + 0x10 * (n % 4)) 16)

/-- Whether core n was stalled in the tick that the present edge closed, and this edge has not reported it (R398, R399): none of its threads
was awake in that tick, and none has an armed outside source. -/
def Dev.stalled (s : Dev) (n : Nat) : Bool :=
  decide (1 ≤ s.tick) && (List.range 8).all (fun i =>
    let h := 8 * n + i
    s.hartRuns h && !s.armed h && decide ((s.hart h).awake + 1 < s.tick)) && s.stallRecord n / 2 ^ 64 != s.tick

/-- The stalled core's woken thread goes on (R399). -/
def Dev.stallWake (s : Dev) (h : Nat) : Dev :=
  let t := { s.hart h with mip := setBit (s.hart h).mip 20 }
  let s1 := s.setHart h t
  match t.wait with
  | .event _ rd => s1.writeRd h rd 0 4
  | .run => s1
  | _ => if t.mie_ && bit t.mie 20 then (s1.abandon h).setHart h (((s1.abandon h).hart h).trap true 20 0 t.pc s.tick) else s1

/-- CORE_STALL of core n (R399, R403): logged, counted, notified, and its STALL_WAKE thread woken. -/
def Dev.coreStall (s : Dev) (n : Nat) : Dev :=
  let w (i : Nat) : HWait := (s.hart (8 * n + i)).wait
  let mask (f : HWait → Bool) : Nat := (List.range 8).foldl (fun m i => if f (w i) then m + 2 ^ i else m) 0
  let k := s.obj Obj.STALL_WAKE n
  let r := s.tick % 2 ^ 64 * 2 ^ 64 + n % 65536 * 2 ^ 48 + mask (fun x => x.chan?.isSome) * 2 ^ 40
    + mask (fun x => match x with | .event _ _ => true | _ => false) * 2 ^ 32 + k * 2 ^ 24
  let s1 := ((s.log Obj.STALL_ENTRY 64 r).setWindow (n / 4) (0x6800 + 0x10 * (n % 4)) (leBytes 16 r)).bump Obj.STALLS n
  (s1.notify 0xC001 Obj.STALLS n).stallWake (8 * n + k)

/-- CORE_STALL (R399). -/
def execCoreStall (n : Nat) (s : State) : Res :=
  onMainIf s (s.edgeTodo.contains .stall && s.stalled n) (fun s => s.coreStall n)

/-- Step 1's stall checks at an edge (R24, R399). -/
def Dev.stalls (s : Dev) : Dev :=
  (List.range (4 * s.part.drawers)).foldl (fun t n => if t.stalled n then t.coreStall n else t) s

/-- The channel waits that have reached their limit end at the edge (R393). -/
def Dev.channelEdge (s : Dev) : Dev :=
  s.cores.harts.foldl (fun t e => if t.timedOut e.1 then t.channelTimeout e.1 else t) s

/-- The threads that wait in WAITEV for the tick compare (R387, R389). -/
def Dev.tickWakes (s : Dev) : Dev :=
  s.cores.harts.foldl (fun t e => if bit e.2.mie 17 && decide (e.2.ntickcmp ≤ t.tick) then t.wakeEval e.1 else t) s

/-! ### Debug (R400, R401) -/

/-- Whether the debug module operates: life-cycle states MANUFACTURE and DIAGNOSTIC (R400). -/
def Dev.debugOk (s : Dev) : Bool := s.boot.fuses.lifeCycle == 0 || s.boot.fuses.lifeCycle == 3

/-- DEBUG_HALT (R401): the thread halts with dpc at its next instruction, which is an abandoned WAITEV or channel instruction. -/
def Dev.debugHalt (s : Dev) (h : Nat) : Dev :=
  let s1 := s.abandon h
  let t := s1.hart h
  s1.setHart h { t with halted := true, dpc := t.pc, dcsr := putBits t.dcsr 8 6 3 }

/-- DEBUG_HALT (R401). -/
def execDebugHalt (h : Nat) (s : State) : Res := onMainIf s (s.debugOk && s.hartRuns h) (fun s => s.debugHalt h)

/-- Whether thread h is halted, in a drawer in service. -/
def Dev.inDebug (s : Dev) (h : Nat) : Bool := s.debugOk && s.hasPort h && (s.hart h).halted

/-- DEBUG_RESUME (R401): the thread goes on at dpc. -/
def execDebugResume (h : Nat) (s : State) : Res :=
  onMainIf s (s.inDebug h) (fun s => s.setHart h { s.hart h with halted := false, pc := (s.hart h).dpc, awake := s.tick })

/-- NCHPOISON (R401): a debug write of end number E closes the open message of that end of the halted thread's core with POISON. -/
def execNchpoison (h E : Nat) (s : State) : Res := onMainIf s (s.inDebug h && E / 32 == h / 8) (fun s => s.poisonEnd E)

end Sys2Proof.Machine
end

