-- ==== Sys2Proof/Machine/Twin.lean ====
section
/-! DEFINITION. Twin operation (chapter 18): the twin link and pairing, mirroring, bulk copy, the lease, take-over and switch-over. -/
namespace Sys2Proof.Machine

/-- Whether the twin functions act at all (R429): TWIN_ENABLE, on a main domain that runs. -/
def twinIf (s : State) (c : Bool) (f : Dev → Dev) : Res := onMainIf s (s.flag Obj.TWIN_ENABLE && c) f

/-! ### Self-fences at an edge (R24 step 3, R429, R436) -/

/-- The lease check of an edge, and a self-fence that an exchange has made due (R429, R436). After RELEASE the check is suspended (R443). -/
def Dev.leaseCheck (s : Dev) : Dev :=
  match s.twin.fenceDue with
  | some k => s.enterFenced k
  | none => if s.flag Obj.TWIN_ENABLE && s.obj Obj.ROLE == 1 && !s.twin.released && decide (s.obj Obj.LEASE_DEADLINE ≤ s.tick) then s.enterFenced 2 else s

/-! ### The twin link (R427, R428, R434) -/

/-- TWIN_LINK_UP (R428, R469): in READY the link has trained, unless ETHREF is absent (R489); the identity record is sent. -/
def execTwinLinkUp (s : State) : Res :=
  twinIf s (s.obj Obj.READINESS == 3 && s.twin.downSince.isSome && !bit (s.obj Obj.SIDEBAND_STATUS) 13) (fun s =>
    ({ s with twin := { s.twin with downSince := none } }.setObj Obj.TWIN_LINK_STATE 0 1).sendIdentity)

/-- The counters that go to the peer (R433): of mirrored tables, functions and queues, the counter pairs and the policer counters. -/
def Dev.syncCounters (s : Dev) : List (Nat × Nat × Nat) :=
  s.objs.filterMap (fun e =>
    let oid := e.1 / 2 ^ 32
    let i := e.1 % 2 ^ 32
    let ix := oid / 256
    if ix = 0x4050 ∨ ix = 0x7090 then some (oid, i, e.2)
    else if ix = 0x5000 ∧ 0x0E ≤ oid % 256 ∧ oid % 256 ≤ 0x12 ∧ s.flag Obj.TABLE_MIRROR i = true then some (oid, i, e.2)
    else if (ix = 0x8018 ∨ ix = 0x8068) ∧ s.flag Obj.TWIN_MIRROR i = true then some (oid, s.obj Obj.TWIN_PEER_FUNC i, e.2)
    else if ix = 0x8048 then
      (s.mirroredQueues.find? (fun q => q.2.g == i)).map (fun q => (oid, qkey (s.peerFn q.1) (q.1 % 16384), e.2))
    else none)

/-- The context that mirrors a queue: a work queue's C is its completed-through index X, which the shadow queue would take (R430, R439). -/
def Dev.shadowCtx (s : Dev) (qk : Nat) (q : Queue) : Nat := s.queueCtx qk (if q.type = 3 then q else { q with cons := q.doneThrough })

/-- The bulk copy (R442): the shadow queues, the intents, the entries of mirrored tables and the counters of R433; the bytes to be copied go
first. -/
def Dev.bulkCopy (s : Dev) : Dev :=
  let qs := s.mirroredQueues
  let es := s.mirroredPlaces
  let total := 64 * qs.length + 16 * s.twin.intents.length + es.foldl (fun a e => a + s.emSize e.1) 0
  let s1 := s.mirror (.bulk total)
  let s2 := qs.foldl (fun t e => t.mirror (.create (t.peerFn e.1) (e.1 % 16384) (t.shadowCtx e.1 e.2))) s1
  let s3 := s.twin.intents.foldl (fun t x => t.mirror (.intent x.id x.ns x.slba x.blocks)) s2
  let s4 := es.foldl (fun t e => t.mirror (.item e.1 (t.emView e.2.1 e.2.2).word)) s3
  (s4.mirror (.counters s4.syncCounters)).mirror (.bulk 0)

/-- A switched-over device whose peer has become ACTIVE is STANDBY (R443): its mirrored queues become shadow queues. -/
def Dev.switchedOver (s : Dev) : Dev :=
  let s1 := ({ s with twin := { s.twin with switching := false, released := false, mirroring := false, sent := [], acked := [], renews := [] } }.setRole
    2).setObj Obj.LEASE_DEADLINE 0 0
  let s2 := s1.mirroredQueues.foldl (fun t e =>
    let x := e.2.doneThrough
    let u := t.updQueue e.1 (fun q => { q with st := 4 })
    if e.2.type = 3 then u else { u with twin := { u.twin with done := Tab.ins u.twin.done e.1 (x % 2 ^ 32) } }) s1
  s2.twinLog 8 1

/-- What a good identity record changes (R428, R429, R438, R443). -/
def Dev.identified (s : Dev) (role seq : Nat) (digestOk : Bool) : Dev :=
  let old := s.obj Obj.PEER_ROLE
  let s1 := ((s.setObj Obj.TWIN_LINK_STATE 0 2).setObj Obj.SYNC_FAULT 0 (ofBool (!digestOk))).setObj Obj.PEER_ROLE 0 role
  let s2 := { s1 with twin := { s1.twin with seqSeen := max s1.twin.seqSeen seq, peerFence := s1.twin.peerFence && role != 4 } }
  if s2.obj Obj.ROLE = 1 ∧ s2.twin.released = true ∧ role = 1 then s2.switchedOver
  else if s2.obj Obj.ROLE = 1 ∧ role = 1 ∧ s2.obj Obj.LEASE_SEQ < seq then { s2 with twin := { s2.twin with fenceDue := some 7 } }
  else if s2.obj Obj.ROLE = 0 ∧ role = 1 then s2.discardCopy.setRole 3
  else if s2.obj Obj.ROLE = 1 ∧ (role = 2 ∨ role = 3) then
    let fresh := !s2.twin.mirroring || (role == 3 && old != 3)
    let s3 := { s2 with twin := { s2.twin with mirroring := true, stale := s2.twin.stale && role != 2 } }
    if role = 3 ∧ fresh = true then s3.bulkCopy else s3
  else s2

/-- TWIN_IDENTITY_RECORD (R428): the peer's record. -/
def execTwinIdentityRecord (serial part pair role seq digest : Nat) (s : State) : Res :=
  twinIf s (s.twin.downSince.isNone && (s.obj Obj.TWIN_LINK_STATE == 1 || s.obj Obj.TWIN_LINK_STATE == 2)) (fun s =>
    if serial ≠ s.obj Obj.PEER_SERIAL ∨ part ≠ s.obj Obj.PART_CODE ∨ pair ≠ s.obj Obj.PAIR_ID then
      ((s.releaseSync.setObj Obj.TWIN_LINK_STATE 0 3).bump Obj.WRONG_PEER).twinLog 4 (s.obj Obj.ROLE)
    else s.identified role seq (digest == s.twinDigest))

/-- Whether the oldest synchronous message has gone unacknowledged for MIRROR_ACK_LIMIT (R434). -/
def Dev.ackLate (s : Dev) : Bool := (s.twin.sent.head?).any (fun x => decide (x.1 + s.obj Obj.MIRROR_ACK_LIMIT ≤ s.tick))

/-- The twin link is lost (R434): the active stops mirroring, waits no longer and counts the time it has waited; a standby discards its
copy and is SYNCING. `down`: the link is not UP. -/
def Dev.twinLost (s : Dev) (down : Bool) : Dev :=
  let stall := match s.twin.sent.head? with | some x => s.tick - x.1 | none => 0
  let s1 := if s.mirrors then
      let t := (s.addObj Obj.MIRROR_STALL_TICKS 0 stall).releaseSync
      ({ t with twin := { t.twin with stale := true } }).twinLog 5 1
    else s
  let s2 := if s1.obj Obj.ROLE = 2 ∨ s1.obj Obj.ROLE = 3 then (s1.discardCopy).setObj Obj.ROLE 0 3 else s1
  if down then
    ({ s2 with twin := { s2.twin with downSince := s2.twin.downSince.orElse (fun _ => some s2.tick) } }.setObj Obj.TWIN_LINK_STATE 0 0).setObj Obj.PEER_ROLE 0 0xFF
  else s2

/-- Whether the twin link has not been UP for TWIN_LINK_TIMEOUT ticks (R434); `down` counts the ticks if it was UP till then. -/
def Dev.linkGone (s : Dev) (down : Nat) : Bool :=
  decide (s.obj Obj.TWIN_LINK_TIMEOUT ≤ down) || (s.twin.downSince).any (fun t => decide (t + s.obj Obj.TWIN_LINK_TIMEOUT ≤ s.tick))

/-- Whether an edge finds the twin link lost (R434). -/
def Dev.lossFound (s : Dev) (down : Nat) : Bool :=
  s.flag Obj.TWIN_ENABLE && (s.mirrors || s.obj Obj.TWIN_LINK_STATE != 0 || s.obj Obj.ROLE == 2) && (s.linkGone down || s.ackLate)

/-- TWIN_LINK_LOSS (R434): an edge run by steps finds that the link has not been UP for `down` ticks, or that an acknowledgement is late. -/
def execTwinLinkLoss (down : Nat) (s : State) : Res :=
  onMainIf s (s.edgeTodo.contains .lease && s.lossFound down) (fun s => s.twinLost (s.linkGone down))

/-! ### Mirror messages on the standby (R430 to R433, R442) -/

/-- The object instance that a mirrored counter goes to (R433): a queue's is named by its key. -/
def Dev.counterInst (s : Dev) (oid inst : Nat) : Option Nat :=
  if oid / 256 = 0x8048 then (s.queue? inst).map (fun q => q.g) else some inst

/-- An exact-match entry read from its format (R156). -/
def entryOfWord (w : Nat) : EmEntry :=
  { key := w / 2 ^ 128, action := bits w 127 116, argUse := bits w 115 112, arg := bits w 111 80, stamp := bits w 63 48, gen := bits w 47 32,
    bport := bits w 31 19, hit := bit w 3, static := bit w 2, learned := bit w 1 }

/-- An entry of the bulk copy is installed, current on this device (R442). -/
def Dev.bulkItem (s : Dev) (t w : Nat) : Dev :=
  let e := entryOfWord w
  let e' := { e with gen := s.genFor e.bport e.static }
  match (s.emFind t e.key).map Prod.fst |>.orElse (fun _ => s.emSlotFor t e.key) with
  | some pl => let s1 := s.emWrite t pl e'; if e.learned then s1.bump Obj.LEARNED e.bport else s1
  | none => s

/-- Bytes of the bulk copy have come (R442). -/
def Dev.copied (s : Dev) (n : Nat) : Dev := s.setObj Obj.SYNC_REMAINING 0 (s.obj Obj.SYNC_REMAINING - n)

/-- A mirror message is applied to the copy (R430 to R433, R442). -/
def Dev.applyMirror (s : Dev) (m : MirrorMsg) : Dev :=
  let later (o : EmOp) : Dev := { s with em := { s.em with ops := s.em.ops ++ [(s.tick, o)] } }
  let tw (f : Twin → Twin) : Dev := { s with twin := f s.twin }
  match m with
  | .create n Q ctx => ((s.dropQueue (qkey n Q)).installQueue (qkey n Q) { s.ctxQueue n ctx with st := 4, status := 0 }).copied 64
  | .destroy n Q =>
    let t := s.dropQueue (qkey n Q)
    { t with twin := { t.twin with entries := Tab.del t.twin.entries (qkey n Q), done := Tab.del t.twin.done (qkey n Q) } }
  | .entry n Q w word k x =>
    let t := s.updQueue (qkey n Q) (fun q => { q with prod := q.prod + s.qsub q w q.prod })
    let old := Tab.getD t.twin.entries (qkey n Q) []
    let kept := (old ++ [((w + 2 ^ 32 - 1) % 2 ^ 32, word)]).drop (old.length + 1 - 256)
    { t with twin := { t.twin with entries := Tab.ins t.twin.entries (qkey n Q) kept, done := Tab.ins t.twin.done (qkey n k) x } }
  | .producer n Q v => s.updQueue (qkey n Q) (fun q => { q with prod := q.prod + s.qsub q v q.prod })
  | .release n Q v => s.updQueue (qkey n Q) (fun q => { q with cons := q.cons + s.qsub q v q.cons })
  | .intent id ns slba blocks =>
    (tw (fun t => { t with intents := t.intents.filter (fun x => x.id != id) ++ [{ id := id, ns := ns, slba := slba, blocks := blocks }] })).copied 16
  | .retire id => tw (fun t => { t with intents := t.intents.filter (fun x => x.id != id) })
  | .intentBits _ _ sets clears =>
    s.updSto (fun g => { g with intents := clears.foldl (fun a x => Tab.del a x) (sets.foldl (fun a x => Tab.ins a x s.tick) g.intents) })
  | .command r => later (.mirrored r)
  | .learn t k b => s.emPush (.learn t k b)
  | .move t k b => s.emPush (.move t k b)
  | .remove t k aged => later (.gone t k aged)
  | .counters vals => vals.foldl (fun t v => match t.counterInst v.1 v.2.1 with | some i => t.setObj v.1 i v.2.2 | none => t) s
  | .stamp t k st =>
    (match s.emFind t k with
     | some (pl, e) => s.setEntry pl { e with stamp := st % 65536 }
     | none => s)
  | .item t w => (s.bulkItem t w).copied (s.emSize t)
  | .bulk r => s.setObj Obj.SYNC_REMAINING 0 r

/-- Whether a mirror message is acknowledged (R427, R430 to R432). -/
def mirrorAcked : MirrorMsg → Bool
  | .create _ _ _ => true | .destroy _ _ => true | .entry _ _ _ _ _ _ => true | .intent _ _ _ _ => true | .intentBits _ _ _ _ => true
  | .command _ => true | .learn _ _ _ => true | .move _ _ _ => true
  | .producer _ _ _ => false | .release _ _ _ => false | .retire _ => false | .remove _ _ _ => false | .counters _ => false
  | .stamp _ _ _ => false | .item _ _ => false | .bulk _ => false

/-- MIRROR_MESSAGE (R430): a STANDBY or SYNCING device applies the message to its copy and acknowledges it. -/
def execMirrorMessage (m : MirrorMsg) (s : State) : Res :=
  twinIf s ((s.obj Obj.ROLE == 2 || s.obj Obj.ROLE == 3) && s.obj Obj.TWIN_LINK_STATE == 2) (fun s =>
    let s1 := s.applyMirror m
    if mirrorAcked m then s1.emit .mirrorAck else s1)

/-- MIRROR_ACK (R427): the oldest synchronous message has been acknowledged. -/
def execMirrorAck (s : State) : Res :=
  twinIf s (!s.twin.sent.isEmpty) (fun s =>
    match s.twin.sent with
    | (_, op) :: rest => ({ s with twin := { s.twin with sent := rest } }).syncDone op
    | [] => s)

/-- TWIN_PERIOD_SYNC (R433). -/
def execTwinPeriodSync (s : State) : Res :=
  twinIf s (s.mirrors && decide (s.twin.lastSync + s.obj Obj.TWIN_PERIOD ≤ s.tick)) (fun s =>
    let q := s.quantum
    let s1 := ({ s with twin := { s.twin with lastSync := s.tick } }).mirror (.counters s.syncCounters)
    s.mirroredPlaces.foldl (fun t e => t.mirror (.stamp e.1 e.2.2.key (if (s.emView e.2.1 e.2.2).hit then q else e.2.2.stamp))) s1)

/-- Whether a SYNCING device can leave that role (R428, R442): over an EXCHANGED link, and not while the digests differ. -/
def Dev.maySync (s : Dev) : Bool := s.obj Obj.ROLE == 3 && s.obj Obj.TWIN_LINK_STATE == 2 && s.obj Obj.SYNC_FAULT == 0

/-- BULK_COPY_DONE (R442): nothing is left to copy; the device enters STANDBY at the next edge. -/
def execBulkCopyDone (s : State) : Res :=
  twinIf s s.maySync (fun s => { s.setObj Obj.SYNC_REMAINING 0 0 with twin := { s.twin with standbyDue := true } })

/-- STANDBY is entered at the edge after the bulk copy, with a record of kind 6 and HELLO with ELIGIBLE (R442). -/
def Dev.standbyEdge (s : Dev) : Dev :=
  if s.twin.standbyDue then
    let s1 := { s with twin := { s.twin with standbyDue := false } }
    if s.flag Obj.TWIN_ENABLE && s.maySync then ((s1.setRole 2).twinLog 6 3).hello else s1
  else s

/-! ### The lease (R435, R436) -/

/-- Whether LEASE_RENEW ticks have passed since the last RENEW or HELLO (R436). -/
def Dev.leaseTime (s : Dev) : Bool := s.obj Obj.READINESS == 3 && decide (s.twin.lastSent + s.obj Obj.LEASE_RENEW ≤ s.tick)

/-- LEASE_RENEW (R436): not after RELEASE (R443). -/
def execLeaseRenew (s : State) : Res := twinIf s (s.obj Obj.ROLE == 1 && !s.twin.released && s.leaseTime) (fun s => s.renew s.tick)

/-- LEASE_HELLO (R436). -/
def execLeaseHello (s : State) : Res := twinIf s (s.obj Obj.ROLE != 1 && s.leaseTime) Dev.hello

/-- The deadline of a lease counted from a tick (R436). -/
def Dev.deadline (s : Dev) (t term : Nat) : Nat := t + min term (s.obj Obj.LEASE_TERM)

/-- The lease takes a number and a deadline. -/
def Dev.setLease (s : Dev) (seq d : Nat) : Dev :=
  let s1 := (s.setObj Obj.LEASE_SEQ 0 seq).setObj Obj.LEASE_DEADLINE 0 d
  { s1 with twin := { s1.twin with seqSeen := max s1.twin.seqSeen seq } }

/-- A SOLO device becomes ACTIVE with a lease counted from a tick (R429, R436): forwarding and backend I/O start, and RENEW is sent. -/
def Dev.goActive (s : Dev) (t seq term : Nat) : Dev := (((s.setLease seq (s.deadline t term)).setRole 1).renew s.tick).resumeIo

/-- Whether a session is a Witness's (R435). -/
def Dev.witness (s : Dev) (key : Nat) : Bool := (s.session? key).any (fun ss => ss.who == .witness)

/-- LEASE_GRANT (R436): an answer to the RENEW or HELLO sent in tick t; a stale one, one with another LEASE_SEQ, or one accepted at or after
the deadline changes nothing but that a record has come on its association (R83). -/
def Dev.leaseGrant (s : Dev) (t seq term pair : Nat) : Dev :=
  let s1 := { s with twin := { s.twin with renews := s.twin.renews.filter (fun x => decide (t < x)) } }
  if !(s.flag Obj.TWIN_ENABLE && s.obj Obj.READINESS == 3 && pair == s.obj Obj.PAIR_ID && s.twin.renews.contains t) then s
  else if s.obj Obj.ROLE = 0 then s1.goActive t seq term
  else if s.obj Obj.ROLE = 1 ∧ s.twin.released = false ∧ seq = s.obj Obj.LEASE_SEQ ∧ s.tick < s.obj Obj.LEASE_DEADLINE then
    (s1.setObj Obj.LEASE_DEADLINE 0 (s.deadline t term)).bump Obj.RENEWALS
  else s

/-- LEASE_GRANT (R436). -/
def execLeaseGrant (sess : Sess) (t seq term pair : Nat) (s : State) : Res :=
  onMainIf s (s.witness (sessKey sess)) (fun s => s.onPath (sessKey sess) (fun s => (s.heard (sessKey sess)).leaseGrant t seq term pair))

/-- Whether a TAKEOVER grant is refused (R436). -/
def Dev.grantBad (s : Dev) (pair seq : Nat) : Bool :=
  pair != s.obj Obj.PAIR_ID || decide (seq ≤ s.twin.seqSeen) || !(s.obj Obj.ROLE == 2 || (s.obj Obj.ROLE == 0 && s.flag Obj.TWIN_ENABLE))

/-- A TAKEOVER grant (R436, R439): request `rs` of session `key`, answered with REFUSE, or with GRANT and the start of the take-over. -/
def Dev.takeoverGrant (s : Dev) (key rs pair seq term : Nat) : Dev :=
  if s.obj Obj.READINESS ≠ 3 then s.answerNotReady key rs
  else if s.grantBad pair seq then (s.bump Obj.LEASE_REFUSED).emit (.lease (s.leaseBody 5 s.tick seq false false))
  else
    let s1 := ({ s with twin := { s.twin with seqSeen := max s.twin.seqSeen seq } }).emit (.lease (s.leaseBody 2 s.tick seq false false))
    if s.obj Obj.ROLE = 2 then { s1 with twin := { s1.twin with takeover := some (s.tick + 1, seq, term, false) } }
    else s1.goActive s.tick seq term

/-- LEASE_TAKEOVER_GRANT (R436, R439). -/
def execLeaseTakeoverGrant (sess : Sess) (rs pair seq term : Nat) (s : State) : Res :=
  onMainIf s (s.witness (sessKey sess)) (fun s =>
    s.onPath (sessKey sess) (fun s => (s.heard (sessKey sess)).takeoverGrant (sessKey sess) rs pair seq term))

/-! ### Take-over (R439) -/

/-- The accepted TAKEOVER grant's step at edge E: PEER_FENCE_N low, the lease, and RENEW. -/
def Dev.takeoverStart (s : Dev) (e seq term : Nat) : Dev :=
  let s1 := s.setLease seq (s.deadline (e - 1) term)
  ({ s1 with twin := { s1.twin with peerFence := true, takeover := some (e, seq, term, true) } }).renew s.tick

/-- Step 1 of a take-over where it is due (R439): at the first edge from E on. -/
def Dev.takeoverBegin (s : Dev) : Dev :=
  match s.twin.takeover with
  | some (e, seq, term, false) => if s.obj Obj.ROLE = 2 ∧ e ≤ s.tick then s.takeoverStart e seq term else s
  | _ => s

/-- TAKEOVER_START (R439 step 1): at an edge run by steps. -/
def execTakeoverStart (s : State) : Res := twinIf s (s.edgeTodo.contains .lease) Dev.takeoverBegin

/-- An intent without a retire becomes an unknown piece since tick L (R320, R439). -/
def Dev.intentUnknown (L : Nat) (s : Dev) (x : Intent) : Dev :=
  let i := x.ns - 1
  let slot := s.obj Obj.EXTENT_BASE i + x.slba / max 1 (s.perExtent i)
  let mir := bits (s.obj Obj.EXTENT slot) 1 0 == 1 && bit (s.obj Obj.EXTENT slot) 2
  let s1 := if mir then s.setSync slot 3 else s
  s1.updSto (fun g => { g with unsettled := g.unsettled ++
    [{ slot := slot, slba := x.slba, blocks := x.blocks, nsid := x.ns, ctrl := 0xFFFF, sqid := 0, mirrored := mir, settle := s.settleAt L }] })

/-- A mirrored work queue takes C = X and is READY; a mirrored completion queue rewrites the entries [max(R, W − 256), W) from its copy and is
READY (R439 step 3). -/
def Dev.takeQueue (s : Dev) (qk : Nat) : Dev :=
  match s.queue? qk with
  | none => s
  | some q =>
    if q.type = 3 then
      let lo := q.prod - min 256 (s.qsub q q.prod q.cons)
      let copy := Tab.getD s.twin.entries qk []
      let put (t : Dev) (i : Nat) : Dev :=
        match copy.find? (fun e => e.1 == i % 2 ^ 32) with
        | some e => t.hostWrite (qk / 16384) (q.ring + 32 * (i % q.size)) (leBytes 32 e.2) false
        | none => t
      ((List.range (q.prod - lo)).foldl (fun t i => put t (lo + i)) s).setQstate qk 1 0 false
    else
      let x := Tab.getD s.twin.done qk (q.cons % 2 ^ 32)
      (s.setQueue qk { q with cons := q.cons + s.qsub q x q.cons, jobs := [], held := [], hwTick := s.tick }).setQstate qk 1 0 false

/-- The frame that announces an address: a gratuitous ARP, or an unsolicited Neighbor Advertisement with the override flag (R439). -/
def announceFrame (mac ip : List Nat) : List Nat :=
  let pad (f : List Nat) : List Nat := f ++ List.replicate (60 - f.length) 0
  if ip.take 12 = [0, 0, 0, 0, 0, 0, 0, 0, 0, 0, 255, 255] then
    let a := slice ip 12 4
    pad (List.replicate 6 255 ++ mac ++ [8, 6, 0, 1, 8, 0, 6, 4, 0, 1] ++ mac ++ a ++ List.replicate 6 0 ++ a)
  else
    let a := ip.take 16
    let dst := [255, 2, 0, 0, 0, 0, 0, 0, 0, 0, 0, 0, 0, 0, 0, 1]
    let body (sum : List Nat) : List Nat := [136, 0] ++ sum ++ [32, 0, 0, 0] ++ a ++ [2, 1] ++ mac
    let sum := beBytes 2 (checksum16 (a ++ dst ++ beBytes 4 32 ++ [0, 0, 0, 58] ++ body [0, 0]))
    [51, 51, 0, 0, 0, 1] ++ mac ++ [134, 221, 96, 0, 0, 0, 0, 32, 58, 255] ++ a ++ dst ++ body sum

/-- One announcement for each identity that names a port, on that port while it is UP (R439). -/
def Dev.announceAll (s : Dev) : Dev :=
  (List.range 256).foldl (fun t i =>
    let p := t.obj Obj.IDENT_PORT i
    if p < 32 ∧ t.portUp p = true then
      let f := announceFrame (leBytes 6 (t.obj Obj.IDENT_MAC i)) (leBytes 16 (t.obj Obj.IDENT_IP i))
      ((t.emit (.ethFrame p f false)).bump Obj.TX_FRAMES p).addObj Obj.TX_BYTES p (f.length + 4)
    else t) s

/-- The take-over's step at edge E + FENCE_GUARD, with the restoring of mirrored queues (R439 steps 2 and 3). -/
def Dev.takeoverActivate (s : Dev) (e : Nat) : Dev :=
  let L := e + s.obj Obj.FENCE_GUARD
  let s1 := s.shapedNodes.foldl Dev.shaperReload s
  let s2 := s1.policers.foldl Dev.policerFill s1
  let s3 := s2.twin.intents.foldl (Dev.intentUnknown L) s2
  let s4 := ({ s3 with twin := { s3.twin with takeover := none, intents := [], mirroring := false, announce := some (L, 2) } }).setRole 1
  let qs := s4.mirroredQueues.map Prod.fst
  let s5 := qs.foldl Dev.takeQueue s4
  let s6 := qs.foldl (fun t k => match t.queue? k with | some q => t.ringHeld k q.bells.length | none => t) s5
  let s7 := { s6 with twin := { s6.twin with entries := [], done := [] } }
  (((s7.setObj Obj.LAST_TAKEOVER_TICK 0 L).bump Obj.TAKEOVERS).twinLog 1 2).resumeIo.announceAll

/-- Steps 2 and 3 of a take-over where they are due (R439): at the first edge from E + FENCE_GUARD on. -/
def Dev.takeoverEnd (s : Dev) : Dev :=
  match s.twin.takeover with
  | some (e, _, _, true) => if s.obj Obj.ROLE = 2 ∧ e + s.obj Obj.FENCE_GUARD ≤ s.tick then s.takeoverActivate e else s
  | _ => s

/-- TAKEOVER_ACTIVATE (R439): at an edge run by steps. -/
def execTakeoverActivate (s : State) : Res := twinIf s (s.edgeTodo.contains .lease) Dev.takeoverEnd

/-- What an edge does to the twin (R24 step 3, R434, R436, R439, R442): a lost link is found, STANDBY is entered, a take-over goes on, and the
lease is checked. -/
def Dev.leaseEdge (s : Dev) : Dev :=
  let s1 := if s.lossFound 0 then s.twinLost (s.linkGone 0) else s
  let s2 := s1.standbyEdge
  (if s2.flag Obj.TWIN_ENABLE then s2.takeoverBegin.takeoverEnd else s2).leaseCheck

/-- IDENTITY_ANNOUNCE (R439): 2,048 and 4,096 ticks after the take-over. -/
def execIdentityAnnounce (s : State) : Res :=
  match s.twin.announce with
  | some (t, k) => twinIf s (s.obj Obj.ROLE == 1 && decide (t + 2048 * (3 - k) ≤ s.tick)) (fun s =>
      ({ s with twin := { s.twin with announce := if k ≤ 1 then none else some (t, k - 1) } }).announceAll)
  | none => ok s s.toDev

/-! ### Fencing and switch-over (R438, R443) -/

/-- FENCE_N_ASSERT (R438): the line goes low; `stays` tells whether it is low afterwards. -/
def execFenceNAssert (stays : Bool) (s : State) : Res :=
  always s (fun s =>
    let s1 := { s with twin := { s.twin with fenceN := stays } }
    if s.power.up && s.flag Obj.TWIN_ENABLE && s.obj Obj.ROLE != 4 then s1.enterFenced 3 else s1)

/-- LEASE_RELEASE (R443): every acknowledgement is in; RELEASE is sent, and the lease check is suspended. -/
def execLeaseRelease (s : State) : Res :=
  twinIf s (s.obj Obj.ROLE == 1 && s.twin.switching && !s.twin.released && s.twin.sent.isEmpty) (fun s =>
    ({ s with twin := { s.twin with released := true } }).emit (.lease (s.leaseBody 4 s.tick (s.obj Obj.LEASE_SEQ) false false)))

end Sys2Proof.Machine
end

