-- ==== Sys2Proof/Machine/Edge.lean ====
section
/-! DEFINITION. The tick edge (R15 to R27, R46, R54, R166, R206, R208, R213, R214, R217, R393, R436, R459, R475): a new tick opens, and the
edge work runs in the order of R24, at once or by steps (log entry 4: DESIGN CHOICE, safe). -/
namespace Sys2Proof.Machine

/-! ### Opening a tick (R18, R24, R357) -/

/-- The edge work in the order of R24; what a function's registers have made due comes last. The order within step 1 is the model's: the
spec gives none (log entry 126: DESIGN CHOICE, unsafe). -/
def edgeOrder : List EdgePiece :=
  [.budgets, .fences, .deviceFault, .stall, .overrun, .closeTick, .links, .snapshot, .bureau, .table, .lease, .policer, .shaper, .coarse, .calendar,
   .steal, .sample, .hosts]

/-- Whether a stored value is a counter or a histogram (R22): a read-only U64 object that counts, QSTAT or HISTOGRAM. -/
def isCounter (oid : Nat) : Bool :=
  oid == Obj.QSTAT || oid == Obj.HISTOGRAM || oid == Obj.HOLDOVER_EVENTS || oid == Obj.LEARNED ||
    (match objDef? oid with
     | some d => d.ty == .u64 && d.acc == .ro && decide (oid < 0xF00000) &&
        ! [Obj.LAST_COMMIT_TICK, Obj.READY_TICK, Obj.MEM_RAW_BYTES, Obj.MEM_USABLE_BYTES, Obj.SWAP_TICK, Obj.RESET_VECTOR,
          Obj.TOKEN_NONCE, Obj.LEASE_DEADLINE, Obj.LAST_TAKEOVER_TICK, Obj.SYNC_REMAINING, Obj.SA_SEQ].contains oid
     | none => false)

/-- The counters and histograms as they stand (R22). -/
def Dev.counters (s : Dev) : Tab Nat := s.objs.filter (fun e => isCounter (e.1 / 2 ^ 32))

/-- Which drawers held a waiting parcel in the tick that closes, and which do as the new one opens (R46). -/
def Dev.shiftBusy (s : Dev) : Dev :=
  { s with work := { s.work with
      wasBusy := s.work.busy
      busy := ((s.serviceDrawers.filter (fun d => !(s.queue d).isEmpty)).map (fun d => (d, true))) } }

/-- The ticks of the channels whose controllers are under a bandwidth limit (R457, R459). -/
def Dev.memLimitTicks (s : Dev) : Dev :=
  s.pins.bands.foldl (fun t e =>
    if 2 ≤ e.2 then [0, 1, 2, 3].foldl (fun u k => u.bump Obj.MEM_THROTTLE_TICKS (4 * e.1 + k)) t else t) s

/-- The counters of ticks (R457, R459, R473). -/
def Dev.countTicks (s : Dev) : Dev :=
  let s1 := if s.obj Obj.THROTTLE_LEVEL = 0 then s else s.bump Obj.THROTTLE_TICKS
  s1.memLimitTicks

/-- The next tick opens (R18): the intervals that this edge's tests use (R22, R54), what a snapshot and the steals of this edge see of the
tick that closes (R24), the time bases (R357), channel waits (R393). -/
def Dev.openTick (s : Dev) : Dev :=
  let s1 := (s.countTicks).shiftBusy
  let s2 := { s1 with
    tick := s1.tick + 1, edgeTodo := edgeOrder
    snapDue := if (s1.tick + 1) % max 1 (s1.obj Obj.SNAPSHOT_INTERVAL) = 0 then some s1.counters else none
    work := { s1.work with selfCheck := s1.obj Obj.SELFCHECK_INTERVAL, backlogs := s1.serviceDrawers.map (fun d => (d, s1.inOrder d)) } }
  (s2.tbTick).countChannels.tickWakes

/-! ### Pieces of edge work -/

/-- SNAPSHOT's copy (R22, R24): what stood at the end of the tick that this edge has closed. -/
def Dev.snapshot (s : Dev) : Dev :=
  match s.snapDue with
  | some c => { s with snap := c, snapTick := s.tick, snapDue := none }
  | none => s

/-- Step 2's Bureau commits (R24 to R26), READY (R470), restored images (R293), and a reset that a commit requests (R467). -/
def Dev.bureauEdge (s : Dev) : Dev :=
  let s1 := s.bootEdge.commitEdge.imagesEdge
  match s1.pins.resetDue with
  | some c => if c = 3 then s1.warmReset 3 else s1.coldReset c
  | none => s1

/-- Step 2's table commits (R166), and what waited for them: a restore's keys (R293) and responses (R165). -/
def Dev.tableEdge (s : Dev) : Dev := s.tableCommits.restoreDone.sendReplies.takeViews

/-- What an admin command in progress does at an edge (R268, R270, R272, R287, R291, R294). -/
def Dev.adminStep (s : Dev) (n : Nat) : AdminOp → Dev
  | .create desc => s.createApply n desc
  | .stop qk => s.stopStep n qk
  | .resume t => s.resumeApply n t
  | .freeze t => s.freezeApply n t
  | .thaw t => s.thawApply n t
  | _ => s

/-- What a function's registers have made due (R236, R245, R269, R283). -/
def Dev.functionEdge (s : Dev) (n : Nat) : Dev :=
  let s1 := if (s.fn n).stopDue then s.stopQueues n else s
  let s2 := if (s1.fn n).adminDue then s1.adminApply n else s1
  if !isPf n && (s2.box n).changed then s2.boxStatus n else s2

/-- The Card Indexes to be rewritten: of the functions that changed, and of the parent PFs of VFs that did (R235, R236). -/
def Dev.ciDue (s : Dev) : List Nat :=
  let own := (s.hosts.funcs.filter (fun e => e.2.ciDirty)).map Prod.fst
  let up := (own.filter (fun n => !isPf n)).map s.parentPf
  (own ++ up).eraseDups

/-- Due work of the functions and their admin commands, then the Card Indexes. -/
def Dev.hostsEdge (s : Dev) : Dev :=
  let s1 := s.hosts.funcs.foldl (fun t e => t.functionEdge e.1) s
  let s2 := s1.chainRetry.hosts.admin.foldl (fun t e => t.adminStep e.1 e.2) s1.chainRetry
  s2.ciDue.foldl Dev.ciRewrite s2

/-- A piece of edge work. -/
def Dev.runPiece (s : Dev) : EdgePiece → Dev
  | .budgets => s.matcherBudgets.cipherBudgets
  | .fences => s.fencesEdge
  | .deviceFault => s.faultEdge
  | .overrun => s.overruns
  | .stall => s.stalls
  | .closeTick => s.channelEdge.cipherEdge.intentSend
  | .links => s.linksEdge.throttleEdge.memBandsEdge
  | .snapshot => s.snapshot
  | .bureau => s.bureauEdge
  | .table => s.tableEdge
  | .lease => s.leaseEdge
  | .policer => s.policerTokens
  | .shaper => s.shaperCredit
  | .coarse => s.coarseEmpty
  | .calendar => { s.calendarOpen with sched := { s.calendarOpen.sched with excluded := s.pausedPrios } }
  | .steal => s.workSteal
  | .sample => s.latencySample
  | .hosts => s.hostsEdge

/-- A piece of the present edge's work that is still to be done. -/
def Dev.doPiece (s : Dev) (p : EdgePiece) : Dev :=
  if s.edgeTodo.contains p then ({ s with edgeTodo := s.edgeTodo.filter (· != p) }).runPiece p else s

/-- The present edge's work up to a piece. -/
def Dev.through (s : Dev) (p : EdgePiece) : Dev :=
  ((edgeOrder.takeWhile (· != p)) ++ [p]).foldl Dev.doPiece s

/-- All of the present edge's work that is still to be done. -/
def Dev.finishEdge (s : Dev) : Dev := edgeOrder.foldl Dev.doPiece s

/-- The tick edge (R24): what the last edge has left, the next tick, and, unless by steps, its work. In reset the counter alone counts
(R465, R468). -/
def Dev.tickEdge (s : Dev) (stepwise : Bool) : Dev :=
  if s.power.main && s.power.dclk then
    if s.power.up then
      let s1 := s.finishEdge
      if s1.power.up then
        let s2 := s1.openTick
        if stepwise then s2 else s2.finishEdge
      else s1
    else { s with tick := s.tick + 1 }
  else s

/-! ### Commands -/

/-- TICK_EDGE (R24): `stepwise` leaves the edge work to the commands that follow. -/
def execTickEdge (stepwise : Bool) (s : State) : Res := always s (fun s => s.tickEdge stepwise)

/-- A piece of edge work commanded at an edge run by steps, those before it first. -/
def edgeCmd (s : State) (p : EdgePiece) : Res := onMainIf s (s.edgeTodo.contains p) (fun s => s.through p)

/-- MATCHER_SUSPEND (R23, R43): at an edge run by steps, running job i of drawer d has scanned n bytes more. -/
def execMatcherSuspend (d i n : Nat) (s : State) : Res :=
  onMainIf s (s.edgeTodo.contains .budgets && s.matcherRuns d i) (fun s => s.matcherSuspend d i n)

/-- CIPHER_SUSPEND (R23, R346): at an edge run by steps. -/
def execCipherSuspend (d : Nat) (s : State) : Res :=
  onMainIf s (s.edgeTodo.contains .budgets && s.inService d) (fun s => s.cipherSuspend d)

/-- SNAPSHOT (R22). -/
def execSnapshot (s : State) : Res := edgeCmd s .snapshot

/-- BUREAU_COMMIT_APPLY (R26). -/
def execBureauCommitApply (s : State) : Res := edgeCmd s .bureau

/-- The edge work before the Bureau commits. -/
def Dev.beforeBureau (s : Dev) : Dev := (edgeOrder.takeWhile (· != .bureau)).foldl Dev.doPiece s

/-- The oldest accepted write or transaction that the present edge applies, if it is an RW write (R63, R71). -/
def Dev.rwDue (s : Dev) : Option Accepted :=
  match (s.bureau.accepted.filter (fun a => decide (a.tick < s.tick))).head? with
  | some a => if a.rw then some a else none
  | none => none

/-- RW_WRITE_APPLY: that write is applied alone (R63). -/
def Dev.rwApply (s : Dev) : Dev :=
  let s1 := s.beforeBureau
  match s1.rwDue with
  | some a => (Dev.applyTxn s1.objs (edgeModes s1.part s1.objs [a]) { s1 with bureau := { s1.bureau with accepted := s1.bureau.accepted.erase a } } a).lowEval
  | none => s1

/-- RW_WRITE_APPLY (R63). -/
def execRwWriteApply (s : State) : Res := onMainIf s (s.edgeTodo.contains .bureau) Dev.rwApply

/-- TABLE_COMMIT_APPLY (R166). -/
def execTableCommitApply (s : State) : Res := edgeCmd s .table

/-- LEASE_CHECK (R436). -/
def execLeaseCheck (s : State) : Res := edgeCmd s .lease

/-- POLICER_TOKENS (R214). -/
def execPolicerTokens (s : State) : Res := edgeCmd s .policer

/-- SHAPER_CREDIT (R206). -/
def execShaperCredit (s : State) : Res := edgeCmd s .shaper

/-- COARSE_SLOT_EMPTY (R208). -/
def execCoarseSlotEmpty (s : State) : Res := edgeCmd s .coarse

/-- CALENDAR_SLOT_OPEN (R208). -/
def execCalendarSlotOpen (s : State) : Res := edgeCmd s .calendar

/-- WORK_STEAL (R47). -/
def execWorkSteal (s : State) : Res := edgeCmd s .steal

/-- LATENCY_SAMPLE (R217). -/
def execLatencySample (s : State) : Res := edgeCmd s .sample

end Sys2Proof.Machine
end

