-- ==== Sys2Proof/Machine/Dispatch.lean ====
section
/-! DEFINITION. One arm per command: a direct call of its meaning. -/
namespace Sys2Proof.Machine

def exec (i : Instr) (s : State) : Host.Outcome State Fault Refusal :=
  match i with
  | .tickEdge stepwise => Sys2Proof.Machine.execTickEdge stepwise s
  | .snapshot => Sys2Proof.Machine.execSnapshot s
  | .bureauCommitApply => Sys2Proof.Machine.execBureauCommitApply s
  | .rwWriteApply => Sys2Proof.Machine.execRwWriteApply s
  | .tableCommitApply => Sys2Proof.Machine.execTableCommitApply s
  | .shaperCredit => Sys2Proof.Machine.execShaperCredit s
  | .calendarSlotOpen => Sys2Proof.Machine.execCalendarSlotOpen s
  | .coarseSlotEmpty => Sys2Proof.Machine.execCoarseSlotEmpty s
  | .policerTokens => Sys2Proof.Machine.execPolicerTokens s
  | .workSteal => Sys2Proof.Machine.execWorkSteal s
  | .latencySample => Sys2Proof.Machine.execLatencySample s
  | .leaseCheck => Sys2Proof.Machine.execLeaseCheck s
  | .devrefLoss => Sys2Proof.Machine.execDevrefLoss s
  | .devrefRelock done => Sys2Proof.Machine.execDevrefRelock done s
  | .selfcheck drawers cabinets hub => Sys2Proof.Machine.execSelfcheck drawers cabinets hub s
  | .monitorWatchdog d => Sys2Proof.Machine.execMonitorWatchdog d s
  | .drawerFence d storeError => Sys2Proof.Machine.execDrawerFence d storeError s
  | .frameWriteStart p length head cap => Sys2Proof.Machine.execFrameWriteStart p length head cap s
  | .frameEnd p tail fcsOk => Sys2Proof.Machine.execFrameEnd p tail fcsOk s
  | .parcelCreate h w => Sys2Proof.Machine.execParcelCreate h w s
  | .admissionHoldRelease d => Sys2Proof.Machine.execAdmissionHoldRelease d s
  | .windowStallRelease g => Sys2Proof.Machine.execWindowStallRelease g s
  | .sorterTake d k => Sys2Proof.Machine.execSorterTake d k s
  | .parseExtendResume d k more => Sys2Proof.Machine.execParseExtendResume d k more s
  | .gddr6LookupReturn d k err => Sys2Proof.Machine.execGddr6LookupReturn d k err s
  | .lookupTimeout d k => Sys2Proof.Machine.execLookupTimeout d k s
  | .patternScan d k miss => Sys2Proof.Machine.execPatternScan d k miss s
  | .matcherCacheMissReturn d k err => Sys2Proof.Machine.execMatcherCacheMissReturn d k err s
  | .matcherSuspend d k n => Sys2Proof.Machine.execMatcherSuspend d k n s
  | .dmaMoverResume d => Sys2Proof.Machine.execDmaMoverResume d s
  | .parcelFinish e => Sys2Proof.Machine.execParcelFinish e s
  | .threadOverrunTrap h k => Sys2Proof.Machine.execThreadOverrunTrap h k s
  | .overrunDrop h k => Sys2Proof.Machine.execOverrunDrop h k s
  | .dequeue P => Sys2Proof.Machine.execDequeue P s
  | .transmitComplete P cap => Sys2Proof.Machine.execTransmitComplete P cap s
  | .alloc owner length => Sys2Proof.Machine.execAlloc owner length s
  | .freeChain owner handle => Sys2Proof.Machine.execFreeChain owner handle s
  | .shareChain owner handle n => Sys2Proof.Machine.execShareChain owner handle n s
  | .detach owner handle => Sys2Proof.Machine.execDetach owner handle s
  | .handover owner handle newOwner => Sys2Proof.Machine.execHandover owner handle newOwner s
  | .trainingComplete p => Sys2Proof.Machine.execTrainingComplete p s
  | .trainingFailure p => Sys2Proof.Machine.execTrainingFailure p s
  | .linkRetry p => Sys2Proof.Machine.execLinkRetry p s
  | .alignLock p order => Sys2Proof.Machine.execAlignLock p order s
  | .linkUp p => Sys2Proof.Machine.execLinkUp p s
  | .alignTimeout p mask => Sys2Proof.Machine.execAlignTimeout p mask s
  | .lockLoss p lanes => Sys2Proof.Machine.execLockLoss p lanes s
  | .linkDown p => Sys2Proof.Machine.execLinkDown p s
  | .polarityRetry l => Sys2Proof.Machine.execPolarityRetry l s
  | .fecDegrade p corrected uncorrected => Sys2Proof.Machine.execFecDegrade p corrected uncorrected s
  | .pauseReceive p mask quanta => Sys2Proof.Machine.execPauseReceive p mask quanta s
  | .pauseExpire p q => Sys2Proof.Machine.execPauseExpire p q s
  | .xoffResend p q => Sys2Proof.Machine.execXoffResend p q s
  | .pfcStorm p q => Sys2Proof.Machine.execPfcStorm p q s
  | .pfcStormEnd p q => Sys2Proof.Machine.execPfcStormEnd p q s
  | .mgmtFrameReceive data => Sys2Proof.Machine.execMgmtFrameReceive data s
  | .verifyDone S b => Sys2Proof.Machine.execVerifyDone S b s
  | .bankDrainDone S b => Sys2Proof.Machine.execBankDrainDone S b s
  | .search h rec => Sys2Proof.Machine.execSearch h rec s
  | .insert h rec => Sys2Proof.Machine.execInsert h rec s
  | .delete h rec => Sys2Proof.Machine.execDelete h rec s
  | .nextEntry h rec => Sys2Proof.Machine.execNextEntry h rec s
  | .flushByPort h rec => Sys2Proof.Machine.execFlushByPort h rec s
  | .sweep => Sys2Proof.Machine.execSweep s
  | .xehiborHandshake a anchor => Sys2Proof.Machine.execXehiborHandshake a anchor s
  | .associationClose a alert => Sys2Proof.Machine.execAssociationClose a alert s
  | .readReq sess ver seq count body => Sys2Proof.Machine.execReadReq sess ver seq count body s
  | .writeReq sess ver seq count body => Sys2Proof.Machine.execWriteReq sess ver seq count body s
  | .commitTxn sess ver seq txn => Sys2Proof.Machine.execCommitTxn sess ver seq txn s
  | .abortTxn sess ver seq txn => Sys2Proof.Machine.execAbortTxn sess ver seq txn s
  | .txnIdleTimeout sess => Sys2Proof.Machine.execTxnIdleTimeout sess s
  | .notifyAck sess seq => Sys2Proof.Machine.execNotifyAck sess seq s
  | .notifyResend sess seq => Sys2Proof.Machine.execNotifyResend sess seq s
  | .storeSaveDone => Sys2Proof.Machine.execStoreSaveDone s
  | .perstAssert h => Sys2Proof.Machine.execPerstAssert h s
  | .perstRelease h => Sys2Proof.Machine.execPerstRelease h s
  | .hotReset k => Sys2Proof.Machine.execHotReset k s
  | .dlDown k => Sys2Proof.Machine.execDlDown k s
  | .hostLinkReset k => Sys2Proof.Machine.execHostLinkReset k s
  | .dlActive k status => Sys2Proof.Machine.execDlActive k status s
  | .linkTrainingTimeout k => Sys2Proof.Machine.execLinkTrainingTimeout k s
  | .functionsReady k => Sys2Proof.Machine.execFunctionsReady k s
  | .vfReady n => Sys2Proof.Machine.execVfReady n s
  | .configRequest n reg wr => Sys2Proof.Machine.execConfigRequest n reg wr s
  | .bmeSet n => Sys2Proof.Machine.execBmeSet n s
  | .bmeClear n => Sys2Proof.Machine.execBmeClear n s
  | .initiateFlr n => Sys2Proof.Machine.execInitiateFlr n s
  | .flrComplete n => Sys2Proof.Machine.execFlrComplete n s
  | .vfEnableSet n => Sys2Proof.Machine.execVfEnableSet n s
  | .vfEnableClear n => Sys2Proof.Machine.execVfEnableClear n s
  | .dStateChange n d => Sys2Proof.Machine.execDStateChange n d s
  | .atsInvalidate r => Sys2Proof.Machine.execAtsInvalidate r s
  | .completionTlp k tag bytes status data => Sys2Proof.Machine.execCompletionTlp k tag bytes status data s
  | .completionTimeout k tag => Sys2Proof.Machine.execCompletionTimeout k tag s
  | .tagQuarantineEnd k tag => Sys2Proof.Machine.execTagQuarantineEnd k tag s
  | .wakeEvent frame => Sys2Proof.Machine.execWakeEvent frame s
  | .ciDataRead n => Sys2Proof.Machine.execCiDataRead n s
  | .registerWrite n bar off size wr => Sys2Proof.Machine.execRegisterWrite n bar off size wr s
  | .doorbellValue n page w => Sys2Proof.Machine.execDoorbellValue n page w s
  | .doorbellRefresh n page w => Sys2Proof.Machine.execDoorbellRefresh n page w s
  | .doorbellReleaseArm n page w => Sys2Proof.Machine.execDoorbellReleaseArm n page w s
  | .sendJob n Q desc err frags => Sys2Proof.Machine.execSendJob n Q desc err frags s
  | .receiveDescriptor n Q desc err => Sys2Proof.Machine.execReceiveDescriptor n Q desc err s
  | .completionPost n Q => Sys2Proof.Machine.execCompletionPost n Q s
  | .hwIndexWrite n Q => Sys2Proof.Machine.execHwIndexWrite n Q s
  | .dirtyMark n => Sys2Proof.Machine.execDirtyMark n s
  | .adminEnable n => Sys2Proof.Machine.execAdminEnable n s
  | .adminDisable n => Sys2Proof.Machine.execAdminDisable n s
  | .createQueue n desc => Sys2Proof.Machine.execCreateQueue n desc s
  | .destroyQueue n desc => Sys2Proof.Machine.execDestroyQueue n desc s
  | .queueReset n desc => Sys2Proof.Machine.execQueueReset n desc s
  | .bureauRead n desc input => Sys2Proof.Machine.execBureauRead n desc input s
  | .bureauWrite n desc input => Sys2Proof.Machine.execBureauWrite n desc input s
  | .bureauCommit n desc => Sys2Proof.Machine.execBureauCommit n desc s
  | .functionAbort n desc => Sys2Proof.Machine.execFunctionAbort n desc s
  | .functionAbortDone n => Sys2Proof.Machine.execFunctionAbortDone n s
  | .adminInvalidOpcode n desc => Sys2Proof.Machine.execAdminInvalidOpcode n desc s
  | .quiesceFunction n desc => Sys2Proof.Machine.execQuiesceFunction n desc s
  | .quiesceComplete n => Sys2Proof.Machine.execQuiesceComplete n s
  | .quiesceBound n => Sys2Proof.Machine.execQuiesceBound n s
  | .resumeFunction n desc => Sys2Proof.Machine.execResumeFunction n desc s
  | .freezeState n desc => Sys2Proof.Machine.execFreezeState n desc s
  | .saveState n desc input err => Sys2Proof.Machine.execSaveState n desc input err s
  | .restoreState n desc input => Sys2Proof.Machine.execRestoreState n desc input s
  | .restoreImageApply n => Sys2Proof.Machine.execRestoreImageApply n s
  | .thawState n desc => Sys2Proof.Machine.execThawState n desc s
  | .lbSend n w => Sys2Proof.Machine.execLbSend n w s
  | .lbAck n w => Sys2Proof.Machine.execLbAck n w s
  | .lbTokenRefill n => Sys2Proof.Machine.execLbTokenRefill n s
  | .nvmeSqDoorbell c q v => Sys2Proof.Machine.execNvmeSqDoorbell c q v s
  | .nvmeCqDoorbell c q v => Sys2Proof.Machine.execNvmeCqDoorbell c q v s
  | .nvmeCommandFetch c q sqe => Sys2Proof.Machine.execNvmeCommandFetch c q sqe s
  | .createIoSq c cid => Sys2Proof.Machine.execCreateIoSq c cid s
  | .deleteIoSq c cid => Sys2Proof.Machine.execDeleteIoSq c cid s
  | .createIoCq c cid => Sys2Proof.Machine.execCreateIoCq c cid s
  | .deleteIoCq c cid => Sys2Proof.Machine.execDeleteIoCq c cid s
  | .getLogPage c cid list => Sys2Proof.Machine.execGetLogPage c cid list s
  | .identify c cid list => Sys2Proof.Machine.execIdentify c cid list s
  | .abortCmd c cid => Sys2Proof.Machine.execAbortCmd c cid s
  | .setFeatures c cid => Sys2Proof.Machine.execSetFeatures c cid s
  | .getFeatures c cid => Sys2Proof.Machine.execGetFeatures c cid s
  | .asyncEventRequest c cid => Sys2Proof.Machine.execAsyncEventRequest c cid s
  | .namespaceManagement c cid data => Sys2Proof.Machine.execNamespaceManagement c cid data s
  | .namespaceAttachment c cid cntlids => Sys2Proof.Machine.execNamespaceAttachment c cid cntlids s
  | .thawSq c cid => Sys2Proof.Machine.execThawSq c cid s
  | .thawSqComplete c q => Sys2Proof.Machine.execThawSqComplete c q s
  | .nvmeInvalidOpcode c q cid => Sys2Proof.Machine.execNvmeInvalidOpcode c q cid s
  | .flushCmd c q cid => Sys2Proof.Machine.execFlushCmd c q cid s
  | .nvmWrite c q cid list => Sys2Proof.Machine.execNvmWrite c q cid list s
  | .nvmRead c q cid list => Sys2Proof.Machine.execNvmRead c q cid list s
  | .writeZeroes c q cid => Sys2Proof.Machine.execWriteZeroes c q cid s
  | .datasetManagement c q cid x => Sys2Proof.Machine.execDatasetManagement c q cid x s
  | .backendCompletion b op status data => Sys2Proof.Machine.execBackendCompletion b op status data s
  | .backendPathLoss b => Sys2Proof.Machine.execBackendPathLoss b s
  | .backendLive b dataBytes metaBytes blocks cache atomicBytes boundary => Sys2Proof.Machine.execBackendLive b dataBytes metaBytes blocks cache atomicBytes boundary s
  | .keepAlive b answered => Sys2Proof.Machine.execKeepAlive b answered s
  | .backendCmdTimeout b => Sys2Proof.Machine.execBackendCmdTimeout b s
  | .heldCommandTimeout c q cid => Sys2Proof.Machine.execHeldCommandTimeout c q cid s
  | .pieceSettle => Sys2Proof.Machine.execPieceSettle s
  | .sqFreeze c q => Sys2Proof.Machine.execSqFreeze c q s
  | .resyncStart x => Sys2Proof.Machine.execResyncStart x s
  | .resyncDone x good => Sys2Proof.Machine.execResyncDone x good s
  | .intentClear x => Sys2Proof.Machine.execIntentClear x s
  | .nsDeleteFree k => Sys2Proof.Machine.execNsDeleteFree k s
  | .controllerEnable c => Sys2Proof.Machine.execControllerEnable c s
  | .controllerDisable c => Sys2Proof.Machine.execControllerDisable c s
  | .controllerShutdown c => Sys2Proof.Machine.execControllerShutdown c s
  | .controllerDisableDone c => Sys2Proof.Machine.execControllerDisableDone c s
  | .runCipher h rec fin => Sys2Proof.Machine.execRunCipher h rec fin s
  | .release h rec => Sys2Proof.Machine.execRelease h rec s
  | .cipherParcelJob d k fin => Sys2Proof.Machine.execCipherParcelJob d k fin s
  | .cipherSuspend d => Sys2Proof.Machine.execCipherSuspend d s
  | .keyCacheMissReturn d k err => Sys2Proof.Machine.execKeyCacheMissReturn d k err s
  | .rngWaitTimeout d k => Sys2Proof.Machine.execRngWaitTimeout d k s
  | .drbgReseed d => Sys2Proof.Machine.execDrbgReseed d s
  | .rngFault c => Sys2Proof.Machine.execRngFault c s
  | .rngRecover c => Sys2Proof.Machine.execRngRecover c s
  | .alarmTrip d sensor value => Sys2Proof.Machine.execAlarmTrip d sensor value s
  | .katDone d pass => Sys2Proof.Machine.execKatDone d pass s
  | .setTime h rec => Sys2Proof.Machine.execSetTime h rec s
  | .adjFreq h rec => Sys2Proof.Machine.execAdjFreq h rec s
  | .adjPhase h rec => Sys2Proof.Machine.execAdjPhase h rec s
  | .ppsOutPulse agree => Sys2Proof.Machine.execPpsOutPulse agree s
  | .ppsInEdge cap => Sys2Proof.Machine.execPpsInEdge cap s
  | .ppsInLost => Sys2Proof.Machine.execPpsInLost s
  | .ref10mWindow edges => Sys2Proof.Machine.execRef10mWindow edges s
  | .ref10mLost => Sys2Proof.Machine.execRef10mLost s
  | .isaInstruction h fetchErr err => Sys2Proof.Machine.execIsaInstruction h fetchErr err s
  | .waitev h => Sys2Proof.Machine.execWaitev h s
  | .sigev h => Sys2Proof.Machine.execSigev h s
  | .sigevArrive h target => Sys2Proof.Machine.execSigevArrive h target s
  | .chbind h => Sys2Proof.Machine.execChbind h s
  | .chput h => Sys2Proof.Machine.execChput h s
  | .chend h => Sys2Proof.Machine.execChend h s
  | .chget h => Sys2Proof.Machine.execChget h s
  | .chtok h => Sys2Proof.Machine.execChtok h s
  | .channelTokenAccept e => Sys2Proof.Machine.execChannelTokenAccept e s
  | .channelTimeout h => Sys2Proof.Machine.execChannelTimeout h s
  | .interruptTake h => Sys2Proof.Machine.execInterruptTake h s
  | .coreStall n => Sys2Proof.Machine.execCoreStall n s
  | .takeParcel h => Sys2Proof.Machine.execTakeParcel h s
  | .retire h slot disp => Sys2Proof.Machine.execRetire h slot disp s
  | .yieldSlot h slot => Sys2Proof.Machine.execYieldSlot h slot s
  | .debugHalt h => Sys2Proof.Machine.execDebugHalt h s
  | .debugResume h => Sys2Proof.Machine.execDebugResume h s
  | .nchpoison h e => Sys2Proof.Machine.execNchpoison h e s
  | .coreRelease failed => Sys2Proof.Machine.execCoreRelease failed s
  | .vauxGood straps vauxHigh => Sys2Proof.Machine.execVauxGood straps vauxHigh s
  | .vauxLoss => Sys2Proof.Machine.execVauxLoss s
  | .mainDomainGood => Sys2Proof.Machine.execMainDomainGood s
  | .mainRailLoss => Sys2Proof.Machine.execMainRailLoss s
  | .resetNAssert => Sys2Proof.Machine.execResetNAssert s
  | .resetNRelease => Sys2Proof.Machine.execResetNRelease s
  | .dclkLock => Sys2Proof.Machine.execDclkLock s
  | .sramWipeDone puf => Sys2Proof.Machine.execSramWipeDone puf s
  | .earlySetApply => Sys2Proof.Machine.execEarlySetApply s
  | .memTrainingDone density vddq good ch => Sys2Proof.Machine.execMemTrainingDone density vddq good ch s
  | .memWipeDone => Sys2Proof.Machine.execMemWipeDone s
  | .imageCheckDone => Sys2Proof.Machine.execImageCheckDone s
  | .configLoading => Sys2Proof.Machine.execConfigLoading s
  | .fullLoadDone => Sys2Proof.Machine.execFullLoadDone s
  | .bootWatchdog => Sys2Proof.Machine.execBootWatchdog s
  | .imgEraseDone => Sys2Proof.Machine.execImgEraseDone s
  | .imgProgramDone => Sys2Proof.Machine.execImgProgramDone s
  | .imgCheckDone => Sys2Proof.Machine.execImgCheckDone s
  | .lcTransition => Sys2Proof.Machine.execLcTransition s
  | .avsUpdate target ack => Sys2Proof.Machine.execAvsUpdate target ack s
  | .throttleUpdate temps power => Sys2Proof.Machine.execThrottleUpdate temps power s
  | .thermalTrip => Sys2Proof.Machine.execThermalTrip s
  | .memTempRead c t0 t1 => Sys2Proof.Machine.execMemTempRead c t0 t1 s
  | .patrolScrub addr found => Sys2Proof.Machine.execPatrolScrub addr found s
  | .twinLinkUp => Sys2Proof.Machine.execTwinLinkUp s
  | .twinIdentityRecord serial part pair role seq digest => Sys2Proof.Machine.execTwinIdentityRecord serial part pair role seq digest s
  | .mirrorMessage m => Sys2Proof.Machine.execMirrorMessage m s
  | .mirrorAck => Sys2Proof.Machine.execMirrorAck s
  | .twinLinkLoss down => Sys2Proof.Machine.execTwinLinkLoss down s
  | .twinPeriodSync => Sys2Proof.Machine.execTwinPeriodSync s
  | .bulkCopyDone => Sys2Proof.Machine.execBulkCopyDone s
  | .leaseRenew => Sys2Proof.Machine.execLeaseRenew s
  | .leaseHello => Sys2Proof.Machine.execLeaseHello s
  | .leaseGrant sess t seq term pair => Sys2Proof.Machine.execLeaseGrant sess t seq term pair s
  | .leaseTakeoverGrant sess rs pair seq term => Sys2Proof.Machine.execLeaseTakeoverGrant sess rs pair seq term s
  | .takeoverStart => Sys2Proof.Machine.execTakeoverStart s
  | .takeoverActivate => Sys2Proof.Machine.execTakeoverActivate s
  | .identityAnnounce => Sys2Proof.Machine.execIdentityAnnounce s
  | .fenceNAssert stays => Sys2Proof.Machine.execFenceNAssert stays s
  | .leaseRelease => Sys2Proof.Machine.execLeaseRelease s
  | .openDrainStuck b => Sys2Proof.Machine.execOpenDrainStuck b s
  | .ledTest k level phase held => Sys2Proof.Machine.execLedTest k level phase held s
  | .busStuck pmb => Sys2Proof.Machine.execBusStuck pmb s
  | .i3cTargetReset => Sys2Proof.Machine.execI3cTargetReset s
  | .ethrefAbsent => Sys2Proof.Machine.execEthrefAbsent s
  | .ethrefReturn => Sys2Proof.Machine.execEthrefReturn s
  | .pcieRefclkAbsent h => Sys2Proof.Machine.execPcieRefclkAbsent h s
  | .cabinetFencing c storeError => Sys2Proof.Machine.execCabinetFencing c storeError s
  | .deviceFault cause => Sys2Proof.Machine.execDeviceFault cause s
  | .pcieRefclkReturn h => Sys2Proof.Machine.execPcieRefclkReturn h s
  | .hotPlugInsertion r nvme => Sys2Proof.Machine.execHotPlugInsertion r nvme s
  | .pmeTurnOff k => Sys2Proof.Machine.execPmeTurnOff k s
  | .linkPowerStateChange k power width => Sys2Proof.Machine.execLinkPowerStateChange k power width s
  | .pmbAlert => Sys2Proof.Machine.execPmbAlert s
  | .stuckOutputClear b => Sys2Proof.Machine.execStuckOutputClear b s
  | .busStuckClear pmb => Sys2Proof.Machine.execBusStuckClear pmb s
  | .interruptCoalescingTimer c q => Sys2Proof.Machine.execInterruptCoalescingTimer c q s

end Sys2Proof.Machine
end

