-- ==== Sys2Proof/WellFormed.lean ====
section
/-! DEFINITION. Well-formed commands: unit numbers that some part has, and fields that their registers and records can hold. -/
namespace Sys2Proof

/-- A value of n bits. -/
def fits (n v : Nat) : Bool := decide (v < 2 ^ n)
/-- A hardware thread (R14). -/
def threadNo (h : Nat) : Bool := decide (h < 2048)
/-- A drawer (R14). -/
def drawerNo (d : Nat) : Bool := decide (d < 64)
/-- A cabinet (R14). -/
def cabinetNo (c : Nat) : Bool := decide (c < 4)
/-- An Ethernet port (R2, R91). -/
def portNo (p : Nat) : Bool := decide (p < 32)
/-- An Ethernet lane (R91). -/
def laneNo (l : Nat) : Bool := decide (l < 32)
/-- A host link controller (R220). -/
def linkNo (k : Nat) : Bool := decide (k < 8)
/-- A host function: 64 PFs and 4,096 VFs (R5, R226). -/
def functionNo (n : Nat) : Bool := decide (n < 4160)
/-- A session (R68): an admin queue's function, an association, or the MCTP endpoint. -/
def sessNo : Sess → Bool
  | .admin n => functionNo n
  | .xeh a => decide (a < 16)
  | .mctp => true

/-- Whether a command is well-formed. -/
def Instr.wf : Instr → Bool
  | .tickEdge _ => true
  | .snapshot => true
  | .bureauCommitApply => true
  | .rwWriteApply => true
  | .tableCommitApply => true
  | .shaperCredit => true
  | .calendarSlotOpen => true
  | .coarseSlotEmpty => true
  | .policerTokens => true
  | .workSteal => true
  | .latencySample => true
  | .leaseCheck => true
  | .devrefLoss => true
  | .devrefRelock _ => true
  | .selfcheck drawers cabinets _ => drawers.all drawerNo && cabinets.all cabinetNo
  | .monitorWatchdog d => drawerNo d
  | .drawerFence d _ => drawerNo d
  | .frameWriteStart p length head cap => portNo p && fits 25 length && head.all (fits 8) && fits 76 cap
  | .frameEnd p tail _ => portNo p && tail.all (fits 8)
  | .parcelCreate h w => threadNo h && fits 512 w
  | .admissionHoldRelease d => drawerNo d
  | .windowStallRelease g => fits 16 g
  | .sorterTake d _ => drawerNo d
  | .parseExtendResume d _ more => drawerNo d && more.all (fits 8)
  | .gddr6LookupReturn d _ err => drawerNo d && (err.all (fun e => fits 2 e.1 && fits 48 e.2))
  | .lookupTimeout d _ => drawerNo d
  | .patternScan d _ _ => drawerNo d
  | .matcherCacheMissReturn d _ err => drawerNo d && (err.all (fun e => fits 2 e.1 && fits 48 e.2))
  | .matcherSuspend d _ _ => drawerNo d
  | .dmaMoverResume d => drawerNo d
  | .parcelFinish _ => true
  | .threadOverrunTrap h _ => threadNo h
  | .overrunDrop h _ => threadNo h
  | .dequeue P => decide (P < 48)
  | .transmitComplete P cap => decide (P < 48) && fits 76 cap
  | .alloc owner length => fits 16 owner && fits 25 length
  | .freeChain owner handle => fits 16 owner && fits 32 handle
  | .shareChain owner handle n => fits 16 owner && fits 32 handle && fits 16 n
  | .detach owner handle => fits 16 owner && fits 32 handle
  | .handover owner handle newOwner => fits 16 owner && fits 32 handle && fits 16 newOwner
  | .trainingComplete p => portNo p
  | .trainingFailure p => portNo p
  | .linkRetry p => portNo p
  | .alignLock p order => portNo p && order.all laneNo
  | .linkUp p => portNo p
  | .alignTimeout p mask => portNo p && fits 32 mask
  | .lockLoss p lanes => portNo p && lanes.all laneNo
  | .linkDown p => portNo p
  | .polarityRetry l => laneNo l
  | .fecDegrade p _ _ => portNo p
  | .pauseReceive p mask quanta => portNo p && fits 8 mask && quanta.all (fits 16)
  | .pauseExpire p q => portNo p && fits 3 q
  | .xoffResend p q => portNo p && fits 3 q
  | .pfcStorm p q => portNo p && fits 3 q
  | .pfcStormEnd p q => portNo p && fits 3 q
  | .mgmtFrameReceive data => data.all (fits 8)
  | .verifyDone S b => fits 4 S && fits 1 b
  | .bankDrainDone S b => fits 4 S && fits 1 b
  | .search h rec => threadNo h && fits 2048 rec
  | .insert h rec => threadNo h && fits 2048 rec
  | .delete h rec => threadNo h && fits 2048 rec
  | .nextEntry h rec => threadNo h && fits 2048 rec
  | .flushByPort h rec => threadNo h && fits 2048 rec
  | .sweep => true
  | .xehiborHandshake a _ => fits 4 a
  | .associationClose a _ => fits 4 a
  | .readReq sess ver seq _ body => sessNo sess && fits 16 ver && fits 32 seq && body.all (fits 8)
  | .writeReq sess ver seq _ body => sessNo sess && fits 16 ver && fits 32 seq && body.all (fits 8)
  | .commitTxn sess ver seq txn => sessNo sess && fits 16 ver && fits 32 seq && fits 32 txn
  | .abortTxn sess ver seq txn => sessNo sess && fits 16 ver && fits 32 seq && fits 32 txn
  | .txnIdleTimeout sess => sessNo sess
  | .notifyAck sess seq => sessNo sess && fits 32 seq
  | .notifyResend sess seq => sessNo sess && fits 32 seq
  | .storeSaveDone => true
  | .perstAssert h => decide (h < 4)
  | .perstRelease h => decide (h < 4)
  | .hotReset k => linkNo k
  | .dlDown k => linkNo k
  | .hostLinkReset k => linkNo k
  | .dlActive k _ => linkNo k
  | .linkTrainingTimeout k => linkNo k
  | .functionsReady k => linkNo k
  | .vfReady n => functionNo n
  | .configRequest n _ wr => functionNo n && (wr.all (fits 64))
  | .bmeSet n => functionNo n
  | .bmeClear n => functionNo n
  | .initiateFlr n => functionNo n
  | .flrComplete n => functionNo n
  | .vfEnableSet n => functionNo n
  | .vfEnableClear n => functionNo n
  | .dStateChange n d => functionNo n && fits 3 d
  | .atsInvalidate r => functionNo r.fn && fits 52 r.page && fits 53 r.pages
  | .completionTlp k tag _ _ data => linkNo k && fits 14 tag && data.all (fits 8)
  | .completionTimeout k tag => linkNo k && fits 14 tag
  | .tagQuarantineEnd k tag => linkNo k && fits 14 tag
  | .wakeEvent frame => ((frame.getD []).all (fits 8))
  | .ciDataRead n => functionNo n
  | .registerWrite n _ _ _ wr => functionNo n && (wr.all (fits 64))
  | .doorbellValue n _ w => functionNo n && fits 64 w
  | .doorbellRefresh n _ w => functionNo n && fits 64 w
  | .doorbellReleaseArm n _ w => functionNo n && fits 64 w
  | .sendJob n Q desc _ frags => functionNo n && fits 14 Q && (desc.all (fits 256)) && ((frags.getD []).all (fits 128))
  | .receiveDescriptor n Q desc _ => functionNo n && fits 14 Q && (desc.all (fits 256))
  | .completionPost n Q => functionNo n && fits 14 Q
  | .hwIndexWrite n Q => functionNo n && fits 14 Q
  | .dirtyMark n => functionNo n
  | .adminEnable n => functionNo n
  | .adminDisable n => functionNo n
  | .createQueue n desc => functionNo n && fits 512 desc
  | .destroyQueue n desc => functionNo n && fits 512 desc
  | .queueReset n desc => functionNo n && fits 512 desc
  | .bureauRead n desc input => functionNo n && fits 512 desc && ((input.getD []).all (fits 8))
  | .bureauWrite n desc input => functionNo n && fits 512 desc && ((input.getD []).all (fits 8))
  | .bureauCommit n desc => functionNo n && fits 512 desc
  | .functionAbort n desc => functionNo n && fits 512 desc
  | .functionAbortDone n => functionNo n
  | .adminInvalidOpcode n desc => functionNo n && fits 512 desc
  | .quiesceFunction n desc => functionNo n && fits 512 desc
  | .quiesceComplete n => functionNo n
  | .quiesceBound n => functionNo n
  | .resumeFunction n desc => functionNo n && fits 512 desc
  | .freezeState n desc => functionNo n && fits 512 desc
  | .saveState n desc input err => functionNo n && fits 512 desc && ((input.getD []).all (fits 8)) && (err.all (fun e => fits 2 e.1 && fits 48 e.2))
  | .restoreState n desc input => functionNo n && fits 512 desc && ((input.getD []).all (fits 8))
  | .restoreImageApply n => functionNo n
  | .thawState n desc => functionNo n && fits 512 desc
  | .lbSend n w => functionNo n && fits 64 w
  | .lbAck n w => functionNo n && fits 64 w
  | .lbTokenRefill n => functionNo n
  | .nvmeSqDoorbell c q v => fits 16 c && fits 16 q && fits 32 v
  | .nvmeCqDoorbell c q v => fits 16 c && fits 16 q && fits 32 v
  | .nvmeCommandFetch c q sqe => fits 16 c && fits 16 q && fits 512 sqe
  | .createIoSq c cid => fits 16 c && fits 16 cid
  | .deleteIoSq c cid => fits 16 c && fits 16 cid
  | .createIoCq c cid => fits 16 c && fits 16 cid
  | .deleteIoCq c cid => fits 16 c && fits 16 cid
  | .getLogPage c cid list => fits 16 c && fits 16 cid && list.all (fun l => l.all (fits 128))
  | .identify c cid list => fits 16 c && fits 16 cid && list.all (fun l => l.all (fits 128))
  | .abortCmd c cid => fits 16 c && fits 16 cid
  | .setFeatures c cid => fits 16 c && fits 16 cid
  | .getFeatures c cid => fits 16 c && fits 16 cid
  | .asyncEventRequest c cid => fits 16 c && fits 16 cid
  | .namespaceManagement c cid data => fits 16 c && fits 16 cid && data.all (fits 8)
  | .namespaceAttachment c cid cntlids => fits 16 c && fits 16 cid && cntlids.all (fits 16)
  | .thawSq c cid => fits 16 c && fits 16 cid
  | .thawSqComplete c q => fits 16 c && fits 16 q
  | .nvmeInvalidOpcode c q cid => fits 16 c && fits 16 q && fits 16 cid
  | .flushCmd c q cid => fits 16 c && fits 16 q && fits 16 cid
  | .nvmWrite c q cid list => fits 16 c && fits 16 q && fits 16 cid && list.all (fun l => l.all (fits 128))
  | .nvmRead c q cid list => fits 16 c && fits 16 q && fits 16 cid && list.all (fun l => l.all (fits 128))
  | .writeZeroes c q cid => fits 16 c && fits 16 q && fits 16 cid
  | .datasetManagement c q cid x => fits 16 c && fits 16 q && fits 16 cid && x.list.all (fits 128) && x.ranges.all (fun e => fits 64 e.1 && fits 32 e.2)
  | .backendCompletion b _ _ data => fits 10 b && data.all (fits 8)
  | .backendPathLoss b => fits 10 b
  | .backendLive b _ _ _ _ _ _ => fits 10 b
  | .keepAlive b _ => fits 10 b
  | .backendCmdTimeout b => fits 10 b
  | .heldCommandTimeout c q cid => fits 16 c && fits 16 q && fits 16 cid
  | .pieceSettle => true
  | .sqFreeze c q => fits 16 c && fits 16 q
  | .resyncStart _ => true
  | .resyncDone _ _ => true
  | .intentClear _ => true
  | .nsDeleteFree _ => true
  | .controllerEnable c => fits 16 c
  | .controllerDisable c => fits 16 c
  | .controllerShutdown c => fits 16 c
  | .controllerDisableDone c => fits 16 c
  | .runCipher h rec _ => threadNo h && fits 512 rec
  | .release h rec => threadNo h && fits 512 rec
  | .cipherParcelJob d _ _ => drawerNo d
  | .cipherSuspend d => drawerNo d
  | .keyCacheMissReturn d _ err => drawerNo d && (err.all (fun e => fits 2 e.1 && fits 48 e.2))
  | .rngWaitTimeout d _ => drawerNo d
  | .drbgReseed d => drawerNo d
  | .rngFault c => cabinetNo c
  | .rngRecover c => cabinetNo c
  | .alarmTrip d _ _ => drawerNo d
  | .katDone d _ => drawerNo d
  | .setTime h rec => threadNo h && fits 256 rec
  | .adjFreq h rec => threadNo h && fits 256 rec
  | .adjPhase h rec => threadNo h && fits 256 rec
  | .ppsOutPulse _ => true
  | .ppsInEdge cap => fits 76 cap
  | .ppsInLost => true
  | .ref10mWindow _ => true
  | .ref10mLost => true
  | .isaInstruction h _ _ => threadNo h
  | .waitev h => threadNo h
  | .sigev h => threadNo h
  | .sigevArrive h target => threadNo h && threadNo target
  | .chbind h => threadNo h
  | .chput h => threadNo h
  | .chend h => threadNo h
  | .chget h => threadNo h
  | .chtok h => threadNo h
  | .channelTokenAccept e => fits 13 e
  | .channelTimeout h => threadNo h
  | .interruptTake h => threadNo h
  | .coreStall n => fits 8 n
  | .takeParcel h => threadNo h
  | .retire h slot disp => threadNo h && fits 2 slot && fits 3 disp
  | .yieldSlot h slot => threadNo h && fits 2 slot
  | .debugHalt h => threadNo h
  | .debugResume h => threadNo h
  | .nchpoison h e => threadNo h && fits 13 e
  | .coreRelease failed => failed.all drawerNo
  | .vauxGood straps _ => fits 4 straps
  | .vauxLoss => true
  | .mainDomainGood => true
  | .mainRailLoss => true
  | .resetNAssert => true
  | .resetNRelease => true
  | .dclkLock => true
  | .sramWipeDone _ => true
  | .earlySetApply => true
  | .memTrainingDone _ _ _ _ => true
  | .memWipeDone => true
  | .imageCheckDone => true
  | .configLoading => true
  | .fullLoadDone => true
  | .bootWatchdog => true
  | .imgEraseDone => true
  | .imgProgramDone => true
  | .imgCheckDone => true
  | .lcTransition => true
  | .avsUpdate target _ => fits 16 target
  | .throttleUpdate _ _ => true
  | .thermalTrip => true
  | .memTempRead c _ _ => fits 4 c
  | .patrolScrub addr _ => fits 48 addr
  | .twinLinkUp => true
  | .twinIdentityRecord _ _ pair _ seq digest => fits 32 pair && fits 32 seq && fits 32 digest
  | .mirrorMessage _ => true
  | .mirrorAck => true
  | .twinLinkLoss _ => true
  | .twinPeriodSync => true
  | .bulkCopyDone => true
  | .leaseRenew => true
  | .leaseHello => true
  | .leaseGrant sess _ seq term pair => sessNo sess && fits 32 seq && fits 64 term && fits 32 pair
  | .leaseTakeoverGrant sess _ pair seq term => sessNo sess && fits 32 pair && fits 32 seq && fits 64 term
  | .takeoverStart => true
  | .takeoverActivate => true
  | .identityAnnounce => true
  | .fenceNAssert _ => true
  | .leaseRelease => true
  | .openDrainStuck b => fits 8 b
  | .ledTest _ _ _ _ => true
  | .busStuck _ => true
  | .i3cTargetReset => true
  | .ethrefAbsent => true
  | .ethrefReturn => true
  | .pcieRefclkAbsent h => decide (h < 4)
  | .cabinetFencing c _ => cabinetNo c
  | .deviceFault _ => true
  | .pcieRefclkReturn h => decide (h < 4)
  | .hotPlugInsertion _ _ => true
  | .pmeTurnOff k => linkNo k
  | .linkPowerStateChange k _ _ => linkNo k
  | .pmbAlert => true
  | .stuckOutputClear b => fits 8 b
  | .busStuckClear _ => true
  | .interruptCoalescingTimer c q => fits 16 c && fits 16 q

end Sys2Proof
end

