-- ==== Sys2Proof/Safety.lean ====
section
/-! DEFINITION. What counts as a safe state and a safe step, in the terms the statements use. -/
namespace Sys2Proof.Machine
open Sys2Proof

/-- The invariant of the block: the outputs are what the device drives in its present state (R108, R469, R485, R500), every waiting command
is well-formed, and memory is listed in its canonical form. -/
def Inv (s : State) : Prop := s.outs = s.toDev.driven ∧ (∀ c ∈ s.pending, c.wf = true) ∧ Memory.wf s.mem = true

/-- A step is safe when it gives a next state. -/
def SafeStep (s : State) : Prop := ∃ t : State, step s = .next t

/-- The commands the auxiliary domain takes part in (R463, R469, R477, R483 to R486): every other command is the main domain's. -/
def auxiliary : Instr → Bool
  | .tickEdge _ | .readReq .. | .writeReq .. | .commitTxn .. | .abortTxn .. | .notifyAck .. | .perstAssert _ | .perstRelease _ | .wakeEvent _
  | .vauxGood .. | .vauxLoss | .mainDomainGood | .mainRailLoss | .resetNAssert | .resetNRelease | .dclkLock | .lcTransition | .thermalTrip
  | .fenceNAssert _ | .openDrainStuck _ | .stuckOutputClear _ | .ledTest .. | .busStuck _ | .busStuckClear _ | .i3cTargetReset | .pmbAlert => true
  | _ => false

/-- The device once the read of an admin descriptor has returned its tag and the command is the queue's job (R240, R270); where no tag is
free, the device with that read waiting. -/
def Dev.adminTaken (s : Dev) (n desc : Nat) : Dev :=
  match s.slotAsk n (s.adminAddr n) 32 (.slot (qkey n 0)) with
  | (some t, s1) => (s1.returnTag (s1.linkOf n) t).adminRead n desc
  | (none, s1) => s1

/-- An admin command of function n can start with a descriptor whose OPCODE is `op` and whose buffers are legal, a tag is free for its read,
and n may issue it (R240, R270, R271). -/
abbrev adminStarts (s : State) (n desc op : Nat) (manager : Bool) : Prop :=
  s.power.up = true ∧ s.adminReady n = true ∧ adminOp desc = op ∧ (s.slotAsk n (s.adminAddr n) 32 (.slot (qkey n 0))).1.isSome = true ∧ adminDescOk desc = true ∧
    (manager = true → isPf n = true)

/-- The commands that change the byte-addressed memories `mem` (R33, R381, R415, R451, R453, R395); but for them and for the edge work of
`runsBureau`, every command leaves them. -/
def writesMemory : Instr → Bool
  | .vauxLoss | .isaInstruction .. | .takeParcel _ | .memWipeDone | .imageCheckDone | .sramWipeDone _ => true
  | _ => false

/-- The commands that do the edge work of the Bureau, and with it, at the edge of a core release, write the hand-over record of stage 1
(R24, R410). -/
def runsBureau : Instr → Bool
  | .tickEdge _ | .bureauCommitApply | .tableCommitApply | .leaseCheck | .policerTokens | .shaperCredit | .coarseSlotEmpty
  | .calendarSlotOpen | .workSteal | .latencySample => true
  | _ => false

/-- What a refused buffer operation x from state s leaves (R191): its status, the shelves as they were, and one more record in the buffer
error log. -/
def bufRefused (s : Dev) (status : Nat) (x : BufRes × Dev) : Prop :=
  x.1.status = status ∧ x.2.shelves = s.shelves ∧ x.2.obj Obj.BUFFER_ERROR_COUNT = (s.obj Obj.BUFFER_ERROR_COUNT + 1) % 2 ^ 64

end Sys2Proof.Machine
end

