-- ==== Sys2Proof/Certificates/Slice0/Obligations.lean ====
section
/-! DEFINITION. The statements for the provers, each with the rules of spec/ it rests on. The statements `Completes…` say, for every command,
where it completes: their hypotheses are on the state and the operands alone, and their conclusion is that `exec` answers the next state. -/
open Sys2Proof Sys2Proof.Machine

/-- A step runs the command at the front of the queue. For every state whose queue begins with a command c, step at that state is exec of c at
the same state with the rest of the queue. The queue is the model's own (it stands for the order in which commands reach the block).
Derived from 01_architecture.md. -/
def Obligations.StepRunsTheFrontCommand : Prop := ∀ (s : State) (c : Instr) (rest : List Instr),
  s.pending = c :: rest → step s = exec c { s with pending := rest }

/-- With no command waiting the block idles (the model's choice, log entry 3: DESIGN CHOICE, safe). With an empty queue a step leaves the
state as it is. This is the model's choice (log entry 3: DESIGN CHOICE, safe): time passes by the commands TICK_EDGE alone. Derived from
01_architecture.md. -/
def Obligations.EmptyQueueIdles : Prop := ∀ s : State, s.pending = [] → step s = .next s

/-- The invariant holds right after reset. At State.reset the outputs are what the device drives in that state, every waiting command is well-
formed (none waits), and memory is in canonical form. Derived from 17_boot_lifecycle.md, 20_power_startup.md, 21_signals_electrical.md. -/
def Obligations.InvHoldsAtReset : Prop := Inv State.reset

/-- Every step keeps the invariant. From every state in which the outputs are what the device drives (R108, R469, R485, R500), every waiting
command is well-formed and memory is in canonical form, a step that answers a next state answers one in which all three hold again,
whichever of the 264 commands it runs. Derived from 04_ethernet_ports.md, 20_power_startup.md, 21_signals_electrical.md,
22_faults_recovery.md, 19_attached_memory.md. -/
def Obligations.StepKeepsInv : Prop := ∀ s t : State, Inv s → step s = .next t → Inv t

/-- Every step answers a next state and takes one command from the front. From every state a step answers a next state (no fault, no refusal),
and the next state's queue is the old one without its first command: no command adds to the queue or removes another. Derived from
01_architecture.md. -/
def Obligations.QueueRunsFirstInFirstOut : Prop := ∀ s : State, SafeStep s ∧ ∀ t : State, step s = .next t → t.pending = s.pending.drop 1

/-- Every command answers a next state from every state. For each of the 264 commands and every state, exec answers a next state, made from
some device state by driving the outputs from it and keeping the queue. No command faults or refuses. What the next state is, the
completion statements say command by command. Derived from 00_scope.md, 98_reader.md. -/
def Obligations.EveryCommandCompletes : Prop := ∀ (c : Instr) (s : State), ∃ d : Dev, exec c s = .next (s.after d)

/-- Without the main domain only the auxiliary commands have an effect. While the main domain is in reset, unpowered or without a locked DCLK,
every command but those of the auxiliary domain leaves the device as it is (R463, R465, R468 to R470). That such a command is discarded,
not kept, is the model's choice (log entry 5: DESIGN CHOICE, safe). Derived from 20_power_startup.md, 21_signals_electrical.md. -/
def Obligations.MainDomainDownNoEffect : Prop := ∀ (c : Instr) (s : State),
  s.power.up = false → auxiliary c = false → exec c s = .next (s.after s.toDev)

/-- After every command the outputs are those of the new state. Every command answers a next state whose LEDs are off in AUX_ONLY and BOOTING
and follow LED_MODE from CONFIG_LOADING on (R485), whose management transmitter is on from CONFIG_LOADING on (R108, R469), and whose
Ethernet transmitters are in electrical idle outside READY, after a device fault (R500) and where the port is DISABLED (R97), and are on
otherwise. That the outputs follow at once is the model's choice (log entry 36: DESIGN CHOICE, unsafe). Derived from 04_ethernet_ports.md,
20_power_startup.md, 21_signals_electrical.md, 22_faults_recovery.md. -/
def Obligations.OutputsFollowTheState : Prop := ∀ (c : Instr) (s : State), ∃ t : State, exec c s = .next t ∧
  (t.obj Obj.READINESS < 2 → t.outs.leds = [0, 0, 0, 0]) ∧
  (2 ≤ t.obj Obj.READINESS → t.outs.leds = [t.obj Obj.LED_MODE 0, t.obj Obj.LED_MODE 1, t.obj Obj.LED_MODE 2, t.obj Obj.LED_MODE 3]) ∧
  t.outs.mgmtTx = decide (2 ≤ t.obj Obj.READINESS) ∧
  (t.obj Obj.DEVICE_FAULT ≠ 0 → t.outs.ethTx = List.replicate 32 false) ∧
  (t.obj Obj.READINESS ≠ 3 → t.outs.ethTx = List.replicate 32 false) ∧
  (t.obj Obj.DEVICE_FAULT = 0 → t.obj Obj.READINESS = 3 → ∀ p : Nat, p < 32 → t.outs.ethTx[p]? = some (decide (t.obj Obj.LINK_STATE_2000 p ≠ 0)))

/-- The tick counter moves only by one at a tick edge and to zero at the lock of DCLK. Whatever command runs from whatever state: a tick edge
raises the counter by one (when DCLK runs and finishing the edge before did not take the domain down), the first lock of DCLK sets it to
zero, and every other command - resets, FLR, FUNCTION_ABORT, queue resets, fencing, role changes, corrections of time bases - leaves it
unchanged. The part never changes. States R18. -/
def Obligations.TickRule : Prop := ∀ (c : Instr) (s t : State), exec c s = .next t →
  (∀ b : Bool, c = .tickEdge b → t.tick =
    if s.power.main && s.power.dclk && (!s.power.up || s.finishEdge.power.up) then s.tick + 1 else s.tick) ∧
  (c = .dclkLock → t.tick = if s.power.main && !s.power.dclk then 0 else s.tick) ∧
  ((∀ b : Bool, c ≠ .tickEdge b) → c ≠ .dclkLock → t.tick = s.tick) ∧
  t.part = s.part

/-- Six commands and the Bureau's edge work alone change the byte-addressed memories. Every command but VAUX_LOSS, ISA_INSTRUCTION, TAKE,
MEM_WIPE_DONE, IMAGE_CHECK_DONE, SRAM_WIPE_DONE and the ten that do the edge work of the Bureau leaves the drawer stores, cabinet stores,
packet buffer and GDDR6 as they are: the memory of the next state is the memory before, so every byte reads as before. Those ten
(TICK_EDGE, BUREAU_COMMIT_APPLY, TABLE_COMMIT_APPLY, LEASE_CHECK, POLICER_TOKENS, SHAPER_CREDIT, COARSE_SLOT_EMPTY, CALENDAR_SLOT_OPEN,
WORK_STEAL, LATENCY_SAMPLE) leave every byte but the 64 of the hand-over record that a core release writes at an edge (R410). (Data of
buffer chains are held with the chains.) Derived from 01_architecture.md, 16_nirah_cores.md, 17_boot_lifecycle.md, 19_attached_memory.md. -/
def Obligations.MemoryFrame : Prop := ∀ (c : Instr) (s t : State), exec c s = .next t →
  (writesMemory c = false → runsBureau c = false → t.mem = s.mem ∧ ∀ a : Nat, t.byte a = s.byte a) ∧
  (runsBureau c = true → ∀ a : Nat, (a < stagingBase ∨ stagingBase + 64 ≤ a) → t.byte a = s.byte a)

/-- A cold reset sets the compatibility level from the strap. After the cold reset that VAUX begins, and after the one that a life-cycle
transition begins, COMPAT_LEVEL is 7 when the strap COMPAT_IK7 (bit 0 of the straps operand) is high and 9 otherwise. States R7. -/
def Obligations.ColdResetSamplesTheCompatibilityStrap : Prop := ∀ s : State,
  (∀ (straps : Nat) (high : Bool), s.power.vaux = false →
    ∃ t : State, exec (.vauxGood straps high) s = .next t ∧ t.obj Obj.COMPAT_LEVEL = if straps % 2 = 1 then 7 else 9) ∧
  (∀ w : Nat, s.power.vaux = true → s.boot.accepted = some w →
    ∃ t : State, exec .lcTransition s = .next t ∧ t.obj Obj.COMPAT_LEVEL = if s.pins.straps % 2 = 1 then 7 else 9)

/-- TICK_COUNT and TB_NOW read the present values. A read of TICK_COUNT serves the value of the tick counter in the present tick, and a read
of TB_NOW[e] the value of time base e at the edge of the present tick. States R21, R358. -/
def Obligations.TickAndTimeAreReadAsServed : Prop := ∀ (s : Dev),
  s.readObj Obj.TICK_COUNT 0 = s.tick % 2 ^ 64 ∧ ∀ e : Nat, s.readObj Obj.TB_NOW e = time96 (s.tb e).val % 2 ^ 96

/-- A producer doorbell is good or an overrun. For a work or admin queue in READY whose function is up: a producer doorbell with value v takes
effect as R258 says. If (v - P) mod 2^32 is at most size - (P - C) mod 2^32 then P becomes v and the queue stays READY; otherwise the
queue is FROZEN with QSTATUS 0x20 and P keeps its value. C is unchanged in both cases. States R258. -/
def Obligations.ProducerDoorbellOutcomes : Prop := ∀ (s : State) (n page w : Nat) (q : Queue),
  s.power.up = true → s.barUp n = true → bits w 31 24 = 1 → s.badBell n page w = false → s.queue? (qkey n (w % 16384)) = some q →
  q.type ≠ 3 → q.st = 1 → q.refreshing = false → (s.fn n).quiesce = none → s.obj Obj.READINESS = 3 → s.level7 = false →
    ∃ t : State, exec (.doorbellValue n page w) s = .next t ∧ ∃ r : Queue, t.queue? (qkey n (w % 16384)) = some r ∧
      (if (w / 2 ^ 32 % 2 ^ 32 + 2 ^ 32 - q.prod % 2 ^ 32) % 2 ^ 32 ≤ q.size - (q.prod % 2 ^ 32 + 2 ^ 32 - q.cons % 2 ^ 32) % 2 ^ 32
       then r.prod % 2 ^ 32 = w / 2 ^ 32 % 2 ^ 32 ∧ r.st = 1 ∧ r.cons = q.cons
       else r.prod = q.prod ∧ r.st = 2 ∧ r.status = 0x20 ∧ r.cons = q.cons)

/-- Only control owners allocate below the reserve floor. The floor that binds an owner on a shelf is 0 if its OWNER_CONTROL bit is 1 and the
shelf's floor otherwise; by default the bit is 1 for owners 0xFFF0 to 0xFFF2 alone. States R184. -/
def Obligations.ControlOwnersAlonePassTheFloor : Prop :=
  (∀ (s : Dev) (owner f : Nat), s.floorFor owner f = if s.flag Obj.OWNER_CONTROL owner = true then 0 else s.shelfFloor f) ∧
  (∀ (p : Part) (owner : Nat), dfltOf p Obj.OWNER_CONTROL owner = if 0xFFF0 ≤ owner ∧ owner ≤ 0xFFF2 then 1 else 0)

/-- SET of a time base. A SET with value V and tick A to a time base in ARMED state, at edge E: if A is at most E and at least E - 2^20 the
base reads V + (E - A) x 512 ns, its slew is discarded, FREQ is unchanged, the base enters FREQ_ONLY and no other base changes; if A is
later than E or earlier than E - 2^20 it is refused with 0x01 and nothing changes. States R360. -/
def Obligations.SetTimeBase : Prop := ∀ (s : Dev) (e v : Nat), s.obj Obj.TB_STATE e = 0 →
  let A := v / 2 ^ 96 % 2 ^ 64
  (A ≤ s.tick → s.tick ≤ A + 2 ^ 20 →
    (s.tbSet e v).1 = 0 ∧
    ((s.tbSet e v).2.tb e).val = ofTime96 (v % 2 ^ 96) + (((s.tick - A) * 512 * nsUnit : Nat) : Int) ∧
    ((s.tbSet e v).2.tb e).slew = 0 ∧ ((s.tbSet e v).2.tb e).freq = (s.tb e).freq ∧
    (s.tbSet e v).2.obj Obj.TB_STATE e = 1 ∧
    ∀ x : Nat, x ≠ e → (s.tbSet e v).2.tb x = s.tb x) ∧
  (s.tick < A ∨ A + 2 ^ 20 < s.tick → s.tbSet e v = (1, s))

/-- ADJ_FREQ and ADJ_PHASE of a time base. ADJ_FREQ replaces FREQ and leaves the value and the slew. ADJ_PHASE adds its value to the remaining
slew and leaves the value and FREQ, unless the sum would exceed JUMP_THRESHOLD in magnitude: then it is refused with 0x01, REFUSALS counts
it and the time base is as before. The operations take the value as clamped when it was accepted (R361 to R363). Derived from
15_postmark.md. -/
def Obligations.AdjustTimeBase : Prop := ∀ (s : Dev) (e v : Nat),
  (∀ c : Bool, ((s.tbFreq e v c).tb e).freq = toSigned 64 v ∧ ((s.tbFreq e v c).tb e).val = (s.tb e).val ∧
    ((s.tbFreq e v c).tb e).slew = (s.tb e).slew) ∧
  (let left : Rat := (s.tb e).slew + (toSigned 64 v : Rat) / 65536
   if (s.obj Obj.JUMP_THRESHOLD e : Rat) < left ∨ left < -(s.obj Obj.JUMP_THRESHOLD e : Rat)
   then (s.tbPhase e v).1 = 1 ∧ (s.tbPhase e v).2.tb e = s.tb e ∧
     (s.tbPhase e v).2.obj Obj.REFUSALS e = (s.obj Obj.REFUSALS e + 1) % 2 ^ 64
   else (s.tbPhase e v).1 = 0 ∧ ((s.tbPhase e v).2.tb e).slew = left ∧ ((s.tbPhase e v).2.tb e).val = (s.tb e).val ∧
     ((s.tbPhase e v).2.tb e).freq = (s.tb e).freq)

/-- A job that has waited 2,048 ticks for randomness ends. RNG_WAIT_TIMEOUT on a job that has waited for randomness for 2,048 ticks or more
ends it: it leaves the slice; a parcel job goes to the rack with disposition drop, reason 0x05 and status 0x41; a thread job that stands
in the slice of its own drawer gets a result record with status 0x41, DETAIL 6 and DONE set. States R335. -/
def Obligations.RandomnessStarvedJobsEnd : Prop := ∀ (s : State) (d i t0 : Nat) (j : SliceJob),
  s.power.up = true → (s.sliceJobs d)[i]? = some j → j.rngSince = some t0 → t0 + 2048 ≤ s.tick →
    ∃ t : State, exec (.rngWaitTimeout d i) s = .next t ∧
      (∀ (c : SorterCtx) (walk : Bool), j.work = .parcel c walk → (t.sliceJobs d).length + 1 = (s.sliceJobs d).length ∧
        t.work.fins = s.work.fins ++ [{ c with punt := false, eng := some (engineSlice d), p := { c.p with disp := 2, dropReason := 5, status := 0x41 } }]) ∧
      (∀ h r : Nat, j.work = .thread h r → (h / 32 = d → (t.sliceJobs d).length + 1 = (s.sliceJobs d).length) ∧
        ∃ w : Nat, Tab.get? t.cipher.results h = some w ∧ bits w 31 24 = 0x41 ∧ bits w 23 16 = 6 ∧ bit w 0 = true)

/-- mhartid spells the place of the thread. For every cabinet c, drawer position k, core position j and thread i, a read of mhartid by thread
h = 512c + 32k + 8j + i answers h; h / 8 is the core's number; and bits [10:9] hold c, [8:5] k, [4:3] j, [2:0] i, and [63:11] are zero.
For the threads of an IK9C bit 10 is zero too. States R383. -/
def Obligations.MhartidSpellsThePlace : Prop := ∀ (s : Dev) (c k j i : Nat), c < 4 → k < 16 → j < 4 → i < 8 →
  (s.csrRead (512 * c + 32 * k + 8 * j + i) 0xF14).1 = some (512 * c + 32 * k + 8 * j + i) ∧
  (512 * c + 32 * k + 8 * j + i) / 8 = 4 * (16 * c + k) + j ∧
  ∀ v : Nat, (s.csrRead (512 * c + 32 * k + 8 * j + i) 0xF14).1 = some v →
    bits v 10 9 = c ∧ bits v 8 5 = k ∧ bits v 4 3 = j ∧ bits v 2 0 = i ∧ bits v 63 11 = 0 ∧
    (512 * c + 32 * k + 8 * j + i < Part.threads .ik9c → bit v 10 = false)

/-- CRC-32C over two pieces is the CRC over both at once. crc32c of "123456789" with seed 0 is 0xE3069283, and for every seed and byte lists a
and b, the CRC of b seeded with the CRC of a is the CRC of a followed by b (R507). Derived from 98_reader.md, 22_faults_recovery.md. -/
def Obligations.CrcOverPieces : Prop :=
  crc32c 0 [0x31, 0x32, 0x33, 0x34, 0x35, 0x36, 0x37, 0x38, 0x39] = 0xE3069283 ∧
  ∀ (seed : Nat) (a b : List Nat), crc32c (crc32c seed a) b = crc32c seed (a ++ b)

/-- An allocation is taken whole, above the floor, or refused. ALLOC of 0 bytes or of more than 16,777,216 is refused with 0x01 and changes
nothing. Any other length is answered with 0x00 or 0x41. When it is answered with 0x00, the shelf chosen had free buffers for the whole
chain above the owner's floor, a single buffer is large enough, a longer chain comes from shelf 5, and the new chain belongs to the owner,
has no shares and has the number of buffers asked for. When it is answered with 0x41 nothing is taken (R185). Derived from
08_buffer_shelves.md. -/
def Obligations.AllocationKeepsTheFloor : Prop := ∀ (s : Dev) (owner n : Nat),
  (n = 0 ∨ 16777216 < n → s.alloc owner n = ({ status := 0x01, handle := nullHandle }, s)) ∧
  (0 < n → n ≤ 16777216 →
    ((s.alloc owner n).1.status = 0 ∨ (s.alloc owner n).1.status = 0x41) ∧
    ((s.alloc owner n).1.status = 0 →
      let f := (s.alloc owner n).1.shelf
      f ≤ 5 ∧ s.floorFor owner f + ceilDiv n 65536 ≤ s.shelfFree f ∧ (n ≤ 65536 → n ≤ shelfSize f) ∧ (65536 < n → f = 5) ∧
      ∃ c : Chain, (s.alloc owner n).2.chain? (s.alloc owner n).1.handle = some c ∧ c.owner = owner ∧ c.shares = 0 ∧
        c.bufs.length = ceilDiv n 65536) ∧
    ((s.alloc owner n).1.status = 0x41 → (s.alloc owner n).2.shelves = s.shelves))

/-- FREE, SHARE, DETACH and HANDOVER by the state of the chain. For a chain that is held, each operation by the last owner and by another
owner has the status, the effect on the chain and the counters of the table *Chain states* (R191), and every refused one leaves the
shelves as they are and appends one record to the buffer error log; a SHARE that would take the count beyond 65,535 is answered with 0x41
and changes nothing, the log included. Derived from 08_buffer_shelves.md. -/
def Obligations.ChainOperationOutcomes : Prop := ∀ (s : Dev) (o h n w : Nat) (c : Chain), s.chain? h = some c →
  let f := shelfOf h
  let moreFrees (x : BufRes × Dev) : Prop := x.2.obj Obj.REJECTED_FREES f = (s.obj Obj.REJECTED_FREES f + 1) % 2 ^ 64
  let moreDetaches (x : BufRes × Dev) : Prop := x.2.obj Obj.REJECTED_DETACHES f = (s.obj Obj.REJECTED_DETACHES f + 1) % 2 ^ 64
  let leaves (x : BufRes × Dev) (c' : Option Chain) : Prop := x.1.status = 0 ∧ x.2.chain? h = c'
  (c.owner = o → c.deferred = false →
    (c.shares = 0 → leaves (s.bufFree o h) none) ∧
    (0 < c.shares → leaves (s.bufFree o h) (some { c with deferred := true })) ∧
    (n = 0 → bufRefused s 0x01 (s.bufShare o h n)) ∧
    (1 ≤ n → c.shares + n ≤ 65535 → leaves (s.bufShare o h n) (some { c with shares := c.shares + n })) ∧
    (65535 < c.shares + n → 1 ≤ n → (s.bufShare o h n).1.status = 0x41 ∧ (s.bufShare o h n).2 = s) ∧
    (validOwner s.part w = true → leaves (s.bufHandover o h w) (some { c with owner := w })) ∧
    (validOwner s.part w = false → bufRefused s 0x01 (s.bufHandover o h w))) ∧
  (c.owner = o → c.deferred = true →
    bufRefused s 0x01 (s.bufFree o h) ∧ moreFrees (s.bufFree o h) ∧ bufRefused s 0x01 (s.bufShare o h n) ∧
    bufRefused s 0x01 (s.bufHandover o h w)) ∧
  (c.owner = o → bufRefused s 0x01 (s.bufDetach o h) ∧ moreDetaches (s.bufDetach o h)) ∧
  (c.owner ≠ o →
    bufRefused s 0x40 (s.bufFree o h) ∧ moreFrees (s.bufFree o h) ∧ bufRefused s 0x40 (s.bufShare o h n) ∧
    bufRefused s 0x40 (s.bufHandover o h w) ∧
    (1 < c.shares → leaves (s.bufDetach o h) (some { c with shares := c.shares - 1 })) ∧
    (c.shares = 1 → c.deferred = false → leaves (s.bufDetach o h) (some { c with shares := 0 })) ∧
    (c.shares = 1 → c.deferred = true → leaves (s.bufDetach o h) none ∧
      (s.bufDetach o h).2 = (s.returnChain h).bump Obj.DEFERRED_FREES f) ∧
    (c.shares = 0 → bufRefused s 0x01 (s.bufDetach o h) ∧ moreDetaches (s.bufDetach o h)))

/-- An idle transaction is discarded without effect. TXN_IDLE_TIMEOUT on a session whose transaction has seen no WRITE or COMMIT for
TXN_IDLE_TIMEOUT ticks closes the transaction, counts it in TXNS_DISCARDED, and leaves every other session and the accepted transactions
as they are (R73). Derived from 03_bureau.md. -/
def Obligations.IdleTransactionIsDiscarded : Prop := ∀ (s : State) (sess : Sess) (ss : Session) (x : Txn),
  s.power.up = true → s.session? (sessKey sess) = some ss → ss.txn = some x → x.last + s.obj Obj.TXN_IDLE_TIMEOUT ≤ s.tick →
    ∃ t : State, exec (.txnIdleTimeout sess) s = .next t ∧ t.session? (sessKey sess) = some { ss with txn := none } ∧
      t.obj Obj.TXNS_DISCARDED = (s.obj Obj.TXNS_DISCARDED + 1) % 2 ^ 64 ∧ (∀ k : Nat, k ≠ sessKey sess → t.session? k = s.session? k) ∧
      t.bureau.accepted = s.bureau.accepted

/-- A log ring keeps the record of sequence s at instance s mod its size. For a ring object and its 64-bit count, a new record stands at
instance count mod size, the count rises by one, and every other object instance is unchanged (R501). Instances are below 2^32, as R59 has
them. Derived from 22_faults_recovery.md. -/
def Obligations.LogRings : Prop := ∀ (s : Dev) (oid ring rec : Nat) (d e : ObjDef),
  objDef? oid = some d → objDef? (oid + 1) = some e → e.ty = .u64 → ring ≤ 2 ^ 32 → 0 < ring →
    (s.log oid ring rec).obj oid (s.obj (oid + 1) % ring) = rec % 2 ^ (8 * d.ty.size) ∧
    (s.log oid ring rec).obj (oid + 1) = (s.obj (oid + 1) + 1) % 2 ^ 64 ∧
    (∀ i : Nat, i < 2 ^ 32 → i ≠ s.obj (oid + 1) % ring → (s.log oid ring rec).obj oid i = s.obj oid i) ∧
    (∀ oid' i : Nat, i < 2 ^ 32 → oid' ≠ oid → oid' ≠ oid + 1 → (s.log oid ring rec).obj oid' i = s.obj oid' i)

/-- A session queues at most 256 notifications and says when one was lost. A session with at most 256 queued notifications has at most 256
after one more. When 256 were queued the oldest is dropped and the new one has DISCARD_LOST = 1; when fewer were and none was lost before,
all are kept and DISCARD_LOST is 0 (R86). Derived from 03_bureau.md. -/
def Obligations.NotificationQueueBound : Prop := ∀ (ss : Session) (code obj tick detail : Nat), ss.notifs.length ≤ 256 →
  (ss.push code obj tick detail).1.notifs.length ≤ 256 ∧
  (ss.push code obj tick detail).2 ∈ (ss.push code obj tick detail).1.notifs ∧
  (ss.push code obj tick detail).2.code = code ∧
  (ss.notifs.length = 256 → (ss.push code obj tick detail).2.lost = true ∧
    (ss.push code obj tick detail).1.notifs.dropLast = ss.notifs.drop 1) ∧
  (ss.notifs.length < 256 → ss.discardLost = false → (ss.push code obj tick detail).2.lost = false ∧
    (ss.push code obj tick detail).1.notifs.dropLast = ss.notifs)

/-- A priority paused too long enters the storm state and ignores pause. PFC_STORM on a priority that has been paused for PFC_WATCHDOG ticks
(not 0) puts it in the storm state, ends its pause and leaves every other port-priority as it is; a pause received after that does not
pause the priority (R105). Derived from 04_ethernet_ports.md. -/
def Obligations.StormIgnoresPause : Prop := ∀ (s : State) (p q : Nat), s.power.up = true → q < 8 → s.obj Obj.PFC_WATCHDOG p ≠ 0 →
  (s.prio (8 * p + q)).pauseEnd.isSome = true → (s.prio (8 * p + q)).pausedSince + s.obj Obj.PFC_WATCHDOG p ≤ s.tick →
    ∃ t : State, exec (.pfcStorm p q) s = .next t ∧ (t.prio (8 * p + q)).storm = true ∧ (t.prio (8 * p + q)).pauseEnd = none ∧
      (∀ k : Nat, k ≠ 8 * p + q → t.prio k = s.prio k) ∧
      ∀ (mask : Nat) (quanta : List Nat), ((t.toDev.pauseReceive p mask quanta).prio (8 * p + q)).pauseEnd = none

/-- The boot watchdog fails the slot and starts a warm reset. When READY has not been reached 7,812,500 ticks after core release,
BOOT_WATCHDOG marks the booted slot as failed and starts a warm reset: READINESS is AUX_ONLY, LAST_RESET_CAUSE is 5, and the tick counter
is unchanged (R413, R18). Derived from 17_boot_lifecycle.md, 20_power_startup.md. -/
def Obligations.BootWatchdogFailsTheSlot : Prop := ∀ (s : State) (i t0 : Nat), s.power.up = true → s.boot.released = some t0 →
  t0 + 7812500 ≤ s.tick → (s.obj Obj.READINESS = 1 ∨ s.obj Obj.READINESS = 2) → s.boot.booted = some i →
    ∃ t : State, exec .bootWatchdog s = .next t ∧ t.boot.failed.contains i = true ∧ t.obj Obj.READINESS = 0 ∧
      t.obj Obj.LAST_RESET_CAUSE = 5 ∧ t.tick = s.tick

/-- A stuck open-drain output is reported and still driven. OPEN_DRAIN_STUCK on a line that is not yet reported, and that is driven where the
state tells (PEER_FENCE_N, THERMTRIP_N), sets its bit in SIDEBAND_STATUS, counts it in SIDEBAND_EVENTS, sends SIDEBAND_STUCK to every
session that is notified and leaves what is driven as it was; STUCK_OUTPUT_CLEAR clears the bit (R484). Derived from
21_signals_electrical.md. -/
def Obligations.StuckOutputIsReported : Prop := ∀ (s : State) (b : Nat), s.power.vaux = true → openDrain s.part b = true →
  (bit (s.obj Obj.SIDEBAND_STATUS) b = false → (b = 0 → s.twin.peerFence = true) → (b = 1 → s.pins.thermtrip = true) →
    ∃ t : State, exec (.openDrainStuck b) s = .next t ∧ t.obj Obj.SIDEBAND_STATUS = setBit (s.obj Obj.SIDEBAND_STATUS) b % 2 ^ 32 ∧
      t.obj Obj.SIDEBAND_EVENTS = (s.obj Obj.SIDEBAND_EVENTS + 1) % 2 ^ 64 ∧ t.twin = s.twin ∧ t.pins = s.pins ∧
      (∀ (k : Nat) (ss : Session), s.session? k = some ss → ss.notified k = true →
        ∃ n : Notif, Output.notify k n ∈ t.out ∧ n.code = 0x10B1 ∧ n.obj = Obj.SIDEBAND_STATUS)) ∧
  (∃ t : State, exec (.stuckOutputClear b) s = .next t ∧ t.obj Obj.SIDEBAND_STATUS = clearBit (s.obj Obj.SIDEBAND_STATUS) b % 2 ^ 32)

/-- x0 reads as zero, and registers keep what is written. A thread's x0 reads 0 and a write of it changes nothing; a write of another register
x leaves its low 64 bits in x and every other register as it was. RISC-V itself is taken from its standard (log entry 34: PRESUMED,
unsafe). Derived from 16_nirah_cores.md. -/
def Obligations.X0ReadsZero : Prop := ∀ (t : Hart) (v : Nat), t.reg 0 = 0 ∧ t.setReg 0 v = t ∧
  ∀ x : Nat, x ≠ 0 → (t.setReg x v).reg x = v % 2 ^ 64 ∧ ∀ y : Nat, y ≠ x → (t.setReg x v).reg y = t.reg y

/-- A register-to-register operation writes rd alone. A thread that fetches a legal 32-bit OP instruction completes it: rd holds the result of
the operation on rs1 and rs2 (x0 stays 0), every other register and every other thread is unchanged, memory is unchanged, and the pc moves
on by 4. The encodings are the RISC-V standard's (R380; log entry 34: PRESUMED, unsafe). Derived from 16_nirah_cores.md. -/
def Obligations.IntegerOperationWritesItsRegister : Prop := ∀ (s : State) (h fe de raw v : Nat) (s1 : Dev),
  s.power.up = true → s.issues h = true → s.trigFires h 2 (s.hart h).pc = false → s.fetch h fe = (.word raw 4, s1) → raw % 128 = 0x33 →
  rvOp (rvF7 raw) (rvF3 raw) ((s1.hart h).reg (rvRs1 raw)) ((s1.hart h).reg (rvRs2 raw)) = some v →
    ∃ t : State, exec (.isaInstruction h fe de) s = .next t ∧ t.mem = s.mem ∧
      (t.hart h).pc = ((s1.hart h).pc + 4) % 2 ^ 64 ∧
      (t.hart h).reg (rvRd raw) = (if rvRd raw = 0 then 0 else v % 2 ^ 64) ∧
      (∀ x : Nat, x ≠ rvRd raw → (t.hart h).reg x = (s1.hart h).reg x) ∧
      (∀ k : Nat, k ≠ h → t.hart k = s1.hart k)

/-- A store writes its bytes and no other. A thread that fetches SB, SH, SW or SD with an aligned address a = x[rs1] + imm in the on-chip
memories completes it: the bytes a to a + n - 1 hold the low n bytes of rs2 in little-endian order, every other byte of memory reads as
before, the registers are unchanged and the pc moves on by 4 (R9, R33, R380, R381; log entry 34: PRESUMED, unsafe). Derived from
16_nirah_cores.md, 01_architecture.md. -/
def Obligations.StoreWritesItsBytesAlone : Prop := ∀ (s : State) (h fe de raw p : Nat) (s1 : Dev),
  s.power.up = true → s.issues h = true → s.trigFires h 2 (s.hart h).pc = false → s.fetch h fe = (.word raw 4, s1) → raw % 128 = 0x23 →
  rvF3 raw < 4 →
  let n := 2 ^ rvF3 raw
  let a := ((s1.hart h).reg (rvRs1 raw) + rvImmS raw) % 2 ^ 64
  s1.trigFires h 1 a = false → a % n = 0 → s1.coreWin h a = some (.sram p) → p < 0x000300000000 →
    ∃ t : State, exec (.isaInstruction h fe de) s = .next t ∧
      (∀ x : Nat, t.byte x = if p ≤ x ∧ x < p + n then (s1.hart h).reg (rvRs2 raw) / 2 ^ (8 * (x - p)) % 256 else s.byte x) ∧
      (t.hart h).regs = (s1.hart h).regs ∧ (t.hart h).pc = ((s1.hart h).pc + 4) % 2 ^ 64

/-- ECALL takes the machine-mode environment-call exception. A thread that fetches ECALL takes the exception: mepc holds its pc, mcause 11,
mtval 0, MPIE the old MIE, MIE is 0, the reservation is lost, the pc is the base of mtvec, and registers and memory are unchanged (R380,
R389; log entry 34: PRESUMED, unsafe). Derived from 16_nirah_cores.md. -/
def Obligations.EcallTakesTheTrap : Prop := ∀ (s : State) (h fe de : Nat) (s1 : Dev),
  s.power.up = true → s.issues h = true → s.trigFires h 2 (s.hart h).pc = false → s.fetch h fe = (.word 0x73 4, s1) →
    ∃ t : State, exec (.isaInstruction h fe de) s = .next t ∧ t.mem = s.mem ∧ (t.hart h).mepc = (s1.hart h).pc ∧ (t.hart h).mcause = 11 ∧
      (t.hart h).mtval = 0 ∧ (t.hart h).pc = (s1.hart h).mtvec / 4 * 4 ∧ (t.hart h).mie_ = false ∧ (t.hart h).mpie = (s1.hart h).mie_ ∧
      (t.hart h).resv = none ∧ (t.hart h).regs = (s1.hart h).regs

/-- An expired lease self-fences at the lease check. At the lease check of an edge, an ACTIVE device with TWIN_ENABLE whose lease deadline has
come becomes FENCED, holds no lease, and neither forwards nor sends pause frames any more (R429, R436, R438). Derived from 18_twin.md. -/
def Obligations.LeaseExpirySelfFences : Prop := ∀ s : State, s.power.up = true → s.edgeTodo = [.lease] → s.twin.fenceDue = none →
  s.obj Obj.TWIN_ENABLE = 1 → s.obj Obj.ROLE = 1 → s.twin.released = false → s.obj Obj.LEASE_DEADLINE ≤ s.tick →
    ∃ t : State, exec .leaseCheck s = .next t ∧ t.obj Obj.ROLE = 4 ∧ t.obj Obj.LEASE_DEADLINE = 0 ∧ t.forwards = false ∧ t.sendsPause = false

/-- A Tenant's SEND needs as many tokens as it has messages. A write of LB_CONTROL by a VF with a legal SEND and ACK: with fewer tokens than
messages it is discarded whole, counted in LB_THROTTLED, and THROTTLED is set; otherwise the tokens are spent and the counts move on
(R279, R282). Derived from 12_tenants.md. -/
def Obligations.LetterboxSendNeedsTokens : Prop := ∀ (s : Dev) (f w : Nat), isPf f = false → s.present f = true → w / 65536 = 0 →
  let b := s.box f
  let send := bits w 15 8
  let ack := bits w 7 0
  heldOf b.tmSent b.tmAcked + send ≤ 8 → ack ≤ heldOf b.ttSent b.ttAcked →
    (b.tokens < send → (s.boxControl f w).box f = { b with throttled := true, changed := b.changed || !b.throttled } ∧
      (s.boxControl f w).obj Obj.LB_THROTTLED f = (s.obj Obj.LB_THROTTLED f + 1) % 2 ^ 64) ∧
    (send ≤ b.tokens → ((s.boxControl f w).box f).tokens = b.tokens - send ∧
      ((s.boxControl f w).box f).tmSent = (b.tmSent + send) % 256 ∧ ((s.boxControl f w).box f).ttAcked = (b.ttAcked + ack) % 256)

/-- The pieces of edge work complete. TICK_EDGE, SNAPSHOT, BUREAU_COMMIT_APPLY, RW_WRITE_APPLY, TABLE_COMMIT_APPLY, SHAPER_CREDIT,
CALENDAR_SLOT_OPEN, COARSE_SLOT_EMPTY, POLICER_TOKENS, WORK_STEAL, LATENCY_SAMPLE and LEASE_CHECK answer a next state: TICK_EDGE from
every state, each piece while it is still to be done in the present edge (R23, R24), with the pieces before it done first (log entry 4:
DESIGN CHOICE, safe). Derived from 01_architecture.md, 09_scheduler.md, 02_parcels_and_stealing.md. -/
def Obligations.CompletesEdgeWork : Prop := ∀ s : State,
  (s.power.up = true →
    (s.edgeTodo.contains .snapshot = true → exec (.snapshot) s = .next (s.after (s.through .snapshot))) ∧
    (s.edgeTodo.contains .bureau = true → exec (.bureauCommitApply) s = .next (s.after (s.through .bureau))) ∧
    (s.edgeTodo.contains .bureau = true → exec (.rwWriteApply) s = .next (s.after (s.rwApply))) ∧
    (s.edgeTodo.contains .table = true → exec (.tableCommitApply) s = .next (s.after (s.through .table))) ∧
    (s.edgeTodo.contains .shaper = true → exec (.shaperCredit) s = .next (s.after (s.through .shaper))) ∧
    (s.edgeTodo.contains .calendar = true → exec (.calendarSlotOpen) s = .next (s.after (s.through .calendar))) ∧
    (s.edgeTodo.contains .coarse = true → exec (.coarseSlotEmpty) s = .next (s.after (s.through .coarse))) ∧
    (s.edgeTodo.contains .policer = true → exec (.policerTokens) s = .next (s.after (s.through .policer))) ∧
    (s.edgeTodo.contains .steal = true → exec (.workSteal) s = .next (s.after (s.through .steal))) ∧
    (s.edgeTodo.contains .sample = true → exec (.latencySample) s = .next (s.after (s.through .sample))) ∧
    (s.edgeTodo.contains .lease = true → exec (.leaseCheck) s = .next (s.after (s.through .lease)))) ∧
  (∀ (stepwise : Bool), exec (.tickEdge stepwise) s = .next (s.after (s.tickEdge stepwise)))

/-- Clock events, self-checks, fencing and device faults complete. DEVREF_LOSS, DEVREF_RELOCK, SELFCHECK, MONITOR_WATCHDOG, DRAWER_FENCE,
CABINET_FENCING and DEVICE_FAULT answer the next state of their effect under the stated conditions (R16, R54, R55, R496, R499). Derived
from 01_architecture.md, 02_parcels_and_stealing.md, 22_faults_recovery.md. -/
def Obligations.CompletesClockAndMonitor : Prop := ∀ s : State,
  (s.power.up = true →
    (s.obj Obj.REF_STATE ≠ 1 → exec (.devrefLoss) s = .next (s.after ((((s.setObj Obj.REF_STATE 0 1).bump Obj.HOLDOVER_EVENTS).holdover true).clockEvent 1))) ∧
    (s.obj Obj.REF_STATE ≠ 0 → exec (.devrefRelock true) s = .next (s.after (((s.setObj Obj.REF_STATE 0 0).holdover false).clockEvent 2))) ∧
    (s.obj Obj.REF_STATE ≠ 0 → exec (.devrefRelock false) s = .next (s.after (s.setObj Obj.REF_STATE 0 2))) ∧
    (∀ (drawers cabinets : List Nat) (hub : Bool), s.tick % max 1 s.work.selfCheck = 0 → exec (.selfcheck drawers cabinets hub) s = .next (s.after (
      let t := cabinets.foldl (fun t c => t.dueCabinet c 0x22) (drawers.foldl (fun t d => t.dueFence d 2) s.toDev)
      if hub then t.dueFault 0x34 else t))) ∧
    (∀ (d : Nat), exec (.monitorWatchdog d) s = .next (s.after (s.dueFence d 3))) ∧
    (∀ d : Nat, exec (.drawerFence d true) s = .next (s.after (s.dueFence d 1))) ∧
    (∀ (d : Nat) (cause : FenceCause), Tab.get? s.work.fence d = some cause → cause.detect < s.tick → s.edgeTodo.contains .fences = true → exec (.drawerFence d false) s = .next (s.after ((s.cabinetFirst (d / 16)).fenceDrawer d cause))) ∧
    (∀ c : Nat, exec (.cabinetFencing c true) s = .next (s.after (s.dueCabinet c 0x21))) ∧
    (∀ (c : Nat) (cause : FenceCause), Tab.get? s.work.cabFence c = some cause → cause.detect < s.tick → s.edgeTodo.contains .fences = true → exec (.cabinetFencing c false) s = .next (s.after (s.fenceCabinet c cause))) ∧
    (∀ cause : Nat, 0x31 ≤ cause ∧ cause ≤ 0x35 → exec (.deviceFault cause) s = .next (s.after (s.dueFault cause))) ∧
    (s.edgeTodo.contains .deviceFault = true → exec (.deviceFault 0) s = .next (s.after (s.faultEdge))))

/-- Frames and parcels are admitted. FRAME_WRITE_START, FRAME_END, PARCEL_CREATE, ADMISSION_HOLD_RELEASE and WINDOW_STALL_RELEASE answer the
next state of their effect: on a port that is UP and receives no frame, with a frame of at least 18 bytes; on a port that receives one;
from a thread in service; for a drawer with room; for a group whose window is open (R39, R42, R50, R95, R187). Derived from
02_parcels_and_stealing.md, 04_ethernet_ports.md, 08_buffer_shelves.md. -/
def Obligations.CompletesAdmission : Prop := ∀ s : State,
  (s.power.up = true →
    (∀ (p length : Nat) (head : List Nat) (cap : Nat), p < s.part.ports → s.portUp p = true → (s.port p).rx.isNone = true → 18 ≤ length → exec (.frameWriteStart p length head cap) s = .next (s.after (s.frameStart p length head cap))) ∧
    (∀ (p : Nat) (tail : List Nat) (fcsOk : Bool), (s.port p).rx.isSome = true → exec (.frameEnd p tail fcsOk) s = .next (s.after (s.frameDone p tail fcsOk false))) ∧
    (∀ (h w : Nat), h < s.part.threads → s.inService (h / 32) = true → exec (.parcelCreate h w) s = .next (s.after (s.parcelCreate h w))) ∧
    (∀ (d : Nat), s.inService d = true → s.queueRoom d = true → s.obj Obj.DEVICE_FAULT = 0 → exec (.admissionHoldRelease d) s = .next (s.after (s.holdRelease d))) ∧
    (∀ (g : Nat), s.windowOpen g = true → s.obj Obj.DEVICE_FAULT = 0 → exec (.windowStallRelease g) s = .next (s.after (s.windowRelease g))))

/-- Sorting, lookups and pattern scans complete. SORTER_TAKE, PARSE_EXTEND_RESUME, GDDR6_LOOKUP_RETURN, LOOKUP_TIMEOUT, PATTERN_SCAN,
MATCHER_CACHE_MISS_RETURN, MATCHER_SUSPEND, VERIFY_DONE and BANK_DRAIN_DONE answer the next state of their effect under the stated
conditions, MATCHER_SUSPEND at an edge that is run piece by piece (R23, R43, R120, R145, R146, R162). Derived from 05_parse_graph.md,
06_classification.md, 07_forwarding_tables.md. -/
def Obligations.CompletesSorterAndMatcher : Prop := ∀ s : State,
  (s.power.up = true →
    (∀ (d i : Nat), s.sorterReady d i = true → exec (.sorterTake d i) s = .next (s.after (s.sorterTake d i))) ∧
    (∀ (d i : Nat) (more : List Nat), i < 3 → (s.parked? (3 * d + i) .header).isSome = true → exec (.parseExtendResume d i more) s = .next (s.after (s.parseResume d (3 * d + i) more))) ∧
    (∀ (d i : Nat) (poison : Option (Nat × Nat)), i < 3 → (s.parked? (3 * d + i) .lookup).isSome = true → exec (.gddr6LookupReturn d i poison) s = .next (s.after (s.lookupReturn d (3 * d + i) poison))) ∧
    (∀ (d i : Nat) (c : SorterCtx), i < 3 → s.parked? (3 * d + i) .lookup = some c → c.parkTick + 2 ≤ s.tick → exec (.lookupTimeout d i) s = .next (s.after (s.lookupTimeout d (3 * d + i)))) ∧
    (∀ (d i : Nat) (miss : Option Nat) (j : ScanJob), (s.jobsOf d)[i]? = some j → s.scanReady d j = true → exec (.patternScan d i miss) s = .next (s.after (s.patternScan d i miss))) ∧
    (∀ (d i : Nat) (poison : Option (Nat × Nat)) (j : ScanJob), (s.jobsOf d)[i]? = some j → j.parked = true → exec (.matcherCacheMissReturn d i poison) s = .next (s.after (s.missReturn d i poison))) ∧
    (∀ (d i n : Nat), s.edgeTodo.contains .budgets = true → s.matcherRuns d i = true → exec (.matcherSuspend d i n) s = .next (s.after (((fun s : Dev => s.matcherSuspend d i n) s.toDev)))) ∧
    (∀ (S b : Nat), b < 2 → s.pats.verifying.contains (2 * S + b) = true → exec (.verifyDone S b) s = .next (s.after (s.verifyDone (2 * S + b)))) ∧
    (∀ (S b : Nat), b < 2 → s.obj Obj.BANK_STATE (2 * S + b) = 5 → s.scanJobs.any (fun j => j.started && j.bank == 2 * S + b) = false → exec (.bankDrainDone S b) s = .next (s.after (s.setObj Obj.BANK_STATE (2 * S + b) 2))))

/-- The work on a parcel completes. DMA_MOVER_RESUME, PARCEL_FINISH, THREAD_OVERRUN_TRAP, OVERRUN_DROP, DEQUEUE, TRANSMIT_COMPLETE, TAKE,
RETIRE and YIELD answer the next state of their effect under the stated conditions (R43, R44, R51, R202, R395 to R397). Derived from
02_parcels_and_stealing.md, 09_scheduler.md, 16_nirah_cores.md. -/
def Obligations.CompletesParcelWork : Prop := ∀ s : State,
  (s.power.up = true →
    (∀ (d : Nat), s.inService d = true → s.movedNow d < 16384 → (s.moverPick d).isSome = true → exec (.dmaMoverResume d) s = .next (s.after (s.moverResume d))) ∧
    (∀ (e : Nat) (c : SorterCtx), s.work.fins[e]? = some c → (c.hold && s.rxEnd c.p.handle == .arriving) = false →
      exec (.parcelFinish e) s = .next (s.after (({ s.toDev with work := { s.work with fins := s.work.fins.eraseIdx e } }).parcelFinish c))) ∧
    (∀ (h k : Nat), s.trapDue h k = true → k < 4 → exec (.threadOverrunTrap h k) s = .next (s.after (s.overrunTrap h k))) ∧
    (∀ (h k : Nat), s.dropDue h k = true → k < 4 → exec (.overrunDrop h k) s = .next (s.after (s.overrunDrop h k))) ∧
    (∀ (P : Nat), s.portReady P = true → exec (.dequeue P) s = .next (s.after (s.dequeueTo P))) ∧
    (∀ (P cap : Nat) (x : TxFrame), s.nextTx P = some x → (s.rxEnd x.f.chain != .arriving) = true → s.mayLeave P x = true → exec (.transmitComplete P cap) s = .next (s.after (s.transmit P cap x))) ∧
    (∀ (h : Nat), s.hasPort h = true → exec (.takeParcel h) s = .next (s.after ((s.takeSlot h).2))) ∧
    (∀ (h slot disp : Nat), s.hasPort h = true → slot < 4 → exec (.retire h slot disp) s = .next (s.after (s.retireSlot h slot disp (s.slotWord h slot)))) ∧
    (∀ (h slot : Nat), s.hasPort h = true → slot < 4 → exec (.yieldSlot h slot) s = .next (s.after (s.yieldSlot h slot (s.slotWord h slot)))))

/-- The buffer operations complete. ALLOC, FREE, SHARE, DETACH and HANDOVER by a valid owner answer the next state of the manager's operation,
whose outcomes AllocationKeepsTheFloor and ChainOperationOutcomes state (R185, R191, R193). Derived from 08_buffer_shelves.md. -/
def Obligations.CompletesBufferOperations : Prop := ∀ s : State,
  (s.power.up = true →
    (∀ (owner length : Nat), validOwner s.part owner = true → exec (.alloc owner length) s = .next (s.after (Dev.bufDone (s.alloc owner length) owner true))) ∧
    (∀ (owner handle : Nat), validOwner s.part owner = true → exec (.freeChain owner handle) s = .next (s.after (Dev.bufDone (s.bufFree owner handle) owner))) ∧
    (∀ (owner handle n : Nat), validOwner s.part owner = true → exec (.shareChain owner handle n) s = .next (s.after (Dev.bufDone (s.bufShare owner handle n) owner))) ∧
    (∀ (owner handle : Nat), validOwner s.part owner = true → exec (.detach owner handle) s = .next (s.after (Dev.bufDone (s.bufDetach owner handle) owner))) ∧
    (∀ (owner handle newOwner : Nat), validOwner s.part owner = true → exec (.handover owner handle newOwner) s = .next (s.after (Dev.bufDone (s.bufHandover owner handle newOwner) owner))))

/-- The events of an Ethernet link complete. TRAINING_COMPLETE, TRAINING_FAILURE, LINK_RETRY, ALIGN_LOCK, LINK_UP, ALIGN_TIMEOUT, LOCK_LOSS,
LINK_DOWN, POLARITY_RETRY and FEC_DEGRADE answer the next state of their effect in the link states and at the times of R92 to R97, LINK_UP
and LINK_DOWN at an edge that is run piece by piece. Derived from 04_ethernet_ports.md. -/
def Obligations.CompletesPortLink : Prop := ∀ s : State,
  (s.power.up = true →
    (∀ (p : Nat), s.linkState p = 1 → (s.port p).retry = false → s.ethref = true → exec (.trainingComplete p) s = .next (s.after (((fun s : Dev => (s.setObj Obj.LINK_STATE_2000 p 2).setPort p { s.port p with since := s.tick, anNotified := false, lockSince := none, trained := true, adv := none }) s.toDev)))) ∧
    (∀ (p : Nat), s.linkState p = 1 → (s.port p).retry = false → exec (.trainingFailure p) s = .next (s.after (s.trainingFails p))) ∧
    (∀ (p : Nat), s.linkState p = 1 → (s.port p).retry = true → (s.port p).since + s.obj Obj.LINK_RETRY p ≤ s.tick → exec (.linkRetry p) s = .next (s.after (s.restartPort p))) ∧
    (∀ (p : Nat) (order : List Nat), (s.linkState p == 2 || s.linkState p == 3) = true → s.ethref = true → exec (.alignLock p order) s = .next (s.after (s.alignLock p order))) ∧
    (∀ (p : Nat), s.edgeTodo.contains .links = true → s.linkUpDue p = true → exec (.linkUp p) s = .next (s.after (s.goUp p))) ∧
    (∀ (p mask : Nat), s.linkState p = 2 → (s.port p).lockSince.isNone = true → (s.port p).since + 98304 ≤ s.tick → exec (.alignTimeout p mask) s = .next (s.after ((s.notify 0x2004 Obj.LINK_STATE_2000 (p + mask % 2 ^ 32 * 2 ^ 32)).restartPort p))) ∧
    (∀ (p : Nat) (lanes : List Nat), (s.linkState p == 2 || s.linkState p == 3) = true → exec (.lockLoss p lanes) s = .next (s.after (s.lockLoss p lanes))) ∧
    (∀ (p : Nat), s.edgeTodo.contains .links = true → s.linkDownDue p = true → exec (.linkDown p) s = .next (s.after (s.goDown p))) ∧
    (∀ (l : Nat), s.polarityDue l = true → exec (.polarityRetry l) s = .next (s.after (s.polarityFlip l))) ∧
    (∀ (p corrected uncorrected : Nat), p < s.part.ports → s.linkState p ≠ 0 → exec (.fecDegrade p corrected uncorrected) s = .next (s.after (s.fecCount p corrected uncorrected))))

/-- Pause, PFC and the management port complete. PAUSE_RECEIVE, PAUSE_EXPIRE, XOFF_RESEND, PFC_STORM, PFC_STORM_END and MGMT_FRAME_RECEIVE
answer the next state of their effect under the stated conditions (R102 to R105, R108). Derived from 04_ethernet_ports.md. -/
def Obligations.CompletesPauseAndManagementPort : Prop := ∀ s : State,
  (s.power.up = true →
    (∀ (p mask : Nat) (quanta : List Nat), p < s.part.ports → s.portUp p = true → exec (.pauseReceive p mask quanta) s = .next (s.after (s.pauseReceive p mask quanta))) ∧
    (∀ p q t : Nat, q < 8 → (s.prio (8 * p + q)).pauseEnd = some t → t ≤ s.tick → exec (.pauseExpire p q) s = .next (s.after ((s.markTx p).setPrio (8 * p + q) { s.prio (8 * p + q) with pauseEnd := none }))) ∧
    (∀ p q t : Nat, q < 8 → s.portUp p = true → s.sendsPause = true → (s.pausePrios p).contains q = true → s.xoffCause (8 * p + q) = true →
      (s.prio (8 * p + q)).xoff = some t → t ≤ s.tick → exec (.xoffResend p q) s = .next (s.after ((s.sendPause (8 * p + q) (s.obj Obj.PAUSE_QUANTA p)).setPrio (8 * p + q)
        { s.prio (8 * p + q) with xoff := some (s.tick + s.resendTicks p), cause := true }))) ∧
    (∀ (p q : Nat), q < 8 → s.obj Obj.PFC_WATCHDOG p ≠ 0 → (s.prio (8 * p + q)).pauseEnd.isSome = true → (s.prio (8 * p + q)).pausedSince + s.obj Obj.PFC_WATCHDOG p ≤ s.tick → exec (.pfcStorm p q) s = .next (s.after (((s.markTx p).setPrio (8 * p + q) { s.prio (8 * p + q) with storm := true, pauseEnd := none }).notify 0x2006 Obj.PFC_WATCHDOG p))) ∧
    (∀ (p q : Nat), q < 8 → (s.prio (8 * p + q)).storm = true → (s.prio (8 * p + q)).lastPause + s.obj Obj.PFC_WATCHDOG p ≤ s.tick → exec (.pfcStormEnd p q) s = .next (s.after (s.setPrio (8 * p + q) { s.prio (8 * p + q) with storm := false }))) ∧
    (∀ (data : List Nat), s.mgmtOut = true → exec (.mgmtFrameReceive data) s = .next (s.after (s.mgmtReceive data))))

/-- Exact-match commands of threads and the sweep complete. SEARCH, INSERT, DELETE, NEXT and FLUSH_BY_PORT from every thread of the part, and
SWEEP, answer the next state of their effect (R163 to R166, R174). Derived from 07_forwarding_tables.md. -/
def Obligations.CompletesExactMatch : Prop := ∀ s : State,
  (s.power.up = true →
    (∀ (h rec : Nat), h < s.part.threads → exec (.search h rec) s = .next (s.after (s.emAccept true h 0 (putBits rec 7 0 1)))) ∧
    (∀ (h rec : Nat), h < s.part.threads → exec (.insert h rec) s = .next (s.after (s.emAccept true h 0 (putBits rec 7 0 2)))) ∧
    (∀ (h rec : Nat), h < s.part.threads → exec (.delete h rec) s = .next (s.after (s.emAccept true h 0 (putBits rec 7 0 3)))) ∧
    (∀ (h rec : Nat), h < s.part.threads → exec (.nextEntry h rec) s = .next (s.after (s.emAccept true h 0 (putBits rec 7 0 4)))) ∧
    (∀ (h rec : Nat), h < s.part.threads → exec (.flushByPort h rec) s = .next (s.after (s.emAccept true h 0 (putBits rec 7 0 5)))) ∧
    (exec (.sweep) s = .next (s.after (s.sweep))))

/-- Sessions, requests and transactions of the Bureau complete. XEHIBOR_HANDSHAKE, ASSOCIATION_CLOSE, READ, WRITE, COMMIT, ABORT_TXN,
TXN_IDLE_TIMEOUT, NOTIFY_ACK, NOTIFY_RESEND and STORE_SAVE_DONE answer the next state of their effect on an open session, under the stated
conditions (R68 to R74, R79, R81 to R87). Derived from 03_bureau.md. -/
def Obligations.CompletesBureauSessions : Prop := ∀ s : State,
  (s.power.up = true →
    (∀ (a : Nat) (anchor : Anchor), 2 ≤ s.obj Obj.READINESS → a < 16 → (s.session? (0x10000 + a)).isNone = true → (anchor != .debug || [0, 3].contains s.boot.fuses.lifeCycle) = true → exec (.xehiborHandshake a anchor) s = .next (s.after (((fun s : Dev => s.mgmtFrame (fun s => s.setSession (0x10000 + a) { who := anchorPrincipal anchor, lastRecord := s.tick })) s.toDev)))) ∧
    (∀ (a : Nat) (alert : Bool) (ss : Session), s.session? (0x10000 + a) = some ss → a < 16 → ss.lastRecord + sixtySeconds ≤ s.tick →
      exec (.associationClose a alert) s = .next (s.after (s.endSession (0x10000 + a)))) ∧
    (∀ (a : Nat) (ss : Session), s.session? (0x10000 + a) = some ss → a < 16 → s.tick < ss.lastRecord + sixtySeconds →
      exec (.associationClose a true) s = .next (s.after (s.mgmtFrame (fun t => t.endSession (0x10000 + a))))) ∧
    (∀ (sess : Sess) (ss : Session) (t : Txn), s.session? (sessKey sess) = some ss → ss.txn = some t → t.last + s.obj Obj.TXN_IDLE_TIMEOUT ≤ s.tick →
      exec (.txnIdleTimeout sess) s = .next (s.after (s.discardTxn (sessKey sess)))) ∧
    (∀ (sess : Sess) (seq : Nat) (ss : Session) (n : Notif), s.session? (sessKey sess) = some ss → ss.notifs.find? (fun n => n.seq == seq) = some n →
      n.lastSend + tenMs ≤ s.tick → n.sends ≤ 5 → exec (.notifyResend sess seq) s = .next (s.after (
        (s.setSession (sessKey sess) { ss with notifs := ss.notifs.map (fun m => if m.seq = seq then { n with sends := n.sends + 1, lastSend := s.tick } else m) }).emit
          (.notify (sessKey sess) { n with sends := n.sends + 1, lastSend := s.tick })))) ∧
    (∀ v : Save, s.bureau.save = some v → exec (.storeSaveDone) s = .next (s.after (
      let o := s.storeCopy (1 - v.copy)
      let t := s.setStoreCopy v.copy { valid := true, seq := if o.valid then o.seq + 1 else 1, vals := v.vals }
      ({ t with bureau := { t.bureau with save := none } }).setObj Obj.STORE_STATE 0 0)))) ∧
  (∀ (sess : Sess) (ver seq count : Nat) (body : List Nat), s.remote sess = true → exec (.readReq sess ver seq count body) s = .next (s.after (
      s.request sess ver seq (fun t key => t.bodyReq key seq count body (fun u rs => u.readReq key seq rs))))) ∧
  (∀ (sess : Sess) (ver seq count : Nat) (body : List Nat), s.remote sess = true → exec (.writeReq sess ver seq count body) s = .next (s.after (
      s.request sess ver seq (fun t key => t.bodyReq key seq count body (fun u rs => u.writeReq key seq rs))))) ∧
  (∀ (sess : Sess) (ver seq txn : Nat), s.remote sess = true → exec (.commitTxn sess ver seq txn) s = .next (s.after (
      s.request sess ver seq (fun t key => t.txnReq key seq txn (fun u => match u.commitReq key txn seq with
        | (some st, u1) => u1.respond key seq (plainResponse 0 txn st 0)
        | (none, u1) => u1))))) ∧
  (∀ (sess : Sess) (ver seq txn : Nat), s.remote sess = true → exec (.abortTxn sess ver seq txn) s = .next (s.after (
      s.request sess ver seq (fun t key => t.txnReq key seq txn (fun u => (u.abortReq key txn).2.respond key seq (plainResponse 0 txn (u.abortReq key txn).1 0)))))) ∧
  (∀ (sess : Sess) (seq : Nat) (ss : Session), s.session? (sessKey sess) = some ss → exec (.notifyAck sess seq) s = .next (s.after (
      s.onPath (sessKey sess) (fun t => t.setSession (sessKey sess) { ss with lastRecord := t.tick, notifs := ss.notifs.filter (fun n => n.seq != seq) }))))

/-- The events of a host link complete. PERST_ASSERT, PERST_RELEASE, HOT_RESET, DL_DOWN, HOST_LINK_RESET, DL_ACTIVE, LINK_TRAINING_TIMEOUT,
FUNCTIONS_READY, PME_TURN_OFF, LINK_POWER_STATE_CHANGE, WAKE_EVENT, PCIE_REFCLK_ABSENT, PCIE_REFCLK_RETURN and HOT_PLUG_INSERTION answer
the next state of their effect in the link states of R229 (R229, R230, R249, R250). Derived from 10_host_links.md,
21_signals_electrical.md. -/
def Obligations.CompletesHostLink : Prop := ∀ s : State,
  (s.power.up = true →
    (∀ (k : Nat), k < s.part.links → 3 ≤ s.obj Obj.LINK_STATE_8000 k → exec (.hotReset k) s = .next (s.after (s.dueReset k true))) ∧
    (∀ (k : Nat), k < s.part.links → 3 ≤ s.obj Obj.LINK_STATE_8000 k → exec (.dlDown k) s = .next (s.after (s.dueReset k true))) ∧
    (∀ (k : Nat) (hot : Bool) (t : Nat), s.resetReady k = true → (s.link k).resetDue = some (hot, t) → exec (.hostLinkReset k) s = .next (s.after (s.linkReset k hot))) ∧
    (∀ (k status : Nat), k < s.part.links → s.obj Obj.LINK_STATE_8000 k = 2 → s.trained k status = true → exec (.dlActive k status) s = .next (s.after ((s.setObj Obj.LINK_STATE_8000 k 3).setObj Obj.LINK_STATUS k status))) ∧
    (∀ (k : Nat), k < s.part.links → s.obj Obj.LINK_STATE_8000 k = 2 → (s.link k).since + 196608 ≤ s.tick → exec (.linkTrainingTimeout k) s = .next (s.after ((s.train k).bump Obj.TRAIN_FAILS k))) ∧
    (∀ (k : Nat), k < s.part.links → s.obj Obj.LINK_STATE_8000 k = 3 → exec (.functionsReady k) s = .next (s.after (s.functionsReady k))) ∧
    (∀ (k : Nat), k < s.part.links → s.obj Obj.LINK_STATE_8000 k = 4 → exec (.pmeTurnOff k) s = .next (s.after ((s.setLink k { s.link k with power := 4 }).emit (.linkMsg k (8 * k) .pmeToAck)))) ∧
    (∀ (k power width : Nat), k < s.part.links → s.obj Obj.LINK_STATE_8000 k = 4 → s.powerOk k power width = true → exec (.linkPowerStateChange k power width) s = .next (s.after (((fun s : Dev => let req (p : Nat) : Bool := p != 2 && p != 3
    let s1 := s.setLink k { s.link k with power := power, l0p := width }
    if req (s.link k).power == req power then s1 else s1.emit (.clkreq (k / 2) (req power))) s.toDev)))) ∧
    (∀ (h : Nat), 2 * h < s.part.links → bit (s.obj Obj.SIDEBAND_STATUS) (14 + h) = false → exec (.pcieRefclkAbsent h) s = .next (s.after (s.refclkLost h))) ∧
    (∀ h : Nat, 2 * h < s.part.links → bit (s.obj Obj.SIDEBAND_STATUS) (14 + h) = true → exec (.pcieRefclkReturn h) s = .next (s.after (
      let t := s.setObj Obj.SIDEBAND_STATUS 0 (clearBit (s.obj Obj.SIDEBAND_STATUS) (14 + h))
      match t.upLink? h with | some k => t.leaveReset k | none => t))) ∧
    (∀ r : Nat, s.rootPort r = true → exec (.hotPlugInsertion r false) s = .next (s.after ((s.updSto (fun g => { g with drives := Tab.ins g.drives r false, contained := g.contained.filter (· != r) })).storageLog 0xFFFF 0 4 r))) ∧
    (∀ r : Nat, s.rootPort r = true → exec (.hotPlugInsertion r true) s = .next (s.after (
      (List.range 1024).foldl (fun t b => if t.obj Obj.BK_KIND b = 1 ∧ t.obj Obj.BK_ROOT_PORT b = r ∧ t.obj Obj.BK_STATE b = 0 then (t.setObj Obj.BK_STATE b 1).connect b else t)
        (s.updSto (fun g => { g with drives := Tab.ins g.drives r true, contained := g.contained.filter (· != r) })))))) ∧
  (∀ h : Nat, 2 * h < s.part.links → exec (.perstAssert h) s = .next (s.after (match (s.setPerst h true).upLink? h with
      | some k => if s.power.up && decide (2 ≤ s.obj Obj.LINK_STATE_8000 k) then (s.setPerst h true).dueReset k false else s.setPerst h true
      | none => s.setPerst h true))) ∧
  (∀ h : Nat, 2 * h < s.part.links → exec (.perstRelease h) s = .next (s.after (match (s.setPerst h false).upLink? h with
      | some k => if s.power.up then (s.setPerst h false).leaveReset k else s.setPerst h false
      | none => s.setPerst h false))) ∧
  (s.power.vaux = true → s.power.main = false → exec (.wakeEvent none) s = .next (s.after (((List.range (s.part.links / 2)).filter (fun h => bit (s.obj Obj.WAKE_PAIRS) h)).foldl (fun t h => t.emit (.wake h)) s.toDev))) ∧
  (∀ f : List Nat, s.power.vaux = true → s.power.main = false → s.wakeMatch f = true →
      exec (.wakeEvent (some f)) s = .next (s.after (((List.range (s.part.links / 2)).filter (fun h => bit (s.obj Obj.WAKE_PAIRS) h)).foldl (fun t h => t.emit (.wake h)) s.toDev)))

/-- Configuration and control of a host function complete. VF_READY, CONFIG_REQUEST, BME_SET, BME_CLEAR, INITIATE_FLR, FLR_COMPLETE,
VF_ENABLE_SET, VF_ENABLE_CLEAR, D_STATE_CHANGE, ATS_INVALIDATE and CI_DATA_READ answer the next state of their effect on a function that
answers configuration requests (R227, R230, R233 to R236, R239, R245, R246, R248). Derived from 10_host_links.md. -/
def Obligations.CompletesFunctionControl : Prop := ∀ s : State,
  (s.power.up = true →
    (∀ (n : Nat), isPf n = false → s.present n = true → (s.fn n).vfSince.isSome = true → exec (.vfReady n) s = .next (s.after ((s.setFn n { s.fn n with vfSince := none }).emit (.linkMsg (s.linkOf n) n .functionReady)))) ∧
    (∀ (n : Nat) (reg : CfgReg) (wr : Option Nat), fnInPart s.part n = true → 3 ≤ s.obj Obj.LINK_STATE_8000 (s.linkOf n) → exec (.configRequest n reg wr) s = .next (s.after (s.cfgServe n reg wr))) ∧
    (∀ (n : Nat), s.cfgUp n = true → (s.fn n).bme = false → exec (.bmeSet n) s = .next (s.after (s.bmeSet n))) ∧
    (∀ (n : Nat), s.cfgUp n = true → (s.fn n).bme = true → exec (.bmeClear n) s = .next (s.after (s.bmeClear n))) ∧
    (∀ (n : Nat), s.cfgUp n = true → exec (.initiateFlr n) s = .next (s.after (s.initiateFlr n))) ∧
    (∀ (n : Nat), s.fstate n = 6 → fnInPart s.part n = true → exec (.flrComplete n) s = .next (s.after (s.flrComplete n))) ∧
    (∀ (n : Nat), isPf n = true → s.cfgUp n = true → (s.fn n).vfEnable = false → exec (.vfEnableSet n) s = .next (s.after (s.vfEnableSet n))) ∧
    (∀ (n : Nat), isPf n = true → s.cfgUp n = true → (s.fn n).vfEnable = true → exec (.vfEnableClear n) s = .next (s.after (s.vfEnableClear n))) ∧
    (∀ (n d : Nat), (if d = 4 then fnInPart s.part n && s.obj Obj.LINK_STATE_8000 (s.linkOf n) == 1 else s.cfgUp n && (d == 0 || d == 3)) = true → exec (.dStateChange n d) s = .next (s.after (s.dState n d))) ∧
    (∀ (r : PageRange), s.cfgUp r.fn = true → exec (.atsInvalidate r) s = .next (s.after
      ((s.dropTranslations r.fn (fun p => decide (r.page ≤ p ∧ p < r.page + r.pages))).emit (.linkMsg (s.linkOf r.fn) r.fn .invalidateDone)))) ∧
    (∀ n : Nat, s.cfgUp n = true → exec (.ciDataRead n) s = .next (s.after ((s.ciData n).2.emit (.cfgReply n (.data (s.ciData n).1))))))

/-- Completions, register writes and doorbells complete. COMPLETION_TLP, COMPLETION_TIMEOUT, TAG_QUARANTINE_END, REGISTER_WRITE and the
doorbells answer the next state of their effect under the stated conditions (R231, R240 to R243, R257 to R261). Derived from
10_host_links.md, 11_queues.md. -/
def Obligations.CompletesHostRequests : Prop := ∀ s : State,
  (s.power.up = true →
    (∀ (k tag bytes status : Nat) (data : List Nat), k < s.part.links → 1 < s.obj Obj.LINK_STATE_8000 k → exec (.completionTlp k tag bytes status data) s = .next (s.after (s.completionTlp k tag bytes status data))) ∧
    (∀ (k tag : Nat) (t : Tag), s.timedOut? k tag = some t → exec (.completionTimeout k tag) s = .next (s.after (s.ctoAct k tag t))) ∧
    (∀ (k tag q : Nat) (t : Tag) (e : Bool), Tab.get? (s.link k).tags tag = some t → t.quar = some (q, e) → q + 2 * s.ctoTicks t.req.fn ≤ s.tick →
      exec (.tagQuarantineEnd k tag) s = .next (s.after (s.returnTag k tag))) ∧
    (∀ n bar off size v : Nat, s.barUp n = true → (bar = 0 ∨ bar = 2 ∨ bar = 6) → exec (.registerWrite n bar off size (some v)) s = .next (s.after (s.barWrite n bar off size v))) ∧
    (∀ n bar off size : Nat, s.barUp n = true → (bar = 0 ∨ bar = 2 ∨ bar = 6) → exec (.registerWrite n bar off size none) s = .next (s.after (s.barRead n bar off size))) ∧
    (∀ (n page w : Nat), s.barUp n = true → bits w 31 24 ≠ 2 → bits w 31 24 ≠ 3 → exec (.doorbellValue n page w) s = .next (s.after (s.doorbell n page w))) ∧
    (∀ (n page w : Nat), s.barUp n = true → bits w 31 24 = 2 → exec (.doorbellRefresh n page w) s = .next (s.after (s.doorbell n page w))) ∧
    (∀ (n page w : Nat), s.barUp n = true → bits w 31 24 = 3 → exec (.doorbellReleaseArm n page w) s = .next (s.after (s.doorbell n page w))))

/-- Descriptor queues and admin registers complete. SEND_JOB, RECEIVE_DESCRIPTOR, COMPLETION_POST, HW_INDEX_WRITE, DIRTY_MARK, ADMIN_ENABLE,
ADMIN_DISABLE and ADMIN_INVALID_OPCODE answer the next state of their effect under the stated conditions, each read of host memory once a
tag is free (R240, R255, R262 to R271, R296). Derived from 11_queues.md, 12_tenants.md. -/
def Obligations.CompletesHostQueues : Prop := ∀ s : State,
  (s.power.up = true →
    (∀ (n Q t : Nat) (q : Queue) (s1 : Dev) (err d : Nat) (frags : Option (List Nat)), s.queue? (qkey n Q) = some q → q.type = 1 → s.mayRead n q = true → s.queueHeld n Q = false →
      s.sendLow n q (some d) = false → s.slotAsk n (s.descAddr q) s.descBytes (.slot (qkey n Q)) = (some t, s1) →
      exec (.sendJob n Q (some d) err frags) s = .next (s.after (s1.sendJob n Q t d frags))) ∧
    (∀ (n Q t : Nat) (q : Queue) (s1 : Dev) (err : Nat) (frags : Option (List Nat)), s.queue? (qkey n Q) = some q → q.type = 1 → s.mayRead n q = true → s.queueHeld n Q = false →
      s.sendLow n q none = false → s.slotAsk n (s.descAddr q) s.descBytes (.slot (qkey n Q)) = (some t, s1) → s1.canFail n t err = true →
      exec (.sendJob n Q none err frags) s = .next (s.after ((s1.slotFail n t err).slotFrozen (qkey n Q)))) ∧
    (∀ (n Q t err d : Nat) (q : Queue) (s1 : Dev), s.queue? (qkey n Q) = some q → q.type = 2 → s.mayRead n q = true → q.held.length < 31 → s.slotAsk n (s.descAddr q) s.descBytes (.slot (qkey n Q)) = (some t, s1) →
      exec (.receiveDescriptor n Q (some d) err) s = .next (s.after ((s1.returnTag (s1.linkOf n) t).receiveDesc n Q d))) ∧
    (∀ (n Q t err : Nat) (q : Queue) (s1 : Dev), s.queue? (qkey n Q) = some q → q.type = 2 → s.mayRead n q = true → q.held.length < 31 → s.slotAsk n (s.descAddr q) s.descBytes (.slot (qkey n Q)) = (some t, s1) → s1.canFail n t err = true →
      exec (.receiveDescriptor n Q none err) s = .next (s.after ((s1.slotFail n t err).slotFrozen (qkey n Q)))) ∧
    (∀ (n Q : Nat), s.postReady (qkey n Q) = true → exec (.completionPost n Q) s = .next (s.after (s.postAct (qkey n Q)))) ∧
    (∀ (n Q : Nat), s.hwDue (qkey n Q) = true → exec (.hwIndexWrite n Q) s = .next (s.after (s.hwWrite (qkey n Q)))) ∧
    (∀ (n : Nat), (s.fn n).dirty.head?.any (fun j => decide (j.2 < s.tick)) = true → s.mayWrite (s.parentPf n) = true → exec (.dirtyMark n) s = .next (s.after (s.dirtyMark n))) ∧
    (∀ (n : Nat), s.barUp n = true → (s.fn n).adminEn = false → exec (.adminEnable n) s = .next (s.after (s.setFn n { s.fn n with adminDue := true }))) ∧
    (∀ (n : Nat), s.barUp n = true → ((s.fn n).adminEn || (s.fn n).adminDue) = true → exec (.adminDisable n) s = .next (s.after (s.adminDisable n))) ∧
    (∀ (n desc : Nat), s.adminReady n = true → adminOpcodes.contains (adminOp desc) = false → (s.slotAsk n (s.adminAddr n) 32 (.slot (qkey n 0))).1.isSome = true →
      exec (.adminInvalidOpcode n desc) s = .next (s.after ((s.adminTaken n desc).adminDone n 0x01 0))))

/-- Admin-queue commands complete. CREATE_QUEUE, DESTROY_QUEUE, QUEUE_RESET, BUREAU_READ, BUREAU_WRITE, BUREAU_COMMIT, FUNCTION_ABORT and its
end answer the next state of their effect when the admin queue can start them and a tag is free (R82, R240, R247, R270 to R273). Derived
from 11_queues.md, 03_bureau.md, 10_host_links.md. -/
def Obligations.CompletesAdminCommands : Prop := ∀ s : State,
  (s.power.up = true →
    (∀ (n : Nat), (s.fn n).abort.isSome = true → s.fstate n = 5 → exec (.functionAbortDone n) s = .next (s.after (s.abortDone n)))) ∧
  (∀ (n desc : Nat), adminStarts s n desc 0x01 false → exec (.createQueue n desc) s = .next (s.after ((s.adminTaken n desc).adminBegin n (.create desc)))) ∧
  (∀ (n desc : Nat), adminStarts s n desc 0x02 false → exec (.destroyQueue n desc) s = .next (s.after ((s.adminTaken n desc).stopBegin n desc true))) ∧
  (∀ (n desc : Nat), adminStarts s n desc 0x03 false → exec (.queueReset n desc) s = .next (s.after ((s.adminTaken n desc).stopBegin n desc false))) ∧
  (∀ (n desc : Nat) (input : List Nat) (ss : Session) (rs : List ObjRec), adminStarts s n desc 0x10 false → (s.adminTaken n desc).session? n = some ss →
      parseRecs input.length (input.take (bits desc 191 160)) = some rs → exec (.bureauRead n desc (some input)) s = .next (s.after ((s.adminTaken n desc).bureauDone n desc (recsStatus ((s.adminTaken n desc).readRecs n ss false (bits desc 95 64) rs)) 0 0
        ((s.adminTaken n desc).readRecs n ss false (bits desc 95 64) rs) ((s.adminTaken n desc).readRecs n ss false (bits desc 95 64) rs).length))) ∧
  (∀ (n desc : Nat) (input : List Nat) (ss : Session) (rs : List ObjRec), adminStarts s n desc 0x11 false → (s.adminTaken n desc).session? n = some ss →
      parseRecs input.length (input.take (bits desc 191 160)) = some rs → exec (.bureauWrite n desc (some input)) s = .next (s.after (
      let r := Dev.writeRecs n false (bits desc 95 64) ((s.adminTaken n desc).touchTxn n) rs
      r.1.bureauDone n desc (recsStatus r.2) (match (r.1.session? n).bind (fun ss => ss.txn) with | some t => t.id | none => 0) 0 r.2 r.2.length))) ∧
  (∀ (n desc : Nat) (t : Dev), adminStarts s n desc 0x12 false → bit desc 48 = false → (s.adminTaken n desc).commitReq n (adminArg desc) 0 = (none, t) →
      exec (.bureauCommit n desc) s = .next (s.after (t.adminBegin n (.commit (bits desc 159 96) (bits desc 95 64))))) ∧
  (∀ (n desc : Nat), adminStarts s n desc 0x12 false → bit desc 48 = true →
      exec (.bureauCommit n desc) s = .next (s.after (((s.adminTaken n desc).abortReq n (adminArg desc)).2.bureauDone n desc ((s.adminTaken n desc).abortReq n (adminArg desc)).1 (adminArg desc) 0 [] 0))) ∧
  (∀ (n desc : Nat), adminStarts s n desc 0x20 true → exec (.functionAbort n desc) s = .next (s.after ((s.adminTaken n desc).abortBegin n desc)))

/-- Quiesce, migration and the Letterbox complete. QUIESCE_FUNCTION, QUIESCE_COMPLETE, QUIESCE_BOUND, RESUME_FUNCTION, FREEZE_STATE,
SAVE_STATE, RESTORE_STATE, RESTORE_IMAGE_APPLY, THAW_STATE, LB_SEND, LB_ACK and LB_TOKEN_REFILL answer the next state of their effect for
a VF in the state that each needs (R279 to R294). Derived from 12_tenants.md. -/
def Obligations.CompletesTenancy : Prop := ∀ s : State,
  (s.power.up = true →
    (∀ (n x t : Nat), (s.fn n).quiesce = some (x, t) → t < s.tick → s.vfIdle n = true → exec (.quiesceComplete n) s = .next (s.after (s.quiesceEnd n 0))) ∧
    (∀ (n x t : Nat), (s.fn n).quiesce = some (x, t) → t + 3907 ≤ s.tick → exec (.quiesceBound n) s = .next (s.after (s.quiesceForce n))) ∧
    (∀ n t : Nat, Tab.get? s.hosts.admin n = some (.image t) → s.edgeTodo.contains .bureau = true → exec (.restoreImageApply n) s = .next (s.after ((s.restoreApply n t).restoreDone))) ∧
    (∀ (n w : Nat), s.barUp n = true → bits w 15 8 ≠ 0 → exec (.lbSend n w) s = .next (s.after (s.boxControl n w))) ∧
    (∀ (n w : Nat), s.barUp n = true → bits w 15 8 = 0 → exec (.lbAck n w) s = .next (s.after (s.boxControl n w))) ∧
    (∀ n : Nat, isPf n = false → fnInPart s.part n = true → s.tick % max 1 (s.obj Obj.LB_INTERVAL n) = 0 → (s.box n).refilled ≠ s.tick →
      exec (.lbTokenRefill n) s = .next (s.after (s.setBox n { s.box n with tokens := min 8 ((s.box n).tokens + 1), throttled := false, refilled := s.tick, changed := (s.box n).changed || (s.box n).throttled })))) ∧
  (∀ (n desc : Nat), adminStarts s n desc 0x21 true → exec (.quiesceFunction n desc) s = .next (s.after ((s.adminTaken n desc).quiesceBegin n desc))) ∧
  (∀ (n desc : Nat), adminStarts s n desc 0x22 true → ((s.adminTaken n desc).vfsOf n).contains (adminArg desc) = true →
      (s.adminTaken n desc).fstate (adminArg desc) = 4 → ((s.adminTaken n desc).fn (adminArg desc)).bme = true → exec (.resumeFunction n desc) s = .next (s.after ((s.adminTaken n desc).adminBegin n (.resume (adminArg desc))))) ∧
  (∀ (n desc : Nat), adminStarts s n desc 0x30 true → ((s.adminTaken n desc).vfsOf n).contains (adminArg desc) = true →
      (s.adminTaken n desc).fstate (adminArg desc) = 4 → ((s.adminTaken n desc).ctrlOfFn (adminArg desc)).any (fun c => ((s.adminTaken n desc).ctrl c).en) = false →
      exec (.freezeState n desc) s = .next (s.after ((s.adminTaken n desc).adminBegin n (.freeze (adminArg desc))))) ∧
  (∀ (n desc : Nat) (b : List Nat), adminStarts s n desc 0x31 true → ((s.adminTaken n desc).vfsOf n).contains (adminArg desc) = true →
      (s.adminTaken n desc).fstate (adminArg desc) = 7 → 8 ≤ bits desc 191 160 →
      (exec (.saveState n desc (some b) none) s = .next (s.after ((s.adminTaken n desc).saveState n (adminArg desc) desc (ofLE (b.take 8)))) ∧
      ∀ k a : Nat, exec (.saveState n desc (some b) (some (k, a))) s = .next (s.after (
        let t := (s.adminTaken n desc).lineRead true 0xFFFF (some (k, a))
        if k = 1 then t.2.saveState n (adminArg desc) desc (ofLE (b.take 8))
        else ((t.2.dropImage (adminArg desc)).setFstate (adminArg desc) 4).adminDone n 0x11 0)))) ∧
  (∀ (n desc : Nat) (b : List Nat), adminStarts s n desc 0x32 true → ((s.adminTaken n desc).vfsOf n).contains (adminArg desc) = true →
      (s.adminTaken n desc).fstate (adminArg desc) = 1 → ((s.adminTaken n desc).queuesOf (adminArg desc)).isEmpty = true → 8 ≤ bits desc 191 160 →
      exec (.restoreState n desc (some b)) s = .next (s.after ((s.adminTaken n desc).restoreBytes n (adminArg desc) (b.take (bits desc 191 160))))) ∧
  (∀ (n desc : Nat), adminStarts s n desc 0x33 true → ((s.adminTaken n desc).vfsOf n).contains (adminArg desc) = true →
      ((s.adminTaken n desc).fstate (adminArg desc) = 7 ∨ ((s.adminTaken n desc).fstate (adminArg desc) = 8 ∧ ((s.adminTaken n desc).fn (adminArg desc)).bme = true)) →
      exec (.thawState n desc) s = .next (s.after ((s.adminTaken n desc).adminBegin n (.thaw (adminArg desc)))))

/-- NVMe doorbells, fetches and controller states complete. NVME_SQ_DOORBELL, NVME_CQ_DOORBELL, NVME_COMMAND_FETCH, NVME_INVALID_OPCODE,
CONTROLLER_ENABLE, CONTROLLER_DISABLE, CONTROLLER_SHUTDOWN, CONTROLLER_DISABLE_DONE and INTERRUPT_COALESCING_TIMER answer the next state
of their effect under the stated conditions, a fetch once a tag is free (R240, R301 to R304, R325). Derived from 13_storage.md. -/
def Obligations.CompletesNvmeController : Prop := ∀ s : State,
  (s.power.up = true →
    (∀ (c q v : Nat), s.ctrlUp c = true → exec (.nvmeSqDoorbell c q v) s = .next (s.after (s.sqDoorbell c q v))) ∧
    (∀ (c q v : Nat), s.ctrlUp c = true → exec (.nvmeCqDoorbell c q v) s = .next (s.after (s.cqDoorbell c q v))) ∧
    (∀ (c q sqe t : Nat) (s1 : Dev), s.mayFetch c q = true → s.slotAsk (s.ctrlFn c) (s.nvmAddr c q) 64 (.nvmSlot c q) = (some t, s1) →
      exec (.nvmeCommandFetch c q sqe) s = .next (s.after ((s1.returnTag (s1.linkOf (s1.ctrlFn c)) t).nvmFetch c q sqe))) ∧
    (∀ (c q cid : Nat) (m : NvmCmd), s.cmd? c q cid = some m → m.started = false → m.final = false → (s.opcodes c (q == 0)).contains m.opcode = false →
      exec (.nvmeInvalidOpcode c q cid) s = .next (s.after ((s.cmdDone c q m.seq 0x1 0).pump))) ∧
    (∀ (c : Nat), s.canEnable c = true → exec (.controllerEnable c) s = .next (s.after (s.ctrlEnable c))) ∧
    (∀ (c : Nat), (s.ctrl c).en = true → (s.ctrl c).ending ≠ some 0 → exec (.controllerDisable c) s = .next (s.after (s.ctrlStop c 0))) ∧
    (∀ (c : Nat), (s.ctrl c).en = true → (s.ctrl c).ending.isNone = true → (s.ctrl c).shst = 0 → exec (.controllerShutdown c) s = .next (s.after (s.ctrlShutdown c))) ∧
    (∀ (c : Nat), s.endReady c = true → exec (.controllerDisableDone c) s = .next (s.after (s.ctrlEnd c))) ∧
    (∀ (c q : Nat) (x : Cq), Tab.get? (s.ctrl c).cqs q = some x → 0 < x.pend → x.pendTick + aggTicks ((s.ctrl c).coalesce q).2 ≤ s.tick →
      exec (.interruptCoalescingTimer c q) s = .next (s.after (s.cqInterrupt c q))))

/-- NVMe admin commands complete. CREATE_IO_SQ, DELETE_IO_SQ, CREATE_IO_CQ, DELETE_IO_CQ, GET_LOG_PAGE, IDENTIFY, ABORT, SET_FEATURES,
GET_FEATURES, ASYNC_EVENT_REQUEST, NAMESPACE_MANAGEMENT, NAMESPACE_ATTACHMENT, THAW_SQ and its end answer the next state of their effect
on a fetched command of a controller that is up, once the tables that say where its data lie have been read (R240, R303, R305, R306, R324).
Derived from 13_storage.md. -/
def Obligations.CompletesNvmeAdmin : Prop := ∀ s : State,
  (s.power.up = true →
    (∀ (c cid : Nat) (m : NvmCmd), s.adm? c cid 1 = some m → exec (.createIoSq c cid) s = .next (s.after
      (((s.updCmd c 0 m.seq (fun y => { y with started := true })).createSq c m).pump))) ∧
    (∀ (c cid : Nat) (m : NvmCmd), s.adm? c cid 0 = some m → exec (.deleteIoSq c cid) s = .next (s.after
      (((s.updCmd c 0 m.seq (fun y => { y with started := true })).deleteSq c m).pump))) ∧
    (∀ (c cid : Nat) (m : NvmCmd), s.adm? c cid 5 = some m → exec (.createIoCq c cid) s = .next (s.after
      (((s.updCmd c 0 m.seq (fun y => { y with started := true })).createCq c m).pump))) ∧
    (∀ (c cid : Nat) (m : NvmCmd), s.adm? c cid 4 = some m → exec (.deleteIoCq c cid) s = .next (s.after
      (((s.updCmd c 0 m.seq (fun y => { y with started := true })).deleteCq c m).pump))) ∧
    (∀ (c cid : Nat) (list : List Nat) (segs : List (Nat × Nat)) (m : NvmCmd) (s1 : Dev), s.adm? c cid 2 = some m →
      (s.dataAt c m (logLen m.sqe) 0 true list).segs = .ok segs → s.readsAsk (s.ctrlFn c) (s.dataAt c m (logLen m.sqe) 0 true list).tables (.nvmList c 0 m.seq) = (true, s1) →
      exec (.getLogPage c cid (some list)) s = .next (s.after
        ((((s1.readsGot (s.ctrlFn c) (.nvmList c 0 m.seq)).updCmd c 0 m.seq (fun y => { y with started := true })).getLog c m segs).pump))) ∧
    (∀ (c cid : Nat) (list : List Nat) (segs : List (Nat × Nat)) (m : NvmCmd) (s1 : Dev), s.adm? c cid 6 = some m →
      (s.dataAt c m 4096 0 true list).segs = .ok segs → s.readsAsk (s.ctrlFn c) (s.dataAt c m 4096 0 true list).tables (.nvmList c 0 m.seq) = (true, s1) →
      exec (.identify c cid (some list)) s = .next (s.after
        ((((s1.readsGot (s.ctrlFn c) (.nvmList c 0 m.seq)).updCmd c 0 m.seq (fun y => { y with started := true })).identify c m segs).pump))) ∧
    (∀ (c cid : Nat) (m : NvmCmd), s.adm? c cid 8 = some m → exec (.abortCmd c cid) s = .next (s.after
      (((s.updCmd c 0 m.seq (fun y => { y with started := true })).abortNvm c m).pump))) ∧
    (∀ (c cid : Nat) (m : NvmCmd), s.adm? c cid 9 = some m → exec (.setFeatures c cid) s = .next (s.after
      (((s.updCmd c 0 m.seq (fun y => { y with started := true })).setFeature c m).pump))) ∧
    (∀ (c cid : Nat) (m : NvmCmd), s.adm? c cid 0xA = some m → exec (.getFeatures c cid) s = .next (s.after
      (((s.updCmd c 0 m.seq (fun y => { y with started := true })).getFeature c m).pump))) ∧
    (∀ (c cid : Nat) (m : NvmCmd), s.adm? c cid 0xC = some m → exec (.asyncEventRequest c cid) s = .next (s.after
      (((s.updCmd c 0 m.seq (fun y => { y with started := true })).aerCmd c m).pump))) ∧
    (∀ (c cid : Nat) (data : List Nat) (segs : List (Nat × Nat)) (m : NvmCmd) (s1 : Dev), s.adm? c cid 0xD = some m →
      (s.manageData c m).segs = .ok segs → s.readsAsk (s.ctrlFn c) (s.manageData c m).tables (.nvmList c 0 m.seq) = (true, s1) →
      exec (.namespaceManagement c cid data) s = .next (s.after
        ((((s1.readsGot (s.ctrlFn c) (.nvmList c 0 m.seq)).updCmd c 0 m.seq (fun y => { y with started := true })).nsManage c m data).pump))) ∧
    (∀ (c cid : Nat) (ids : List Nat) (segs : List (Nat × Nat)) (m : NvmCmd) (s1 : Dev), s.adm? c cid 0x15 = some m →
      (s.dataAt c m 4096 0 true []).taken.segs = .ok segs →
      s.readsAsk (s.ctrlFn c) (s.dataAt c m 4096 0 true []).taken.tables (.nvmList c 0 m.seq) = (true, s1) →
      exec (.namespaceAttachment c cid ids) s = .next (s.after
        ((((s1.readsGot (s.ctrlFn c) (.nvmList c 0 m.seq)).updCmd c 0 m.seq (fun y => { y with started := true })).nsAttach c m ids).pump))) ∧
    (∀ (c cid : Nat) (m : NvmCmd), s.adm? c cid 0xC2 = some m → exec (.thawSq c cid) s = .next (s.after
      (((s.updCmd c 0 m.seq (fun y => { y with started := true })).thawSq c m).pump))) ∧
    (∀ (c q : Nat), s.thawReady c q = true → exec (.thawSqComplete c q) s = .next (s.after (s.thawDone c q))))

/-- NVMe I/O commands complete. FLUSH, NVM_WRITE, NVM_READ, WRITE_ZEROES and DATASET_MANAGEMENT on a fetched command of an I/O queue,
HELD_COMMAND_TIMEOUT and SQ_FREEZE answer the next state of their effect (R305, R308 to R318, R321). Derived from 13_storage.md. -/
def Obligations.CompletesNvmeIo : Prop := ∀ s : State,
  (s.power.up = true →
    (∀ (c q cid : Nat) (m : NvmCmd), s.io? c q cid 0 = some m → exec (.flushCmd c q cid) s = .next (s.after ((s.nvmFlush c q m).pump))) ∧
    (∀ (c q cid : Nat) (list : Option (List Nat)) (m : NvmCmd), s.io? c q cid 1 = some m → exec (.nvmWrite c q cid list) s = .next (s.after ((s.nvmWrite c q m list).pump))) ∧
    (∀ (c q cid : Nat) (list : Option (List Nat)) (m : NvmCmd), s.io? c q cid 2 = some m → exec (.nvmRead c q cid list) s = .next (s.after ((s.nvmRead c q m list).pump))) ∧
    (∀ (c q cid : Nat) (m : NvmCmd), s.io? c q cid 8 = some m → exec (.writeZeroes c q cid) s = .next (s.after ((s.writeZeroes c q m).pump))) ∧
    (∀ (c q cid : Nat) (x : DsmData) (m : NvmCmd), s.io? c q cid 9 = some m → exec (.datasetManagement c q cid x) s = .next (s.after ((s.datasetMgmt c q m x.list x.ranges).pump))) ∧
    (∀ (c q cid : Nat) (m : NvmCmd), s.heldOut c q cid = true → s.cmd? c q cid = some m → exec (.heldCommandTimeout c q cid) s = .next (s.after ((s.cmdDone c q m.seq 0x300 0).pump))) ∧
    (∀ (c q t : Nat) (x : Sq), s.sq? c q = some x → x.freezeDue = some t → t < s.tick → x.st = 0 → exec (.sqFreeze c q) s = .next (s.after (s.sqFreeze c q))))

/-- Backend events and resynchronisation complete. BACKEND_COMPLETION, BACKEND_PATH_LOSS, BACKEND_LIVE, KEEP_ALIVE, BACKEND_CMD_TIMEOUT,
PIECE_SETTLE, RESYNC_START, RESYNC_DONE, INTENT_CLEAR and NS_DELETE_FREE answer the next state of their effect under the stated conditions
(R306, R310 to R316, R320). Derived from 13_storage.md. -/
def Obligations.CompletesBackends : Prop := ∀ s : State,
  (s.power.up = true →
    (∀ (b c q m j status : Nat) (sec : Bool) (data : List Nat) (y : NvmCmd) (p : Piece), s.live b = true → s.cmdBy? c q m = some y → y.pieces[j]? = some p →
      (if sec then p.secBk else p.priBk) = b → exec (.backendCompletion b (.piece c q m j sec) status data) s = .next (s.after (s.pieceEnd c q m j sec status data))) ∧
    (∀ (b c q m status : Nat) (data : List Nat), s.live b = true → exec (.backendCompletion b (.flush c q m) status data) s = .next (s.after (s.flushEnd b c q m status))) ∧
    (∀ (b x status : Nat) (data : List Nat), s.live b = true → exec (.backendCompletion b (.copy x) status data) s = .next (s.after (s.ownEnd b (.copy x) status data))) ∧
    (∀ (b i k status : Nat) (data : List Nat), s.live b = true → exec (.backendCompletion b (.intent i k) status data) s = .next (s.after (s.ownEnd b (.intent i k) status data))) ∧
    (∀ (b : Nat), (s.live b || (s.obj Obj.BK_KIND b == 1 && s.driveAt (s.obj Obj.BK_ROOT_PORT b))) = true →
      exec (.backendPathLoss b) s = .next (s.after ((s.lostWith b).foldl (fun t x => t.pathLost x false) (s.driveGone b)))) ∧
    (∀ (b dataBytes metaBytes blocks : Nat) (cache : Bool) (atomicBytes boundary : Nat), s.obj Obj.BK_KIND b ≠ 0 → (s.obj Obj.BK_STATE b == 1 || s.obj Obj.BK_STATE b == 3) = true →
      (s.obj Obj.BK_KIND b = 1 → Tab.get? s.storage.drives (s.obj Obj.BK_ROOT_PORT b) = some true) → exec (.backendLive b dataBytes metaBytes blocks cache atomicBytes boundary) s = .next (s.after (s.backLive b dataBytes metaBytes blocks cache atomicBytes boundary))) ∧
    (∀ b : Nat, s.live b = true → 2 ≤ s.obj Obj.BK_KIND b → s.obj Obj.ROLE ≠ 4 → (s.back b).kaSent + s.obj Obj.KATO / 2 ≤ s.tick → 0 < s.obj Obj.KATO →
      exec (.keepAlive b true) s = .next (s.after ((s.setBack b { s.back b with kaSent := s.tick, kaSeen := s.tick }).emit (.keepAlive b)))) ∧
    (∀ b : Nat, s.live b = true → 2 ≤ s.obj Obj.BK_KIND b → s.obj Obj.ROLE ≠ 4 → (s.back b).kaSent + s.obj Obj.KATO / 2 ≤ s.tick → (s.back b).kaSeen + s.obj Obj.KATO ≤ s.tick →
      exec (.keepAlive b false) s = .next (s.after (s.pathLost b false))) ∧
    (∀ (b : Nat), s.live b = true → s.cmdTimedOut b = true → exec (.backendCmdTimeout b) s = .next (s.after ((s.bump Obj.COMMAND_TIMEOUTS b).pathLost b true))) ∧
    (s.storage.unsettled.any (fun u => decide (u.settle ≤ s.tick)) = true → exec (.pieceSettle) s = .next (s.after (s.settlePieces))) ∧
    (∀ (x : Nat), s.resyncReady x = true → exec (.resyncStart x) s = .next (s.after ((s.setSync x 2).ownSend { op := .copy x, backend := bits (s.obj Obj.EXTENT x) 117 108 }))) ∧
    (∀ (x : Nat) (good : Bool), s.sync x = 2 → (good = true → s.storage.own.any (fun o => o.op == .copy x && o.writing) = true) → exec (.resyncDone x good) s = .next (s.after (s.resyncDone x good))) ∧
    (∀ x i : Nat, s.nsOfSlot x = some i → s.intentOld i x = true → exec (.intentClear x) s = .next (s.after (
      s.ownSend { op := .intent i (intentBlock (x - s.obj Obj.EXTENT_BASE i)), backend := s.obj Obj.INTENT_BACKEND i, clears := [x] }))) ∧
    (∀ i : Nat, s.storage.deleting.any (fun d => d.1 == i) = true → s.storage.ctrls.all (fun c => c.2.sqs.all (fun q => q.2.cmds.all (fun m => m.nsid != i + 1))) = true →
      exec (.nsDeleteFree i) s = .next (s.after (
        (((s.storage.deleting.filter (fun d => d.1 == i)).foldl (fun t d => t.clearSlots d.2.1 d.2.2) s.toDev).setObj Obj.LBA_FORMAT i 2).updSto
          (fun g => { g with deleting := g.deleting.filter (fun d => d.1 != i) })))))

/-- The cipher slices complete. RUN, RELEASE, CIPHER_PARCEL_JOB, CIPHER_SUSPEND, KEY_CACHE_MISS_RETURN, RNG_WAIT_TIMEOUT, DRBG_RESEED,
RNG_FAULT, RNG_RECOVER, ALARM_TRIP and KAT_DONE answer the next state of their effect under the stated conditions, CIPHER_SUSPEND at an
edge that is run piece by piece (R23, R331 to R339, R350 to R352). Derived from 14_cipher.md. -/
def Obligations.CompletesCipher : Prop := ∀ s : State,
  (s.power.up = true →
    (∀ (h rec : Nat) (fin : Bool), h < s.part.threads → s.inService (h / 32) = true → exec (.runCipher h rec fin) s = .next (s.after (s.threadRun h (putBits rec 7 0 1) fin))) ∧
    (∀ (h rec : Nat), h < s.part.threads → s.inService (h / 32) = true → exec (.release h rec) s = .next (s.after (s.threadRun h (putBits rec 7 0 2) true))) ∧
    (∀ (d i : Nat) (fin : Bool), s.parcelJob d i = true → s.sliceGo d i = true → exec (.cipherParcelJob d i fin) s = .next (s.after (s.sliceRun d i fin))) ∧
    (∀ (d : Nat), s.edgeTodo.contains .budgets = true → s.inService d = true → exec (.cipherSuspend d) s = .next (s.after (s.cipherSuspend d))) ∧
    (∀ (d i : Nat) (poison : Option (Nat × Nat)) (j : SliceJob), s.inService d = true → (s.sliceJobs d)[i]? = some j → j.keyMiss = true → exec (.keyCacheMissReturn d i poison) s = .next (s.after (s.keyReturn d i poison))) ∧
    (∀ (d i : Nat) (j : SliceJob), (s.sliceJobs d)[i]? = some j → j.starved s.tick = true → exec (.rngWaitTimeout d i) s = .next (s.after (s.rngTimeout d i j))) ∧
    (∀ (d : Nat), s.inService d = true → s.rngFault (d / 16) = false → exec (.drbgReseed d) s = .next (s.after (s.reseed d))) ∧
    (∀ (c : Nat), c < s.part.cabinets → s.rngFault c = false → exec (.rngFault c) s = .next (s.after ((s.setObj Obj.RNG_STATE 0 (setBit (s.obj Obj.RNG_STATE) c)).notify 0xA002 Obj.RNG_STATE c))) ∧
    (∀ (c : Nat), c < s.part.cabinets → s.rngFault c = true → exec (.rngRecover c) s = .next (s.after (s.setObj Obj.RNG_STATE 0 (clearBit (s.obj Obj.RNG_STATE) c)))) ∧
    (∀ (d sensor value : Nat), s.inService d = true → (1 ≤ sensor ∧ sensor ≤ 5) → exec (.alarmTrip d sensor value) s = .next (s.after (s.alarmTrip d sensor value))) ∧
    (∀ (d : Nat) (pass : Bool), s.inService d = true → s.obj Obj.SLICE_STATE d = 0 → exec (.katDone d pass) s = .next (s.after (s.katDone d pass))))

/-- The postmark unit completes. SET, ADJ_FREQ, ADJ_PHASE, PPS_OUT_PULSE, PPS_IN_EDGE, PPS_IN_LOST, REF10M_WINDOW and REF10M_LOST answer the
next state of their effect under the stated conditions (R359 to R365, R374 to R377). Derived from 15_postmark.md. -/
def Obligations.CompletesPostmark : Prop := ∀ s : State,
  (s.power.up = true →
    (∀ h rec : Nat, h < s.part.threads → s.inService (h / 32) = true → exec (.setTime h rec) s = .next (s.after (s.correction h 1 rec))) ∧
    (∀ h rec : Nat, h < s.part.threads → s.inService (h / 32) = true → exec (.adjFreq h rec) s = .next (s.after (s.correction h 2 rec))) ∧
    (∀ h rec : Nat, h < s.part.threads → s.inService (h / 32) = true → exec (.adjPhase h rec) s = .next (s.after (s.correction h 3 rec))) ∧
    (∀ (agree : Bool) (k : Int), s.ppsDue = some k → bit (s.obj Obj.PPS_STATUS) 2 = false → exec (.ppsOutPulse agree) s = .next (s.after (s.ppsPulse agree k))) ∧
    (∀ (cap : Nat), cap / 4096 = s.tick → exec (.ppsInEdge cap) s = .next (s.after (s.ppsIn cap))) ∧
    (bit (s.obj Obj.PPS_STATUS) 0 = true → s.postmark.ppsInTick + 3906250 ≤ s.tick → exec (.ppsInLost) s = .next (s.after ((s.setObj Obj.PPS_STATUS 0 (clearBit (s.obj Obj.PPS_STATUS) 0)).notify 0xB004 Obj.PPS_STATUS pinPpsIn))) ∧
    (∀ (edges : Nat), s.tick % 2 ^ 21 = 0 → s.postmark.refWindow ≠ s.tick → exec (.ref10mWindow edges) s = .next (s.after (s.refReport edges))) ∧
    (s.obj Obj.REF10M_STATE = 1 → s.refSilent = true → exec (.ref10mLost) s = .next (s.after s.refLose)))

/-- Instructions, events and channels of the threads complete. ISA_INSTRUCTION (the RISC-V base set), WAITEV, SIGEV, SIGEV_ARRIVE, CHBIND,
CHPUT, CHEND, CHGET, CHTOK, CHANNEL_TOKEN_ACCEPT, CHANNEL_TIMEOUT, INTERRUPT_TAKE, CORE_STALL, DEBUG_HALT, DEBUG_RESUME and NCHPOISON
answer the next state of their effect, for a thread that runs and takes no interrupt first, or under the stated conditions (R380 to R400).
Derived from 16_nirah_cores.md. -/
def Obligations.CompletesThreads : Prop := ∀ s : State,
  (s.power.up = true →
    (∀ (h fetchErr err : Nat), s.issues h = true → exec (.isaInstruction h fetchErr err) s = .next (s.after (s.isa h fetchErr err))) ∧
    (∀ (h : Nat), s.issues h = true → exec (.waitev h) s = .next (s.after (s.ext h 0 (fun t raw a _ => t.waitev h raw a)))) ∧
    (∀ (h : Nat), s.issues h = true → exec (.sigev h) s = .next (s.after (s.ext h 1 (fun t _ a b => t.sigev h a b)))) ∧
    (∀ (h target : Nat), (s.sigFor h target).isSome = true → exec (.sigevArrive h target) s = .next (s.after (s.sigArrive h target))) ∧
    (∀ (h : Nat), s.issues h = true → exec (.chbind h) s = .next (s.after (s.ext h 2 (fun t _ a b => t.chbind h a b)))) ∧
    (∀ (h : Nat), s.issues h = true → exec (.chput h) s = .next (s.after (s.ext h 3 (fun t _ a b => t.chput h a b)))) ∧
    (∀ (h : Nat), s.issues h = true → exec (.chend h) s = .next (s.after (s.ext h 6 (fun t _ a _ => t.chend h a)))) ∧
    (∀ (h : Nat), s.issues h = true → exec (.chget h) s = .next (s.after (s.ext h 4 (fun t raw a _ => t.receive h a (.get (a % 32) (rvRd raw)))))) ∧
    (∀ (h : Nat), s.issues h = true → exec (.chtok h) s = .next (s.after (s.ext h 5 (fun t raw a _ => t.receive h a (.tok (a % 32) (rvRd raw)))))) ∧
    (∀ (E : Nat), exec (.channelTokenAccept E) s = .next (s.after (s.tokenAccept E))) ∧
    (∀ (h : Nat), s.timedOut h = true → exec (.channelTimeout h) s = .next (s.after (s.channelTimeout h))) ∧
    (∀ (h : Nat), s.hartRuns h = true → (s.hart h).wait = .run → (s.intNext h).isSome = true → exec (.interruptTake h) s = .next (s.after (s.takeInt h))) ∧
    (∀ (n : Nat), s.edgeTodo.contains .stall = true → s.stalled n = true → exec (.coreStall n) s = .next (s.after (s.coreStall n))) ∧
    (∀ (h : Nat), s.debugOk = true → s.hartRuns h = true → exec (.debugHalt h) s = .next (s.after (s.debugHalt h))) ∧
    (∀ (h : Nat), s.inDebug h = true → exec (.debugResume h) s = .next (s.after (s.setHart h { s.hart h with halted := false, pc := (s.hart h).dpc, awake := s.tick }))) ∧
    (∀ (h E : Nat), s.inDebug h = true → E / 32 = h / 8 → exec (.nchpoison h E) s = .next (s.after (s.poisonEnd E))))

/-- The steps of the boot and of an image installation complete. SRAM_WIPE_DONE, EARLY_SET_APPLY, MEM_TRAINING_DONE, MEM_WIPE_DONE,
IMAGE_CHECK_DONE, CORE_RELEASE, CONFIG_LOADING, FULL_LOAD_DONE, BOOT_WATCHDOG, IMG_ERASE_DONE, IMG_PROGRAM_DONE, IMG_CHECK_DONE and
LC_TRANSITION answer the next state of their effect in the READINESS, MEM_STATE and IMG_STATE that each needs (R408 to R424, R451 to R453,
R470 to R472). Derived from 17_boot_lifecycle.md, 19_attached_memory.md, 20_power_startup.md. -/
def Obligations.CompletesBoot : Prop := ∀ s : State,
  (s.power.up = true →
    (∀ puf : Bool, s.bootIn 0 = true → exec (.sramWipeDone puf) s = .next (s.after (
      let t := ({ s.toDev with mem := s.mem.filter (fun c => decide (gddrBase ≤ c.1)) } : Dev).bootNext (.enter 1)
      if !puf && !s.boot.warm then t.bootFault else { t with boot := { t.boot with todo := t.slotsToHandle } }))) ∧
    (s.bootIn 1 = true → s.boot.early = false → exec (.earlySetApply) s = .next (s.after (s.earlySet))) ∧
    (∀ (density vddq : Nat) (good : Bool) (ch : Nat), s.obj Obj.MEM_STATE = 1 → (density == 1 || density == 2) = true → vddq ≤ 1 → exec (.memTrainingDone density vddq good ch) s = .next (s.after (s.memTrained density vddq good ch))) ∧
    (s.obj Obj.MEM_STATE = 2 → exec (.memWipeDone) s = .next (s.after (s.memWiped))) ∧
    (s.bootIn 1 = true → s.boot.early = true → s.boot.booted.isNone = true → exec (.imageCheckDone) s = .next (s.after (s.imageCheck))) ∧
    (∀ (failed : List Nat), s.bootIn 1 = true → s.boot.booted.isSome = true → s.obj Obj.MEM_STATE = 3 → s.boot.released.isNone = true → exec (.coreRelease failed) s = .next (s.after (s.bootNext (.release failed)))) ∧
    (s.bootIn 1 = true → s.boot.released.isSome = true → exec .configLoading s = .next (s.after (
      ({ s.toDev with boot := { s.boot with anchors := (s.flash (s.boot.booted.getD 0)).anchorBytes }, cores := { s.cores with codeLock := true } } : Dev).bootNext (.enter 2)))) ∧
    (s.bootIn 2 = true → exec (.fullLoadDone) s = .next (s.after (s.fullLoad))) ∧
    (∀ t : Nat, s.boot.released = some t → t + 7812500 ≤ s.tick → (s.obj Obj.READINESS = 1 ∨ s.obj Obj.READINESS = 2) → exec .bootWatchdog s = .next (s.after (
      let i := s.boot.booted.getD 0
      (({ s.toDev with boot := { s.boot with failed := if s.boot.failed.contains i then s.boot.failed else s.boot.failed ++ [i] } } : Dev).diag 0 0x10 i 0).warmReset 5))) ∧
    (s.obj Obj.IMG_STATE = 1 → exec .imgEraseDone s = .next (s.after (
      (s.setFlash (s.obj Obj.IMG_SLOT) { s.flash (s.obj Obj.IMG_SLOT) with chunks := [] }).setObj Obj.IMG_STATE 0 2))) ∧
    (s.obj Obj.IMG_STATE = 3 → exec .imgProgramDone s = .next (s.after (
      let t := s.setFlash (s.obj Obj.IMG_SLOT) (s.boot.install.foldl FlashSlot.program (s.flash (s.obj Obj.IMG_SLOT)))
      ({ t with boot := { t.boot with install := [] } } : Dev).setObj Obj.IMG_STATE 0 2))) ∧
    (s.obj Obj.IMG_STATE = 4 → exec (.imgCheckDone) s = .next (s.after (s.imgChecked)))) ∧
  (s.power.vaux = true → s.boot.accepted.isSome = true → exec .lcTransition s = .next (s.after (s.coldReset 7)))

/-- Power, reset and thermal events complete. VAUX_GOOD, VAUX_LOSS, MAIN_DOMAIN_GOOD, MAIN_RAIL_LOSS, RESET_N_ASSERT, RESET_N_RELEASE,
DCLK_LOCK, AVS_UPDATE, THROTTLE_UPDATE, THERMAL_TRIP, MEM_TEMP_READ and PATROL_SCRUB answer the next state of their effect under the
stated conditions (R449 to R460, R461 to R476). Derived from 20_power_startup.md, 19_attached_memory.md. -/
def Obligations.CompletesPower : Prop := ∀ s : State,
  (s.power.up = true →
    (∀ (target : Nat) (ack : Bool), s.obj Obj.READINESS = 3 → s.pins.avsTick + 2048 ≤ s.tick → bit (s.obj Obj.RAIL_STATUS) 6 = false → exec (.avsUpdate target ack) s = .next (s.after (s.avsUpdate target ack))) ∧
    (∀ (temps : List Int) (power : Nat), exec (.throttleUpdate temps power) s = .next (s.after (s.readPower temps power))) ∧
    (∀ (c : Nat) (t0 t1 : Int), c < s.part.memCtrls → s.obj Obj.MEM_STATE = 3 → exec (.memTempRead c t0 t1) s = .next (s.after (s.memTemp c t0 t1))) ∧
    (∀ addr : Nat, s.obj Obj.MEM_STATE = 3 → (s.regionOf addr).isSome = true → exec (.patrolScrub addr 0) s = .next (s.after (s.toDev))) ∧
    (∀ addr : Nat, s.obj Obj.MEM_STATE = 3 → (s.regionOf addr).isSome = true → exec (.patrolScrub addr 1) s = .next (s.after (s.memCorrected addr 0xFFFF))) ∧
    (∀ addr found : Nat, s.obj Obj.MEM_STATE = 3 → (s.regionOf addr).isSome = true → 2 ≤ found → exec (.patrolScrub addr found) s = .next (s.after (s.memLost addr 0xFFFF)))) ∧
  (∀ (straps : Nat) (high : Bool), s.power.vaux = false → exec (.vauxGood straps high) s = .next (s.after (
      ({ s.toDev with power := { s.power with vaux := true, main := false, hold := false, dclk := false, lost := none }, pins := { s.pins with straps := straps % 16, vauxHigh := high } } : Dev).coldReset 0))) ∧
  (exec .vauxLoss s = .next (s.after {
      part := s.part, tick := s.tick, free := s.free, out := s.out, power := { vaux := false, main := false, hold := false, dclk := false, lost := none },
      boot := { slots := s.boot.slots, recA := s.boot.recA, recB := s.boot.recB, fuses := s.boot.fuses }, pins := { straps := s.pins.straps, vauxHigh := s.pins.vauxHigh, resetLow := s.pins.resetLow },
      hosts := { links := (s.hosts.links.filter (fun e => !e.2.perst)).map (fun e => (e.1, ({ perst := false } : HLink))) },
      twin := { fenceN := s.twin.fenceN },
      bureau := { sessions := [(0x20000, { who := .owner })], store0 := s.bureau.store0, store1 := s.bureau.store1 } })) ∧
  (s.power.vaux = true → s.power.main = false → exec .mainDomainGood s = .next (s.after (
      let t : Dev := { s.toDev with power := { s.power with main := true, hold := s.pins.resetLow, dclk := false, lost := none } }
      match s.power.lost with | some cause => t.coldReset cause | none => t.resetUnits))) ∧
  (s.power.main = true → exec .mainRailLoss s = .next (s.after (
      { s.mainDown with power := { s.mainDown.power with main := false, hold := false, dclk := false, lost := some (if s.pins.thermtrip then 6 else 1) }, pins := { s.mainDown.pins with thermtrip := false } }))) ∧
  (s.power.vaux = true → s.power.main = true → exec .resetNAssert s = .next (s.after (
      let t := ({ s.toDev with pins := { s.pins with resetLow := true } } : Dev).warmReset 2
      { t with power := { t.power with hold := true } }))) ∧
  (exec .resetNRelease s = .next (s.after {
      s.toDev with power := { s.power with hold := s.pins.thermtrip }, pins := { s.pins with resetLow := false } })) ∧
  (s.power.main = true → s.power.dclk = false → exec .dclkLock s = .next (s.after { s.toDev with
      tick := 0, snapTick := 0, power := { s.power with dclk := true },
      cipher := { s.cipher with drbgs := s.cipher.drbgs.map (fun e => (e.1, { e.2 with reseeded := 0 })) }, twin := { s.twin with downSince := some 0 } })) ∧
  (s.power.main = true → s.pins.thermtrip = false → exec .thermalTrip s = .next (s.after (
      let t := (s.mainDown.setObj Obj.LAST_RESET_CAUSE 0 6).setObj Obj.THERMAL_TRIPS 0 (s.obj Obj.THERMAL_TRIPS + 1)
      { t with power := { t.power with hold := true }, pins := { t.pins with thermtrip := true } })))

/-- Twin operation completes. TWIN_LINK_UP, TWIN_IDENTITY_RECORD, MIRROR_MESSAGE, MIRROR_ACK, TWIN_LINK_LOSS, TWIN_PERIOD_SYNC,
BULK_COPY_DONE, LEASE_RENEW, LEASE_HELLO, LEASE_GRANT, LEASE_TAKEOVER_GRANT, TAKEOVER_START, TAKEOVER_ACTIVATE, IDENTITY_ANNOUNCE,
FENCE_N_ASSERT and LEASE_RELEASE answer the next state of their effect in the roles and at the times of R427 to R443, TWIN_LINK_LOSS and
the take-over at an edge that is run piece by piece. Derived from 18_twin.md. -/
def Obligations.CompletesTwin : Prop := ∀ s : State,
  (s.power.up = true →
    (s.flag Obj.TWIN_ENABLE = true → s.obj Obj.READINESS = 3 → s.twin.downSince.isSome = true → bit (s.obj Obj.SIDEBAND_STATUS) 13 = false → exec .twinLinkUp s = .next (s.after (
      (({ s.toDev with twin := { s.twin with downSince := none } } : Dev).setObj Obj.TWIN_LINK_STATE 0 1).sendIdentity))) ∧
    (∀ (serial part pair role seq digest : Nat), s.flag Obj.TWIN_ENABLE = true → s.twin.downSince.isNone = true → (s.obj Obj.TWIN_LINK_STATE = 1 ∨ s.obj Obj.TWIN_LINK_STATE = 2) →
      serial ≠ s.obj Obj.PEER_SERIAL ∨ part ≠ s.obj Obj.PART_CODE ∨ pair ≠ s.obj Obj.PAIR_ID →
      exec (.twinIdentityRecord serial part pair role seq digest) s = .next (s.after (((s.releaseSync.setObj Obj.TWIN_LINK_STATE 0 3).bump Obj.WRONG_PEER).twinLog 4 (s.obj Obj.ROLE)))) ∧
    (∀ (role seq digest : Nat), s.flag Obj.TWIN_ENABLE = true → s.twin.downSince.isNone = true → (s.obj Obj.TWIN_LINK_STATE = 1 ∨ s.obj Obj.TWIN_LINK_STATE = 2) →
      exec (.twinIdentityRecord (s.obj Obj.PEER_SERIAL) (s.obj Obj.PART_CODE) (s.obj Obj.PAIR_ID) role seq digest) s = .next (s.after (s.identified role seq (digest == s.twinDigest)))) ∧
    (∀ m : MirrorMsg, s.flag Obj.TWIN_ENABLE = true → (s.obj Obj.ROLE = 2 ∨ s.obj Obj.ROLE = 3) → s.obj Obj.TWIN_LINK_STATE = 2 → exec (.mirrorMessage m) s = .next (s.after (if mirrorAcked m then (s.applyMirror m).emit .mirrorAck else s.applyMirror m))) ∧
    (∀ (n : Nat) (op : SyncOp) (rest : List (Nat × SyncOp)), s.flag Obj.TWIN_ENABLE = true → s.twin.sent = (n, op) :: rest → exec (.mirrorAck) s = .next (s.after (({ s.toDev with twin := { s.twin with sent := rest } } : Dev).syncDone op))) ∧
    (∀ down : Nat, s.edgeTodo.contains .lease = true → s.lossFound down = true → exec (.twinLinkLoss down) s = .next (s.after (s.twinLost (s.linkGone down)))) ∧
    (s.flag Obj.TWIN_ENABLE = true → s.mirrors = true → s.twin.lastSync + s.obj Obj.TWIN_PERIOD ≤ s.tick → exec .twinPeriodSync s = .next (s.after (
      s.mirroredPlaces.foldl (fun t e => t.mirror (.stamp e.1 e.2.2.key (if (s.emView e.2.1 e.2.2).hit then s.quantum else e.2.2.stamp)))
        (({ s.toDev with twin := { s.twin with lastSync := s.tick } } : Dev).mirror (.counters s.syncCounters))))) ∧
    (s.flag Obj.TWIN_ENABLE = true → s.maySync = true → exec (.bulkCopyDone) s = .next (s.after ({ s.setObj Obj.SYNC_REMAINING 0 0 with twin := { s.twin with standbyDue := true } }))) ∧
    (s.flag Obj.TWIN_ENABLE = true → s.obj Obj.ROLE = 1 → s.twin.released = false → s.leaseTime = true → exec (.leaseRenew) s = .next (s.after (s.renew s.tick))) ∧
    (s.flag Obj.TWIN_ENABLE = true → s.obj Obj.ROLE ≠ 1 → s.leaseTime = true → exec (.leaseHello) s = .next (s.after (s.hello))) ∧
    (∀ (sess : Sess) (t seq term pair : Nat), s.witness (sessKey sess) = true → exec (.leaseGrant sess t seq term pair) s = .next (s.after (
      s.onPath (sessKey sess) (fun u => (u.heard (sessKey sess)).leaseGrant t seq term pair)))) ∧
    (∀ (u : Dev) (t seq term : Nat), u.flag Obj.TWIN_ENABLE = true → u.obj Obj.READINESS = 3 → u.twin.renews.contains t = true → u.obj Obj.ROLE = 0 →
      u.leaseGrant t seq term (u.obj Obj.PAIR_ID) = Dev.goActive { u with twin := { u.twin with renews := u.twin.renews.filter (fun x => decide (t < x)) } } t seq term) ∧
    (∀ (u : Dev) (t term : Nat), u.flag Obj.TWIN_ENABLE = true → u.obj Obj.READINESS = 3 → u.twin.renews.contains t = true → u.obj Obj.ROLE = 1 → u.twin.released = false →
      u.tick < u.obj Obj.LEASE_DEADLINE → u.leaseGrant t (u.obj Obj.LEASE_SEQ) term (u.obj Obj.PAIR_ID) =
      (Dev.setObj { u with twin := { u.twin with renews := u.twin.renews.filter (fun x => decide (t < x)) } } Obj.LEASE_DEADLINE 0 (u.deadline t term)).bump Obj.RENEWALS) ∧
    (∀ (sess : Sess) (rs pair seq term : Nat), s.witness (sessKey sess) = true → exec (.leaseTakeoverGrant sess rs pair seq term) s = .next (s.after (
      s.onPath (sessKey sess) (fun u => (u.heard (sessKey sess)).takeoverGrant (sessKey sess) rs pair seq term)))) ∧
    (∀ (u : Dev) (key rs pair seq term : Nat), u.obj Obj.READINESS = 3 → u.grantBad pair seq = false → u.obj Obj.ROLE = 2 → u.takeoverGrant key rs pair seq term =
      (let t : Dev := Dev.emit { u with twin := { u.twin with seqSeen := max u.twin.seqSeen seq } } (.lease (u.leaseBody 2 u.tick seq false false))
       { t with twin := { t.twin with takeover := some (u.tick + 1, seq, term, false) } })) ∧
    (∀ (u : Dev) (key rs pair seq term : Nat), u.obj Obj.READINESS = 3 → u.grantBad pair seq = true → u.takeoverGrant key rs pair seq term =
      (u.bump Obj.LEASE_REFUSED).emit (.lease (u.leaseBody 5 u.tick seq false false))) ∧
    (∀ (u : Dev) (key rs pair seq term : Nat), u.obj Obj.READINESS = 3 → u.grantBad pair seq = false → u.obj Obj.ROLE = 0 → u.takeoverGrant key rs pair seq term =
      Dev.goActive (Dev.emit { u with twin := { u.twin with seqSeen := max u.twin.seqSeen seq } } (.lease (u.leaseBody 2 u.tick seq false false))) u.tick seq term) ∧
    (∀ e seq term : Nat, s.flag Obj.TWIN_ENABLE = true → s.edgeTodo.contains .lease = true → s.twin.takeover = some (e, seq, term, false) → s.obj Obj.ROLE = 2 → e ≤ s.tick → exec (.takeoverStart) s = .next (s.after (s.takeoverStart e seq term))) ∧
    (∀ e seq term : Nat, s.flag Obj.TWIN_ENABLE = true → s.edgeTodo.contains .lease = true → s.twin.takeover = some (e, seq, term, true) → s.obj Obj.ROLE = 2 → e + s.obj Obj.FENCE_GUARD ≤ s.tick → exec (.takeoverActivate) s = .next (s.after (s.takeoverActivate e))) ∧
    (∀ t k : Nat, s.flag Obj.TWIN_ENABLE = true → s.twin.announce = some (t, k) → s.obj Obj.ROLE = 1 → t + 2048 * (3 - k) ≤ s.tick →
      exec (.identityAnnounce) s = .next (s.after (({ s.toDev with twin := { s.twin with announce := if k ≤ 1 then none else some (t, k - 1) } } : Dev).announceAll))) ∧
    (∀ stays : Bool, s.flag Obj.TWIN_ENABLE = true → s.obj Obj.ROLE ≠ 4 → exec (.fenceNAssert stays) s = .next (s.after (({ s.toDev with twin := { s.twin with fenceN := stays } } : Dev).enterFenced 3))) ∧
    (s.flag Obj.TWIN_ENABLE = true → s.obj Obj.ROLE = 1 → s.twin.switching = true → s.twin.released = false → s.twin.sent.isEmpty = true →
      exec .leaseRelease s = .next (s.after (
      Dev.emit { s.toDev with twin := { s.twin with released := true } } (.lease (s.leaseBody 4 s.tick (s.obj Obj.LEASE_SEQ) false false))))))

/-- Sideband signals complete. OPEN_DRAIN_STUCK, STUCK_OUTPUT_CLEAR, LED_TEST, BUS_STUCK, BUS_STUCK_CLEAR, I3C_TARGET_RESET, ETHREF_ABSENT,
ETHREF_RETURN and PMB_ALERT answer the next state of their effect under the stated conditions (R477 to R486). Derived from
21_signals_electrical.md. -/
def Obligations.CompletesSignals : Prop := ∀ s : State,
  (s.power.up = true →
    (s.sideOn 13 = false → exec .ethrefAbsent s = .next (s.after (
      let t := (List.range s.part.ports).foldl Dev.etherLost ((s.sideband 13 true).notify 0x10B4 Obj.SIDEBAND_STATUS 13)
      Dev.setObj { t with twin := { t.twin with downSince := t.twin.downSince.orElse (fun _ => some t.tick) } } Obj.TWIN_LINK_STATE 0 0))) ∧
    (s.sideOn 13 = true → exec (.ethrefReturn) s = .next (s.after s.toDev.etherBack))) ∧
  (∀ b : Nat, s.power.vaux = true → openDrain s.part b = true → s.sideOn b = false → (b = 0 → s.twin.peerFence = true) → (b = 1 → s.pins.thermtrip = true) →
      exec (.openDrainStuck b) s = .next (s.after (((s.sideband b true).bump Obj.SIDEBAND_EVENTS).notify 0x10B1 Obj.SIDEBAND_STATUS b))) ∧
  (∀ b : Nat, s.power.vaux = true → b ≤ 10 → exec (.stuckOutputClear b) s = .next (s.after (s.sideband b false))) ∧
  (∀ (i level : Nat) (phase held : Bool), s.power.vaux = true → i < 4 → exec (.ledTest i level phase held) s = .next (s.after (
      if ledResult (s.ledOn i phase) level ≠ 0 ∧ held = true then (s.setObj Obj.LED_STATUS i (ledResult (s.ledOn i phase) level)).notify 0x10B2 Obj.LED_STATUS i
      else s.setObj Obj.LED_STATUS i (ledResult (s.ledOn i phase) level)))) ∧
  (∀ pmb : Bool, s.power.vaux = true → s.sideOn (busBit pmb) = false → exec (.busStuck pmb) s = .next (s.after ((s.sideband (busBit pmb) true).notify 0x10B3 Obj.SIDEBAND_STATUS (busBit pmb)))) ∧
  (∀ pmb : Bool, s.power.vaux = true → exec (.busStuckClear pmb) s = .next (s.after (s.sideband (busBit pmb) false))) ∧
  (exec (.i3cTargetReset) s = .next (s.after (s.toDev))) ∧
  (s.power.vaux = true → exec (.pmbAlert) s = .next (s.after (s.setObj Obj.RAIL_STATUS 0 (setBit (s.obj Obj.RAIL_STATUS) 0))))
end

