-- ==== Sys2Proof/Laws/Memory.lean ====
section
/-! SUPPORT. Laws of memory: what a read after a write gives, and that every write, and the wipe of an address range, keeps the canonical
form. -/
namespace Sys2Proof.Machine

/-- A looser bound holds of a memory that keeps a tighter one. -/
theorem memAbove_mono {a b : Nat} (h : a ≤ b) : ∀ {m : List Host.Cell}, memAbove b m = true → memAbove a m = true
  | [], _ => rfl
  | (k, _) :: _, hm => by
    simp only [memAbove, Bool.and_eq_true, decide_eq_true_eq] at hm ⊢
    exact ⟨⟨by omega, hm.1.2⟩, hm.2⟩

/-- A bounded memory is canonical. -/
theorem memWf_of_above {b : Nat} : ∀ {m : List Host.Cell}, memAbove b m = true → Memory.wf m = true
  | [], _ => rfl
  | (_, _) :: _, hm => by
    simp only [memAbove, Bool.and_eq_true] at hm
    simp [Memory.wf, hm.1.2, hm.2]

/-- Keeping some of the cells above a bound keeps it. -/
theorem memAbove_filter (p : Host.Cell → Bool) {b : Nat} : ∀ {m : List Host.Cell}, memAbove b m = true → memAbove b (m.filter p) = true
  | [], _ => rfl
  | (k, w) :: m, hm => by
    simp only [memAbove, Bool.and_eq_true, decide_eq_true_eq] at hm
    by_cases h : p (k, w) = true
    · have ih := memAbove_filter p hm.2
      have := hm.1; simp_all [List.filter, memAbove]
    · have ih := memAbove_filter p (memAbove_mono (Nat.le_of_lt hm.1.1) hm.2)
      simpa [List.filter, h] using ih

/-- A wipe keeps the canonical form. -/
theorem memFilter_wf (p : Host.Cell → Bool) : ∀ {m : List Host.Cell}, Memory.wf m = true → Memory.wf (m.filter p) = true
  | [], _ => rfl
  | (k, w) :: m, hm => by
    simp only [Memory.wf, Bool.and_eq_true] at hm
    have ih := memAbove_filter p hm.2
    by_cases h : p (k, w) = true
    · have := hm.1; simp_all [List.filter, Memory.wf]
    · simpa [List.filter, h] using memWf_of_above ih

/-- A byte listed above a bound keeps it. -/
theorem memAbove_ins {b a : Nat} {v : BitVec 8} (hb : b < a) (hv : v ≠ 0#8) :
    ∀ {m : List Host.Cell}, memAbove b m = true → memAbove b (memIns m a v) = true
  | [], _ => by simp [memIns, memAbove, hb, hv]
  | (k, w) :: m, hm => by
    simp only [memAbove, Bool.and_eq_true, decide_eq_true_eq] at hm
    by_cases hak : a = k
    · subst hak; simp [memIns, memAbove, hv, hm.1.1, hm.2]
    · by_cases hlt : a < k
      · simp only [memIns, hak, hlt, if_true, if_false, memAbove, hm.2, hm.1.2]; simp [hb, hv]
      · have ih := memAbove_ins (b := k) (by omega : k < a) hv hm.2
        have h2 : memIns ((k, w) :: m) a v = (k, w) :: memIns m a v := by simp [memIns, hak, hlt]
        rw [h2, memAbove, ih, hm.1.2]; simp [hm.1.1]

/-- A write keeps the canonical form. -/
theorem memPut_wf (a : Nat) (v : BitVec 8) {m : List Host.Cell} (hm : Memory.wf m = true) : Memory.wf (memPut m a v) = true := by
  unfold memPut
  split
  · exact memFilter_wf _ hm
  · rename_i hv
    match m, hm with
    | [], _ => simp [memIns, Memory.wf, memAbove, hv]
    | (k, w) :: m, hm =>
      simp only [Memory.wf, Bool.and_eq_true] at hm
      by_cases hak : a = k
      · subst hak; simp [memIns, Memory.wf, hv, hm.2]
      · by_cases hlt : a < k
        · simp only [memIns, hak, hlt, if_true, if_false, Memory.wf, memAbove, hm.2, hm.1]; simp [hv]
        · have h2 : memIns ((k, w) :: m) a v = (k, w) :: memIns m a v := by simp [memIns, hak, hlt]
          rw [h2, Memory.wf, memAbove_ins (by omega) hv hm.2, hm.1]; rfl

/-- A read of address c after a byte is listed at address a. -/
theorem memGet_memIns (a c : Nat) (v : BitVec 8) : ∀ m : List Host.Cell, memGet (memIns m a v) c = if c = a then v else memGet m c
  | [] => by by_cases hc : c = a <;> simp [memIns, memGet, hc]
  | (k, w) :: m => by
    have ih := memGet_memIns a c v m
    by_cases hak : a = k
    · subst hak
      by_cases hc : c = a <;> simp [memIns, memGet, hc]
    · by_cases hlt : a < k
      · by_cases hc : c = a <;> simp [memIns, memGet, hak, hlt, hc]
      · by_cases hck : c = k
        · have : c ≠ a := by omega
          simp [memIns, memGet, hak, hlt, hck, Ne.symm hak]
        · simp [memIns, memGet, hak, hlt, hck, ih]

/-- A read of address c after the byte at address a is no longer listed. -/
theorem memGet_filter (a c : Nat) : ∀ m : List Host.Cell, memGet (m.filter (fun x => x.1 != a)) c = if c = a then 0#8 else memGet m c
  | [] => by simp [memGet]
  | (k, w) :: m => by
    have ih := memGet_filter a c m
    by_cases hk : k = a
    · subst hk
      by_cases h : c = k <;> simp_all [memGet]
    · by_cases h : c = k
      · subst h; simp [memGet, hk]
      · simp [memGet, hk, h, ih]

/-- A read of address c after a write of address a. -/
theorem memGet_memPut (a c : Nat) (v : BitVec 8) (m : List Host.Cell) : memGet (memPut m a v) c = if c = a then v else memGet m c := by
  unfold memPut
  split
  · rename_i hv; rw [memGet_filter, hv]
  · exact memGet_memIns a c v m

/-- Writing bytes keeps the canonical form. -/
theorem Dev.putBytes_wf : ∀ (bs : List Nat) (s : Dev) (a : Nat), Memory.wf s.mem = true → Memory.wf (s.putBytes a bs).mem = true
  | [], _, _, h => h
  | b :: bs, s, a, h => Dev.putBytes_wf bs (s.putByte a b) (a + 1) (memPut_wf a _ h)

/-- A read of one byte after a write of one byte. -/
theorem Dev.byte_putByte (s : Dev) (a c b : Nat) : (s.putByte a b).byte c = if c = a then b % 256 else s.byte c := by
  unfold Dev.byte Dev.putByte
  rw [memGet_memPut a c]
  split <;> simp [BitVec.toNat_ofNat]

/-- Memory at reset lists nothing, which is canonical. -/
theorem reset_memory_wf : Memory.wf State.reset.mem = true := rfl

end Sys2Proof.Machine
end

