-- ==== Sys2Proof/Laws/State.lean ====
section
/-! SUPPORT. What each named update of the device leaves as it was: one lemma per field per update. -/
namespace Sys2Proof.Machine

@[simp] theorem Dev.setObj_part (s : Dev) (o i v : Nat) : (s.setObj o i v).part = s.part := by
  unfold Dev.setObj; split <;> rfl
@[simp] theorem Dev.setObj_tick (s : Dev) (o i v : Nat) : (s.setObj o i v).tick = s.tick := by
  unfold Dev.setObj; split <;> rfl
@[simp] theorem Dev.setObj_edgeTodo (s : Dev) (o i v : Nat) : (s.setObj o i v).edgeTodo = s.edgeTodo := by
  unfold Dev.setObj; split <;> rfl
@[simp] theorem Dev.setObj_snap (s : Dev) (o i v : Nat) : (s.setObj o i v).snap = s.snap := by
  unfold Dev.setObj; split <;> rfl
@[simp] theorem Dev.setObj_snapTick (s : Dev) (o i v : Nat) : (s.setObj o i v).snapTick = s.snapTick := by
  unfold Dev.setObj; split <;> rfl
@[simp] theorem Dev.setObj_snapDue (s : Dev) (o i v : Nat) : (s.setObj o i v).snapDue = s.snapDue := by
  unfold Dev.setObj; split <;> rfl
@[simp] theorem Dev.setObj_power (s : Dev) (o i v : Nat) : (s.setObj o i v).power = s.power := by
  unfold Dev.setObj; split <;> rfl
@[simp] theorem Dev.setObj_boot (s : Dev) (o i v : Nat) : (s.setObj o i v).boot = s.boot := by
  unfold Dev.setObj; split <;> rfl
@[simp] theorem Dev.setObj_pins (s : Dev) (o i v : Nat) : (s.setObj o i v).pins = s.pins := by
  unfold Dev.setObj; split <;> rfl
@[simp] theorem Dev.setObj_bureau (s : Dev) (o i v : Nat) : (s.setObj o i v).bureau = s.bureau := by
  unfold Dev.setObj; split <;> rfl
@[simp] theorem Dev.setObj_work (s : Dev) (o i v : Nat) : (s.setObj o i v).work = s.work := by
  unfold Dev.setObj; split <;> rfl
@[simp] theorem Dev.setObj_shelves (s : Dev) (o i v : Nat) : (s.setObj o i v).shelves = s.shelves := by
  unfold Dev.setObj; split <;> rfl
@[simp] theorem Dev.setObj_sched (s : Dev) (o i v : Nat) : (s.setObj o i v).sched = s.sched := by
  unfold Dev.setObj; split <;> rfl
@[simp] theorem Dev.setObj_eth (s : Dev) (o i v : Nat) : (s.setObj o i v).eth = s.eth := by
  unfold Dev.setObj; split <;> rfl
@[simp] theorem Dev.setObj_pats (s : Dev) (o i v : Nat) : (s.setObj o i v).pats = s.pats := by
  unfold Dev.setObj; split <;> rfl
@[simp] theorem Dev.setObj_em (s : Dev) (o i v : Nat) : (s.setObj o i v).em = s.em := by
  unfold Dev.setObj; split <;> rfl
@[simp] theorem Dev.setObj_postmark (s : Dev) (o i v : Nat) : (s.setObj o i v).postmark = s.postmark := by
  unfold Dev.setObj; split <;> rfl
@[simp] theorem Dev.setObj_hosts (s : Dev) (o i v : Nat) : (s.setObj o i v).hosts = s.hosts := by
  unfold Dev.setObj; split <;> rfl
@[simp] theorem Dev.setObj_storage (s : Dev) (o i v : Nat) : (s.setObj o i v).storage = s.storage := by
  unfold Dev.setObj; split <;> rfl
@[simp] theorem Dev.setObj_cipher (s : Dev) (o i v : Nat) : (s.setObj o i v).cipher = s.cipher := by
  unfold Dev.setObj; split <;> rfl
@[simp] theorem Dev.setObj_twin (s : Dev) (o i v : Nat) : (s.setObj o i v).twin = s.twin := by
  unfold Dev.setObj; split <;> rfl
@[simp] theorem Dev.setObj_cores (s : Dev) (o i v : Nat) : (s.setObj o i v).cores = s.cores := by
  unfold Dev.setObj; split <;> rfl
@[simp] theorem Dev.setObj_mem (s : Dev) (o i v : Nat) : (s.setObj o i v).mem = s.mem := by
  unfold Dev.setObj; split <;> rfl
@[simp] theorem Dev.setObj_free (s : Dev) (o i v : Nat) : (s.setObj o i v).free = s.free := by
  unfold Dev.setObj; split <;> rfl
@[simp] theorem Dev.setObj_out (s : Dev) (o i v : Nat) : (s.setObj o i v).out = s.out := by
  unfold Dev.setObj; split <;> rfl
@[simp] theorem Dev.addObj_part (s : Dev) (o i n : Nat) : (s.addObj o i n).part = s.part := by
  simp [Dev.addObj]
@[simp] theorem Dev.addObj_tick (s : Dev) (o i n : Nat) : (s.addObj o i n).tick = s.tick := by
  simp [Dev.addObj]
@[simp] theorem Dev.addObj_edgeTodo (s : Dev) (o i n : Nat) : (s.addObj o i n).edgeTodo = s.edgeTodo := by
  simp [Dev.addObj]
@[simp] theorem Dev.addObj_snap (s : Dev) (o i n : Nat) : (s.addObj o i n).snap = s.snap := by
  simp [Dev.addObj]
@[simp] theorem Dev.addObj_snapTick (s : Dev) (o i n : Nat) : (s.addObj o i n).snapTick = s.snapTick := by
  simp [Dev.addObj]
@[simp] theorem Dev.addObj_snapDue (s : Dev) (o i n : Nat) : (s.addObj o i n).snapDue = s.snapDue := by
  simp [Dev.addObj]
@[simp] theorem Dev.addObj_power (s : Dev) (o i n : Nat) : (s.addObj o i n).power = s.power := by
  simp [Dev.addObj]
@[simp] theorem Dev.addObj_boot (s : Dev) (o i n : Nat) : (s.addObj o i n).boot = s.boot := by
  simp [Dev.addObj]
@[simp] theorem Dev.addObj_pins (s : Dev) (o i n : Nat) : (s.addObj o i n).pins = s.pins := by
  simp [Dev.addObj]
@[simp] theorem Dev.addObj_bureau (s : Dev) (o i n : Nat) : (s.addObj o i n).bureau = s.bureau := by
  simp [Dev.addObj]
@[simp] theorem Dev.addObj_work (s : Dev) (o i n : Nat) : (s.addObj o i n).work = s.work := by
  simp [Dev.addObj]
@[simp] theorem Dev.addObj_shelves (s : Dev) (o i n : Nat) : (s.addObj o i n).shelves = s.shelves := by
  simp [Dev.addObj]
@[simp] theorem Dev.addObj_sched (s : Dev) (o i n : Nat) : (s.addObj o i n).sched = s.sched := by
  simp [Dev.addObj]
@[simp] theorem Dev.addObj_eth (s : Dev) (o i n : Nat) : (s.addObj o i n).eth = s.eth := by
  simp [Dev.addObj]
@[simp] theorem Dev.addObj_pats (s : Dev) (o i n : Nat) : (s.addObj o i n).pats = s.pats := by
  simp [Dev.addObj]
@[simp] theorem Dev.addObj_em (s : Dev) (o i n : Nat) : (s.addObj o i n).em = s.em := by
  simp [Dev.addObj]
@[simp] theorem Dev.addObj_postmark (s : Dev) (o i n : Nat) : (s.addObj o i n).postmark = s.postmark := by
  simp [Dev.addObj]
@[simp] theorem Dev.addObj_hosts (s : Dev) (o i n : Nat) : (s.addObj o i n).hosts = s.hosts := by
  simp [Dev.addObj]
@[simp] theorem Dev.addObj_storage (s : Dev) (o i n : Nat) : (s.addObj o i n).storage = s.storage := by
  simp [Dev.addObj]
@[simp] theorem Dev.addObj_cipher (s : Dev) (o i n : Nat) : (s.addObj o i n).cipher = s.cipher := by
  simp [Dev.addObj]
@[simp] theorem Dev.addObj_twin (s : Dev) (o i n : Nat) : (s.addObj o i n).twin = s.twin := by
  simp [Dev.addObj]
@[simp] theorem Dev.addObj_cores (s : Dev) (o i n : Nat) : (s.addObj o i n).cores = s.cores := by
  simp [Dev.addObj]
@[simp] theorem Dev.addObj_mem (s : Dev) (o i n : Nat) : (s.addObj o i n).mem = s.mem := by
  simp [Dev.addObj]
@[simp] theorem Dev.addObj_free (s : Dev) (o i n : Nat) : (s.addObj o i n).free = s.free := by
  simp [Dev.addObj]
@[simp] theorem Dev.addObj_out (s : Dev) (o i n : Nat) : (s.addObj o i n).out = s.out := by
  simp [Dev.addObj]
@[simp] theorem Dev.bump_part (s : Dev) (o i : Nat) : (s.bump o i).part = s.part := by
  simp [Dev.bump]
@[simp] theorem Dev.bump_tick (s : Dev) (o i : Nat) : (s.bump o i).tick = s.tick := by
  simp [Dev.bump]
@[simp] theorem Dev.bump_edgeTodo (s : Dev) (o i : Nat) : (s.bump o i).edgeTodo = s.edgeTodo := by
  simp [Dev.bump]
@[simp] theorem Dev.bump_snap (s : Dev) (o i : Nat) : (s.bump o i).snap = s.snap := by
  simp [Dev.bump]
@[simp] theorem Dev.bump_snapTick (s : Dev) (o i : Nat) : (s.bump o i).snapTick = s.snapTick := by
  simp [Dev.bump]
@[simp] theorem Dev.bump_snapDue (s : Dev) (o i : Nat) : (s.bump o i).snapDue = s.snapDue := by
  simp [Dev.bump]
@[simp] theorem Dev.bump_power (s : Dev) (o i : Nat) : (s.bump o i).power = s.power := by
  simp [Dev.bump]
@[simp] theorem Dev.bump_boot (s : Dev) (o i : Nat) : (s.bump o i).boot = s.boot := by
  simp [Dev.bump]
@[simp] theorem Dev.bump_pins (s : Dev) (o i : Nat) : (s.bump o i).pins = s.pins := by
  simp [Dev.bump]
@[simp] theorem Dev.bump_bureau (s : Dev) (o i : Nat) : (s.bump o i).bureau = s.bureau := by
  simp [Dev.bump]
@[simp] theorem Dev.bump_work (s : Dev) (o i : Nat) : (s.bump o i).work = s.work := by
  simp [Dev.bump]
@[simp] theorem Dev.bump_shelves (s : Dev) (o i : Nat) : (s.bump o i).shelves = s.shelves := by
  simp [Dev.bump]
@[simp] theorem Dev.bump_sched (s : Dev) (o i : Nat) : (s.bump o i).sched = s.sched := by
  simp [Dev.bump]
@[simp] theorem Dev.bump_eth (s : Dev) (o i : Nat) : (s.bump o i).eth = s.eth := by
  simp [Dev.bump]
@[simp] theorem Dev.bump_pats (s : Dev) (o i : Nat) : (s.bump o i).pats = s.pats := by
  simp [Dev.bump]
@[simp] theorem Dev.bump_em (s : Dev) (o i : Nat) : (s.bump o i).em = s.em := by
  simp [Dev.bump]
@[simp] theorem Dev.bump_postmark (s : Dev) (o i : Nat) : (s.bump o i).postmark = s.postmark := by
  simp [Dev.bump]
@[simp] theorem Dev.bump_hosts (s : Dev) (o i : Nat) : (s.bump o i).hosts = s.hosts := by
  simp [Dev.bump]
@[simp] theorem Dev.bump_storage (s : Dev) (o i : Nat) : (s.bump o i).storage = s.storage := by
  simp [Dev.bump]
@[simp] theorem Dev.bump_cipher (s : Dev) (o i : Nat) : (s.bump o i).cipher = s.cipher := by
  simp [Dev.bump]
@[simp] theorem Dev.bump_twin (s : Dev) (o i : Nat) : (s.bump o i).twin = s.twin := by
  simp [Dev.bump]
@[simp] theorem Dev.bump_cores (s : Dev) (o i : Nat) : (s.bump o i).cores = s.cores := by
  simp [Dev.bump]
@[simp] theorem Dev.bump_mem (s : Dev) (o i : Nat) : (s.bump o i).mem = s.mem := by
  simp [Dev.bump]
@[simp] theorem Dev.bump_free (s : Dev) (o i : Nat) : (s.bump o i).free = s.free := by
  simp [Dev.bump]
@[simp] theorem Dev.bump_out (s : Dev) (o i : Nat) : (s.bump o i).out = s.out := by
  simp [Dev.bump]
@[simp] theorem Dev.drop1_part (s : Dev) (o i : Nat) : (s.drop1 o i).part = s.part := by
  simp [Dev.drop1]
@[simp] theorem Dev.drop1_tick (s : Dev) (o i : Nat) : (s.drop1 o i).tick = s.tick := by
  simp [Dev.drop1]
@[simp] theorem Dev.drop1_edgeTodo (s : Dev) (o i : Nat) : (s.drop1 o i).edgeTodo = s.edgeTodo := by
  simp [Dev.drop1]
@[simp] theorem Dev.drop1_snap (s : Dev) (o i : Nat) : (s.drop1 o i).snap = s.snap := by
  simp [Dev.drop1]
@[simp] theorem Dev.drop1_snapTick (s : Dev) (o i : Nat) : (s.drop1 o i).snapTick = s.snapTick := by
  simp [Dev.drop1]
@[simp] theorem Dev.drop1_snapDue (s : Dev) (o i : Nat) : (s.drop1 o i).snapDue = s.snapDue := by
  simp [Dev.drop1]
@[simp] theorem Dev.drop1_power (s : Dev) (o i : Nat) : (s.drop1 o i).power = s.power := by
  simp [Dev.drop1]
@[simp] theorem Dev.drop1_boot (s : Dev) (o i : Nat) : (s.drop1 o i).boot = s.boot := by
  simp [Dev.drop1]
@[simp] theorem Dev.drop1_pins (s : Dev) (o i : Nat) : (s.drop1 o i).pins = s.pins := by
  simp [Dev.drop1]
@[simp] theorem Dev.drop1_bureau (s : Dev) (o i : Nat) : (s.drop1 o i).bureau = s.bureau := by
  simp [Dev.drop1]
@[simp] theorem Dev.drop1_work (s : Dev) (o i : Nat) : (s.drop1 o i).work = s.work := by
  simp [Dev.drop1]
@[simp] theorem Dev.drop1_shelves (s : Dev) (o i : Nat) : (s.drop1 o i).shelves = s.shelves := by
  simp [Dev.drop1]
@[simp] theorem Dev.drop1_sched (s : Dev) (o i : Nat) : (s.drop1 o i).sched = s.sched := by
  simp [Dev.drop1]
@[simp] theorem Dev.drop1_eth (s : Dev) (o i : Nat) : (s.drop1 o i).eth = s.eth := by
  simp [Dev.drop1]
@[simp] theorem Dev.drop1_pats (s : Dev) (o i : Nat) : (s.drop1 o i).pats = s.pats := by
  simp [Dev.drop1]
@[simp] theorem Dev.drop1_em (s : Dev) (o i : Nat) : (s.drop1 o i).em = s.em := by
  simp [Dev.drop1]
@[simp] theorem Dev.drop1_postmark (s : Dev) (o i : Nat) : (s.drop1 o i).postmark = s.postmark := by
  simp [Dev.drop1]
@[simp] theorem Dev.drop1_hosts (s : Dev) (o i : Nat) : (s.drop1 o i).hosts = s.hosts := by
  simp [Dev.drop1]
@[simp] theorem Dev.drop1_storage (s : Dev) (o i : Nat) : (s.drop1 o i).storage = s.storage := by
  simp [Dev.drop1]
@[simp] theorem Dev.drop1_cipher (s : Dev) (o i : Nat) : (s.drop1 o i).cipher = s.cipher := by
  simp [Dev.drop1]
@[simp] theorem Dev.drop1_twin (s : Dev) (o i : Nat) : (s.drop1 o i).twin = s.twin := by
  simp [Dev.drop1]
@[simp] theorem Dev.drop1_cores (s : Dev) (o i : Nat) : (s.drop1 o i).cores = s.cores := by
  simp [Dev.drop1]
@[simp] theorem Dev.drop1_mem (s : Dev) (o i : Nat) : (s.drop1 o i).mem = s.mem := by
  simp [Dev.drop1]
@[simp] theorem Dev.drop1_free (s : Dev) (o i : Nat) : (s.drop1 o i).free = s.free := by
  simp [Dev.drop1]
@[simp] theorem Dev.drop1_out (s : Dev) (o i : Nat) : (s.drop1 o i).out = s.out := by
  simp [Dev.drop1]
@[simp] theorem Dev.emit_part (s : Dev) (x : Output) : (s.emit x).part = s.part := rfl
@[simp] theorem Dev.emit_tick (s : Dev) (x : Output) : (s.emit x).tick = s.tick := rfl
@[simp] theorem Dev.emit_edgeTodo (s : Dev) (x : Output) : (s.emit x).edgeTodo = s.edgeTodo := rfl
@[simp] theorem Dev.emit_objs (s : Dev) (x : Output) : (s.emit x).objs = s.objs := rfl
@[simp] theorem Dev.emit_snap (s : Dev) (x : Output) : (s.emit x).snap = s.snap := rfl
@[simp] theorem Dev.emit_snapTick (s : Dev) (x : Output) : (s.emit x).snapTick = s.snapTick := rfl
@[simp] theorem Dev.emit_snapDue (s : Dev) (x : Output) : (s.emit x).snapDue = s.snapDue := rfl
@[simp] theorem Dev.emit_power (s : Dev) (x : Output) : (s.emit x).power = s.power := rfl
@[simp] theorem Dev.emit_boot (s : Dev) (x : Output) : (s.emit x).boot = s.boot := rfl
@[simp] theorem Dev.emit_pins (s : Dev) (x : Output) : (s.emit x).pins = s.pins := rfl
@[simp] theorem Dev.emit_bureau (s : Dev) (x : Output) : (s.emit x).bureau = s.bureau := rfl
@[simp] theorem Dev.emit_work (s : Dev) (x : Output) : (s.emit x).work = s.work := rfl
@[simp] theorem Dev.emit_shelves (s : Dev) (x : Output) : (s.emit x).shelves = s.shelves := rfl
@[simp] theorem Dev.emit_sched (s : Dev) (x : Output) : (s.emit x).sched = s.sched := rfl
@[simp] theorem Dev.emit_eth (s : Dev) (x : Output) : (s.emit x).eth = s.eth := rfl
@[simp] theorem Dev.emit_pats (s : Dev) (x : Output) : (s.emit x).pats = s.pats := rfl
@[simp] theorem Dev.emit_em (s : Dev) (x : Output) : (s.emit x).em = s.em := rfl
@[simp] theorem Dev.emit_postmark (s : Dev) (x : Output) : (s.emit x).postmark = s.postmark := rfl
@[simp] theorem Dev.emit_hosts (s : Dev) (x : Output) : (s.emit x).hosts = s.hosts := rfl
@[simp] theorem Dev.emit_storage (s : Dev) (x : Output) : (s.emit x).storage = s.storage := rfl
@[simp] theorem Dev.emit_cipher (s : Dev) (x : Output) : (s.emit x).cipher = s.cipher := rfl
@[simp] theorem Dev.emit_twin (s : Dev) (x : Output) : (s.emit x).twin = s.twin := rfl
@[simp] theorem Dev.emit_cores (s : Dev) (x : Output) : (s.emit x).cores = s.cores := rfl
@[simp] theorem Dev.emit_mem (s : Dev) (x : Output) : (s.emit x).mem = s.mem := rfl
@[simp] theorem Dev.emit_free (s : Dev) (x : Output) : (s.emit x).free = s.free := rfl
@[simp] theorem Dev.log_part (s : Dev) (o r w : Nat) : (s.log o r w).part = s.part := by
  simp [Dev.log]
@[simp] theorem Dev.log_tick (s : Dev) (o r w : Nat) : (s.log o r w).tick = s.tick := by
  simp [Dev.log]
@[simp] theorem Dev.log_edgeTodo (s : Dev) (o r w : Nat) : (s.log o r w).edgeTodo = s.edgeTodo := by
  simp [Dev.log]
@[simp] theorem Dev.log_snap (s : Dev) (o r w : Nat) : (s.log o r w).snap = s.snap := by
  simp [Dev.log]
@[simp] theorem Dev.log_snapTick (s : Dev) (o r w : Nat) : (s.log o r w).snapTick = s.snapTick := by
  simp [Dev.log]
@[simp] theorem Dev.log_snapDue (s : Dev) (o r w : Nat) : (s.log o r w).snapDue = s.snapDue := by
  simp [Dev.log]
@[simp] theorem Dev.log_power (s : Dev) (o r w : Nat) : (s.log o r w).power = s.power := by
  simp [Dev.log]
@[simp] theorem Dev.log_boot (s : Dev) (o r w : Nat) : (s.log o r w).boot = s.boot := by
  simp [Dev.log]
@[simp] theorem Dev.log_pins (s : Dev) (o r w : Nat) : (s.log o r w).pins = s.pins := by
  simp [Dev.log]
@[simp] theorem Dev.log_bureau (s : Dev) (o r w : Nat) : (s.log o r w).bureau = s.bureau := by
  simp [Dev.log]
@[simp] theorem Dev.log_work (s : Dev) (o r w : Nat) : (s.log o r w).work = s.work := by
  simp [Dev.log]
@[simp] theorem Dev.log_shelves (s : Dev) (o r w : Nat) : (s.log o r w).shelves = s.shelves := by
  simp [Dev.log]
@[simp] theorem Dev.log_sched (s : Dev) (o r w : Nat) : (s.log o r w).sched = s.sched := by
  simp [Dev.log]
@[simp] theorem Dev.log_eth (s : Dev) (o r w : Nat) : (s.log o r w).eth = s.eth := by
  simp [Dev.log]
@[simp] theorem Dev.log_pats (s : Dev) (o r w : Nat) : (s.log o r w).pats = s.pats := by
  simp [Dev.log]
@[simp] theorem Dev.log_em (s : Dev) (o r w : Nat) : (s.log o r w).em = s.em := by
  simp [Dev.log]
@[simp] theorem Dev.log_postmark (s : Dev) (o r w : Nat) : (s.log o r w).postmark = s.postmark := by
  simp [Dev.log]
@[simp] theorem Dev.log_hosts (s : Dev) (o r w : Nat) : (s.log o r w).hosts = s.hosts := by
  simp [Dev.log]
@[simp] theorem Dev.log_storage (s : Dev) (o r w : Nat) : (s.log o r w).storage = s.storage := by
  simp [Dev.log]
@[simp] theorem Dev.log_cipher (s : Dev) (o r w : Nat) : (s.log o r w).cipher = s.cipher := by
  simp [Dev.log]
@[simp] theorem Dev.log_twin (s : Dev) (o r w : Nat) : (s.log o r w).twin = s.twin := by
  simp [Dev.log]
@[simp] theorem Dev.log_cores (s : Dev) (o r w : Nat) : (s.log o r w).cores = s.cores := by
  simp [Dev.log]
@[simp] theorem Dev.log_mem (s : Dev) (o r w : Nat) : (s.log o r w).mem = s.mem := by
  simp [Dev.log]
@[simp] theorem Dev.log_free (s : Dev) (o r w : Nat) : (s.log o r w).free = s.free := by
  simp [Dev.log]
@[simp] theorem Dev.log_out (s : Dev) (o r w : Nat) : (s.log o r w).out = s.out := by
  simp [Dev.log]
@[simp] theorem Dev.notify_part (s : Dev) (c o w : Nat) : (s.notify c o w).part = s.part := rfl
@[simp] theorem Dev.notify_tick (s : Dev) (c o w : Nat) : (s.notify c o w).tick = s.tick := rfl
@[simp] theorem Dev.notify_edgeTodo (s : Dev) (c o w : Nat) : (s.notify c o w).edgeTodo = s.edgeTodo := rfl
@[simp] theorem Dev.notify_objs (s : Dev) (c o w : Nat) : (s.notify c o w).objs = s.objs := rfl
@[simp] theorem Dev.notify_snap (s : Dev) (c o w : Nat) : (s.notify c o w).snap = s.snap := rfl
@[simp] theorem Dev.notify_snapTick (s : Dev) (c o w : Nat) : (s.notify c o w).snapTick = s.snapTick := rfl
@[simp] theorem Dev.notify_snapDue (s : Dev) (c o w : Nat) : (s.notify c o w).snapDue = s.snapDue := rfl
@[simp] theorem Dev.notify_power (s : Dev) (c o w : Nat) : (s.notify c o w).power = s.power := rfl
@[simp] theorem Dev.notify_boot (s : Dev) (c o w : Nat) : (s.notify c o w).boot = s.boot := rfl
@[simp] theorem Dev.notify_pins (s : Dev) (c o w : Nat) : (s.notify c o w).pins = s.pins := rfl
@[simp] theorem Dev.notify_work (s : Dev) (c o w : Nat) : (s.notify c o w).work = s.work := rfl
@[simp] theorem Dev.notify_shelves (s : Dev) (c o w : Nat) : (s.notify c o w).shelves = s.shelves := rfl
@[simp] theorem Dev.notify_sched (s : Dev) (c o w : Nat) : (s.notify c o w).sched = s.sched := rfl
@[simp] theorem Dev.notify_eth (s : Dev) (c o w : Nat) : (s.notify c o w).eth = s.eth := rfl
@[simp] theorem Dev.notify_pats (s : Dev) (c o w : Nat) : (s.notify c o w).pats = s.pats := rfl
@[simp] theorem Dev.notify_em (s : Dev) (c o w : Nat) : (s.notify c o w).em = s.em := rfl
@[simp] theorem Dev.notify_postmark (s : Dev) (c o w : Nat) : (s.notify c o w).postmark = s.postmark := rfl
@[simp] theorem Dev.notify_hosts (s : Dev) (c o w : Nat) : (s.notify c o w).hosts = s.hosts := rfl
@[simp] theorem Dev.notify_storage (s : Dev) (c o w : Nat) : (s.notify c o w).storage = s.storage := rfl
@[simp] theorem Dev.notify_cipher (s : Dev) (c o w : Nat) : (s.notify c o w).cipher = s.cipher := rfl
@[simp] theorem Dev.notify_twin (s : Dev) (c o w : Nat) : (s.notify c o w).twin = s.twin := rfl
@[simp] theorem Dev.notify_cores (s : Dev) (c o w : Nat) : (s.notify c o w).cores = s.cores := rfl
@[simp] theorem Dev.notify_mem (s : Dev) (c o w : Nat) : (s.notify c o w).mem = s.mem := rfl
@[simp] theorem Dev.notify_free (s : Dev) (c o w : Nat) : (s.notify c o w).free = s.free := rfl
@[simp] theorem Dev.setSession_part (s : Dev) (k : Nat) (x : Session) : (s.setSession k x).part = s.part := rfl
@[simp] theorem Dev.setSession_tick (s : Dev) (k : Nat) (x : Session) : (s.setSession k x).tick = s.tick := rfl
@[simp] theorem Dev.setSession_edgeTodo (s : Dev) (k : Nat) (x : Session) : (s.setSession k x).edgeTodo = s.edgeTodo := rfl
@[simp] theorem Dev.setSession_objs (s : Dev) (k : Nat) (x : Session) : (s.setSession k x).objs = s.objs := rfl
@[simp] theorem Dev.setSession_snap (s : Dev) (k : Nat) (x : Session) : (s.setSession k x).snap = s.snap := rfl
@[simp] theorem Dev.setSession_snapTick (s : Dev) (k : Nat) (x : Session) : (s.setSession k x).snapTick = s.snapTick := rfl
@[simp] theorem Dev.setSession_snapDue (s : Dev) (k : Nat) (x : Session) : (s.setSession k x).snapDue = s.snapDue := rfl
@[simp] theorem Dev.setSession_power (s : Dev) (k : Nat) (x : Session) : (s.setSession k x).power = s.power := rfl
@[simp] theorem Dev.setSession_boot (s : Dev) (k : Nat) (x : Session) : (s.setSession k x).boot = s.boot := rfl
@[simp] theorem Dev.setSession_pins (s : Dev) (k : Nat) (x : Session) : (s.setSession k x).pins = s.pins := rfl
@[simp] theorem Dev.setSession_work (s : Dev) (k : Nat) (x : Session) : (s.setSession k x).work = s.work := rfl
@[simp] theorem Dev.setSession_shelves (s : Dev) (k : Nat) (x : Session) : (s.setSession k x).shelves = s.shelves := rfl
@[simp] theorem Dev.setSession_sched (s : Dev) (k : Nat) (x : Session) : (s.setSession k x).sched = s.sched := rfl
@[simp] theorem Dev.setSession_eth (s : Dev) (k : Nat) (x : Session) : (s.setSession k x).eth = s.eth := rfl
@[simp] theorem Dev.setSession_pats (s : Dev) (k : Nat) (x : Session) : (s.setSession k x).pats = s.pats := rfl
@[simp] theorem Dev.setSession_em (s : Dev) (k : Nat) (x : Session) : (s.setSession k x).em = s.em := rfl
@[simp] theorem Dev.setSession_postmark (s : Dev) (k : Nat) (x : Session) : (s.setSession k x).postmark = s.postmark := rfl
@[simp] theorem Dev.setSession_hosts (s : Dev) (k : Nat) (x : Session) : (s.setSession k x).hosts = s.hosts := rfl
@[simp] theorem Dev.setSession_storage (s : Dev) (k : Nat) (x : Session) : (s.setSession k x).storage = s.storage := rfl
@[simp] theorem Dev.setSession_cipher (s : Dev) (k : Nat) (x : Session) : (s.setSession k x).cipher = s.cipher := rfl
@[simp] theorem Dev.setSession_twin (s : Dev) (k : Nat) (x : Session) : (s.setSession k x).twin = s.twin := rfl
@[simp] theorem Dev.setSession_cores (s : Dev) (k : Nat) (x : Session) : (s.setSession k x).cores = s.cores := rfl
@[simp] theorem Dev.setSession_mem (s : Dev) (k : Nat) (x : Session) : (s.setSession k x).mem = s.mem := rfl
@[simp] theorem Dev.setSession_free (s : Dev) (k : Nat) (x : Session) : (s.setSession k x).free = s.free := rfl
@[simp] theorem Dev.setSession_out (s : Dev) (k : Nat) (x : Session) : (s.setSession k x).out = s.out := rfl
@[simp] theorem Dev.setPort_part (s : Dev) (p : Nat) (x : Port) : (s.setPort p x).part = s.part := rfl
@[simp] theorem Dev.setPort_tick (s : Dev) (p : Nat) (x : Port) : (s.setPort p x).tick = s.tick := rfl
@[simp] theorem Dev.setPort_edgeTodo (s : Dev) (p : Nat) (x : Port) : (s.setPort p x).edgeTodo = s.edgeTodo := rfl
@[simp] theorem Dev.setPort_objs (s : Dev) (p : Nat) (x : Port) : (s.setPort p x).objs = s.objs := rfl
@[simp] theorem Dev.setPort_snap (s : Dev) (p : Nat) (x : Port) : (s.setPort p x).snap = s.snap := rfl
@[simp] theorem Dev.setPort_snapTick (s : Dev) (p : Nat) (x : Port) : (s.setPort p x).snapTick = s.snapTick := rfl
@[simp] theorem Dev.setPort_snapDue (s : Dev) (p : Nat) (x : Port) : (s.setPort p x).snapDue = s.snapDue := rfl
@[simp] theorem Dev.setPort_power (s : Dev) (p : Nat) (x : Port) : (s.setPort p x).power = s.power := rfl
@[simp] theorem Dev.setPort_boot (s : Dev) (p : Nat) (x : Port) : (s.setPort p x).boot = s.boot := rfl
@[simp] theorem Dev.setPort_pins (s : Dev) (p : Nat) (x : Port) : (s.setPort p x).pins = s.pins := rfl
@[simp] theorem Dev.setPort_bureau (s : Dev) (p : Nat) (x : Port) : (s.setPort p x).bureau = s.bureau := rfl
@[simp] theorem Dev.setPort_work (s : Dev) (p : Nat) (x : Port) : (s.setPort p x).work = s.work := rfl
@[simp] theorem Dev.setPort_shelves (s : Dev) (p : Nat) (x : Port) : (s.setPort p x).shelves = s.shelves := rfl
@[simp] theorem Dev.setPort_sched (s : Dev) (p : Nat) (x : Port) : (s.setPort p x).sched = s.sched := rfl
@[simp] theorem Dev.setPort_pats (s : Dev) (p : Nat) (x : Port) : (s.setPort p x).pats = s.pats := rfl
@[simp] theorem Dev.setPort_em (s : Dev) (p : Nat) (x : Port) : (s.setPort p x).em = s.em := rfl
@[simp] theorem Dev.setPort_postmark (s : Dev) (p : Nat) (x : Port) : (s.setPort p x).postmark = s.postmark := rfl
@[simp] theorem Dev.setPort_hosts (s : Dev) (p : Nat) (x : Port) : (s.setPort p x).hosts = s.hosts := rfl
@[simp] theorem Dev.setPort_storage (s : Dev) (p : Nat) (x : Port) : (s.setPort p x).storage = s.storage := rfl
@[simp] theorem Dev.setPort_cipher (s : Dev) (p : Nat) (x : Port) : (s.setPort p x).cipher = s.cipher := rfl
@[simp] theorem Dev.setPort_twin (s : Dev) (p : Nat) (x : Port) : (s.setPort p x).twin = s.twin := rfl
@[simp] theorem Dev.setPort_cores (s : Dev) (p : Nat) (x : Port) : (s.setPort p x).cores = s.cores := rfl
@[simp] theorem Dev.setPort_mem (s : Dev) (p : Nat) (x : Port) : (s.setPort p x).mem = s.mem := rfl
@[simp] theorem Dev.setPort_free (s : Dev) (p : Nat) (x : Port) : (s.setPort p x).free = s.free := rfl
@[simp] theorem Dev.setPort_out (s : Dev) (p : Nat) (x : Port) : (s.setPort p x).out = s.out := rfl
@[simp] theorem Dev.setPrio_part (s : Dev) (k : Nat) (x : Prio) : (s.setPrio k x).part = s.part := rfl
@[simp] theorem Dev.setPrio_tick (s : Dev) (k : Nat) (x : Prio) : (s.setPrio k x).tick = s.tick := rfl
@[simp] theorem Dev.setPrio_edgeTodo (s : Dev) (k : Nat) (x : Prio) : (s.setPrio k x).edgeTodo = s.edgeTodo := rfl
@[simp] theorem Dev.setPrio_objs (s : Dev) (k : Nat) (x : Prio) : (s.setPrio k x).objs = s.objs := rfl
@[simp] theorem Dev.setPrio_snap (s : Dev) (k : Nat) (x : Prio) : (s.setPrio k x).snap = s.snap := rfl
@[simp] theorem Dev.setPrio_snapTick (s : Dev) (k : Nat) (x : Prio) : (s.setPrio k x).snapTick = s.snapTick := rfl
@[simp] theorem Dev.setPrio_snapDue (s : Dev) (k : Nat) (x : Prio) : (s.setPrio k x).snapDue = s.snapDue := rfl
@[simp] theorem Dev.setPrio_power (s : Dev) (k : Nat) (x : Prio) : (s.setPrio k x).power = s.power := rfl
@[simp] theorem Dev.setPrio_boot (s : Dev) (k : Nat) (x : Prio) : (s.setPrio k x).boot = s.boot := rfl
@[simp] theorem Dev.setPrio_pins (s : Dev) (k : Nat) (x : Prio) : (s.setPrio k x).pins = s.pins := rfl
@[simp] theorem Dev.setPrio_bureau (s : Dev) (k : Nat) (x : Prio) : (s.setPrio k x).bureau = s.bureau := rfl
@[simp] theorem Dev.setPrio_work (s : Dev) (k : Nat) (x : Prio) : (s.setPrio k x).work = s.work := rfl
@[simp] theorem Dev.setPrio_shelves (s : Dev) (k : Nat) (x : Prio) : (s.setPrio k x).shelves = s.shelves := rfl
@[simp] theorem Dev.setPrio_sched (s : Dev) (k : Nat) (x : Prio) : (s.setPrio k x).sched = s.sched := rfl
@[simp] theorem Dev.setPrio_pats (s : Dev) (k : Nat) (x : Prio) : (s.setPrio k x).pats = s.pats := rfl
@[simp] theorem Dev.setPrio_em (s : Dev) (k : Nat) (x : Prio) : (s.setPrio k x).em = s.em := rfl
@[simp] theorem Dev.setPrio_postmark (s : Dev) (k : Nat) (x : Prio) : (s.setPrio k x).postmark = s.postmark := rfl
@[simp] theorem Dev.setPrio_hosts (s : Dev) (k : Nat) (x : Prio) : (s.setPrio k x).hosts = s.hosts := rfl
@[simp] theorem Dev.setPrio_storage (s : Dev) (k : Nat) (x : Prio) : (s.setPrio k x).storage = s.storage := rfl
@[simp] theorem Dev.setPrio_cipher (s : Dev) (k : Nat) (x : Prio) : (s.setPrio k x).cipher = s.cipher := rfl
@[simp] theorem Dev.setPrio_twin (s : Dev) (k : Nat) (x : Prio) : (s.setPrio k x).twin = s.twin := rfl
@[simp] theorem Dev.setPrio_cores (s : Dev) (k : Nat) (x : Prio) : (s.setPrio k x).cores = s.cores := rfl
@[simp] theorem Dev.setPrio_mem (s : Dev) (k : Nat) (x : Prio) : (s.setPrio k x).mem = s.mem := rfl
@[simp] theorem Dev.setPrio_free (s : Dev) (k : Nat) (x : Prio) : (s.setPrio k x).free = s.free := rfl
@[simp] theorem Dev.setPrio_out (s : Dev) (k : Nat) (x : Prio) : (s.setPrio k x).out = s.out := rfl
@[simp] theorem Dev.setChain_part (s : Dev) (h : Nat) (c : Chain) : (s.setChain h c).part = s.part := rfl
@[simp] theorem Dev.setChain_tick (s : Dev) (h : Nat) (c : Chain) : (s.setChain h c).tick = s.tick := rfl
@[simp] theorem Dev.setChain_edgeTodo (s : Dev) (h : Nat) (c : Chain) : (s.setChain h c).edgeTodo = s.edgeTodo := rfl
@[simp] theorem Dev.setChain_objs (s : Dev) (h : Nat) (c : Chain) : (s.setChain h c).objs = s.objs := rfl
@[simp] theorem Dev.setChain_snap (s : Dev) (h : Nat) (c : Chain) : (s.setChain h c).snap = s.snap := rfl
@[simp] theorem Dev.setChain_snapTick (s : Dev) (h : Nat) (c : Chain) : (s.setChain h c).snapTick = s.snapTick := rfl
@[simp] theorem Dev.setChain_snapDue (s : Dev) (h : Nat) (c : Chain) : (s.setChain h c).snapDue = s.snapDue := rfl
@[simp] theorem Dev.setChain_power (s : Dev) (h : Nat) (c : Chain) : (s.setChain h c).power = s.power := rfl
@[simp] theorem Dev.setChain_boot (s : Dev) (h : Nat) (c : Chain) : (s.setChain h c).boot = s.boot := rfl
@[simp] theorem Dev.setChain_pins (s : Dev) (h : Nat) (c : Chain) : (s.setChain h c).pins = s.pins := rfl
@[simp] theorem Dev.setChain_bureau (s : Dev) (h : Nat) (c : Chain) : (s.setChain h c).bureau = s.bureau := rfl
@[simp] theorem Dev.setChain_work (s : Dev) (h : Nat) (c : Chain) : (s.setChain h c).work = s.work := rfl
@[simp] theorem Dev.setChain_sched (s : Dev) (h : Nat) (c : Chain) : (s.setChain h c).sched = s.sched := rfl
@[simp] theorem Dev.setChain_eth (s : Dev) (h : Nat) (c : Chain) : (s.setChain h c).eth = s.eth := rfl
@[simp] theorem Dev.setChain_pats (s : Dev) (h : Nat) (c : Chain) : (s.setChain h c).pats = s.pats := rfl
@[simp] theorem Dev.setChain_em (s : Dev) (h : Nat) (c : Chain) : (s.setChain h c).em = s.em := rfl
@[simp] theorem Dev.setChain_postmark (s : Dev) (h : Nat) (c : Chain) : (s.setChain h c).postmark = s.postmark := rfl
@[simp] theorem Dev.setChain_hosts (s : Dev) (h : Nat) (c : Chain) : (s.setChain h c).hosts = s.hosts := rfl
@[simp] theorem Dev.setChain_storage (s : Dev) (h : Nat) (c : Chain) : (s.setChain h c).storage = s.storage := rfl
@[simp] theorem Dev.setChain_cipher (s : Dev) (h : Nat) (c : Chain) : (s.setChain h c).cipher = s.cipher := rfl
@[simp] theorem Dev.setChain_twin (s : Dev) (h : Nat) (c : Chain) : (s.setChain h c).twin = s.twin := rfl
@[simp] theorem Dev.setChain_cores (s : Dev) (h : Nat) (c : Chain) : (s.setChain h c).cores = s.cores := rfl
@[simp] theorem Dev.setChain_mem (s : Dev) (h : Nat) (c : Chain) : (s.setChain h c).mem = s.mem := rfl
@[simp] theorem Dev.setChain_free (s : Dev) (h : Nat) (c : Chain) : (s.setChain h c).free = s.free := rfl
@[simp] theorem Dev.setChain_out (s : Dev) (h : Nat) (c : Chain) : (s.setChain h c).out = s.out := rfl
@[simp] theorem Dev.setFn_part (s : Dev) (n : Nat) (f : Func) : (s.setFn n f).part = s.part := rfl
@[simp] theorem Dev.setFn_tick (s : Dev) (n : Nat) (f : Func) : (s.setFn n f).tick = s.tick := rfl
@[simp] theorem Dev.setFn_edgeTodo (s : Dev) (n : Nat) (f : Func) : (s.setFn n f).edgeTodo = s.edgeTodo := rfl
@[simp] theorem Dev.setFn_objs (s : Dev) (n : Nat) (f : Func) : (s.setFn n f).objs = s.objs := rfl
@[simp] theorem Dev.setFn_snap (s : Dev) (n : Nat) (f : Func) : (s.setFn n f).snap = s.snap := rfl
@[simp] theorem Dev.setFn_snapTick (s : Dev) (n : Nat) (f : Func) : (s.setFn n f).snapTick = s.snapTick := rfl
@[simp] theorem Dev.setFn_snapDue (s : Dev) (n : Nat) (f : Func) : (s.setFn n f).snapDue = s.snapDue := rfl
@[simp] theorem Dev.setFn_power (s : Dev) (n : Nat) (f : Func) : (s.setFn n f).power = s.power := rfl
@[simp] theorem Dev.setFn_boot (s : Dev) (n : Nat) (f : Func) : (s.setFn n f).boot = s.boot := rfl
@[simp] theorem Dev.setFn_pins (s : Dev) (n : Nat) (f : Func) : (s.setFn n f).pins = s.pins := rfl
@[simp] theorem Dev.setFn_bureau (s : Dev) (n : Nat) (f : Func) : (s.setFn n f).bureau = s.bureau := rfl
@[simp] theorem Dev.setFn_work (s : Dev) (n : Nat) (f : Func) : (s.setFn n f).work = s.work := rfl
@[simp] theorem Dev.setFn_shelves (s : Dev) (n : Nat) (f : Func) : (s.setFn n f).shelves = s.shelves := rfl
@[simp] theorem Dev.setFn_sched (s : Dev) (n : Nat) (f : Func) : (s.setFn n f).sched = s.sched := rfl
@[simp] theorem Dev.setFn_eth (s : Dev) (n : Nat) (f : Func) : (s.setFn n f).eth = s.eth := rfl
@[simp] theorem Dev.setFn_pats (s : Dev) (n : Nat) (f : Func) : (s.setFn n f).pats = s.pats := rfl
@[simp] theorem Dev.setFn_em (s : Dev) (n : Nat) (f : Func) : (s.setFn n f).em = s.em := rfl
@[simp] theorem Dev.setFn_postmark (s : Dev) (n : Nat) (f : Func) : (s.setFn n f).postmark = s.postmark := rfl
@[simp] theorem Dev.setFn_storage (s : Dev) (n : Nat) (f : Func) : (s.setFn n f).storage = s.storage := rfl
@[simp] theorem Dev.setFn_cipher (s : Dev) (n : Nat) (f : Func) : (s.setFn n f).cipher = s.cipher := rfl
@[simp] theorem Dev.setFn_twin (s : Dev) (n : Nat) (f : Func) : (s.setFn n f).twin = s.twin := rfl
@[simp] theorem Dev.setFn_cores (s : Dev) (n : Nat) (f : Func) : (s.setFn n f).cores = s.cores := rfl
@[simp] theorem Dev.setFn_mem (s : Dev) (n : Nat) (f : Func) : (s.setFn n f).mem = s.mem := rfl
@[simp] theorem Dev.setFn_free (s : Dev) (n : Nat) (f : Func) : (s.setFn n f).free = s.free := rfl
@[simp] theorem Dev.setFn_out (s : Dev) (n : Nat) (f : Func) : (s.setFn n f).out = s.out := rfl
@[simp] theorem Dev.setLink_part (s : Dev) (k : Nat) (l : HLink) : (s.setLink k l).part = s.part := rfl
@[simp] theorem Dev.setLink_tick (s : Dev) (k : Nat) (l : HLink) : (s.setLink k l).tick = s.tick := rfl
@[simp] theorem Dev.setLink_edgeTodo (s : Dev) (k : Nat) (l : HLink) : (s.setLink k l).edgeTodo = s.edgeTodo := rfl
@[simp] theorem Dev.setLink_objs (s : Dev) (k : Nat) (l : HLink) : (s.setLink k l).objs = s.objs := rfl
@[simp] theorem Dev.setLink_snap (s : Dev) (k : Nat) (l : HLink) : (s.setLink k l).snap = s.snap := rfl
@[simp] theorem Dev.setLink_snapTick (s : Dev) (k : Nat) (l : HLink) : (s.setLink k l).snapTick = s.snapTick := rfl
@[simp] theorem Dev.setLink_snapDue (s : Dev) (k : Nat) (l : HLink) : (s.setLink k l).snapDue = s.snapDue := rfl
@[simp] theorem Dev.setLink_power (s : Dev) (k : Nat) (l : HLink) : (s.setLink k l).power = s.power := rfl
@[simp] theorem Dev.setLink_boot (s : Dev) (k : Nat) (l : HLink) : (s.setLink k l).boot = s.boot := rfl
@[simp] theorem Dev.setLink_pins (s : Dev) (k : Nat) (l : HLink) : (s.setLink k l).pins = s.pins := rfl
@[simp] theorem Dev.setLink_bureau (s : Dev) (k : Nat) (l : HLink) : (s.setLink k l).bureau = s.bureau := rfl
@[simp] theorem Dev.setLink_work (s : Dev) (k : Nat) (l : HLink) : (s.setLink k l).work = s.work := rfl
@[simp] theorem Dev.setLink_shelves (s : Dev) (k : Nat) (l : HLink) : (s.setLink k l).shelves = s.shelves := rfl
@[simp] theorem Dev.setLink_sched (s : Dev) (k : Nat) (l : HLink) : (s.setLink k l).sched = s.sched := rfl
@[simp] theorem Dev.setLink_eth (s : Dev) (k : Nat) (l : HLink) : (s.setLink k l).eth = s.eth := rfl
@[simp] theorem Dev.setLink_pats (s : Dev) (k : Nat) (l : HLink) : (s.setLink k l).pats = s.pats := rfl
@[simp] theorem Dev.setLink_em (s : Dev) (k : Nat) (l : HLink) : (s.setLink k l).em = s.em := rfl
@[simp] theorem Dev.setLink_postmark (s : Dev) (k : Nat) (l : HLink) : (s.setLink k l).postmark = s.postmark := rfl
@[simp] theorem Dev.setLink_storage (s : Dev) (k : Nat) (l : HLink) : (s.setLink k l).storage = s.storage := rfl
@[simp] theorem Dev.setLink_cipher (s : Dev) (k : Nat) (l : HLink) : (s.setLink k l).cipher = s.cipher := rfl
@[simp] theorem Dev.setLink_twin (s : Dev) (k : Nat) (l : HLink) : (s.setLink k l).twin = s.twin := rfl
@[simp] theorem Dev.setLink_cores (s : Dev) (k : Nat) (l : HLink) : (s.setLink k l).cores = s.cores := rfl
@[simp] theorem Dev.setLink_mem (s : Dev) (k : Nat) (l : HLink) : (s.setLink k l).mem = s.mem := rfl
@[simp] theorem Dev.setLink_free (s : Dev) (k : Nat) (l : HLink) : (s.setLink k l).free = s.free := rfl
@[simp] theorem Dev.setLink_out (s : Dev) (k : Nat) (l : HLink) : (s.setLink k l).out = s.out := rfl
@[simp] theorem Dev.setHart_part (s : Dev) (h : Nat) (x : Hart) : (s.setHart h x).part = s.part := rfl
@[simp] theorem Dev.setHart_tick (s : Dev) (h : Nat) (x : Hart) : (s.setHart h x).tick = s.tick := rfl
@[simp] theorem Dev.setHart_edgeTodo (s : Dev) (h : Nat) (x : Hart) : (s.setHart h x).edgeTodo = s.edgeTodo := rfl
@[simp] theorem Dev.setHart_objs (s : Dev) (h : Nat) (x : Hart) : (s.setHart h x).objs = s.objs := rfl
@[simp] theorem Dev.setHart_snap (s : Dev) (h : Nat) (x : Hart) : (s.setHart h x).snap = s.snap := rfl
@[simp] theorem Dev.setHart_snapTick (s : Dev) (h : Nat) (x : Hart) : (s.setHart h x).snapTick = s.snapTick := rfl
@[simp] theorem Dev.setHart_snapDue (s : Dev) (h : Nat) (x : Hart) : (s.setHart h x).snapDue = s.snapDue := rfl
@[simp] theorem Dev.setHart_power (s : Dev) (h : Nat) (x : Hart) : (s.setHart h x).power = s.power := rfl
@[simp] theorem Dev.setHart_boot (s : Dev) (h : Nat) (x : Hart) : (s.setHart h x).boot = s.boot := rfl
@[simp] theorem Dev.setHart_pins (s : Dev) (h : Nat) (x : Hart) : (s.setHart h x).pins = s.pins := rfl
@[simp] theorem Dev.setHart_bureau (s : Dev) (h : Nat) (x : Hart) : (s.setHart h x).bureau = s.bureau := rfl
@[simp] theorem Dev.setHart_work (s : Dev) (h : Nat) (x : Hart) : (s.setHart h x).work = s.work := rfl
@[simp] theorem Dev.setHart_shelves (s : Dev) (h : Nat) (x : Hart) : (s.setHart h x).shelves = s.shelves := rfl
@[simp] theorem Dev.setHart_sched (s : Dev) (h : Nat) (x : Hart) : (s.setHart h x).sched = s.sched := rfl
@[simp] theorem Dev.setHart_eth (s : Dev) (h : Nat) (x : Hart) : (s.setHart h x).eth = s.eth := rfl
@[simp] theorem Dev.setHart_pats (s : Dev) (h : Nat) (x : Hart) : (s.setHart h x).pats = s.pats := rfl
@[simp] theorem Dev.setHart_em (s : Dev) (h : Nat) (x : Hart) : (s.setHart h x).em = s.em := rfl
@[simp] theorem Dev.setHart_postmark (s : Dev) (h : Nat) (x : Hart) : (s.setHart h x).postmark = s.postmark := rfl
@[simp] theorem Dev.setHart_hosts (s : Dev) (h : Nat) (x : Hart) : (s.setHart h x).hosts = s.hosts := rfl
@[simp] theorem Dev.setHart_storage (s : Dev) (h : Nat) (x : Hart) : (s.setHart h x).storage = s.storage := rfl
@[simp] theorem Dev.setHart_cipher (s : Dev) (h : Nat) (x : Hart) : (s.setHart h x).cipher = s.cipher := rfl
@[simp] theorem Dev.setHart_twin (s : Dev) (h : Nat) (x : Hart) : (s.setHart h x).twin = s.twin := rfl
@[simp] theorem Dev.setHart_mem (s : Dev) (h : Nat) (x : Hart) : (s.setHart h x).mem = s.mem := rfl
@[simp] theorem Dev.setHart_free (s : Dev) (h : Nat) (x : Hart) : (s.setHart h x).free = s.free := rfl
@[simp] theorem Dev.setHart_out (s : Dev) (h : Nat) (x : Hart) : (s.setHart h x).out = s.out := rfl
@[simp] theorem Dev.updSto_part (s : Dev) (f : Storage → Storage) : (s.updSto f).part = s.part := rfl
@[simp] theorem Dev.updSto_tick (s : Dev) (f : Storage → Storage) : (s.updSto f).tick = s.tick := rfl
@[simp] theorem Dev.updSto_edgeTodo (s : Dev) (f : Storage → Storage) : (s.updSto f).edgeTodo = s.edgeTodo := rfl
@[simp] theorem Dev.updSto_objs (s : Dev) (f : Storage → Storage) : (s.updSto f).objs = s.objs := rfl
@[simp] theorem Dev.updSto_snap (s : Dev) (f : Storage → Storage) : (s.updSto f).snap = s.snap := rfl
@[simp] theorem Dev.updSto_snapTick (s : Dev) (f : Storage → Storage) : (s.updSto f).snapTick = s.snapTick := rfl
@[simp] theorem Dev.updSto_snapDue (s : Dev) (f : Storage → Storage) : (s.updSto f).snapDue = s.snapDue := rfl
@[simp] theorem Dev.updSto_power (s : Dev) (f : Storage → Storage) : (s.updSto f).power = s.power := rfl
@[simp] theorem Dev.updSto_boot (s : Dev) (f : Storage → Storage) : (s.updSto f).boot = s.boot := rfl
@[simp] theorem Dev.updSto_pins (s : Dev) (f : Storage → Storage) : (s.updSto f).pins = s.pins := rfl
@[simp] theorem Dev.updSto_bureau (s : Dev) (f : Storage → Storage) : (s.updSto f).bureau = s.bureau := rfl
@[simp] theorem Dev.updSto_work (s : Dev) (f : Storage → Storage) : (s.updSto f).work = s.work := rfl
@[simp] theorem Dev.updSto_shelves (s : Dev) (f : Storage → Storage) : (s.updSto f).shelves = s.shelves := rfl
@[simp] theorem Dev.updSto_sched (s : Dev) (f : Storage → Storage) : (s.updSto f).sched = s.sched := rfl
@[simp] theorem Dev.updSto_eth (s : Dev) (f : Storage → Storage) : (s.updSto f).eth = s.eth := rfl
@[simp] theorem Dev.updSto_pats (s : Dev) (f : Storage → Storage) : (s.updSto f).pats = s.pats := rfl
@[simp] theorem Dev.updSto_em (s : Dev) (f : Storage → Storage) : (s.updSto f).em = s.em := rfl
@[simp] theorem Dev.updSto_postmark (s : Dev) (f : Storage → Storage) : (s.updSto f).postmark = s.postmark := rfl
@[simp] theorem Dev.updSto_hosts (s : Dev) (f : Storage → Storage) : (s.updSto f).hosts = s.hosts := rfl
@[simp] theorem Dev.updSto_cipher (s : Dev) (f : Storage → Storage) : (s.updSto f).cipher = s.cipher := rfl
@[simp] theorem Dev.updSto_twin (s : Dev) (f : Storage → Storage) : (s.updSto f).twin = s.twin := rfl
@[simp] theorem Dev.updSto_cores (s : Dev) (f : Storage → Storage) : (s.updSto f).cores = s.cores := rfl
@[simp] theorem Dev.updSto_mem (s : Dev) (f : Storage → Storage) : (s.updSto f).mem = s.mem := rfl
@[simp] theorem Dev.updSto_free (s : Dev) (f : Storage → Storage) : (s.updSto f).free = s.free := rfl
@[simp] theorem Dev.updSto_out (s : Dev) (f : Storage → Storage) : (s.updSto f).out = s.out := rfl
@[simp] theorem Dev.updCipher_part (s : Dev) (f : Cipher → Cipher) : (s.updCipher f).part = s.part := rfl
@[simp] theorem Dev.updCipher_tick (s : Dev) (f : Cipher → Cipher) : (s.updCipher f).tick = s.tick := rfl
@[simp] theorem Dev.updCipher_edgeTodo (s : Dev) (f : Cipher → Cipher) : (s.updCipher f).edgeTodo = s.edgeTodo := rfl
@[simp] theorem Dev.updCipher_objs (s : Dev) (f : Cipher → Cipher) : (s.updCipher f).objs = s.objs := rfl
@[simp] theorem Dev.updCipher_snap (s : Dev) (f : Cipher → Cipher) : (s.updCipher f).snap = s.snap := rfl
@[simp] theorem Dev.updCipher_snapTick (s : Dev) (f : Cipher → Cipher) : (s.updCipher f).snapTick = s.snapTick := rfl
@[simp] theorem Dev.updCipher_snapDue (s : Dev) (f : Cipher → Cipher) : (s.updCipher f).snapDue = s.snapDue := rfl
@[simp] theorem Dev.updCipher_power (s : Dev) (f : Cipher → Cipher) : (s.updCipher f).power = s.power := rfl
@[simp] theorem Dev.updCipher_boot (s : Dev) (f : Cipher → Cipher) : (s.updCipher f).boot = s.boot := rfl
@[simp] theorem Dev.updCipher_pins (s : Dev) (f : Cipher → Cipher) : (s.updCipher f).pins = s.pins := rfl
@[simp] theorem Dev.updCipher_bureau (s : Dev) (f : Cipher → Cipher) : (s.updCipher f).bureau = s.bureau := rfl
@[simp] theorem Dev.updCipher_work (s : Dev) (f : Cipher → Cipher) : (s.updCipher f).work = s.work := rfl
@[simp] theorem Dev.updCipher_shelves (s : Dev) (f : Cipher → Cipher) : (s.updCipher f).shelves = s.shelves := rfl
@[simp] theorem Dev.updCipher_sched (s : Dev) (f : Cipher → Cipher) : (s.updCipher f).sched = s.sched := rfl
@[simp] theorem Dev.updCipher_eth (s : Dev) (f : Cipher → Cipher) : (s.updCipher f).eth = s.eth := rfl
@[simp] theorem Dev.updCipher_pats (s : Dev) (f : Cipher → Cipher) : (s.updCipher f).pats = s.pats := rfl
@[simp] theorem Dev.updCipher_em (s : Dev) (f : Cipher → Cipher) : (s.updCipher f).em = s.em := rfl
@[simp] theorem Dev.updCipher_postmark (s : Dev) (f : Cipher → Cipher) : (s.updCipher f).postmark = s.postmark := rfl
@[simp] theorem Dev.updCipher_hosts (s : Dev) (f : Cipher → Cipher) : (s.updCipher f).hosts = s.hosts := rfl
@[simp] theorem Dev.updCipher_storage (s : Dev) (f : Cipher → Cipher) : (s.updCipher f).storage = s.storage := rfl
@[simp] theorem Dev.updCipher_twin (s : Dev) (f : Cipher → Cipher) : (s.updCipher f).twin = s.twin := rfl
@[simp] theorem Dev.updCipher_cores (s : Dev) (f : Cipher → Cipher) : (s.updCipher f).cores = s.cores := rfl
@[simp] theorem Dev.updCipher_mem (s : Dev) (f : Cipher → Cipher) : (s.updCipher f).mem = s.mem := rfl
@[simp] theorem Dev.updCipher_free (s : Dev) (f : Cipher → Cipher) : (s.updCipher f).free = s.free := rfl
@[simp] theorem Dev.updCipher_out (s : Dev) (f : Cipher → Cipher) : (s.updCipher f).out = s.out := rfl
@[simp] theorem Dev.putByte_part (s : Dev) (a b : Nat) : (s.putByte a b).part = s.part := rfl
@[simp] theorem Dev.putByte_tick (s : Dev) (a b : Nat) : (s.putByte a b).tick = s.tick := rfl
@[simp] theorem Dev.putByte_edgeTodo (s : Dev) (a b : Nat) : (s.putByte a b).edgeTodo = s.edgeTodo := rfl
@[simp] theorem Dev.putByte_objs (s : Dev) (a b : Nat) : (s.putByte a b).objs = s.objs := rfl
@[simp] theorem Dev.putByte_snap (s : Dev) (a b : Nat) : (s.putByte a b).snap = s.snap := rfl
@[simp] theorem Dev.putByte_snapTick (s : Dev) (a b : Nat) : (s.putByte a b).snapTick = s.snapTick := rfl
@[simp] theorem Dev.putByte_snapDue (s : Dev) (a b : Nat) : (s.putByte a b).snapDue = s.snapDue := rfl
@[simp] theorem Dev.putByte_power (s : Dev) (a b : Nat) : (s.putByte a b).power = s.power := rfl
@[simp] theorem Dev.putByte_boot (s : Dev) (a b : Nat) : (s.putByte a b).boot = s.boot := rfl
@[simp] theorem Dev.putByte_pins (s : Dev) (a b : Nat) : (s.putByte a b).pins = s.pins := rfl
@[simp] theorem Dev.putByte_bureau (s : Dev) (a b : Nat) : (s.putByte a b).bureau = s.bureau := rfl
@[simp] theorem Dev.putByte_work (s : Dev) (a b : Nat) : (s.putByte a b).work = s.work := rfl
@[simp] theorem Dev.putByte_shelves (s : Dev) (a b : Nat) : (s.putByte a b).shelves = s.shelves := rfl
@[simp] theorem Dev.putByte_sched (s : Dev) (a b : Nat) : (s.putByte a b).sched = s.sched := rfl
@[simp] theorem Dev.putByte_eth (s : Dev) (a b : Nat) : (s.putByte a b).eth = s.eth := rfl
@[simp] theorem Dev.putByte_pats (s : Dev) (a b : Nat) : (s.putByte a b).pats = s.pats := rfl
@[simp] theorem Dev.putByte_em (s : Dev) (a b : Nat) : (s.putByte a b).em = s.em := rfl
@[simp] theorem Dev.putByte_postmark (s : Dev) (a b : Nat) : (s.putByte a b).postmark = s.postmark := rfl
@[simp] theorem Dev.putByte_hosts (s : Dev) (a b : Nat) : (s.putByte a b).hosts = s.hosts := rfl
@[simp] theorem Dev.putByte_storage (s : Dev) (a b : Nat) : (s.putByte a b).storage = s.storage := rfl
@[simp] theorem Dev.putByte_cipher (s : Dev) (a b : Nat) : (s.putByte a b).cipher = s.cipher := rfl
@[simp] theorem Dev.putByte_twin (s : Dev) (a b : Nat) : (s.putByte a b).twin = s.twin := rfl
@[simp] theorem Dev.putByte_cores (s : Dev) (a b : Nat) : (s.putByte a b).cores = s.cores := rfl
@[simp] theorem Dev.putByte_free (s : Dev) (a b : Nat) : (s.putByte a b).free = s.free := rfl
@[simp] theorem Dev.putByte_out (s : Dev) (a b : Nat) : (s.putByte a b).out = s.out := rfl

/-! ### The block after a command -/

@[simp] theorem State.after_toDev (s : State) (d : Dev) : (s.after d).toDev = d := rfl
@[simp] theorem State.after_outs (s : State) (d : Dev) : (s.after d).outs = d.driven := rfl
@[simp] theorem State.after_pending (s : State) (d : Dev) : (s.after d).pending = s.pending := rfl

end Sys2Proof.Machine
end

