-- ==== Sys2Proof/Laws/Tab.lean ====
section
/-! SUPPORT. Laws of the sparse tables: what reading after an insertion or a removal gives, and that both keep the canonical form. -/
namespace Sys2Proof.Machine

/-- A looser bound holds of a table that keeps a tighter one. -/
theorem Tab.above_mono {α : Type} {a b : Nat} (h : a ≤ b) : ∀ {t : Tab α}, Tab.above b t = true → Tab.above a t = true
  | [], _ => rfl
  | (k, _) :: _, ht => by
    simp only [Tab.above, Bool.and_eq_true, decide_eq_true_eq] at ht ⊢
    exact ⟨by omega, ht.2⟩

/-- A key at or below the bound is not listed. -/
theorem Tab.get?_above {α : Type} {b i : Nat} : ∀ {t : Tab α}, Tab.above b t = true → i ≤ b → Tab.get? t i = none
  | [], _, _ => rfl
  | (k, _) :: _, ht, hi => by
    simp only [Tab.above, Bool.and_eq_true, decide_eq_true_eq] at ht
    have h1 : i ≠ k := by omega
    simpa [Tab.get?, h1] using Tab.get?_above ht.2 (by omega)

/-- A canonical table's tail is bounded by its head's key, and so is canonical. -/
theorem Tab.wf_tail {α : Type} {k : Nat} {v : α} {t : Tab α} (h : Tab.wf ((k, v) :: t) = true) : Tab.above k t = true := h

/-- A bounded table is canonical. -/
theorem Tab.wf_of_above {α : Type} {b : Nat} : ∀ {t : Tab α}, Tab.above b t = true → Tab.wf t = true
  | [], _ => rfl
  | (_, _) :: _, ht => by
    simp only [Tab.above, Bool.and_eq_true] at ht
    exact ht.2

/-- Reading key j after an insertion at key i. -/
theorem Tab.get?_ins {α : Type} (i j : Nat) (v : α) : ∀ t : Tab α, Tab.get? (Tab.ins t i v) j = if j = i then some v else Tab.get? t j
  | [] => by by_cases h : j = i <;> simp [Tab.ins, Tab.get?, h]
  | (k, w) :: t => by
    have ih := Tab.get?_ins i j v t
    by_cases hik : i = k
    · subst hik
      by_cases h : j = i <;> simp [Tab.ins, Tab.get?, h]
    · by_cases hlt : i < k
      · by_cases h : j = i <;> simp [Tab.ins, Tab.get?, hik, hlt, h]
      · by_cases hjk : j = k
        · have : j ≠ i := by omega
          simp [Tab.ins, Tab.get?, hik, hlt, hjk, Ne.symm hik]
        · simp [Tab.ins, Tab.get?, hik, hlt, hjk, ih]

/-- Reading key j after a removal of key i. -/
theorem Tab.get?_del {α : Type} (i j : Nat) : ∀ t : Tab α, Tab.get? (Tab.del t i) j = if j = i then none else Tab.get? t j
  | [] => by simp [Tab.del, Tab.get?]
  | (k, w) :: t => by
    have ih := Tab.get?_del i j t
    unfold Tab.del at ih ⊢
    by_cases hk : k = i
    · subst hk
      by_cases h : j = k <;> simp_all [Tab.get?]
    · by_cases h : j = k
      · subst h; simp [Tab.get?, hk]
      · simp [Tab.get?, hk, h, ih]

/-- An insertion above a bound keeps the bound. -/
theorem Tab.above_ins {α : Type} {b i : Nat} (v : α) (hb : b < i) : ∀ {t : Tab α}, Tab.above b t = true → Tab.above b (Tab.ins t i v) = true
  | [], _ => by simp [Tab.ins, Tab.above, hb]
  | (k, w) :: t, ht => by
    simp only [Tab.above, Bool.and_eq_true, decide_eq_true_eq] at ht
    by_cases hik : i = k
    · subst hik; simp [Tab.ins, Tab.above, ht.1, ht.2]
    · by_cases hlt : i < k
      · simp [Tab.ins, Tab.above, hik, hlt, hb, ht.2]
      · have ih := Tab.above_ins (b := k) (i := i) v (by omega) ht.2
        simp [Tab.ins, Tab.above, hik, hlt, ht.1, ih]

/-- An insertion keeps the canonical form. -/
theorem Tab.wf_ins {α : Type} (i : Nat) (v : α) : ∀ {t : Tab α}, Tab.wf t = true → Tab.wf (Tab.ins t i v) = true
  | [], _ => rfl
  | (k, w) :: t, ht => by
    have hk := Tab.wf_tail ht
    by_cases hik : i = k
    · subst hik; simpa [Tab.ins, Tab.wf] using hk
    · by_cases hlt : i < k
      · simp [Tab.ins, Tab.wf, Tab.above, hik, hlt, hk]
      · have := Tab.above_ins (b := k) (i := i) v (by omega) hk
        simpa [Tab.ins, Tab.wf, hik, hlt] using this

/-- A removal keeps a bound. -/
theorem Tab.above_del {α : Type} {b i : Nat} : ∀ {t : Tab α}, Tab.above b t = true → Tab.above b (Tab.del t i) = true
  | [], _ => rfl
  | (k, w) :: t, ht => by
    simp only [Tab.above, Bool.and_eq_true, decide_eq_true_eq] at ht
    by_cases hk : k = i
    · have h2 : Tab.del ((k, w) :: t) i = Tab.del t i := by simp [Tab.del, hk]
      rw [h2]; exact Tab.above_mono (Nat.le_of_lt ht.1) (Tab.above_del (i := i) ht.2)
    · have h2 : Tab.del ((k, w) :: t) i = (k, w) :: Tab.del t i := by simp [Tab.del, hk]
      rw [h2, Tab.above, Tab.above_del (i := i) ht.2]; simp [ht.1]

/-- A removal keeps the canonical form. -/
theorem Tab.wf_del {α : Type} (i : Nat) : ∀ {t : Tab α}, Tab.wf t = true → Tab.wf (Tab.del t i) = true
  | [], _ => rfl
  | (k, w) :: t, ht => by
    by_cases hk : k = i
    · have h2 : Tab.del ((k, w) :: t) i = Tab.del t i := by simp [Tab.del, hk]
      rw [h2]; exact Tab.wf_of_above (Tab.above_del (i := i) (Tab.wf_tail ht))
    · have h2 : Tab.del ((k, w) :: t) i = (k, w) :: Tab.del t i := by simp [Tab.del, hk]
      rw [h2]; exact Tab.above_del (i := i) (Tab.wf_tail ht)

/-- A write that removes a default keeps the canonical form. -/
theorem Tab.wf_put {α : Type} [DecidableEq α] (d : α) (i : Nat) (v : α) {t : Tab α} (h : Tab.wf t = true) :
    Tab.wf (Tab.put d t i v) = true := by
  unfold Tab.put
  split
  · exact Tab.wf_del i h
  · exact Tab.wf_ins i v h

/-- What a write that removes a default leaves listed at key j. -/
theorem Tab.get?_put {α : Type} [DecidableEq α] (d : α) (i j : Nat) (v : α) (t : Tab α) :
    Tab.get? (Tab.put d t i v) j = if j = i then (if v = d then none else some v) else Tab.get? t j := by
  unfold Tab.put
  split
  · rw [Tab.get?_del i j t]
  · rw [Tab.get?_ins i j v t]

/-- Reading key j, with the default for an unlisted key, after a write at key i. -/
theorem Tab.getD_put {α : Type} [DecidableEq α] (d : α) (i j : Nat) (v : α) (t : Tab α) :
    Tab.getD (Tab.put d t i v) j d = if j = i then v else Tab.getD t j d := by
  unfold Tab.getD
  rw [Tab.get?_put]
  by_cases h : j = i <;> by_cases hv : v = d <;> simp [h, hv]

end Sys2Proof.Machine
end

