-- ==== Sys2Proof/Laws/Ops.lean ====
section
/-! SUPPORT. What the shared operations do, once each: what a command answers, reading an object after a write, logs and free values. -/
namespace Sys2Proof.Machine

/-! ### What a command answers -/

/-- A command's answer is a next state. -/
@[simp] theorem ok_eq (s : State) (d : Dev) : ok s d = .next (s.after d) := rfl

/-- A command with an effect whatever domain is up. -/
@[simp] theorem always_eq (s : State) (f : Dev → Dev) : always s f = .next (s.after (f s.toDev)) := rfl

/-- A command of the main domain, with the domain up. -/
theorem onMain_up (s : State) (f : Dev → Dev) (h : s.power.up = true) : onMain s f = .next (s.after (f s.toDev)) := by
  simp [onMain, h]

/-- A command of the main domain, with the domain down: nothing but the outputs. -/
theorem onMain_down (s : State) (f : Dev → Dev) (h : s.power.up = false) : onMain s f = .next (s.after s.toDev) := by
  simp [onMain, h]

/-- A command under a condition that holds. -/
theorem onMainIf_up (s : State) (c : Bool) (f : Dev → Dev) (h : s.power.up = true) (hc : c = true) :
    onMainIf s c f = .next (s.after (f s.toDev)) := by
  simp [onMainIf, h, hc]

/-- A command under a condition that does not hold, or with the domain down. -/
theorem onMainIf_idle (s : State) (c : Bool) (f : Dev → Dev) (h : (s.power.up && c) = false) : onMainIf s c f = .next (s.after s.toDev) := by
  simp [onMainIf, h]

/-- A piece of a tick edge run as a command (R24). -/
theorem edgeCmd_up (s : State) (p : EdgePiece) (h : s.power.up = true) (hp : s.edgeTodo.contains p = true) :
    edgeCmd s p = .next (s.after (s.through p)) := onMainIf_up s _ _ h hp

/-- A command of a device with a twin (R427). -/
theorem twinIf_up (s : State) (c : Bool) (f : Dev → Dev) (h : s.power.up = true) (ht : s.flag Obj.TWIN_ENABLE = true) (hc : c = true) :
    twinIf s c f = .next (s.after (f s.toDev)) := onMainIf_up s _ _ h (by simp [ht, hc])

/-! ### Objects -/

/-- The store keys of two instances of one object differ unless the instances are one. -/
theorem okey_inj (oid i j : Nat) : okey oid i = okey oid j ↔ i = j := by
  unfold okey; omega

/-- Reading an object after writing an instance of it (R62): the value cut to the object's size at the instance written, and every other
instance as before. -/
theorem Dev.obj_setObj (s : Dev) (oid i j v : Nat) (d : ObjDef) (hd : objDef? oid = some d) :
    (s.setObj oid i v).obj oid j = if j = i then v % 2 ^ (8 * d.ty.size) else s.obj oid j := by
  have hs : s.setObj oid i v =
      { s with objs := Tab.put (dfltOf s.part oid i) s.objs (okey oid i) (v % 2 ^ (8 * d.ty.size)) } := by
    simp [Dev.setObj, hd]
  rw [hs]
  simp only [Dev.obj, objAt]
  rw [Tab.get?_put]
  by_cases hji : j = i
  · subst hji
    by_cases hv : v % 2 ^ (8 * d.ty.size) = dfltOf s.part oid j <;> simp [hv]
  · have hk : okey oid j ≠ okey oid i := fun h => hji ((okey_inj oid j i).1 h)
    simp [hk, hji]

/-- Reading one object after writing another: as before, for instances a record can name. -/
theorem Dev.obj_setObj_other (s : Dev) (oid oid' i j v : Nat) (hi : i < 2 ^ 32) (hj : j < 2 ^ 32) (ho : oid' ≠ oid) :
    (s.setObj oid i v).obj oid' j = s.obj oid' j := by
  have hk : okey oid' j ≠ okey oid i := by unfold okey; omega
  unfold Dev.setObj
  split
  · rfl
  · simp only [Dev.obj, objAt]
    rw [Tab.get?_put]
    simp [hk]

/-- Reading one object after writing another: as before, for every instance of objects whose numbers have 32 bits. -/
theorem Dev.obj_setObj_ne (s : Dev) (oid oid' i j v : Nat) (h : oid < 2 ^ 32) (h' : oid' < 2 ^ 32) (ho : oid' ≠ oid) :
    (s.setObj oid i v).obj oid' j = s.obj oid' j := by
  have hk : okey oid' j ≠ okey oid i := by unfold okey; omega
  unfold Dev.setObj
  split
  · rfl
  · simp only [Dev.obj, objAt]
    rw [Tab.get?_put]
    simp [hk]

/-- Writing an object keeps the store's canonical form. -/
theorem Dev.setObj_wf (s : Dev) (oid i v : Nat) (hw : Tab.wf s.objs = true) : Tab.wf (s.setObj oid i v).objs = true := by
  unfold Dev.setObj
  split
  · exact hw
  · exact Tab.wf_put _ _ _ hw

/-- A counter's rise keeps the store's canonical form. -/
theorem Dev.bump_wf (s : Dev) (oid i : Nat) (hw : Tab.wf s.objs = true) : Tab.wf (s.bump oid i).objs = true :=
  Dev.setObj_wf s oid i _ hw

/-- A log record keeps the store's canonical form. -/
theorem Dev.log_wf (s : Dev) (oid r w : Nat) (hw : Tab.wf s.objs = true) : Tab.wf (s.log oid r w).objs = true :=
  Dev.setObj_wf _ _ _ _ (Dev.setObj_wf s _ _ _ hw)

/-- Reset lists no object. -/
theorem reset_objs_wf : Tab.wf State.reset.objs = true := rfl

end Sys2Proof.Machine
end

