-- ==== Sys2Proof/Laws/FrameBase.lean ====
section
/-! SUPPORT. What an effect leaves alone: the projections that the frame lemmas speak of, and how they pass through folds, pairs and
conditionals. `X_core` says that X leaves the part, the tick counter and the bytes of memory alone; `X_clock` says it of the part and the
tick counter, for what writes memory. -/
namespace Sys2Proof.Machine

/-- What most effects leave alone: the part, the tick counter and the bytes of memory. -/
def Dev.core (s : Dev) : Part × Nat × List Host.Cell := (s.part, s.tick, s.mem)
/-- The part and the tick counter. -/
def Dev.clock (s : Dev) : Part × Nat := (s.part, s.tick)
theorem core_mk (s : Dev)  {edgeTodo} {objs} {snap} {snapTick} {snapDue} {power} {boot} {pins} {bureau} {work} {shelves} {sched} {eth} {pats} {em} {postmark} {hosts} {storage} {cipher} {twin} {cores} {free} {out} : Dev.core ⟨s.part, s.tick, edgeTodo, objs, snap, snapTick, snapDue, power, boot, pins, bureau, work, shelves, sched, eth, pats, em, postmark, hosts, storage, cipher, twin, cores, s.mem, free, out⟩ = s.core := id rfl
theorem foldl_core {α : Type} (f : Dev → α → Dev) (h : ∀ a x, (f a x).core = a.core) : ∀ (l : List α) (s : Dev), (l.foldl f s).core = s.core
  | [], _ => rfl
  | x :: l, s => (foldl_core f h l (f s x)).trans (h s x)
theorem foldl2_core {α γ : Type} (f : γ × Dev → α → γ × Dev) (h : ∀ a x, (f a x).2.core = a.2.core) :
    ∀ (l : List α) (s : γ × Dev), (l.foldl f s).2.core = s.2.core
  | [], _ => rfl
  | x :: l, s => (foldl2_core f h l (f s x)).trans (h s x)
theorem foldl1_core {α γ : Type} (f : Dev × γ → α → Dev × γ) (h : ∀ a x, (f a x).1.core = a.1.core) :
    ∀ (l : List α) (s : Dev × γ), (l.foldl f s).1.core = s.1.core
  | [], _ => rfl
  | x :: l, s => (foldl1_core f h l (f s x)).trans (h s x)
theorem pair2_core {α : Type} {p : α × Dev} {a : α} {x : Dev} (h : p = (a, x)) : x.core = p.2.core := by rw [h]
theorem pair1_core {α : Type} {p : Dev × α} {a : α} {x : Dev} (h : p = (x, a)) : x.core = p.1.core := by rw [h]
theorem Dev.setObj_core (s : Dev) (oid inst v : Nat) : (s.setObj oid inst v).core = s.core := by unfold Dev.setObj; split <;> rfl
theorem clock_mk (s : Dev)  {edgeTodo} {objs} {snap} {snapTick} {snapDue} {power} {boot} {pins} {bureau} {work} {shelves} {sched} {eth} {pats} {em} {postmark} {hosts} {storage} {cipher} {twin} {cores} {mem} {free} {out} : Dev.clock ⟨s.part, s.tick, edgeTodo, objs, snap, snapTick, snapDue, power, boot, pins, bureau, work, shelves, sched, eth, pats, em, postmark, hosts, storage, cipher, twin, cores, mem, free, out⟩ = s.clock := id rfl
theorem foldl_clock {α : Type} (f : Dev → α → Dev) (h : ∀ a x, (f a x).clock = a.clock) : ∀ (l : List α) (s : Dev), (l.foldl f s).clock = s.clock
  | [], _ => rfl
  | x :: l, s => (foldl_clock f h l (f s x)).trans (h s x)
theorem foldl2_clock {α γ : Type} (f : γ × Dev → α → γ × Dev) (h : ∀ a x, (f a x).2.clock = a.2.clock) :
    ∀ (l : List α) (s : γ × Dev), (l.foldl f s).2.clock = s.2.clock
  | [], _ => rfl
  | x :: l, s => (foldl2_clock f h l (f s x)).trans (h s x)
theorem foldl1_clock {α γ : Type} (f : Dev × γ → α → Dev × γ) (h : ∀ a x, (f a x).1.clock = a.1.clock) :
    ∀ (l : List α) (s : Dev × γ), (l.foldl f s).1.clock = s.1.clock
  | [], _ => rfl
  | x :: l, s => (foldl1_clock f h l (f s x)).trans (h s x)
theorem pair2_clock {α : Type} {p : α × Dev} {a : α} {x : Dev} (h : p = (a, x)) : x.clock = p.2.clock := by rw [h]
theorem pair1_clock {α : Type} {p : Dev × α} {a : α} {x : Dev} (h : p = (x, a)) : x.clock = p.1.clock := by rw [h]
theorem Dev.setObj_clock (s : Dev) (oid inst v : Nat) : (s.setObj oid inst v).clock = s.clock := by unfold Dev.setObj; split <;> rfl
theorem foldl22_core {α β γ : Type} (f : β × γ × Dev → α → β × γ × Dev) (h : ∀ a x, (f a x).2.2.core = a.2.2.core) :
    ∀ (l : List α) (s : β × γ × Dev), (l.foldl f s).2.2.core = s.2.2.core
  | [], _ => rfl
  | x :: l, s => (foldl22_core f h l (f s x)).trans (h s x)
theorem foldlEm {α γ : Type} (f : Dev × γ → α → Dev × γ) (h : ∀ a x, (f a x).1.core = a.1.core) :
    ∀ (l : List α) (s : Dev × γ), (l.foldl f s).1.core = s.1.core := foldl1_core f h
theorem ite_to {α : Type} {c : Prop} [Decidable c] {a b z : α} (h : a = z) (h' : b = z) : (if c then a else b) = z := by split <;> assumption
theorem clock_of_core {s d : Dev} (h : d.core = s.core) : d.clock = s.clock := by simp only [Dev.core, Dev.clock, Prod.mk.injEq] at h ⊢; exact ⟨h.1, h.2.1⟩
end Sys2Proof.Machine
end

