-- ==== Sys2Proof/Laws/FrameBuffers.lean ====
section
/-! SUPPORT. Frame lemmas of threads, buffer shelves, the scheduler: each leaves the part, the tick counter and, but for `_clock` lemmas, the bytes of
memory alone. -/
set_option linter.unusedSimpArgs false
set_option linter.unusedVariables false
set_option maxRecDepth 8000
namespace Sys2Proof.Machine

theorem Dev.addObj_core (s : Dev) (oid inst n : Nat) : (Dev.addObj s oid inst n).core = s.core := by
  unfold Dev.addObj; simp only [Dev.setObj_core]
theorem Dev.bump_core (s : Dev) (oid : Nat) (inst : Nat) : (Dev.bump s oid inst).core = s.core := by
  unfold Dev.bump; simp only [Dev.addObj_core]
theorem Dev.drop1_core (s : Dev) (oid : Nat) (inst : Nat) : (Dev.drop1 s oid inst).core = s.core := by
  unfold Dev.drop1; simp only [Dev.setObj_core]
theorem Dev.emit_core (s : Dev) (o : Output) : (Dev.emit s o).core = s.core := id rfl
theorem Dev.fresh_core (s : Dev) : ((Dev.fresh s).2).core = s.core := id rfl
theorem Dev.log_core (s : Dev) (oid ring rec : Nat) : (Dev.log s oid ring rec).core = s.core := by
  unfold Dev.log; simp only [Dev.setObj_core]
theorem Dev.notify_core (s : Dev) (code obj detail : Nat) : (Dev.notify s code obj detail).core = s.core := id rfl
theorem Dev.mgmtFrame_core (s : Dev) (f : Dev → Dev) (hf : ∀ t, (f t).core = t.core) : (Dev.mgmtFrame s f).core = s.core := by
  unfold Dev.mgmtFrame; simp only [↓core_mk, Dev.bump_core, hf, apply_ite Dev.core, ite_self]
theorem Dev.setHart_core (s : Dev) (h : Nat) (x : Hart) : (Dev.setHart s h x).core = s.core := id rfl
theorem Dev.except_core (s : Dev) (h code tval : Nat) : (Dev.except s h code tval).core = s.core := by
  unfold Dev.except; simp only [Dev.setHart_core]
theorem Dev.retired_core (s : Dev) (h len : Nat) : (Dev.retired s h len).core = s.core := by
  unfold Dev.retired; simp only [Dev.setHart_core]
theorem Dev.wakeEval_core (s : Dev) (h : Nat) : (Dev.wakeEval s h).core = s.core := by
  unfold Dev.wakeEval; (repeat' first | with_reducible rfl | (simp only [↓core_mk, Dev.retired_core, Dev.setHart_core, apply_ite Dev.core, ite_self, apply_ite Prod.snd, apply_ite Prod.fst]; done) | with_reducible refine (pair2_core ‹_›).trans ?_ | with_reducible refine ite_to ?_ ?_ | split | simp only [↓core_mk, Dev.retired_core, Dev.setHart_core, apply_ite Dev.core, ite_self, apply_ite Prod.snd, apply_ite Prod.fst])
theorem Dev.wakeDrawer_core (s : Dev) (d : Nat) : (Dev.wakeDrawer s d).core = s.core := by
  unfold Dev.wakeDrawer; (repeat' first | with_reducible rfl | (with_reducible refine (foldl_core _ ?_ _ _).trans ?_; intro _ _) | (simp only [↓core_mk, Dev.wakeEval_core, apply_ite Dev.core, ite_self]; done) | with_reducible refine ite_to ?_ ?_ | split)
theorem Dev.raise_core (s : Dev) (h b : Nat) : (Dev.raise s h b).core = s.core := by
  unfold Dev.raise; simp only [Dev.setHart_core, Dev.wakeEval_core]
theorem Dev.portDone_core (s : Dev) (h : Nat) : (Dev.portDone s h).core = s.core := by
  unfold Dev.portDone; simp only [↓core_mk, Dev.raise_core, apply_ite Dev.core, ite_self]
theorem Dev.event_core (s : Dev) (h b : Nat) : (Dev.event s h b).core = s.core := by
  unfold Dev.event; simp only [Dev.setHart_core, Dev.wakeEval_core]
theorem Dev.setChan_core (s : Dev) (E : Nat) (x : ChanEnd) : (Dev.setChan s E x).core = s.core := id rfl
theorem Dev.chanFault_core (s : Dev) (h E reason : Nat) : (Dev.chanFault s h E reason).core = s.core := by
  unfold Dev.chanFault; simp only [↓core_mk, Dev.bump_core, Dev.except_core, Dev.setHart_core, apply_ite Dev.core, ite_self]
theorem Dev.takeToken_core (s : Dev) (h E : Nat) (w : HWait) : (Dev.takeToken s h E w).core = s.core := by
  unfold Dev.takeToken; (repeat' first | with_reducible rfl | (simp only [↓core_mk, Dev.chanFault_core, Dev.retired_core, Dev.setChan_core, Dev.setHart_core, apply_ite Dev.core, ite_self, apply_ite Prod.snd, apply_ite Prod.fst]; done) | with_reducible refine (pair2_core ‹_›).trans ?_ | with_reducible refine ite_to ?_ ?_ | split | simp only [↓core_mk, Dev.chanFault_core, Dev.retired_core, Dev.setChan_core, Dev.setHart_core, apply_ite Dev.core, ite_self, apply_ite Prod.snd, apply_ite Prod.fst])
theorem Dev.wakeReceiver_core (s : Dev) (E : Nat) : (Dev.wakeReceiver s E).core = s.core := by
  unfold Dev.wakeReceiver; (repeat' first | with_reducible rfl | (with_reducible refine (foldl_core _ ?_ _ _).trans ?_; intro _ _) | (with_reducible refine (foldl2_core _ ?_ _ _).trans ?_; intro _ _) | (with_reducible refine (foldl1_core _ ?_ _ _).trans ?_; intro _ _) | (simp only [↓core_mk, Dev.takeToken_core, apply_ite Dev.core, ite_self, apply_ite Prod.snd, apply_ite Prod.fst]; done) | with_reducible refine (pair2_core ‹_›).trans ?_ | with_reducible refine (pair1_core ‹_›).trans ?_ | with_reducible refine ite_to ?_ ?_ | split | simp only [↓core_mk, Dev.takeToken_core, apply_ite Dev.core, ite_self, apply_ite Prod.snd, apply_ite Prod.fst])
theorem Dev.accept_core (s : Dev) (D E : Nat) (k : Token) : (Dev.accept s D E k).core = s.core := by
  unfold Dev.accept; (repeat' first | with_reducible rfl | (with_reducible refine (foldl_core _ ?_ _ _).trans ?_; intro _ _) | (with_reducible refine (foldl2_core _ ?_ _ _).trans ?_; intro _ _) | (with_reducible refine (foldl1_core _ ?_ _ _).trans ?_; intro _ _) | (simp only [↓core_mk, Dev.setChan_core, Dev.wakeReceiver_core, apply_ite Dev.core, ite_self, apply_ite Prod.snd, apply_ite Prod.fst]; done) | with_reducible refine (pair2_core ‹_›).trans ?_ | with_reducible refine (pair1_core ‹_›).trans ?_ | with_reducible refine ite_to ?_ ?_ | split | simp only [↓core_mk, Dev.setChan_core, Dev.wakeReceiver_core, apply_ite Dev.core, ite_self, apply_ite Prod.snd, apply_ite Prod.fst])
theorem Dev.queueAt_core (s : Dev) (D E : Nat) : (Dev.queueAt s D E).core = s.core := by
  unfold Dev.queueAt; (repeat' first | with_reducible rfl | (with_reducible refine (foldl_core _ ?_ _ _).trans ?_; intro _ _) | (with_reducible refine (foldl2_core _ ?_ _ _).trans ?_; intro _ _) | (with_reducible refine (foldl1_core _ ?_ _ _).trans ?_; intro _ _) | (simp only [↓core_mk, Dev.setChan_core, apply_ite Dev.core, ite_self, apply_ite Prod.snd, apply_ite Prod.fst]; done) | with_reducible refine (pair2_core ‹_›).trans ?_ | with_reducible refine (pair1_core ‹_›).trans ?_ | with_reducible refine ite_to ?_ ?_ | split | simp only [↓core_mk, Dev.setChan_core, apply_ite Dev.core, ite_self, apply_ite Prod.snd, apply_ite Prod.fst])
theorem Dev.withdraw_core (s : Dev) (E : Nat) : (Dev.withdraw s E).core = s.core := by
  unfold Dev.withdraw; (repeat' first | with_reducible rfl | (with_reducible refine (foldl_core _ ?_ _ _).trans ?_; intro _ _) | (with_reducible refine (foldl2_core _ ?_ _ _).trans ?_; intro _ _) | (with_reducible refine (foldl1_core _ ?_ _ _).trans ?_; intro _ _) | (simp only [↓core_mk, Dev.setChan_core, apply_ite Dev.core, ite_self, apply_ite Prod.snd, apply_ite Prod.fst]; done) | with_reducible refine (pair2_core ‹_›).trans ?_ | with_reducible refine (pair1_core ‹_›).trans ?_ | with_reducible refine ite_to ?_ ?_ | split | simp only [↓core_mk, Dev.setChan_core, apply_ite Dev.core, ite_self, apply_ite Prod.snd, apply_ite Prod.fst])
theorem Dev.poisonEnd_core (s : Dev) (E : Nat) : (Dev.poisonEnd s E).core = s.core := by
  unfold Dev.poisonEnd; (repeat' first | with_reducible rfl | (with_reducible refine (foldl_core _ ?_ _ _).trans ?_; intro _ _) | (with_reducible refine (foldl2_core _ ?_ _ _).trans ?_; intro _ _) | (with_reducible refine (foldl1_core _ ?_ _ _).trans ?_; intro _ _) | (simp only [↓core_mk, Dev.accept_core, Dev.setChan_core, apply_ite Dev.core, ite_self, apply_ite Prod.snd, apply_ite Prod.fst]; done) | with_reducible refine (pair2_core ‹_›).trans ?_ | with_reducible refine (pair1_core ‹_›).trans ?_ | with_reducible refine ite_to ?_ ?_ | split | simp only [↓core_mk, Dev.accept_core, Dev.setChan_core, apply_ite Dev.core, ite_self, apply_ite Prod.snd, apply_ite Prod.fst])
theorem Dev.poisonDrawer_core (s : Dev) (d : Nat) : (Dev.poisonDrawer s d).core = s.core := by
  unfold Dev.poisonDrawer; (repeat' first | with_reducible rfl | (with_reducible refine (foldl_core _ ?_ _ _).trans ?_; intro _ _) | (simp only [↓core_mk, Dev.poisonEnd_core, apply_ite Dev.core, ite_self]; done) | with_reducible refine ite_to ?_ ?_ | split)
theorem Dev.overwritten_core (s : Dev) (h : Option Nat) (lo hi : Nat) : (Dev.overwritten s h lo hi).core = s.core := id rfl
theorem Dev.lowEvalOne_core (s : Dev) (f : Nat) : (Dev.lowEvalOne s f).core = s.core := by
  unfold Dev.lowEvalOne; simp only [↓core_mk, Dev.bump_core, Dev.setObj_core, apply_ite Dev.core, ite_self]
theorem Dev.lowShelves_core (s : Dev) : (Dev.lowShelves s).core = s.core := by
  unfold Dev.lowShelves; (repeat' first | with_reducible rfl | (with_reducible refine (foldl_core _ ?_ _ _).trans ?_; intro _ _) | (simp only [↓core_mk, Dev.lowEvalOne_core, apply_ite Dev.core, ite_self]; done) | with_reducible refine ite_to ?_ ?_ | split)
theorem Dev.setPrio_core (s : Dev) (k : Nat) (x : Prio) : (Dev.setPrio s k x).core = s.core := id rfl
theorem Dev.sendPause_core (s : Dev) (k quanta : Nat) : (Dev.sendPause s k quanta).core = s.core := by
  unfold Dev.sendPause; simp only [↓core_mk, Dev.bump_core, Dev.emit_core, apply_ite Dev.core, ite_self]
theorem Dev.pauseOne_core (s : Dev) (k : Nat) : (Dev.pauseOne s k).core = s.core := by
  unfold Dev.pauseOne; (repeat' first | with_reducible rfl | (simp only [↓core_mk, Dev.sendPause_core, Dev.setPrio_core, apply_ite Dev.core, ite_self, apply_ite Prod.snd, apply_ite Prod.fst]; done) | with_reducible refine (pair2_core ‹_›).trans ?_ | with_reducible refine ite_to ?_ ?_ | split | simp only [↓core_mk, Dev.sendPause_core, Dev.setPrio_core, apply_ite Dev.core, ite_self, apply_ite Prod.snd, apply_ite Prod.fst])
theorem Dev.pauseEval_core (s : Dev) : (Dev.pauseEval s).core = s.core := by
  unfold Dev.pauseEval; (repeat' first | with_reducible rfl | (with_reducible refine (foldl_core _ ?_ _ _).trans ?_; intro _ _) | (simp only [↓core_mk, Dev.pauseOne_core, apply_ite Dev.core, ite_self]; done) | with_reducible refine ite_to ?_ ?_ | split)
theorem Dev.lowEval_core (s : Dev) : (Dev.lowEval s).core = s.core := by
  unfold Dev.lowEval; simp only [Dev.lowShelves_core, Dev.pauseEval_core]
theorem Dev.setChain_core (s : Dev) (h : Nat) (c : Chain) : (Dev.setChain s h c).core = s.core := id rfl
theorem Dev.bufsWritten_core (s : Dev) (hs : List Nat) : (Dev.bufsWritten s hs).core = s.core := by
  unfold Dev.bufsWritten; (repeat' first | with_reducible rfl | (with_reducible refine (foldl_core _ ?_ _ _).trans ?_; intro _ _) | (simp only [↓core_mk, Dev.overwritten_core, apply_ite Dev.core, ite_self]; done) | with_reducible refine ite_to ?_ ?_ | split)
theorem Dev.setChainData_core (s : Dev) (h : Nat) (d : List Nat) : (Dev.setChainData s h d).core = s.core := by
  unfold Dev.setChainData; (repeat' first | with_reducible rfl | (simp only [↓core_mk, Dev.bufsWritten_core, Dev.setChain_core, apply_ite Dev.core, ite_self]; done) | with_reducible refine ite_to ?_ ?_ | split)
theorem Dev.putFrame_core (s : Dev) (p : Parcel) (d : List Nat) : ((Dev.putFrame s p d).2).core = s.core := by
  unfold Dev.putFrame; (repeat' first | with_reducible rfl | (simp only [↓core_mk, Dev.setChainData_core, apply_ite Dev.core, ite_self]; done) | with_reducible refine ite_to ?_ ?_ | split)
theorem Dev.addShare_core (s : Dev) (h : Nat) : (Dev.addShare s h).core = s.core := by
  unfold Dev.addShare; (repeat' first | with_reducible rfl | (simp only [↓core_mk, Dev.setChain_core, apply_ite Dev.core, ite_self]; done) | with_reducible refine ite_to ?_ ?_ | split)
theorem Dev.pickBuffers_core (s : Dev) (f : Nat) (a1 : Nat) : ((Dev.pickBuffers s f a1).2).core = s.core := by
  induction a1 with | zero => rfl | succ k ih => (unfold Dev.pickBuffers; dsimp only; exact (Dev.fresh_core _).trans ih)
theorem Dev.takeChain_core (s : Dev) (owner f k : Nat) (data : List Nat) : ((Dev.takeChain s owner f k data).2).core = s.core := by
  unfold Dev.takeChain; simp only [Dev.bufsWritten_core, Dev.bump_core, Dev.lowEval_core, Dev.pickBuffers_core, Dev.setChain_core]
theorem Dev.allocFail_core (s : Dev) (f : Nat) (some_free : Bool) : (Dev.allocFail s f some_free).core = s.core := by
  unfold Dev.allocFail; simp only [↓core_mk, Dev.bump_core, apply_ite Dev.core, ite_self]
theorem Dev.alloc_core (s : Dev) (owner n : Nat) : ((Dev.alloc s owner n).2).core = s.core := by
  unfold Dev.alloc; (repeat' first | with_reducible rfl | (simp only [↓core_mk, Dev.allocFail_core, Dev.bump_core, Dev.takeChain_core, apply_ite Dev.core, ite_self, apply_ite Prod.snd, apply_ite Prod.fst]; done) | with_reducible refine (pair2_core ‹_›).trans ?_ | with_reducible refine ite_to ?_ ?_ | split | simp only [↓core_mk, Dev.allocFail_core, Dev.bump_core, Dev.takeChain_core, apply_ite Dev.core, ite_self, apply_ite Prod.snd, apply_ite Prod.fst])
theorem Dev.returnChain_core (s : Dev) (h : Nat) : (Dev.returnChain s h).core = s.core := by
  unfold Dev.returnChain; (repeat' first | with_reducible rfl | (simp only [↓core_mk, Dev.lowEval_core, apply_ite Dev.core, ite_self]; done) | with_reducible refine ite_to ?_ ?_ | split)
theorem Dev.fillTo_core (s : Dev) (h n : Nat) : (Dev.fillTo s h n).core = s.core := by
  unfold Dev.fillTo; (repeat' first | with_reducible rfl | (simp only [↓core_mk, Dev.pauseEval_core, apply_ite Dev.core, ite_self]; done) | with_reducible refine ite_to ?_ ?_ | split)
theorem Dev.dropReserved_core (s : Dev) (h : Nat) : (Dev.dropReserved s h).core = s.core := by
  unfold Dev.dropReserved; (repeat' first | with_reducible rfl | (simp only [↓core_mk, Dev.lowEval_core, Dev.setChain_core, apply_ite Dev.core, ite_self]; done) | with_reducible refine ite_to ?_ ?_ | split)
theorem Dev.bufRefuse_core (s : Dev) (handle issuer lastOwner opcode status shares : Nat) : ((Dev.bufRefuse s handle issuer lastOwner opcode status shares).2).core = s.core := by
  unfold Dev.bufRefuse; simp only [Dev.log_core]
theorem Dev.bufNoHead_core (s : Dev) (handle issuer opcode : Nat) : ((Dev.bufNoHead s handle issuer opcode).2).core = s.core := by
  unfold Dev.bufNoHead; simp only [↓core_mk, Dev.bufRefuse_core, Dev.bump_core, apply_ite Dev.core, ite_self]
theorem Dev.bufFree_core (s : Dev) (o h : Nat) : ((Dev.bufFree s o h).2).core = s.core := by
  unfold Dev.bufFree; (repeat' first | with_reducible rfl | (simp only [↓core_mk, Dev.bufNoHead_core, Dev.bufRefuse_core, Dev.bump_core, Dev.returnChain_core, Dev.setChain_core, apply_ite Dev.core, ite_self]; done) | with_reducible refine ite_to ?_ ?_ | split)
theorem Dev.bufShare_core (s : Dev) (o h n : Nat) : ((Dev.bufShare s o h n).2).core = s.core := by
  unfold Dev.bufShare; (repeat' first | with_reducible rfl | (simp only [↓core_mk, Dev.bufNoHead_core, Dev.bufRefuse_core, Dev.setChain_core, apply_ite Dev.core, ite_self]; done) | with_reducible refine ite_to ?_ ?_ | split)
theorem Dev.bufDetach_core (s : Dev) (o h : Nat) : ((Dev.bufDetach s o h).2).core = s.core := by
  unfold Dev.bufDetach; (repeat' first | with_reducible rfl | (simp only [↓core_mk, Dev.bufNoHead_core, Dev.bufRefuse_core, Dev.bump_core, Dev.returnChain_core, Dev.setChain_core, apply_ite Dev.core, ite_self]; done) | with_reducible refine ite_to ?_ ?_ | split)
theorem Dev.bufHandover_core (s : Dev) (o h w : Nat) : ((Dev.bufHandover s o h w).2).core = s.core := by
  unfold Dev.bufHandover; (repeat' first | with_reducible rfl | (simp only [↓core_mk, Dev.bufNoHead_core, Dev.bufRefuse_core, Dev.setChain_core, apply_ite Dev.core, ite_self]; done) | with_reducible refine ite_to ?_ ?_ | split)
theorem Dev.detachCopy_core (s : Dev) (holder h : Nat) : (Dev.detachCopy s holder h).core = s.core := by
  unfold Dev.detachCopy; (repeat' first | with_reducible rfl | (simp only [↓core_mk, Dev.bufDetach_core, apply_ite Dev.core, ite_self]; done) | with_reducible refine ite_to ?_ ?_ | split)
theorem Dev.releaseCopy_core (s : Dev) (f : QFrame) : (Dev.releaseCopy s f).core = s.core := by
  unfold Dev.releaseCopy; simp only [↓core_mk, Dev.bufFree_core, Dev.detachCopy_core, apply_ite Dev.core, ite_self]
theorem Dev.freeOwned_core (s : Dev) (test : Nat → Bool) : (Dev.freeOwned s test).core = s.core := by
  unfold Dev.freeOwned; (repeat' first | with_reducible rfl | (with_reducible refine (foldl_core _ ?_ _ _).trans ?_; intro _ _) | (simp only [↓core_mk, Dev.bufFree_core, apply_ite Dev.core, ite_self]; done) | with_reducible refine ite_to ?_ ?_ | split)
theorem Dev.bufOpen_core (x : BufRes × Dev) (alloc : Bool) : ((Dev.bufOpen x alloc).2).core = x.2.core := by
  unfold Dev.bufOpen; (repeat' first | with_reducible rfl | (simp only [↓core_mk, Dev.fresh_core, apply_ite Dev.core, ite_self]; done) | with_reducible refine ite_to ?_ ?_ | split)
theorem Dev.bufDone_core (x0 : BufRes × Dev) (issuer : Nat) (alloc : Bool) : (Dev.bufDone x0 issuer alloc).core = x0.2.core := by
  unfold Dev.bufDone; simp only [↓core_mk, Dev.bufOpen_core, Dev.portDone_core, apply_ite Dev.core, ite_self]
theorem Dev.setLeaf_core (s : Dev) (q : Nat) (l : Leaf) : (Dev.setLeaf s q l).core = s.core := id rfl
theorem Dev.setNode_core (s : Dev) (n : Nat) (x : Node) : (Dev.setNode s n x).core = s.core := id rfl
theorem Dev.creditOne_core (s : Dev) (n : Nat) : (Dev.creditOne s n).core = s.core := by
  unfold Dev.creditOne; simp only [Dev.setNode_core]
theorem Dev.shaperCredit_core (s : Dev) : (Dev.shaperCredit s).core = s.core := by
  unfold Dev.shaperCredit; (repeat' first | with_reducible rfl | (with_reducible refine (foldl_core _ ?_ _ _).trans ?_; intro _ _) | (simp only [↓core_mk, Dev.creditOne_core, apply_ite Dev.core, ite_self]; done) | with_reducible refine ite_to ?_ ?_ | split)
theorem Dev.chargeNode_core (s : Dev) (L : Int) (n : Nat) : (Dev.chargeNode s L n).core = s.core := by
  unfold Dev.chargeNode; simp only [↓core_mk, Dev.setNode_core, apply_ite Dev.core, ite_self]
theorem Dev.coarseEmpty_core (s : Dev) : (Dev.coarseEmpty s).core = s.core := by
  unfold Dev.coarseEmpty; simp only [↓core_mk, apply_ite Dev.core, ite_self]
theorem Dev.calendarOpen_core (s : Dev) : (Dev.calendarOpen s).core = s.core := id rfl
theorem Dev.shaperReload_core (s : Dev) (n : Nat) : (Dev.shaperReload s n).core = s.core := by
  unfold Dev.shaperReload; simp only [Dev.setNode_core]
theorem Dev.setTokens_core (s : Dev) (i c e : Nat) : (Dev.setTokens s i c e).core = s.core := id rfl
theorem Dev.policerAdd_core (s : Dev) (i : Nat) : (Dev.policerAdd s i).core = s.core := by
  unfold Dev.policerAdd; simp only [↓core_mk, Dev.setTokens_core, apply_ite Dev.core, ite_self]
theorem Dev.policerTokens_core (s : Dev) : (Dev.policerTokens s).core = s.core := by
  unfold Dev.policerTokens; (repeat' first | with_reducible rfl | (with_reducible refine (foldl_core _ ?_ _ _).trans ?_; intro _ _) | (simp only [↓core_mk, Dev.policerAdd_core, apply_ite Dev.core, ite_self]; done) | with_reducible refine ite_to ?_ ?_ | split)
theorem Dev.policerFill_core (s : Dev) (i : Nat) : (Dev.policerFill s i).core = s.core := by
  unfold Dev.policerFill; simp only [Dev.setTokens_core]
theorem Dev.police_core (s : Dev) (p : Parcel) (len : Nat) (data : List Nat) (a1 : Nat) (a2 : Nat) (a3 : Nat) : ((Dev.police s p len data a1 a2 a3).2).core = s.core := by
  induction a1 generalizing s a2 a3 with | zero => exact Dev.bump_core _ _ _ | succ k ih => (unfold Dev.police; dsimp only; repeat' first | (rw [ih]) | (simp only [Dev.addObj_core, Dev.bump_core, Dev.setTokens_core, apply_ite Dev.core, ite_self]; done) | split)
theorem Dev.wred_core (s : Dev) (q c : Nat) (data : List Nat) : ((Dev.wred s q c data).2).core = s.core := by
  unfold Dev.wred; (repeat' first | with_reducible rfl | (simp only [↓core_mk, Dev.fresh_core, Dev.setLeaf_core, apply_ite Dev.core, ite_self, apply_ite Prod.snd, apply_ite Prod.fst]; done) | with_reducible refine (pair2_core ‹_›).trans ?_ | with_reducible refine ite_to ?_ ?_ | split | simp only [↓core_mk, Dev.fresh_core, Dev.setLeaf_core, apply_ite Dev.core, ite_self, apply_ite Prod.snd, apply_ite Prod.fst])
theorem Dev.enqueueCopy_core (s : Dev) (q : Nat) (f : QFrame) : (Dev.enqueueCopy s q f).core = s.core := by
  unfold Dev.enqueueCopy; (repeat' first | with_reducible rfl | (simp only [↓core_mk, Dev.addObj_core, Dev.bump_core, Dev.releaseCopy_core, Dev.setLeaf_core, Dev.wred_core, apply_ite Dev.core, ite_self, apply_ite Prod.snd, apply_ite Prod.fst]; done) | with_reducible refine (pair2_core ‹_›).trans ?_ | with_reducible refine ite_to ?_ ?_ | split | simp only [↓core_mk, Dev.addObj_core, Dev.bump_core, Dev.releaseCopy_core, Dev.setLeaf_core, Dev.wred_core, apply_ite Dev.core, ite_self, apply_ite Prod.snd, apply_ite Prod.fst])
theorem Dev.ringPick_core (s : Dev) (ring : List Nat) (sel : Nat → Bool) (a1 : Nat) (a2 : Nat) : ((Dev.ringPick s ring sel a1 a2).2).core = s.core := by
  fun_induction Dev.ringPick <;> (try simp_all only []) <;> ((repeat' first | with_reducible rfl | (simp only [↓core_mk, Dev.setNode_core, apply_ite Dev.core, ite_self]; done) | with_reducible refine ite_to ?_ ?_ | split))
theorem Dev.pickChild_core (s : Dev) (k n : Nat) : ∀ r, Dev.pickChild s k n = some r → r.2.core = s.core := by
  intro r hr; unfold Dev.pickChild at hr; dsimp only at hr; split at hr; · cases hr
  · simp only [Option.some.injEq] at hr; subst hr; simp only [↓core_mk, Dev.ringPick_core]; split <;> first | rfl | exact Dev.setNode_core _ _ _
theorem Dev.selectLeaf_core (s : Dev) (P : Nat) : ∀ r, Dev.selectLeaf s P = some r → r.2.core = s.core := by
  intro r hr; unfold Dev.selectLeaf at hr; dsimp only [Bind.bind] at hr; split at hr; · obtain ⟨⟨g, s1⟩, h1, hr⟩ := Option.bind_eq_some_iff.1 hr; obtain ⟨⟨t, s2⟩, h2, hr⟩ := Option.bind_eq_some_iff.1 hr; exact (Dev.pickChild_core _ _ _ _ hr).trans ((Dev.pickChild_core _ _ _ _ h2).trans (Dev.pickChild_core _ _ _ _ h1))
  · cases hr
theorem Dev.deficitLoss_core (s : Dev) (n : Nat) : (Dev.deficitLoss s n).core = s.core := by
  unfold Dev.deficitLoss; simp only [↓core_mk, Dev.setNode_core, apply_ite Dev.core, ite_self]
theorem Dev.flushLeaf_core (s : Dev) (q : Nat) : (Dev.flushLeaf s q).core = s.core := by
  unfold Dev.flushLeaf; (repeat' first | with_reducible rfl | (with_reducible refine (foldl_core _ ?_ _ _).trans ?_; intro _ _) | (with_reducible refine (foldl2_core _ ?_ _ _).trans ?_; intro _ _) | (with_reducible refine (foldl1_core _ ?_ _ _).trans ?_; intro _ _) | (simp only [↓core_mk, Dev.addObj_core, Dev.deficitLoss_core, Dev.releaseCopy_core, Dev.setLeaf_core, apply_ite Dev.core, ite_self, apply_ite Prod.snd, apply_ite Prod.fst]; done) | with_reducible refine (pair2_core ‹_›).trans ?_ | with_reducible refine (pair1_core ‹_›).trans ?_ | with_reducible refine ite_to ?_ ?_ | split | simp only [↓core_mk, Dev.addObj_core, Dev.deficitLoss_core, Dev.releaseCopy_core, Dev.setLeaf_core, apply_ite Dev.core, ite_self, apply_ite Prod.snd, apply_ite Prod.fst])
theorem Dev.dequeue_core (s : Dev) (P : Nat) : ∀ r, Dev.dequeue s P = some r → r.2.2.core = s.core := by
  intro r hr; unfold Dev.dequeue at hr; split at hr; · cases hr
  · have h1 := Dev.selectLeaf_core _ _ _ ‹_›
    dsimp only at hr h1
    split at hr
    · cases hr
    · cases hr
      refine (foldl_core _ Dev.deficitLoss_core _ _).trans ((foldl_core _ ?_ _ _).trans ?_)
      · intro a x; refine (Dev.chargeNode_core _ _ _).trans ?_; split <;> first | exact Dev.setNode_core _ _ _ | rfl
      · exact ((Dev.addObj_core _ _ _ _).trans ((Dev.bump_core _ _ _).trans (Dev.setLeaf_core _ _ _))).trans h1
theorem Dev.takeViews_core (s : Dev) : (Dev.takeViews s).core = s.core := id rfl
theorem Dev.sampleLeaf_core (s : Dev) (l : LeafView) : (Dev.sampleLeaf s l).core = s.core := by
  unfold Dev.sampleLeaf; (repeat' first | with_reducible rfl | (simp only [↓core_mk, Dev.setObj_core, apply_ite Dev.core, ite_self, apply_ite Prod.snd, apply_ite Prod.fst]; done) | with_reducible refine (pair2_core ‹_›).trans ?_ | with_reducible refine ite_to ?_ ?_ | split | simp only [↓core_mk, Dev.setObj_core, apply_ite Dev.core, ite_self, apply_ite Prod.snd, apply_ite Prod.fst])
theorem Dev.latencySample_core (s : Dev) : (Dev.latencySample s).core = s.core := by
  unfold Dev.latencySample; (repeat' first | with_reducible rfl | (with_reducible refine (foldl_core _ ?_ _ _).trans ?_; intro _ _) | (simp only [↓core_mk, Dev.sampleLeaf_core, apply_ite Dev.core, ite_self]; done) | with_reducible refine ite_to ?_ ?_ | split)
theorem Dev.qstatClear_core (s : Dev) : (Dev.qstatClear s).core = s.core := id rfl
theorem Dev.setTb_core (s : Dev) (e : Nat) (b : TimeBase) : (Dev.setTb s e b).core = s.core := id rfl
theorem Dev.tbTick_core (s : Dev) : (Dev.tbTick s).core = s.core := by
  unfold Dev.tbTick; (repeat' first | with_reducible rfl | (with_reducible refine (foldl_core _ ?_ _ _).trans ?_; intro _ _) | (simp only [↓core_mk, Dev.setTb_core, apply_ite Dev.core, ite_self]; done) | with_reducible refine ite_to ?_ ?_ | split)

end Sys2Proof.Machine
end

