-- ==== Sys2Proof/Laws/FrameStore.lean ====
section
/-! SUPPORT. Frame lemmas of requests to hosts, keys, mirroring, the pigeonhole rack and the storage front end: each leaves the part, the tick counter and, but for `_clock` lemmas, the bytes of
memory alone. -/
set_option linter.unusedSimpArgs false
set_option linter.unusedVariables false
set_option maxRecDepth 8000
namespace Sys2Proof.Machine

theorem Dev.setFn_core (s : Dev) (n : Nat) (f : Func) : (Dev.setFn s n f).core = s.core := id rfl
theorem Dev.setFstate_core (s : Dev) (n v : Nat) : (Dev.setFstate s n v).core = s.core := by
  unfold Dev.setFstate; simp only [Dev.setFn_core, Dev.setObj_core]
theorem Dev.setLink_core (s : Dev) (k : Nat) (l : HLink) : (Dev.setLink s k l).core = s.core := id rfl
theorem Dev.msix_core (s : Dev) (n v : Nat) : (Dev.msix s n v).core = s.core := by
  unfold Dev.msix; (repeat' first | with_reducible rfl | (with_reducible refine (foldl_core _ ?_ _ _).trans ?_; intro _ _) | (with_reducible refine (foldl2_core _ ?_ _ _).trans ?_; intro _ _) | (with_reducible refine (foldl1_core _ ?_ _ _).trans ?_; intro _ _) | (simp only [↓core_mk, Dev.emit_core, Dev.setFn_core, apply_ite Dev.core, ite_self, apply_ite Prod.snd, apply_ite Prod.fst]; done) | with_reducible refine (pair2_core ‹_›).trans ?_ | with_reducible refine (pair1_core ‹_›).trans ?_ | with_reducible refine ite_to ?_ ?_ | split | simp only [↓core_mk, Dev.emit_core, Dev.setFn_core, apply_ite Dev.core, ite_self, apply_ite Prod.snd, apply_ite Prod.fst])
theorem Dev.intr_core (s : Dev) (n i : Nat) : (Dev.intr s n i).core = s.core := by
  unfold Dev.intr; simp only [↓core_mk, Dev.msix_core, Dev.setFn_core, apply_ite Dev.core, ite_self]
theorem Dev.markDirty_core (s : Dev) (n a len : Nat) : (Dev.markDirty s n a len).core = s.core := by
  unfold Dev.markDirty; (repeat' first | with_reducible rfl | (with_reducible refine (foldl_core _ ?_ _ _).trans ?_; intro _ _) | (simp only [↓core_mk, Dev.bump_core, Dev.setFn_core, apply_ite Dev.core, ite_self]; done) | with_reducible refine ite_to ?_ ?_ | split)
theorem Dev.flushMsix_core (s : Dev) (n : Nat) : (Dev.flushMsix s n).core = s.core := by
  unfold Dev.flushMsix; (repeat' first | with_reducible rfl | (with_reducible refine (foldl_core _ ?_ _ _).trans ?_; intro _ _) | (simp only [↓core_mk, Dev.msix_core, Dev.setFn_core, apply_ite Dev.core, ite_self]; done) | with_reducible refine ite_to ?_ ?_ | split)
theorem Dev.translate_core (s : Dev) (n a : Nat) : (Dev.translate s n a).core = s.core := by
  unfold Dev.translate; (repeat' first | with_reducible rfl | (with_reducible refine (foldl_core _ ?_ _ _).trans ?_; intro _ _) | (with_reducible refine (foldl2_core _ ?_ _ _).trans ?_; intro _ _) | (with_reducible refine (foldl1_core _ ?_ _ _).trans ?_; intro _ _) | (simp only [↓core_mk, Dev.emit_core, Dev.setLink_core, apply_ite Dev.core, ite_self, apply_ite Prod.snd, apply_ite Prod.fst]; done) | with_reducible refine (pair2_core ‹_›).trans ?_ | with_reducible refine (pair1_core ‹_›).trans ?_ | with_reducible refine ite_to ?_ ?_ | split | simp only [↓core_mk, Dev.emit_core, Dev.setLink_core, apply_ite Dev.core, ite_self, apply_ite Prod.snd, apply_ite Prod.fst])
theorem Dev.sendWrite_core (s : Dev) (n a : Nat) (data : List Nat) (ro : Bool) : (Dev.sendWrite s n a data ro).core = s.core := by
  unfold Dev.sendWrite; (repeat' first | with_reducible rfl | (with_reducible refine (foldl_core _ ?_ _ _).trans ?_; intro _ _) | (with_reducible refine (foldl2_core _ ?_ _ _).trans ?_; intro _ _) | (with_reducible refine (foldl1_core _ ?_ _ _).trans ?_; intro _ _) | (simp only [↓core_mk, Dev.emit_core, Dev.markDirty_core, Dev.translate_core, apply_ite Dev.core, ite_self, apply_ite Prod.snd, apply_ite Prod.fst]; done) | with_reducible refine (pair2_core ‹_›).trans ?_ | with_reducible refine (pair1_core ‹_›).trans ?_ | with_reducible refine ite_to ?_ ?_ | split | simp only [↓core_mk, Dev.emit_core, Dev.markDirty_core, Dev.translate_core, apply_ite Dev.core, ite_self, apply_ite Prod.snd, apply_ite Prod.fst])
theorem Dev.hostWrite_core (s : Dev) (n a : Nat) (data : List Nat) (ro : Bool) : (Dev.hostWrite s n a data ro).core = s.core := by
  unfold Dev.hostWrite; simp only [↓core_mk, Dev.bump_core, Dev.sendWrite_core, Dev.setFn_core, apply_ite Dev.core, ite_self]
theorem Dev.flushWrites_core (s : Dev) (n : Nat) : (Dev.flushWrites s n).core = s.core := by
  unfold Dev.flushWrites; (repeat' first | with_reducible rfl | (with_reducible refine (foldl_core _ ?_ _ _).trans ?_; intro _ _) | (simp only [↓core_mk, Dev.sendWrite_core, Dev.setFn_core, apply_ite Dev.core, ite_self]; done) | with_reducible refine ite_to ?_ ?_ | split)
theorem Dev.discardWrites_core (s : Dev) (n : Nat) : (Dev.discardWrites s n).core = s.core := by
  unfold Dev.discardWrites; (repeat' first | with_reducible rfl | (with_reducible refine (foldl_core _ ?_ _ _).trans ?_; intro _ _) | (simp only [↓core_mk, Dev.bump_core, Dev.setFn_core, apply_ite Dev.core, ite_self]; done) | with_reducible refine ite_to ?_ ?_ | split)
theorem Dev.issueTag_core (s0 : Dev) (k : Nat) (r : Req) : (Dev.issueTag s0 k r).core = s0.core := by
  unfold Dev.issueTag; (repeat' first | with_reducible rfl | (with_reducible refine (foldl_core _ ?_ _ _).trans ?_; intro _ _) | (with_reducible refine (foldl2_core _ ?_ _ _).trans ?_; intro _ _) | (with_reducible refine (foldl1_core _ ?_ _ _).trans ?_; intro _ _) | (simp only [↓core_mk, Dev.emit_core, Dev.fresh_core, Dev.setLink_core, Dev.translate_core, apply_ite Dev.core, ite_self, apply_ite Prod.snd, apply_ite Prod.fst]; done) | with_reducible refine (pair2_core ‹_›).trans ?_ | with_reducible refine (pair1_core ‹_›).trans ?_ | with_reducible refine ite_to ?_ ?_ | split | simp only [↓core_mk, Dev.emit_core, Dev.fresh_core, Dev.setLink_core, Dev.translate_core, apply_ite Dev.core, ite_self, apply_ite Prod.snd, apply_ite Prod.fst])
theorem Dev.issueReq_core (s : Dev) (r : Req) : (Dev.issueReq s r).core = s.core := by
  unfold Dev.issueReq; simp only [↓core_mk, Dev.bump_core, Dev.issueTag_core, Dev.setLink_core, apply_ite Dev.core, ite_self]
theorem Dev.drainTags_core (s : Dev) (k : Nat) (a1 : Nat) : (Dev.drainTags s k a1).core = s.core := by
  fun_induction Dev.drainTags <;> (try simp_all only []) <;> ((repeat' first | with_reducible rfl | (simp only [↓core_mk, Dev.issueTag_core, Dev.setLink_core, apply_ite Dev.core, ite_self]; done) | with_reducible refine ite_to ?_ ?_ | split))
theorem Dev.drainAll_core (s : Dev) (k : Nat) : (Dev.drainAll s k).core = s.core := by
  unfold Dev.drainAll; simp only [Dev.drainTags_core]
theorem Dev.returnTag_core (s : Dev) (k t : Nat) : (Dev.returnTag s k t).core = s.core := by
  unfold Dev.returnTag; simp only [Dev.drainAll_core, Dev.setLink_core]
theorem Dev.readHost_core (s : Dev) (fn off n : Nat) (segs : List (Nat × Nat)) (why : ReqFor) : (Dev.readHost s fn off n segs why).core = s.core := by
  unfold Dev.readHost; (repeat' first | with_reducible rfl | (with_reducible refine (foldl_core _ ?_ _ _).trans ?_; intro _ _) | (with_reducible refine (foldl2_core _ ?_ _ _).trans ?_; intro _ _) | (with_reducible refine (foldl1_core _ ?_ _ _).trans ?_; intro _ _) | (simp only [↓core_mk, Dev.issueReq_core, apply_ite Dev.core, ite_self, apply_ite Prod.snd, apply_ite Prod.fst]; done) | with_reducible refine (pair2_core ‹_›).trans ?_ | with_reducible refine (pair1_core ‹_›).trans ?_ | with_reducible refine ite_to ?_ ?_ | split | simp only [↓core_mk, Dev.issueReq_core, apply_ite Dev.core, ite_self, apply_ite Prod.snd, apply_ite Prod.fst])
theorem Dev.setMover_core (s : Dev) (d : Nat) (m : Mover) : (Dev.setMover s d m).core = s.core := id rfl
theorem Dev.moved_core (s : Dev) (d n : Nat) : (Dev.moved s d n).core = s.core := by
  unfold Dev.moved; simp only [Dev.setMover_core]
theorem Dev.dropXfers_core (s : Dev) (n : Nat) : (Dev.dropXfers s n).core = s.core := id rfl
theorem Dev.cancelReads_core (s : Dev) (n : Nat) : (Dev.cancelReads s n).core = s.core := by
  unfold Dev.cancelReads; simp only [Dev.dropXfers_core, Dev.setLink_core]
theorem Dev.linkErr_core (s : Dev) (n tag kind k : Nat) : (Dev.linkErr s n tag kind k).core = s.core := by
  unfold Dev.linkErr; simp only [Dev.intr_core, Dev.log_core]
theorem Dev.aer_core (s : Dev) (n i : Nat) : (Dev.aer s n i).core = s.core := by
  unfold Dev.aer; simp only [Dev.emit_core, Dev.fresh_core, Dev.setFn_core, apply_ite Dev.core, ite_self]
theorem Dev.slotAsk_core (s : Dev) (n addr bytes : Nat) (why : ReqFor) : ((Dev.slotAsk s n addr bytes why).2).core = s.core := by
  unfold Dev.slotAsk; (repeat' first | with_reducible rfl | (with_reducible refine (foldl_core _ ?_ _ _).trans ?_; intro _ _) | (with_reducible refine (foldl2_core _ ?_ _ _).trans ?_; intro _ _) | (with_reducible refine (foldl1_core _ ?_ _ _).trans ?_; intro _ _) | (simp only [↓core_mk, Dev.issueReq_core, Dev.issueTag_core, apply_ite Dev.core, ite_self, apply_ite Prod.snd, apply_ite Prod.fst]; done) | with_reducible refine (pair2_core ‹_›).trans ?_ | with_reducible refine (pair1_core ‹_›).trans ?_ | with_reducible refine ite_to ?_ ?_ | split | simp only [↓core_mk, Dev.issueReq_core, Dev.issueTag_core, apply_ite Dev.core, ite_self, apply_ite Prod.snd, apply_ite Prod.fst])
theorem Dev.onSlot_core (s : Dev) (n addr bytes : Nat) (why : ReqFor) (f : Nat → Dev → Dev) (hf : ∀ y t, (f y t).core = t.core) : (Dev.onSlot s n addr bytes why f).core = s.core := by
  unfold Dev.onSlot; split <;> first | exact (hf _ _).trans ((pair2_core ‹_›).trans (Dev.slotAsk_core _ _ _ _ _)) | exact (pair2_core ‹_›).trans (Dev.slotAsk_core _ _ _ _ _)
theorem Dev.slotFail_core (s : Dev) (n t err : Nat) : (Dev.slotFail s n t err).core = s.core := by
  unfold Dev.slotFail; simp only [↓core_mk, Dev.aer_core, Dev.bump_core, Dev.linkErr_core, Dev.returnTag_core, Dev.setLink_core, apply_ite Dev.core, ite_self]
theorem Dev.setQueue_core (s : Dev) (qk : Nat) (q : Queue) : (Dev.setQueue s qk q).core = s.core := id rfl
theorem Dev.updQueue_core (s : Dev) (qk : Nat) (f : Queue → Queue) : (Dev.updQueue s qk f).core = s.core := by
  unfold Dev.updQueue; (repeat' first | with_reducible rfl | (simp only [↓core_mk, Dev.setQueue_core, apply_ite Dev.core, ite_self]; done) | with_reducible refine ite_to ?_ ?_ | split)
theorem Dev.setQstate_core (s : Dev) (qk st status : Nat) (raise : Bool) : (Dev.setQstate s qk st status raise).core = s.core := by
  unfold Dev.setQstate; (repeat' first | with_reducible rfl | (simp only [↓core_mk, Dev.hostWrite_core, Dev.intr_core, Dev.setQueue_core, apply_ite Dev.core, ite_self]; done) | with_reducible refine ite_to ?_ ?_ | split)
theorem Dev.updJob_core (s : Dev) (qk i : Nat) (f : Job → Job) : (Dev.updJob s qk i f).core = s.core := by
  unfold Dev.updJob; simp only [Dev.updQueue_core]
theorem Dev.jobRetired_core (s : Dev) (p : Parcel) (drop : Bool) (st : Nat) : (Dev.jobRetired s p drop st).core = s.core := by
  unfold Dev.jobRetired; (repeat' first | with_reducible rfl | (simp only [↓core_mk, Dev.updJob_core, apply_ite Dev.core, ite_self]; done) | with_reducible refine ite_to ?_ ?_ | split)
theorem Dev.jobSent_core (s : Dev) (p : Parcel) (ts : Nat) : (Dev.jobSent s p ts).core = s.core := by
  unfold Dev.jobSent; (repeat' first | with_reducible rfl | (simp only [↓core_mk, Dev.updJob_core, apply_ite Dev.core, ite_self]; done) | with_reducible refine ite_to ?_ ?_ | split)
theorem Dev.jobLost_core (s : Dev) (f : QFrame) : (Dev.jobLost s f).core = s.core := by
  unfold Dev.jobLost; (repeat' first | with_reducible rfl | (simp only [↓core_mk, Dev.updJob_core, apply_ite Dev.core, ite_self]; done) | with_reducible refine ite_to ?_ ?_ | split)
theorem Dev.freeChains_core (s : Dev) (n : Nat) (hs : List Nat) : (Dev.freeChains s n hs).core = s.core := by
  unfold Dev.freeChains; (repeat' first | with_reducible rfl | (with_reducible refine (foldl_core _ ?_ _ _).trans ?_; intro _ _) | (simp only [↓core_mk, Dev.bufFree_core, apply_ite Dev.core, ite_self]; done) | with_reducible refine ite_to ?_ ?_ | split)
theorem Dev.jobFail_core (s : Dev) (qk i st : Nat) : (Dev.jobFail s qk i st).core = s.core := by
  unfold Dev.jobFail; (repeat' first | with_reducible rfl | (simp only [↓core_mk, Dev.bump_core, Dev.freeChains_core, Dev.updJob_core, apply_ite Dev.core, ite_self]; done) | with_reducible refine ite_to ?_ ?_ | split)
theorem Dev.updCipher_core (s : Dev) (f : Cipher → Cipher) : (Dev.updCipher s f).core = s.core := id rfl
theorem Dev.cacheKey_core (s : Dev) (d h : Nat) : (Dev.cacheKey s d h).core = s.core := by
  unfold Dev.cacheKey; simp only [Dev.updCipher_core]
theorem Dev.mirror_core (s : Dev) (m : MirrorMsg) : (Dev.mirror s m).core = s.core := by
  unfold Dev.mirror; simp only [Dev.bump_core, Dev.emit_core]
theorem Dev.mirrorSync_core (s : Dev) (m : MirrorMsg) (op : SyncOp) : (Dev.mirrorSync s m op).core = s.core := by
  unfold Dev.mirrorSync; simp only [↓core_mk, Dev.mirror_core]
theorem Dev.emQueue_core (s : Dev) (mirrored : Bool) (m : MirrorMsg) (o : EmOp) : (Dev.emQueue s mirrored m o).core = s.core := by
  unfold Dev.emQueue; simp only [↓core_mk, Dev.mirrorSync_core, apply_ite Dev.core, ite_self]
theorem Dev.updSto_core (s : Dev) (f : Storage → Storage) : (Dev.updSto s f).core = s.core := id rfl
theorem Dev.setCtrl_core (s : Dev) (c : Nat) (x : Ctrl) : (Dev.setCtrl s c x).core = s.core := by
  unfold Dev.setCtrl; simp only [Dev.updSto_core]
theorem Dev.setSq_core (s : Dev) (c q : Nat) (x : Sq) : (Dev.setSq s c q x).core = s.core := by
  unfold Dev.setSq; simp only [Dev.setCtrl_core]
theorem Dev.updSq_core (s : Dev) (c q : Nat) (f : Sq → Sq) : (Dev.updSq s c q f).core = s.core := by
  unfold Dev.updSq; (repeat' first | with_reducible rfl | (simp only [↓core_mk, Dev.setSq_core, apply_ite Dev.core, ite_self]; done) | with_reducible refine ite_to ?_ ?_ | split)
theorem Dev.updCmd_core (s : Dev) (c q m : Nat) (f : NvmCmd → NvmCmd) : (Dev.updCmd s c q m f).core = s.core := by
  unfold Dev.updCmd; simp only [Dev.updSq_core]
theorem Dev.spend_core (s : Dev) (c q cid : Nat) : (Dev.spend s c q cid).core = s.core := id rfl
theorem Dev.storageLog_core (s : Dev) (c q kind b : Nat) : (Dev.storageLog s c q kind b).core = s.core := by
  unfold Dev.storageLog; simp only [Dev.log_core, Dev.notify_core]
theorem Dev.cqInterrupt_core (s : Dev) (c q : Nat) : (Dev.cqInterrupt s c q).core = s.core := by
  unfold Dev.cqInterrupt; (repeat' first | with_reducible rfl | (simp only [↓core_mk, Dev.msix_core, Dev.setCtrl_core, apply_ite Dev.core, ite_self]; done) | with_reducible refine ite_to ?_ ?_ | split)
theorem Dev.postCq_core (s : Dev) (c q : Nat) (a1 : Nat) : (Dev.postCq s c q a1).core = s.core := by
  induction a1 generalizing s with | zero => rfl | succ k ih => (unfold Dev.postCq; dsimp only; repeat' first | with_reducible rfl | (simp only [ih, Dev.cqInterrupt_core, Dev.hostWrite_core, Dev.spend_core, Dev.setCtrl_core, apply_ite Dev.core, ite_self]; done) | split)
theorem Dev.queueCq_core (s : Dev) (c : Nat) (e : CqEntry) : (Dev.queueCq s c e).core = s.core := by
  unfold Dev.queueCq; (repeat' first | with_reducible rfl | (simp only [↓core_mk, Dev.postCq_core, Dev.setCtrl_core, apply_ite Dev.core, ite_self, apply_ite Prod.snd, apply_ite Prod.fst]; done) | with_reducible refine (pair2_core ‹_›).trans ?_ | with_reducible refine ite_to ?_ ?_ | split | simp only [↓core_mk, Dev.postCq_core, Dev.setCtrl_core, apply_ite Dev.core, ite_self, apply_ite Prod.snd, apply_ite Prod.fst])
theorem Dev.cmdFree_core (s : Dev) (c : Nat) (m : NvmCmd) : (Dev.cmdFree s c m).core = s.core := by
  unfold Dev.cmdFree; simp only [↓core_mk, Dev.bufFree_core, apply_ite Dev.core, ite_self]
theorem Dev.reap_core (s : Dev) (c q m : Nat) : (Dev.reap s c q m).core = s.core := by
  unfold Dev.reap; (repeat' first | with_reducible rfl | (with_reducible refine (foldl_core _ ?_ _ _).trans ?_; intro _ _) | (with_reducible refine (foldl2_core _ ?_ _ _).trans ?_; intro _ _) | (with_reducible refine (foldl1_core _ ?_ _ _).trans ?_; intro _ _) | (simp only [↓core_mk, Dev.updSq_core, apply_ite Dev.core, ite_self, apply_ite Prod.snd, apply_ite Prod.fst]; done) | with_reducible refine (pair2_core ‹_›).trans ?_ | with_reducible refine (pair1_core ‹_›).trans ?_ | with_reducible refine ite_to ?_ ?_ | split | simp only [↓core_mk, Dev.updSq_core, apply_ite Dev.core, ite_self, apply_ite Prod.snd, apply_ite Prod.fst])
theorem Dev.cmdDone_core (s : Dev) (c q m status dw0 : Nat) : (Dev.cmdDone s c q m status dw0).core = s.core := by
  unfold Dev.cmdDone; (repeat' first | with_reducible rfl | (with_reducible refine (foldl_core _ ?_ _ _).trans ?_; intro _ _) | (with_reducible refine (foldl2_core _ ?_ _ _).trans ?_; intro _ _) | (with_reducible refine (foldl1_core _ ?_ _ _).trans ?_; intro _ _) | (simp only [↓core_mk, Dev.cmdFree_core, Dev.queueCq_core, Dev.reap_core, Dev.updCmd_core, apply_ite Dev.core, ite_self, apply_ite Prod.snd, apply_ite Prod.fst]; done) | with_reducible refine (pair2_core ‹_›).trans ?_ | with_reducible refine (pair1_core ‹_›).trans ?_ | with_reducible refine ite_to ?_ ?_ | split | simp only [↓core_mk, Dev.cmdFree_core, Dev.queueCq_core, Dev.reap_core, Dev.updCmd_core, apply_ite Dev.core, ite_self, apply_ite Prod.snd, apply_ite Prod.fst])
theorem Dev.asyncEvent_core (s : Dev) (c event : Nat) : (Dev.asyncEvent s c event).core = s.core := by
  unfold Dev.asyncEvent; (repeat' first | with_reducible rfl | (simp only [↓core_mk, Dev.cmdDone_core, Dev.setCtrl_core, apply_ite Dev.core, ite_self, apply_ite Prod.snd, apply_ite Prod.fst]; done) | with_reducible refine (pair2_core ‹_›).trans ?_ | with_reducible refine ite_to ?_ ?_ | split | simp only [↓core_mk, Dev.cmdDone_core, Dev.setCtrl_core, apply_ite Dev.core, ite_self, apply_ite Prod.snd, apply_ite Prod.fst])
theorem Dev.setSync_core (s : Dev) (x v : Nat) : (Dev.setSync s x v).core = s.core := by
  unfold Dev.setSync; simp only [Dev.setObj_core]
theorem Dev.stale_core (s : Dev) (x : Nat) : (Dev.stale s x).core = s.core := by
  unfold Dev.stale; simp only [↓core_mk, Dev.setSync_core, apply_ite Dev.core, ite_self]
theorem Dev.pieceUnknown_core (s : Dev) (c q : Nat) (m : NvmCmd) (j cause : Nat) : (Dev.pieceUnknown s c q m j cause).core = s.core := by
  unfold Dev.pieceUnknown; (repeat' first | with_reducible rfl | (simp only [↓core_mk, Dev.cmdDone_core, Dev.setSync_core, Dev.updCmd_core, Dev.updSq_core, Dev.updSto_core, apply_ite Dev.core, ite_self, apply_ite Prod.snd, apply_ite Prod.fst]; done) | with_reducible refine (pair2_core ‹_›).trans ?_ | with_reducible refine ite_to ?_ ?_ | split | simp only [↓core_mk, Dev.cmdDone_core, Dev.setSync_core, Dev.updCmd_core, Dev.updSq_core, Dev.updSto_core, apply_ite Dev.core, ite_self, apply_ite Prod.snd, apply_ite Prod.fst])
theorem Dev.storageDropped_core (s : Dev) (p : Parcel) : (Dev.storageDropped s p).core = s.core := by
  unfold Dev.storageDropped; (repeat' first | with_reducible rfl | (with_reducible refine (foldl_core _ ?_ _ _).trans ?_; intro _ _) | (with_reducible refine (foldl2_core _ ?_ _ _).trans ?_; intro _ _) | (with_reducible refine (foldl1_core _ ?_ _ _).trans ?_; intro _ _) | (simp only [↓core_mk, Dev.cmdDone_core, Dev.fresh_core, Dev.pieceUnknown_core, apply_ite Dev.core, ite_self, apply_ite Prod.snd, apply_ite Prod.fst]; done) | with_reducible refine (pair2_core ‹_›).trans ?_ | with_reducible refine (pair1_core ‹_›).trans ?_ | with_reducible refine ite_to ?_ ?_ | split | simp only [↓core_mk, Dev.cmdDone_core, Dev.fresh_core, Dev.pieceUnknown_core, apply_ite Dev.core, ite_self, apply_ite Prod.snd, apply_ite Prod.fst])
theorem Dev.setQueueOf_core (s : Dev) (d : Nat) (l : List QEntry) : (Dev.setQueueOf s d l).core = s.core := id rfl
theorem Dev.pushQueue_core (s : Dev) (d : Nat) (e : QEntry) : (Dev.pushQueue s d e).core = s.core := by
  unfold Dev.pushQueue; simp only [↓core_mk, Dev.wakeDrawer_core]
theorem Dev.removeQ_core (s : Dev) (d seq : Nat) : (Dev.removeQ s d seq).core = s.core := by
  unfold Dev.removeQ; simp only [Dev.setQueueOf_core]
theorem Dev.draw_core (s : Dev) (g : Nat) : ((Dev.draw s g).2).core = s.core := by
  unfold Dev.draw; simp only [Dev.bump_core]
theorem Dev.ownChain_core (s : Dev) (h o : Nat) : (Dev.ownChain s h o).core = s.core := by
  unfold Dev.ownChain; (repeat' first | with_reducible rfl | (simp only [↓core_mk, Dev.setChain_core, apply_ite Dev.core, ite_self]; done) | with_reducible refine ite_to ?_ ?_ | split)
theorem Dev.rackOwns_core (s : Dev) (p : Parcel) : (Dev.rackOwns s p).core = s.core := by
  unfold Dev.rackOwns; simp only [↓core_mk, Dev.ownChain_core, apply_ite Dev.core, ite_self]
theorem Dev.pushFront_core (s : Dev) (d : Nat) (e : QEntry) : (Dev.pushFront s d e).core = s.core := id rfl
theorem Dev.enter_core (s : Dev) (e : QEntry) : (Dev.enter s e).core = s.core := by
  unfold Dev.enter; simp only [Dev.pushQueue_core, Dev.rackOwns_core]
theorem Dev.placeEntry_core (s : Dev) (fence : Bool) (e : QEntry) : (Dev.placeEntry s fence e).core = s.core := by
  unfold Dev.placeEntry; simp only [↓core_mk, Dev.bump_core, Dev.enter_core, Dev.pushQueue_core, apply_ite Dev.core, ite_self]
theorem Dev.place_core (s : Dev) (p : Parcel) : (Dev.place s p).core = s.core := by
  unfold Dev.place; simp only [Dev.placeEntry_core]
theorem Dev.ticketed_core (s : Dev) (p : Parcel) : (Dev.ticketed s p).core = s.core := by
  unfold Dev.ticketed; simp only [↓core_mk, Dev.draw_core, Dev.place_core, apply_ite Dev.core, ite_self]
theorem Dev.admitParcel_core (s : Dev) (p0 : Parcel) : (Dev.admitParcel s p0).core = s.core := by
  unfold Dev.admitParcel; simp only [↓core_mk, Dev.bump_core, Dev.ticketed_core, apply_ite Dev.core, ite_self]
theorem Dev.enqueued_core (s : Dev) (q : Nat) (f : QFrame) : ((Dev.enqueued s q f).2).core = s.core := by
  unfold Dev.enqueued; simp only [Dev.enqueueCopy_core]
theorem Dev.colourOf_core (s : Dev) (p : Parcel) : ((Dev.colourOf s p).2).core = s.core := by
  unfold Dev.colourOf; (repeat' first | with_reducible rfl | (simp only [↓core_mk, Dev.police_core, apply_ite Dev.core, ite_self]; done) | with_reducible refine ite_to ?_ ?_ | split)
theorem Dev.mirrorShare_core (s : Dev) (p : Parcel) : (Dev.mirrorShare s p).core = s.core := by
  unfold Dev.mirrorShare; (repeat' first | with_reducible rfl | (simp only [↓core_mk, Dev.addShare_core, Dev.bufShare_core, apply_ite Dev.core, ite_self]; done) | with_reducible refine ite_to ?_ ?_ | split)
theorem Dev.forward_core (s : Dev) (p : Parcel) : ((Dev.forward s p).2).core = s.core := by
  unfold Dev.forward; (repeat' first | with_reducible rfl | (simp only [↓core_mk, Dev.bufHandover_core, Dev.colourOf_core, Dev.enqueueCopy_core, Dev.enqueued_core, Dev.mirrorShare_core, apply_ite Dev.core, ite_self, apply_ite Prod.snd, apply_ite Prod.fst]; done) | with_reducible refine (pair2_core ‹_›).trans ?_ | with_reducible refine ite_to ?_ ?_ | split | simp only [↓core_mk, Dev.bufHandover_core, Dev.colourOf_core, Dev.enqueueCopy_core, Dev.enqueued_core, Dev.mirrorShare_core, apply_ite Dev.core, ite_self, apply_ite Prod.snd, apply_ite Prod.fst])
theorem Dev.rackFrees_core (s : Dev) (p : Parcel) : (Dev.rackFrees s p).core = s.core := by
  unfold Dev.rackFrees; simp only [↓core_mk, Dev.bufFree_core, Dev.detachCopy_core, apply_ite Dev.core, ite_self]
theorem Dev.dropChain_core (s : Dev) (p : Parcel) : (Dev.dropChain s p).core = s.core := by
  unfold Dev.dropChain; (repeat' first | with_reducible rfl | (simp only [↓core_mk, Dev.enqueueCopy_core, Dev.mirrorShare_core, Dev.rackFrees_core, apply_ite Dev.core, ite_self]; done) | with_reducible refine ite_to ?_ ?_ | split)
theorem Dev.mirrorShared_core (s : Dev) (p : Parcel) : (Dev.mirrorShared s p).core = s.core := by
  unfold Dev.mirrorShared; (repeat' first | with_reducible rfl | (simp only [↓core_mk, Dev.enqueueCopy_core, Dev.mirrorShare_core, apply_ite Dev.core, ite_self]; done) | with_reducible refine ite_to ?_ ?_ | split)
theorem Dev.flushJobs_core (s : Dev) (q : Nat) : (Dev.flushJobs s q).core = s.core := by
  unfold Dev.flushJobs; (repeat' first | with_reducible rfl | (with_reducible refine (foldl_core _ ?_ _ _).trans ?_; intro _ _) | (with_reducible refine (foldl2_core _ ?_ _ _).trans ?_; intro _ _) | (with_reducible refine (foldl1_core _ ?_ _ _).trans ?_; intro _ _) | (simp only [↓core_mk, Dev.flushLeaf_core, Dev.jobLost_core, apply_ite Dev.core, ite_self, apply_ite Prod.snd, apply_ite Prod.fst]; done) | with_reducible refine (pair2_core ‹_›).trans ?_ | with_reducible refine (pair1_core ‹_›).trans ?_ | with_reducible refine ite_to ?_ ?_ | split | simp only [↓core_mk, Dev.flushLeaf_core, Dev.jobLost_core, apply_ite Dev.core, ite_self, apply_ite Prod.snd, apply_ite Prod.fst])
theorem Dev.sourceRetired_core (s : Dev) (p : Parcel) (drop : Bool) : (Dev.sourceRetired s p drop).core = s.core := by
  unfold Dev.sourceRetired; simp only [↓core_mk, Dev.jobRetired_core, Dev.storageDropped_core, apply_ite Dev.core, ite_self]
theorem Dev.retire_core (s : Dev) (f : Fin) : (Dev.retire s f).core = s.core := by
  unfold Dev.retire; (repeat' first | with_reducible rfl | (simp only [↓core_mk, Dev.bump_core, Dev.dropChain_core, Dev.forward_core, Dev.mirrorShared_core, Dev.ownChain_core, Dev.sourceRetired_core, apply_ite Dev.core, ite_self, apply_ite Prod.snd, apply_ite Prod.fst]; done) | with_reducible refine (pair2_core ‹_›).trans ?_ | with_reducible refine ite_to ?_ ?_ | split | simp only [↓core_mk, Dev.bump_core, Dev.dropChain_core, Dev.forward_core, Dev.mirrorShared_core, Dev.ownChain_core, Dev.sourceRetired_core, apply_ite Dev.core, ite_self, apply_ite Prod.snd, apply_ite Prod.fst])
theorem Dev.drainRack_core (s : Dev) (g : Nat) (a1 : Nat) : (Dev.drainRack s g a1).core = s.core := by
  induction a1 generalizing s with | zero => rfl | succ k ih => (unfold Dev.drainRack; dsimp only; split <;> first | rfl | simp only [ih, Dev.retire_core, Dev.bump_core, ↓core_mk])
theorem Dev.finish_core (s : Dev) (e : Nat) (f : Fin) : (Dev.finish s e f).core = s.core := by
  unfold Dev.finish; simp only [↓core_mk, Dev.bump_core, Dev.drainRack_core, Dev.retire_core, apply_ite Dev.core, ite_self]
theorem Dev.wakeEngine_core (s : Dev) (e : Nat) : (Dev.wakeEngine s e).core = s.core := by
  unfold Dev.wakeEngine; (repeat' first | with_reducible rfl | (with_reducible refine (foldl_core _ ?_ _ _).trans ?_; intro _ _) | (with_reducible refine (foldl2_core _ ?_ _ _).trans ?_; intro _ _) | (with_reducible refine (foldl1_core _ ?_ _ _).trans ?_; intro _ _) | (simp only [↓core_mk, Dev.wakeEval_core, apply_ite Dev.core, ite_self, apply_ite Prod.snd, apply_ite Prod.fst]; done) | with_reducible refine (pair2_core ‹_›).trans ?_ | with_reducible refine (pair1_core ‹_›).trans ?_ | with_reducible refine ite_to ?_ ?_ | split | simp only [↓core_mk, Dev.wakeEval_core, apply_ite Dev.core, ite_self, apply_ite Prod.snd, apply_ite Prod.fst])
theorem Dev.rackRetry_core (s : Dev) (a1 : Nat) : (Dev.rackRetry s a1).core = s.core := by
  fun_induction Dev.rackRetry <;> (try simp_all only []) <;> ((repeat' first | with_reducible rfl | (simp only [↓core_mk, Dev.finish_core, Dev.wakeEngine_core, apply_ite Dev.core, ite_self]; done) | with_reducible refine ite_to ?_ ?_ | split))
theorem Dev.finishAll_core (s : Dev) (e : Nat) (f : Fin) : (Dev.finishAll s e f).core = s.core := by
  unfold Dev.finishAll; simp only [↓core_mk, Dev.finish_core, Dev.rackRetry_core, apply_ite Dev.core, ite_self]
theorem Dev.parcelCreate_core (s : Dev) (h w : Nat) : (Dev.parcelCreate s h w).core = s.core := by
  unfold Dev.parcelCreate; simp only [↓core_mk, Dev.admitParcel_core, Dev.bump_core, Dev.fresh_core, Dev.ticketed_core, apply_ite Dev.core, ite_self]
theorem Dev.holdRelease_core (s : Dev) (d : Nat) : (Dev.holdRelease s d).core = s.core := by
  unfold Dev.holdRelease; (repeat' first | with_reducible rfl | (simp only [↓core_mk, Dev.enter_core, Dev.pushQueue_core, apply_ite Dev.core, ite_self, apply_ite Prod.snd, apply_ite Prod.fst]; done) | with_reducible refine (pair2_core ‹_›).trans ?_ | with_reducible refine ite_to ?_ ?_ | split | simp only [↓core_mk, Dev.enter_core, Dev.pushQueue_core, apply_ite Dev.core, ite_self, apply_ite Prod.snd, apply_ite Prod.fst])
theorem Dev.windowRelease_core (s : Dev) (g : Nat) : (Dev.windowRelease s g).core = s.core := by
  unfold Dev.windowRelease; (repeat' first | with_reducible rfl | (simp only [↓core_mk, Dev.ticketed_core, apply_ite Dev.core, ite_self]; done) | with_reducible refine ite_to ?_ ?_ | split)
theorem Dev.setNs_core (s : Dev) (i : Nat) (x : Ns) : (Dev.setNs s i x).core = s.core := by
  unfold Dev.setNs; simp only [Dev.updSto_core]
theorem Dev.setBack_core (s : Dev) (b : Nat) (x : Backend) : (Dev.setBack s b x).core = s.core := by
  unfold Dev.setBack; simp only [Dev.updSto_core]
theorem Dev.ownSend_core (s : Dev) (o : OwnOp) : (Dev.ownSend s o).core = s.core := by
  unfold Dev.ownSend; (repeat' first | with_reducible rfl | (with_reducible refine (foldl_core _ ?_ _ _).trans ?_; intro _ _) | (with_reducible refine (foldl2_core _ ?_ _ _).trans ?_; intro _ _) | (with_reducible refine (foldl1_core _ ?_ _ _).trans ?_; intro _ _) | (simp only [↓core_mk, Dev.emit_core, Dev.mirrorSync_core, Dev.updSto_core, apply_ite Dev.core, ite_self, apply_ite Prod.snd, apply_ite Prod.fst]; done) | with_reducible refine (pair2_core ‹_›).trans ?_ | with_reducible refine (pair1_core ‹_›).trans ?_ | with_reducible refine ite_to ?_ ?_ | split | simp only [↓core_mk, Dev.emit_core, Dev.mirrorSync_core, Dev.updSto_core, apply_ite Dev.core, ite_self, apply_ite Prod.snd, apply_ite Prod.fst])
theorem Dev.intentSend_core (s : Dev) : (Dev.intentSend s).core = s.core := by
  unfold Dev.intentSend; (repeat' first | with_reducible rfl | (with_reducible refine (foldl_core _ ?_ _ _).trans ?_; intro _ _) | (simp only [↓core_mk, Dev.ownSend_core, Dev.updSto_core, apply_ite Dev.core, ite_self]; done) | with_reducible refine ite_to ?_ ?_ | split)
theorem Dev.hold_core (s : Dev) (c q m : Nat) : (Dev.hold s c q m).core = s.core := by
  unfold Dev.hold; simp only [Dev.updCmd_core]
theorem Dev.volWrite_core (s : Dev) (blk off : Nat) (bs : List Nat) : (Dev.volWrite s blk off bs).core = s.core := by
  unfold Dev.volWrite; simp only [Dev.overwritten_core, Dev.updSto_core]
theorem Dev.volPut_core (s : Dev) (i blk a : Nat) (bs : List Nat) : (Dev.volPut s i blk a bs).core = s.core := by
  unfold Dev.volPut; (repeat' first | with_reducible rfl | (with_reducible refine (foldl_core _ ?_ _ _).trans ?_; intro _ _) | (with_reducible refine (foldl2_core _ ?_ _ _).trans ?_; intro _ _) | (with_reducible refine (foldl1_core _ ?_ _ _).trans ?_; intro _ _) | (simp only [↓core_mk, Dev.updSto_core, Dev.volWrite_core, apply_ite Dev.core, ite_self, apply_ite Prod.snd, apply_ite Prod.fst]; done) | with_reducible refine (pair2_core ‹_›).trans ?_ | with_reducible refine (pair1_core ‹_›).trans ?_ | with_reducible refine ite_to ?_ ?_ | split | simp only [↓core_mk, Dev.updSto_core, Dev.volWrite_core, apply_ite Dev.core, ite_self, apply_ite Prod.snd, apply_ite Prod.fst])
theorem Dev.issuePiece_core (s : Dev) (c q : Nat) (m : NvmCmd) (j : Nat) (p : Piece) : (Dev.issuePiece s c q m j p).core = s.core := by
  unfold Dev.issuePiece; (repeat' first | with_reducible rfl | (with_reducible refine (foldl_core _ ?_ _ _).trans ?_; intro _ _) | (with_reducible refine (foldl2_core _ ?_ _ _).trans ?_; intro _ _) | (with_reducible refine (foldl1_core _ ?_ _ _).trans ?_; intro _ _) | (simp only [↓core_mk, Dev.emit_core, Dev.mirrorSync_core, Dev.spend_core, Dev.updCmd_core, Dev.updSto_core, Dev.volPut_core, apply_ite Dev.core, ite_self, apply_ite Prod.snd, apply_ite Prod.fst]; done) | with_reducible refine (pair2_core ‹_›).trans ?_ | with_reducible refine (pair1_core ‹_›).trans ?_ | with_reducible refine ite_to ?_ ?_ | split | simp only [↓core_mk, Dev.emit_core, Dev.mirrorSync_core, Dev.spend_core, Dev.updCmd_core, Dev.updSto_core, Dev.volPut_core, apply_ite Dev.core, ite_self, apply_ite Prod.snd, apply_ite Prod.fst])
theorem Dev.writeSegs_core (s : Dev) (n : Nat) (a1 : List (Nat × Nat)) (a2 : List Nat) : (Dev.writeSegs s n a1 a2).core = s.core := by
  fun_induction Dev.writeSegs <;> (try simp_all only []) <;> ((repeat' first | with_reducible rfl | (simp only [↓core_mk, Dev.hostWrite_core, apply_ite Dev.core, ite_self]; done) | with_reducible refine ite_to ?_ ?_ | split))
theorem Dev.nvmOut_core (s : Dev) (c q seq off n : Nat) : (Dev.nvmOut s c q seq off n).core = s.core := by
  unfold Dev.nvmOut; (repeat' first | with_reducible rfl | (with_reducible refine (foldl_core _ ?_ _ _).trans ?_; intro _ _) | (with_reducible refine (foldl2_core _ ?_ _ _).trans ?_; intro _ _) | (with_reducible refine (foldl1_core _ ?_ _ _).trans ?_; intro _ _) | (simp only [↓core_mk, Dev.cmdDone_core, Dev.updCmd_core, Dev.writeSegs_core, apply_ite Dev.core, ite_self, apply_ite Prod.snd, apply_ite Prod.fst]; done) | with_reducible refine (pair2_core ‹_›).trans ?_ | with_reducible refine (pair1_core ‹_›).trans ?_ | with_reducible refine ite_to ?_ ?_ | split | simp only [↓core_mk, Dev.cmdDone_core, Dev.updCmd_core, Dev.writeSegs_core, apply_ite Dev.core, ite_self, apply_ite Prod.snd, apply_ite Prod.fst])
theorem Dev.xferStep_core (s : Dev) (x : Xfer) (n : Nat) : (Dev.xferStep s x n).core = s.core := by
  unfold Dev.xferStep; (repeat' first | with_reducible rfl | (with_reducible refine (foldl_core _ ?_ _ _).trans ?_; intro _ _) | (with_reducible refine (foldl2_core _ ?_ _ _).trans ?_; intro _ _) | (with_reducible refine (foldl1_core _ ?_ _ _).trans ?_; intro _ _) | (simp only [↓core_mk, Dev.nvmOut_core, Dev.readHost_core, apply_ite Dev.core, ite_self, apply_ite Prod.snd, apply_ite Prod.fst]; done) | with_reducible refine (pair2_core ‹_›).trans ?_ | with_reducible refine (pair1_core ‹_›).trans ?_ | with_reducible refine ite_to ?_ ?_ | split | simp only [↓core_mk, Dev.nvmOut_core, Dev.readHost_core, apply_ite Dev.core, ite_self, apply_ite Prod.snd, apply_ite Prod.fst])
theorem Dev.moverIssue_core (s : Dev) (d : Nat) (x : Xfer) (before' after' : List Xfer) : (Dev.moverIssue s d x before' after').core = s.core := by
  unfold Dev.moverIssue; simp only [Dev.setMover_core, Dev.xferStep_core]
theorem Dev.moverTake_core (s : Dev) (d : Nat) (x : Xfer) : (Dev.moverTake s d x).core = s.core := by
  unfold Dev.moverTake; simp only [↓core_mk, Dev.moverIssue_core, Dev.setMover_core, apply_ite Dev.core, ite_self]
theorem Dev.moverRead_core (s : Dev) (d cls n : Nat) (segs : List (Nat × Nat)) (why : ReqFor) : (Dev.moverRead s d cls n segs why).core = s.core := by
  unfold Dev.moverRead; (repeat' first | with_reducible rfl | (with_reducible refine (foldl_core _ ?_ _ _).trans ?_; intro _ _) | (with_reducible refine (foldl2_core _ ?_ _ _).trans ?_; intro _ _) | (with_reducible refine (foldl1_core _ ?_ _ _).trans ?_; intro _ _) | (simp only [↓core_mk, Dev.moverTake_core, apply_ite Dev.core, ite_self, apply_ite Prod.snd, apply_ite Prod.fst]; done) | with_reducible refine (pair2_core ‹_›).trans ?_ | with_reducible refine (pair1_core ‹_›).trans ?_ | with_reducible refine ite_to ?_ ?_ | split | simp only [↓core_mk, Dev.moverTake_core, apply_ite Dev.core, ite_self, apply_ite Prod.snd, apply_ite Prod.fst])
theorem Dev.moverResume_core (s : Dev) (d : Nat) : (Dev.moverResume s d).core = s.core := by
  unfold Dev.moverResume; (repeat' first | with_reducible rfl | (simp only [↓core_mk, Dev.moverIssue_core, apply_ite Dev.core, ite_self, apply_ite Prod.snd, apply_ite Prod.fst]; done) | with_reducible refine (pair2_core ‹_›).trans ?_ | with_reducible refine ite_to ?_ ?_ | split | simp only [↓core_mk, Dev.moverIssue_core, apply_ite Dev.core, ite_self, apply_ite Prod.snd, apply_ite Prod.fst])
theorem Dev.readDone_core (s : Dev) (c q : Nat) (m : NvmCmd) : (Dev.readDone s c q m).core = s.core := by
  unfold Dev.readDone; (repeat' first | with_reducible rfl | (simp only [↓core_mk, Dev.cmdDone_core, Dev.moverTake_core, Dev.updCmd_core, apply_ite Dev.core, ite_self]; done) | with_reducible refine ite_to ?_ ?_ | split)
theorem Dev.cmdEnd_core (s : Dev) (c q seq : Nat) : (Dev.cmdEnd s c q seq).core = s.core := by
  unfold Dev.cmdEnd; (repeat' first | with_reducible rfl | (simp only [↓core_mk, Dev.cmdDone_core, Dev.readDone_core, apply_ite Dev.core, ite_self]; done) | with_reducible refine ite_to ?_ ?_ | split)
theorem Dev.issueFlush_core (s : Dev) (c q : Nat) (m : NvmCmd) : (Dev.issueFlush s c q m).core = s.core := by
  unfold Dev.issueFlush; (repeat' first | with_reducible rfl | (with_reducible refine (foldl_core _ ?_ _ _).trans ?_; intro _ _) | (with_reducible refine (foldl2_core _ ?_ _ _).trans ?_; intro _ _) | (with_reducible refine (foldl1_core _ ?_ _ _).trans ?_; intro _ _) | (simp only [↓core_mk, Dev.emit_core, Dev.hold_core, Dev.spend_core, Dev.updCmd_core, apply_ite Dev.core, ite_self, apply_ite Prod.snd, apply_ite Prod.fst]; done) | with_reducible refine (pair2_core ‹_›).trans ?_ | with_reducible refine (pair1_core ‹_›).trans ?_ | with_reducible refine ite_to ?_ ?_ | split | simp only [↓core_mk, Dev.emit_core, Dev.hold_core, Dev.spend_core, Dev.updCmd_core, apply_ite Dev.core, ite_self, apply_ite Prod.snd, apply_ite Prod.fst])
theorem Dev.pumpCmd_core (s : Dev) (c q seq : Nat) : (Dev.pumpCmd s c q seq).core = s.core := by
  unfold Dev.pumpCmd; (repeat' first | with_reducible rfl | (with_reducible refine (foldl_core _ ?_ _ _).trans ?_; intro _ _) | (with_reducible refine (foldl2_core _ ?_ _ _).trans ?_; intro _ _) | (with_reducible refine (foldl1_core _ ?_ _ _).trans ?_; intro _ _) | (simp only [↓core_mk, Dev.cmdDone_core, Dev.cmdEnd_core, Dev.issueFlush_core, Dev.issuePiece_core, apply_ite Dev.core, ite_self, apply_ite Prod.snd, apply_ite Prod.fst]; done) | with_reducible refine (pair2_core ‹_›).trans ?_ | with_reducible refine (pair1_core ‹_›).trans ?_ | with_reducible refine ite_to ?_ ?_ | split | simp only [↓core_mk, Dev.cmdDone_core, Dev.cmdEnd_core, Dev.issueFlush_core, Dev.issuePiece_core, apply_ite Dev.core, ite_self, apply_ite Prod.snd, apply_ite Prod.fst])
theorem Dev.sqGone_core (s : Dev) (c q : Nat) : (Dev.sqGone s c q).core = s.core := by
  unfold Dev.sqGone; (repeat' first | with_reducible rfl | (simp only [↓core_mk, Dev.cmdDone_core, Dev.setCtrl_core, apply_ite Dev.core, ite_self, apply_ite Prod.snd, apply_ite Prod.fst]; done) | with_reducible refine (pair2_core ‹_›).trans ?_ | with_reducible refine ite_to ?_ ?_ | split | simp only [↓core_mk, Dev.cmdDone_core, Dev.setCtrl_core, apply_ite Dev.core, ite_self, apply_ite Prod.snd, apply_ite Prod.fst])
theorem Dev.retireIntents_core (s : Dev) : (Dev.retireIntents s).core = s.core := by
  unfold Dev.retireIntents; (repeat' first | with_reducible rfl | (with_reducible refine (foldl_core _ ?_ _ _).trans ?_; intro _ _) | (simp only [↓core_mk, Dev.mirror_core, apply_ite Dev.core, ite_self]; done) | with_reducible refine ite_to ?_ ?_ | split)
theorem Dev.pump_core (s : Dev) : (Dev.pump s).core = s.core := by
  unfold Dev.pump; (repeat' first | with_reducible rfl | (with_reducible refine (foldl_core _ ?_ _ _).trans ?_; intro _ _) | (with_reducible refine (foldl2_core _ ?_ _ _).trans ?_; intro _ _) | (with_reducible refine (foldl1_core _ ?_ _ _).trans ?_; intro _ _) | (simp only [↓core_mk, Dev.pumpCmd_core, Dev.retireIntents_core, Dev.sqGone_core, apply_ite Dev.core, ite_self, apply_ite Prod.snd, apply_ite Prod.fst]; done) | with_reducible refine (pair2_core ‹_›).trans ?_ | with_reducible refine (pair1_core ‹_›).trans ?_ | with_reducible refine ite_to ?_ ?_ | split | simp only [↓core_mk, Dev.pumpCmd_core, Dev.retireIntents_core, Dev.sqGone_core, apply_ite Dev.core, ite_self, apply_ite Prod.snd, apply_ite Prod.fst])
theorem Dev.resumeIo_core (s : Dev) : (Dev.resumeIo s).core = s.core := by
  unfold Dev.resumeIo; (repeat' first | with_reducible rfl | (with_reducible refine (foldl_core _ ?_ _ _).trans ?_; intro _ _) | (with_reducible refine (foldl2_core _ ?_ _ _).trans ?_; intro _ _) | (with_reducible refine (foldl1_core _ ?_ _ _).trans ?_; intro _ _) | (simp only [↓core_mk, Dev.ownSend_core, Dev.pump_core, Dev.updSto_core, apply_ite Dev.core, ite_self, apply_ite Prod.snd, apply_ite Prod.fst]; done) | with_reducible refine (pair2_core ‹_›).trans ?_ | with_reducible refine (pair1_core ‹_›).trans ?_ | with_reducible refine ite_to ?_ ?_ | split | simp only [↓core_mk, Dev.ownSend_core, Dev.pump_core, Dev.updSto_core, apply_ite Dev.core, ite_self, apply_ite Prod.snd, apply_ite Prod.fst])
theorem Dev.nvmData_core (s : Dev) (c q seq off : Nat) (bs : List Nat) : (Dev.nvmData s c q seq off bs).core = s.core := by
  unfold Dev.nvmData; (repeat' first | with_reducible rfl | (simp only [↓core_mk, Dev.cmdDone_core, Dev.pump_core, Dev.setChainData_core, Dev.updCmd_core, apply_ite Dev.core, ite_self, apply_ite Prod.snd, apply_ite Prod.fst]; done) | with_reducible refine (pair2_core ‹_›).trans ?_ | with_reducible refine ite_to ?_ ?_ | split | simp only [↓core_mk, Dev.cmdDone_core, Dev.pump_core, Dev.setChainData_core, Dev.updCmd_core, apply_ite Dev.core, ite_self, apply_ite Prod.snd, apply_ite Prod.fst])
theorem Dev.nvmDataFail_core (s : Dev) (c q seq : Nat) : (Dev.nvmDataFail s c q seq).core = s.core := by
  unfold Dev.nvmDataFail; simp only [Dev.cmdDone_core, Dev.pump_core]
theorem Dev.lingers_core (s : Dev) (x : Nat) : (Dev.lingers s x).core = s.core := by
  unfold Dev.lingers; simp only [↓core_mk, Dev.updSto_core, apply_ite Dev.core, ite_self]
theorem Dev.sideEnd_core (s : Dev) (c q seq j : Nat) (sec : Bool) (r : Side) : (Dev.sideEnd s c q seq j sec r).core = s.core := by
  unfold Dev.sideEnd; (repeat' first | with_reducible rfl | (simp only [↓core_mk, Dev.lingers_core, Dev.stale_core, Dev.updCmd_core, apply_ite Dev.core, ite_self, apply_ite Prod.snd, apply_ite Prod.fst]; done) | with_reducible refine (pair2_core ‹_›).trans ?_ | with_reducible refine ite_to ?_ ?_ | split | simp only [↓core_mk, Dev.lingers_core, Dev.stale_core, Dev.updCmd_core, apply_ite Dev.core, ite_self, apply_ite Prod.snd, apply_ite Prod.fst])
theorem Dev.badDoorbell_core (s : Dev) (c : Nat) : (Dev.badDoorbell s c).core = s.core := by
  unfold Dev.badDoorbell; simp only [Dev.asyncEvent_core, Dev.bump_core]
theorem Dev.noDoorbell_core (s : Dev) (c : Nat) : (Dev.noDoorbell s c).core = s.core := by
  unfold Dev.noDoorbell; (repeat' first | with_reducible rfl | (with_reducible refine (foldl_core _ ?_ _ _).trans ?_; intro _ _) | (with_reducible refine (foldl2_core _ ?_ _ _).trans ?_; intro _ _) | (with_reducible refine (foldl1_core _ ?_ _ _).trans ?_; intro _ _) | (simp only [↓core_mk, Dev.asyncEvent_core, Dev.bump_core, apply_ite Dev.core, ite_self, apply_ite Prod.snd, apply_ite Prod.fst]; done) | with_reducible refine (pair2_core ‹_›).trans ?_ | with_reducible refine (pair1_core ‹_›).trans ?_ | with_reducible refine ite_to ?_ ?_ | split | simp only [↓core_mk, Dev.asyncEvent_core, Dev.bump_core, apply_ite Dev.core, ite_self, apply_ite Prod.snd, apply_ite Prod.fst])
theorem Dev.sqDoorbell_core (s : Dev) (c q v : Nat) : (Dev.sqDoorbell s c q v).core = s.core := by
  unfold Dev.sqDoorbell; (repeat' first | with_reducible rfl | (with_reducible refine (foldl_core _ ?_ _ _).trans ?_; intro _ _) | (with_reducible refine (foldl2_core _ ?_ _ _).trans ?_; intro _ _) | (with_reducible refine (foldl1_core _ ?_ _ _).trans ?_; intro _ _) | (simp only [↓core_mk, Dev.badDoorbell_core, Dev.noDoorbell_core, Dev.setSq_core, apply_ite Dev.core, ite_self, apply_ite Prod.snd, apply_ite Prod.fst]; done) | with_reducible refine (pair2_core ‹_›).trans ?_ | with_reducible refine (pair1_core ‹_›).trans ?_ | with_reducible refine ite_to ?_ ?_ | split | simp only [↓core_mk, Dev.badDoorbell_core, Dev.noDoorbell_core, Dev.setSq_core, apply_ite Dev.core, ite_self, apply_ite Prod.snd, apply_ite Prod.fst])
theorem Dev.cqDoorbell_core (s : Dev) (c q v : Nat) : (Dev.cqDoorbell s c q v).core = s.core := by
  unfold Dev.cqDoorbell; (repeat' first | with_reducible rfl | (with_reducible refine (foldl_core _ ?_ _ _).trans ?_; intro _ _) | (with_reducible refine (foldl2_core _ ?_ _ _).trans ?_; intro _ _) | (with_reducible refine (foldl1_core _ ?_ _ _).trans ?_; intro _ _) | (simp only [↓core_mk, Dev.badDoorbell_core, Dev.noDoorbell_core, Dev.postCq_core, Dev.pump_core, Dev.setCtrl_core, apply_ite Dev.core, ite_self, apply_ite Prod.snd, apply_ite Prod.fst]; done) | with_reducible refine (pair2_core ‹_›).trans ?_ | with_reducible refine (pair1_core ‹_›).trans ?_ | with_reducible refine ite_to ?_ ?_ | split | simp only [↓core_mk, Dev.badDoorbell_core, Dev.noDoorbell_core, Dev.postCq_core, Dev.pump_core, Dev.setCtrl_core, apply_ite Dev.core, ite_self, apply_ite Prod.snd, apply_ite Prod.fst])
theorem Dev.nvmFetch_core (s : Dev) (c q sqe : Nat) : (Dev.nvmFetch s c q sqe).core = s.core := by
  unfold Dev.nvmFetch; (repeat' first | with_reducible rfl | (with_reducible refine (foldl_core _ ?_ _ _).trans ?_; intro _ _) | (with_reducible refine (foldl2_core _ ?_ _ _).trans ?_; intro _ _) | (with_reducible refine (foldl1_core _ ?_ _ _).trans ?_; intro _ _) | (simp only [↓core_mk, Dev.admitParcel_core, Dev.bump_core, Dev.queueCq_core, Dev.setSq_core, Dev.updSq_core, Dev.updSto_core, apply_ite Dev.core, ite_self, apply_ite Prod.snd, apply_ite Prod.fst]; done) | with_reducible refine (pair2_core ‹_›).trans ?_ | with_reducible refine (pair1_core ‹_›).trans ?_ | with_reducible refine ite_to ?_ ?_ | split | simp only [↓core_mk, Dev.admitParcel_core, Dev.bump_core, Dev.queueCq_core, Dev.setSq_core, Dev.updSq_core, Dev.updSto_core, apply_ite Dev.core, ite_self, apply_ite Prod.snd, apply_ite Prod.fst])
theorem Dev.createCq_core (s : Dev) (c : Nat) (m : NvmCmd) : (Dev.createCq s c m).core = s.core := by
  unfold Dev.createCq; simp only [↓core_mk, Dev.cmdDone_core, Dev.setCtrl_core, apply_ite Dev.core, ite_self]
theorem Dev.createSq_core (s : Dev) (c : Nat) (m : NvmCmd) : (Dev.createSq s c m).core = s.core := by
  unfold Dev.createSq; simp only [↓core_mk, Dev.cmdDone_core, Dev.setCtrl_core, apply_ite Dev.core, ite_self]
theorem Dev.deleteCq_core (s : Dev) (c : Nat) (m : NvmCmd) : (Dev.deleteCq s c m).core = s.core := by
  unfold Dev.deleteCq; simp only [↓core_mk, Dev.cmdDone_core, Dev.setCtrl_core, apply_ite Dev.core, ite_self]
theorem Dev.deleteSq_core (s : Dev) (c : Nat) (m : NvmCmd) : (Dev.deleteSq s c m).core = s.core := by
  unfold Dev.deleteSq; (repeat' first | with_reducible rfl | (with_reducible refine (foldl_core _ ?_ _ _).trans ?_; intro _ _) | (with_reducible refine (foldl2_core _ ?_ _ _).trans ?_; intro _ _) | (with_reducible refine (foldl1_core _ ?_ _ _).trans ?_; intro _ _) | (simp only [↓core_mk, Dev.cmdDone_core, Dev.setSq_core, apply_ite Dev.core, ite_self, apply_ite Prod.snd, apply_ite Prod.fst]; done) | with_reducible refine (pair2_core ‹_›).trans ?_ | with_reducible refine (pair1_core ‹_›).trans ?_ | with_reducible refine ite_to ?_ ?_ | split | simp only [↓core_mk, Dev.cmdDone_core, Dev.setSq_core, apply_ite Dev.core, ite_self, apply_ite Prod.snd, apply_ite Prod.fst])
theorem Dev.getLog_core (s : Dev) (c : Nat) (m : NvmCmd) (segs : List (Nat × Nat)) : (Dev.getLog s c m segs).core = s.core := by
  unfold Dev.getLog; (repeat' first | with_reducible rfl | (with_reducible refine (foldl_core _ ?_ _ _).trans ?_; intro _ _) | (with_reducible refine (foldl2_core _ ?_ _ _).trans ?_; intro _ _) | (with_reducible refine (foldl1_core _ ?_ _ _).trans ?_; intro _ _) | (simp only [↓core_mk, Dev.cmdDone_core, Dev.fresh_core, Dev.setCtrl_core, Dev.writeSegs_core, apply_ite Dev.core, ite_self, apply_ite Prod.snd, apply_ite Prod.fst]; done) | with_reducible refine (pair2_core ‹_›).trans ?_ | with_reducible refine (pair1_core ‹_›).trans ?_ | with_reducible refine ite_to ?_ ?_ | split | simp only [↓core_mk, Dev.cmdDone_core, Dev.fresh_core, Dev.setCtrl_core, Dev.writeSegs_core, apply_ite Dev.core, ite_self, apply_ite Prod.snd, apply_ite Prod.fst])
theorem Dev.identify_core (s : Dev) (c : Nat) (m : NvmCmd) (segs : List (Nat × Nat)) : (Dev.identify s c m segs).core = s.core := by
  unfold Dev.identify; (repeat' first | with_reducible rfl | (with_reducible refine (foldl_core _ ?_ _ _).trans ?_; intro _ _) | (with_reducible refine (foldl2_core _ ?_ _ _).trans ?_; intro _ _) | (with_reducible refine (foldl1_core _ ?_ _ _).trans ?_; intro _ _) | (simp only [↓core_mk, Dev.cmdDone_core, Dev.fresh_core, Dev.writeSegs_core, apply_ite Dev.core, ite_self, apply_ite Prod.snd, apply_ite Prod.fst]; done) | with_reducible refine (pair2_core ‹_›).trans ?_ | with_reducible refine (pair1_core ‹_›).trans ?_ | with_reducible refine ite_to ?_ ?_ | split | simp only [↓core_mk, Dev.cmdDone_core, Dev.fresh_core, Dev.writeSegs_core, apply_ite Dev.core, ite_self, apply_ite Prod.snd, apply_ite Prod.fst])
theorem Dev.abortNvm_core (s : Dev) (c : Nat) (m : NvmCmd) : (Dev.abortNvm s c m).core = s.core := by
  unfold Dev.abortNvm; (repeat' first | with_reducible rfl | (with_reducible refine (foldl_core _ ?_ _ _).trans ?_; intro _ _) | (with_reducible refine (foldl2_core _ ?_ _ _).trans ?_; intro _ _) | (with_reducible refine (foldl1_core _ ?_ _ _).trans ?_; intro _ _) | (simp only [↓core_mk, Dev.bump_core, Dev.cmdDone_core, Dev.setCtrl_core, apply_ite Dev.core, ite_self, apply_ite Prod.snd, apply_ite Prod.fst]; done) | with_reducible refine (pair2_core ‹_›).trans ?_ | with_reducible refine (pair1_core ‹_›).trans ?_ | with_reducible refine ite_to ?_ ?_ | split | simp only [↓core_mk, Dev.bump_core, Dev.cmdDone_core, Dev.setCtrl_core, apply_ite Dev.core, ite_self, apply_ite Prod.snd, apply_ite Prod.fst])
theorem Dev.setFeature_core (s : Dev) (c : Nat) (m : NvmCmd) : (Dev.setFeature s c m).core = s.core := by
  unfold Dev.setFeature; (repeat' first | with_reducible rfl | (with_reducible refine (foldl_core _ ?_ _ _).trans ?_; intro _ _) | (with_reducible refine (foldl2_core _ ?_ _ _).trans ?_; intro _ _) | (with_reducible refine (foldl1_core _ ?_ _ _).trans ?_; intro _ _) | (simp only [↓core_mk, Dev.cmdDone_core, Dev.fresh_core, Dev.setCtrl_core, Dev.setObj_core, apply_ite Dev.core, ite_self, apply_ite Prod.snd, apply_ite Prod.fst]; done) | with_reducible refine (pair2_core ‹_›).trans ?_ | with_reducible refine (pair1_core ‹_›).trans ?_ | with_reducible refine ite_to ?_ ?_ | split | simp only [↓core_mk, Dev.cmdDone_core, Dev.fresh_core, Dev.setCtrl_core, Dev.setObj_core, apply_ite Dev.core, ite_self, apply_ite Prod.snd, apply_ite Prod.fst])
theorem Dev.getFeature_core (s : Dev) (c : Nat) (m : NvmCmd) : (Dev.getFeature s c m).core = s.core := by
  unfold Dev.getFeature; (repeat' first | with_reducible rfl | (with_reducible refine (foldl_core _ ?_ _ _).trans ?_; intro _ _) | (with_reducible refine (foldl2_core _ ?_ _ _).trans ?_; intro _ _) | (with_reducible refine (foldl1_core _ ?_ _ _).trans ?_; intro _ _) | (simp only [↓core_mk, Dev.cmdDone_core, Dev.fresh_core, apply_ite Dev.core, ite_self, apply_ite Prod.snd, apply_ite Prod.fst]; done) | with_reducible refine (pair2_core ‹_›).trans ?_ | with_reducible refine (pair1_core ‹_›).trans ?_ | with_reducible refine ite_to ?_ ?_ | split | simp only [↓core_mk, Dev.cmdDone_core, Dev.fresh_core, apply_ite Dev.core, ite_self, apply_ite Prod.snd, apply_ite Prod.fst])
theorem Dev.aerCmd_core (s : Dev) (c : Nat) (m : NvmCmd) : (Dev.aerCmd s c m).core = s.core := by
  unfold Dev.aerCmd; (repeat' first | with_reducible rfl | (simp only [↓core_mk, Dev.cmdDone_core, Dev.setCtrl_core, apply_ite Dev.core, ite_self, apply_ite Prod.snd, apply_ite Prod.fst]; done) | with_reducible refine (pair2_core ‹_›).trans ?_ | with_reducible refine ite_to ?_ ?_ | split | simp only [↓core_mk, Dev.cmdDone_core, Dev.setCtrl_core, apply_ite Dev.core, ite_self, apply_ite Prod.snd, apply_ite Prod.fst])
theorem Dev.forgetIntents_core (s : Dev) (base n : Nat) : (Dev.forgetIntents s base n).core = s.core := by
  unfold Dev.forgetIntents; (repeat' first | with_reducible rfl | (with_reducible refine (foldl_core _ ?_ _ _).trans ?_; intro _ _) | (with_reducible refine (foldl2_core _ ?_ _ _).trans ?_; intro _ _) | (with_reducible refine (foldl1_core _ ?_ _ _).trans ?_; intro _ _) | (simp only [↓core_mk, Dev.updSto_core, apply_ite Dev.core, ite_self, apply_ite Prod.snd, apply_ite Prod.fst]; done) | with_reducible refine (pair2_core ‹_›).trans ?_ | with_reducible refine (pair1_core ‹_›).trans ?_ | with_reducible refine ite_to ?_ ?_ | split | simp only [↓core_mk, Dev.updSto_core, apply_ite Dev.core, ite_self, apply_ite Prod.snd, apply_ite Prod.fst])
theorem Dev.clearSlots_core (s : Dev) (base n : Nat) : (Dev.clearSlots s base n).core = s.core := by
  unfold Dev.clearSlots; (repeat' first | with_reducible rfl | (with_reducible refine (foldl_core _ ?_ _ _).trans ?_; intro _ _) | (with_reducible refine (foldl2_core _ ?_ _ _).trans ?_; intro _ _) | (with_reducible refine (foldl1_core _ ?_ _ _).trans ?_; intro _ _) | (simp only [↓core_mk, Dev.forgetIntents_core, Dev.setObj_core, apply_ite Dev.core, ite_self, apply_ite Prod.snd, apply_ite Prod.fst]; done) | with_reducible refine (pair2_core ‹_›).trans ?_ | with_reducible refine (pair1_core ‹_›).trans ?_ | with_reducible refine ite_to ?_ ?_ | split | simp only [↓core_mk, Dev.forgetIntents_core, Dev.setObj_core, apply_ite Dev.core, ite_self, apply_ite Prod.snd, apply_ite Prod.fst])
theorem Dev.makeNs_core (s : Dev) (i base blocks lbaf creator : Nat) (ext : Bool) (pi : Nat) : (Dev.makeNs s i base blocks lbaf creator ext pi).core = s.core := by
  unfold Dev.makeNs; simp only [Dev.clearSlots_core, Dev.setNs_core, Dev.setObj_core]
theorem Dev.nsChanged_core (s : Dev) (c i : Nat) : (Dev.nsChanged s c i).core = s.core := by
  unfold Dev.nsChanged; simp only [↓core_mk, Dev.asyncEvent_core, Dev.setCtrl_core, apply_ite Dev.core, ite_self]
theorem Dev.dropNs_core (s : Dev) (i : Nat) : (Dev.dropNs s i).core = s.core := by
  unfold Dev.dropNs; (repeat' first | with_reducible rfl | (with_reducible refine (foldl_core _ ?_ _ _).trans ?_; intro _ _) | (with_reducible refine (foldl2_core _ ?_ _ _).trans ?_; intro _ _) | (with_reducible refine (foldl1_core _ ?_ _ _).trans ?_; intro _ _) | (simp only [↓core_mk, Dev.nsChanged_core, Dev.setObj_core, Dev.updSto_core, apply_ite Dev.core, ite_self, apply_ite Prod.snd, apply_ite Prod.fst]; done) | with_reducible refine (pair2_core ‹_›).trans ?_ | with_reducible refine (pair1_core ‹_›).trans ?_ | with_reducible refine ite_to ?_ ?_ | split | simp only [↓core_mk, Dev.nsChanged_core, Dev.setObj_core, Dev.updSto_core, apply_ite Dev.core, ite_self, apply_ite Prod.snd, apply_ite Prod.fst])
theorem Dev.nsCreate_core (s : Dev) (c seq nsze flbas prot : Nat) : (Dev.nsCreate s c seq nsze flbas prot).core = s.core := by
  unfold Dev.nsCreate; (repeat' first | with_reducible rfl | (with_reducible refine (foldl_core _ ?_ _ _).trans ?_; intro _ _) | (with_reducible refine (foldl2_core _ ?_ _ _).trans ?_; intro _ _) | (with_reducible refine (foldl1_core _ ?_ _ _).trans ?_; intro _ _) | (simp only [↓core_mk, Dev.cmdDone_core, Dev.fresh_core, Dev.makeNs_core, apply_ite Dev.core, ite_self, apply_ite Prod.snd, apply_ite Prod.fst]; done) | with_reducible refine (pair2_core ‹_›).trans ?_ | with_reducible refine (pair1_core ‹_›).trans ?_ | with_reducible refine ite_to ?_ ?_ | split | simp only [↓core_mk, Dev.cmdDone_core, Dev.fresh_core, Dev.makeNs_core, apply_ite Dev.core, ite_self, apply_ite Prod.snd, apply_ite Prod.fst])
theorem Dev.nsManage_core (s : Dev) (c : Nat) (m : NvmCmd) (data : List Nat) : (Dev.nsManage s c m data).core = s.core := by
  unfold Dev.nsManage; (repeat' first | with_reducible rfl | (with_reducible refine (foldl_core _ ?_ _ _).trans ?_; intro _ _) | (with_reducible refine (foldl2_core _ ?_ _ _).trans ?_; intro _ _) | (with_reducible refine (foldl1_core _ ?_ _ _).trans ?_; intro _ _) | (simp only [↓core_mk, Dev.cmdDone_core, Dev.dropNs_core, Dev.nsCreate_core, apply_ite Dev.core, ite_self, apply_ite Prod.snd, apply_ite Prod.fst]; done) | with_reducible refine (pair2_core ‹_›).trans ?_ | with_reducible refine (pair1_core ‹_›).trans ?_ | with_reducible refine ite_to ?_ ?_ | split | simp only [↓core_mk, Dev.cmdDone_core, Dev.dropNs_core, Dev.nsCreate_core, apply_ite Dev.core, ite_self, apply_ite Prod.snd, apply_ite Prod.fst])
theorem Dev.attachOne_core (s : Dev) (i c : Nat) (on : Bool) : (Dev.attachOne s i c on).core = s.core := by
  unfold Dev.attachOne; (repeat' first | with_reducible rfl | (simp only [↓core_mk, Dev.nsChanged_core, Dev.setObj_core, apply_ite Dev.core, ite_self, apply_ite Prod.snd, apply_ite Prod.fst]; done) | with_reducible refine (pair2_core ‹_›).trans ?_ | with_reducible refine ite_to ?_ ?_ | split | simp only [↓core_mk, Dev.nsChanged_core, Dev.setObj_core, apply_ite Dev.core, ite_self, apply_ite Prod.snd, apply_ite Prod.fst])
theorem Dev.nsAttach_core (s : Dev) (c : Nat) (m : NvmCmd) (ids : List Nat) : (Dev.nsAttach s c m ids).core = s.core := by
  unfold Dev.nsAttach; (repeat' first | with_reducible rfl | (with_reducible refine (foldl_core _ ?_ _ _).trans ?_; intro _ _) | (with_reducible refine (foldl2_core _ ?_ _ _).trans ?_; intro _ _) | (with_reducible refine (foldl1_core _ ?_ _ _).trans ?_; intro _ _) | (simp only [↓core_mk, Dev.attachOne_core, Dev.cmdDone_core, apply_ite Dev.core, ite_self, apply_ite Prod.snd, apply_ite Prod.fst]; done) | with_reducible refine (pair2_core ‹_›).trans ?_ | with_reducible refine (pair1_core ‹_›).trans ?_ | with_reducible refine ite_to ?_ ?_ | split | simp only [↓core_mk, Dev.attachOne_core, Dev.cmdDone_core, apply_ite Dev.core, ite_self, apply_ite Prod.snd, apply_ite Prod.fst])
theorem Dev.thawSq_core (s : Dev) (c : Nat) (m : NvmCmd) : (Dev.thawSq s c m).core = s.core := by
  unfold Dev.thawSq; (repeat' first | with_reducible rfl | (simp only [↓core_mk, Dev.cmdDone_core, Dev.setSq_core, apply_ite Dev.core, ite_self, apply_ite Prod.snd, apply_ite Prod.fst]; done) | with_reducible refine (pair2_core ‹_›).trans ?_ | with_reducible refine ite_to ?_ ?_ | split | simp only [↓core_mk, Dev.cmdDone_core, Dev.setSq_core, apply_ite Dev.core, ite_self, apply_ite Prod.snd, apply_ite Prod.fst])
theorem Dev.thawDone_core (s : Dev) (c q : Nat) : (Dev.thawDone s c q).core = s.core := by
  unfold Dev.thawDone; (repeat' first | with_reducible rfl | (with_reducible refine (foldl_core _ ?_ _ _).trans ?_; intro _ _) | (with_reducible refine (foldl2_core _ ?_ _ _).trans ?_; intro _ _) | (with_reducible refine (foldl1_core _ ?_ _ _).trans ?_; intro _ _) | (simp only [↓core_mk, Dev.cmdDone_core, Dev.pump_core, Dev.setCtrl_core, Dev.setSq_core, apply_ite Dev.core, ite_self, apply_ite Prod.snd, apply_ite Prod.fst]; done) | with_reducible refine (pair2_core ‹_›).trans ?_ | with_reducible refine (pair1_core ‹_›).trans ?_ | with_reducible refine ite_to ?_ ?_ | split | simp only [↓core_mk, Dev.cmdDone_core, Dev.pump_core, Dev.setCtrl_core, Dev.setSq_core, apply_ite Dev.core, ite_self, apply_ite Prod.snd, apply_ite Prod.fst])
theorem Dev.sqFreeze_core (s : Dev) (c q : Nat) : (Dev.sqFreeze s c q).core = s.core := by
  unfold Dev.sqFreeze; (repeat' first | with_reducible rfl | (with_reducible refine (foldl_core _ ?_ _ _).trans ?_; intro _ _) | (with_reducible refine (foldl2_core _ ?_ _ _).trans ?_; intro _ _) | (with_reducible refine (foldl1_core _ ?_ _ _).trans ?_; intro _ _) | (simp only [↓core_mk, Dev.asyncEvent_core, Dev.bump_core, Dev.cmdDone_core, Dev.fresh_core, Dev.log_core, Dev.pump_core, Dev.setSq_core, Dev.storageLog_core, apply_ite Dev.core, ite_self, apply_ite Prod.snd, apply_ite Prod.fst]; done) | with_reducible refine (pair2_core ‹_›).trans ?_ | with_reducible refine (pair1_core ‹_›).trans ?_ | with_reducible refine ite_to ?_ ?_ | split | simp only [↓core_mk, Dev.asyncEvent_core, Dev.bump_core, Dev.cmdDone_core, Dev.fresh_core, Dev.log_core, Dev.pump_core, Dev.setSq_core, Dev.storageLog_core, apply_ite Dev.core, ite_self, apply_ite Prod.snd, apply_ite Prod.fst])
theorem Dev.ctrlEnable_core (s : Dev) (c : Nat) : (Dev.ctrlEnable s c).core = s.core := by
  unfold Dev.ctrlEnable; simp only [Dev.setCtrl_core, Dev.setObj_core]
theorem Dev.ctrlStop_core (s : Dev) (c ending : Nat) : (Dev.ctrlStop s c ending).core = s.core := by
  unfold Dev.ctrlStop; (repeat' first | with_reducible rfl | (with_reducible refine (foldl_core _ ?_ _ _).trans ?_; intro _ _) | (with_reducible refine (foldl2_core _ ?_ _ _).trans ?_; intro _ _) | (with_reducible refine (foldl1_core _ ?_ _ _).trans ?_; intro _ _) | (simp only [↓core_mk, Dev.cmdFree_core, Dev.setCtrl_core, Dev.setObj_core, apply_ite Dev.core, ite_self, apply_ite Prod.snd, apply_ite Prod.fst]; done) | with_reducible refine (pair2_core ‹_›).trans ?_ | with_reducible refine (pair1_core ‹_›).trans ?_ | with_reducible refine ite_to ?_ ?_ | split | simp only [↓core_mk, Dev.cmdFree_core, Dev.setCtrl_core, Dev.setObj_core, apply_ite Dev.core, ite_self, apply_ite Prod.snd, apply_ite Prod.fst])
theorem Dev.ctrlShutdown_core (s : Dev) (c : Nat) : (Dev.ctrlShutdown s c).core = s.core := by
  unfold Dev.ctrlShutdown; (repeat' first | with_reducible rfl | (with_reducible refine (foldl_core _ ?_ _ _).trans ?_; intro _ _) | (simp only [↓core_mk, Dev.ctrlStop_core, Dev.ownSend_core, apply_ite Dev.core, ite_self]; done) | with_reducible refine ite_to ?_ ?_ | split)
theorem Dev.ctrlEnd_core (s : Dev) (c : Nat) : (Dev.ctrlEnd s c).core = s.core := by
  unfold Dev.ctrlEnd; simp only [Dev.setCtrl_core, Dev.setObj_core]
theorem Dev.ctrlWipe_core (s : Dev) (n : Nat) : (Dev.ctrlWipe s n).core = s.core := by
  unfold Dev.ctrlWipe; (repeat' first | with_reducible rfl | (with_reducible refine (foldl_core _ ?_ _ _).trans ?_; intro _ _) | (with_reducible refine (foldl2_core _ ?_ _ _).trans ?_; intro _ _) | (with_reducible refine (foldl1_core _ ?_ _ _).trans ?_; intro _ _) | (simp only [↓core_mk, Dev.ctrlStop_core, Dev.setCtrl_core, apply_ite Dev.core, ite_self, apply_ite Prod.snd, apply_ite Prod.fst]; done) | with_reducible refine (pair2_core ‹_›).trans ?_ | with_reducible refine (pair1_core ‹_›).trans ?_ | with_reducible refine ite_to ?_ ?_ | split | simp only [↓core_mk, Dev.ctrlStop_core, Dev.setCtrl_core, apply_ite Dev.core, ite_self, apply_ite Prod.snd, apply_ite Prod.fst])
theorem Dev.nvmFlush_core (s : Dev) (c q : Nat) (m : NvmCmd) : (Dev.nvmFlush s c q m).core = s.core := by
  unfold Dev.nvmFlush; (repeat' first | with_reducible rfl | (simp only [↓core_mk, Dev.cmdDone_core, Dev.updCmd_core, apply_ite Dev.core, ite_self, apply_ite Prod.snd, apply_ite Prod.fst]; done) | with_reducible refine (pair2_core ‹_›).trans ?_ | with_reducible refine ite_to ?_ ?_ | split | simp only [↓core_mk, Dev.cmdDone_core, Dev.updCmd_core, apply_ite Dev.core, ite_self, apply_ite Prod.snd, apply_ite Prod.fst])
theorem Dev.readsAsk_core (s : Dev) (n : Nat) (segs : List (Nat × Nat)) (why : ReqFor) : ((Dev.readsAsk s n segs why).2).core = s.core := by
  unfold Dev.readsAsk; (repeat' first | with_reducible rfl | (with_reducible refine (foldl_core _ ?_ _ _).trans ?_; intro _ _) | (with_reducible refine (foldl2_core _ ?_ _ _).trans ?_; intro _ _) | (with_reducible refine (foldl1_core _ ?_ _ _).trans ?_; intro _ _) | (simp only [↓core_mk, Dev.issueReq_core, apply_ite Dev.core, ite_self, apply_ite Prod.snd, apply_ite Prod.fst]; done) | with_reducible refine (pair2_core ‹_›).trans ?_ | with_reducible refine (pair1_core ‹_›).trans ?_ | with_reducible refine ite_to ?_ ?_ | split | simp only [↓core_mk, Dev.issueReq_core, apply_ite Dev.core, ite_self, apply_ite Prod.snd, apply_ite Prod.fst])
theorem Dev.readsGot_core (s : Dev) (n : Nat) (why : ReqFor) : (Dev.readsGot s n why).core = s.core := by
  unfold Dev.readsGot; (repeat' first | with_reducible rfl | (with_reducible refine (foldl_core _ ?_ _ _).trans ?_; intro _ _) | (with_reducible refine (foldl2_core _ ?_ _ _).trans ?_; intro _ _) | (with_reducible refine (foldl1_core _ ?_ _ _).trans ?_; intro _ _) | (simp only [↓core_mk, Dev.returnTag_core, apply_ite Dev.core, ite_self, apply_ite Prod.snd, apply_ite Prod.fst]; done) | with_reducible refine (pair2_core ‹_›).trans ?_ | with_reducible refine (pair1_core ‹_›).trans ?_ | with_reducible refine ite_to ?_ ?_ | split | simp only [↓core_mk, Dev.returnTag_core, apply_ite Dev.core, ite_self, apply_ite Prod.snd, apply_ite Prod.fst])
theorem Dev.onReads_core (s : Dev) (n : Nat) (segs : List (Nat × Nat)) (why : ReqFor) (come : Bool) (f : Dev → Dev) (hf : ∀ t, (f t).core = t.core) : (Dev.onReads s n segs why come f).core = s.core := by
  unfold Dev.onReads; split
  · split
    · exact (hf _).trans ((Dev.readsGot_core _ _ _).trans ((pair2_core ‹_›).trans (Dev.readsAsk_core _ _ _ _)))
    · exact (pair2_core ‹_›).trans (Dev.readsAsk_core _ _ _ _)
  · exact (pair2_core ‹_›).trans (Dev.readsAsk_core _ _ _ _)
theorem Dev.withData_core (s : Dev) (c q : Nat) (m : NvmCmd) (d : HostData) (come : Bool) (f : List (Nat × Nat) → Dev → Dev) (hf : ∀ g t, (f g t).core = t.core) : (Dev.withData s c q m d come f).core = s.core := by
  unfold Dev.withData; refine Dev.onReads_core _ _ _ _ _ _ (fun t => ?_); split
  · exact hf _ _
  · exact Dev.cmdDone_core _ _ _ _ _ _
theorem Dev.writeTake_core (s : Dev) (c q : Nat) (m : NvmCmd) (segs : List (Nat × Nat)) : (Dev.writeTake s c q m segs).core = s.core := by
  unfold Dev.writeTake; (repeat' first | with_reducible rfl | (with_reducible refine (foldl_core _ ?_ _ _).trans ?_; intro _ _) | (with_reducible refine (foldl2_core _ ?_ _ _).trans ?_; intro _ _) | (with_reducible refine (foldl1_core _ ?_ _ _).trans ?_; intro _ _) | (simp only [↓core_mk, Dev.alloc_core, Dev.moverRead_core, Dev.updCmd_core, apply_ite Dev.core, ite_self, apply_ite Prod.snd, apply_ite Prod.fst]; done) | with_reducible refine (pair2_core ‹_›).trans ?_ | with_reducible refine (pair1_core ‹_›).trans ?_ | with_reducible refine ite_to ?_ ?_ | split | simp only [↓core_mk, Dev.alloc_core, Dev.moverRead_core, Dev.updCmd_core, apply_ite Dev.core, ite_self, apply_ite Prod.snd, apply_ite Prod.fst])
theorem Dev.nvmWrite_core (s : Dev) (c q : Nat) (m : NvmCmd) (list : Option (List Nat)) : (Dev.nvmWrite s c q m list).core = s.core := by
  unfold Dev.nvmWrite; (repeat' first | with_reducible rfl | (with_reducible refine Dev.withData_core _ _ _ _ _ _ _ (fun _ _ => ?_)) | (with_reducible refine (foldl_core _ ?_ _ _).trans ?_; intro _ _) | (with_reducible refine (foldl2_core _ ?_ _ _).trans ?_; intro _ _) | (with_reducible refine (foldl1_core _ ?_ _ _).trans ?_; intro _ _) | (simp only [↓core_mk, Dev.alloc_core, Dev.cmdDone_core, Dev.withData_core, Dev.writeTake_core, apply_ite Dev.core, ite_self, apply_ite Prod.snd, apply_ite Prod.fst]; done) | with_reducible refine (pair2_core ‹_›).trans ?_ | with_reducible refine (pair1_core ‹_›).trans ?_ | with_reducible refine ite_to ?_ ?_ | split | simp only [↓core_mk, Dev.alloc_core, Dev.cmdDone_core, Dev.withData_core, Dev.writeTake_core, apply_ite Dev.core, ite_self, apply_ite Prod.snd, apply_ite Prod.fst])
theorem Dev.nvmRead_core (s : Dev) (c q : Nat) (m : NvmCmd) (list : Option (List Nat)) : (Dev.nvmRead s c q m list).core = s.core := by
  unfold Dev.nvmRead; (repeat' first | with_reducible rfl | (with_reducible refine Dev.withData_core _ _ _ _ _ _ _ (fun _ _ => ?_)) | (with_reducible refine (foldl_core _ ?_ _ _).trans ?_; intro _ _) | (with_reducible refine (foldl2_core _ ?_ _ _).trans ?_; intro _ _) | (with_reducible refine (foldl1_core _ ?_ _ _).trans ?_; intro _ _) | (simp only [↓core_mk, Dev.cmdDone_core, Dev.updCmd_core, Dev.withData_core, apply_ite Dev.core, ite_self, apply_ite Prod.snd, apply_ite Prod.fst]; done) | with_reducible refine (pair2_core ‹_›).trans ?_ | with_reducible refine (pair1_core ‹_›).trans ?_ | with_reducible refine ite_to ?_ ?_ | split | simp only [↓core_mk, Dev.cmdDone_core, Dev.updCmd_core, Dev.withData_core, apply_ite Dev.core, ite_self, apply_ite Prod.snd, apply_ite Prod.fst])
theorem Dev.writeZeroes_core (s : Dev) (c q : Nat) (m : NvmCmd) : (Dev.writeZeroes s c q m).core = s.core := by
  unfold Dev.writeZeroes; simp only [↓core_mk, Dev.cmdDone_core, Dev.updCmd_core, apply_ite Dev.core, ite_self]
theorem Dev.datasetMgmt_core (s : Dev) (c q : Nat) (m : NvmCmd) (list : List Nat) (rs : List (Nat × Nat)) : (Dev.datasetMgmt s c q m list rs).core = s.core := by
  unfold Dev.datasetMgmt; (repeat' first | with_reducible rfl | (with_reducible refine Dev.withData_core _ _ _ _ _ _ _ (fun _ _ => ?_)) | (with_reducible refine (foldl_core _ ?_ _ _).trans ?_; intro _ _) | (with_reducible refine (foldl2_core _ ?_ _ _).trans ?_; intro _ _) | (with_reducible refine (foldl1_core _ ?_ _ _).trans ?_; intro _ _) | (simp only [↓core_mk, Dev.cmdDone_core, Dev.updCmd_core, Dev.withData_core, apply_ite Dev.core, ite_self, apply_ite Prod.snd, apply_ite Prod.fst]; done) | with_reducible refine (pair2_core ‹_›).trans ?_ | with_reducible refine (pair1_core ‹_›).trans ?_ | with_reducible refine ite_to ?_ ?_ | split | simp only [↓core_mk, Dev.cmdDone_core, Dev.updCmd_core, Dev.withData_core, apply_ite Dev.core, ite_self, apply_ite Prod.snd, apply_ite Prod.fst])
theorem Dev.bkParcel_core (s : Dev) (c q cid len : Nat) : (Dev.bkParcel s c q cid len).core = s.core := by
  unfold Dev.bkParcel; simp only [Dev.admitParcel_core]
theorem Dev.pieceEnd_core (s : Dev) (c q m j : Nat) (sec : Bool) (status : Nat) (data : List Nat) : (Dev.pieceEnd s c q m j sec status data).core = s.core := by
  unfold Dev.pieceEnd; (repeat' first | with_reducible rfl | (with_reducible refine (foldl_core _ ?_ _ _).trans ?_; intro _ _) | (with_reducible refine (foldl2_core _ ?_ _ _).trans ?_; intro _ _) | (with_reducible refine (foldl1_core _ ?_ _ _).trans ?_; intro _ _) | (simp only [↓core_mk, Dev.bkParcel_core, Dev.cmdEnd_core, Dev.pump_core, Dev.reap_core, Dev.sideEnd_core, Dev.updCmd_core, apply_ite Dev.core, ite_self, apply_ite Prod.snd, apply_ite Prod.fst]; done) | with_reducible refine (pair2_core ‹_›).trans ?_ | with_reducible refine (pair1_core ‹_›).trans ?_ | with_reducible refine ite_to ?_ ?_ | split | simp only [↓core_mk, Dev.bkParcel_core, Dev.cmdEnd_core, Dev.pump_core, Dev.reap_core, Dev.sideEnd_core, Dev.updCmd_core, apply_ite Dev.core, ite_self, apply_ite Prod.snd, apply_ite Prod.fst])
theorem Dev.flushEnd_core (s : Dev) (b c q m status : Nat) : (Dev.flushEnd s b c q m status).core = s.core := by
  unfold Dev.flushEnd; (repeat' first | with_reducible rfl | (simp only [↓core_mk, Dev.bkParcel_core, Dev.cmdDone_core, Dev.pump_core, Dev.updCmd_core, apply_ite Dev.core, ite_self]; done) | with_reducible refine ite_to ?_ ?_ | split)
theorem Dev.recovered_core (s : Dev) (i : Nat) : (Dev.recovered s i).core = s.core := by
  unfold Dev.recovered; (repeat' first | with_reducible rfl | (simp only [↓core_mk, Dev.setObj_core, apply_ite Dev.core, ite_self]; done) | with_reducible refine ite_to ?_ ?_ | split)
theorem Dev.mark_core (s : Dev) (i x : Nat) : (Dev.mark s i x).core = s.core := by
  unfold Dev.mark; (repeat' first | with_reducible rfl | (simp only [↓core_mk, Dev.setNs_core, Dev.stale_core, apply_ite Dev.core, ite_self]; done) | with_reducible refine ite_to ?_ ?_ | split)
theorem Dev.nsRecover_core (s : Dev) (i : Nat) : (Dev.nsRecover s i).core = s.core := by
  unfold Dev.nsRecover; (repeat' first | with_reducible rfl | (with_reducible refine (foldl_core _ ?_ _ _).trans ?_; intro _ _) | (with_reducible refine (foldl2_core _ ?_ _ _).trans ?_; intro _ _) | (with_reducible refine (foldl1_core _ ?_ _ _).trans ?_; intro _ _) | (simp only [↓core_mk, Dev.mark_core, Dev.ownSend_core, Dev.recovered_core, Dev.setObj_core, apply_ite Dev.core, ite_self, apply_ite Prod.snd, apply_ite Prod.fst]; done) | with_reducible refine (pair2_core ‹_›).trans ?_ | with_reducible refine (pair1_core ‹_›).trans ?_ | with_reducible refine ite_to ?_ ?_ | split | simp only [↓core_mk, Dev.mark_core, Dev.ownSend_core, Dev.recovered_core, Dev.setObj_core, apply_ite Dev.core, ite_self, apply_ite Prod.snd, apply_ite Prod.fst])
theorem Dev.resyncDone_core (s : Dev) (x : Nat) (good : Bool) : (Dev.resyncDone s x good).core = s.core := by
  unfold Dev.resyncDone; (repeat' first | with_reducible rfl | (with_reducible refine (foldl_core _ ?_ _ _).trans ?_; intro _ _) | (with_reducible refine (foldl2_core _ ?_ _ _).trans ?_; intro _ _) | (with_reducible refine (foldl1_core _ ?_ _ _).trans ?_; intro _ _) | (simp only [↓core_mk, Dev.bump_core, Dev.lingers_core, Dev.pump_core, Dev.recovered_core, Dev.setNs_core, Dev.setSync_core, Dev.storageLog_core, Dev.updSto_core, apply_ite Dev.core, ite_self, apply_ite Prod.snd, apply_ite Prod.fst]; done) | with_reducible refine (pair2_core ‹_›).trans ?_ | with_reducible refine (pair1_core ‹_›).trans ?_ | with_reducible refine ite_to ?_ ?_ | split | simp only [↓core_mk, Dev.bump_core, Dev.lingers_core, Dev.pump_core, Dev.recovered_core, Dev.setNs_core, Dev.setSync_core, Dev.storageLog_core, Dev.updSto_core, apply_ite Dev.core, ite_self, apply_ite Prod.snd, apply_ite Prod.fst])
theorem Dev.ownEnd_core (s : Dev) (b : Nat) (op : BkOp) (status : Nat) (data : List Nat) : (Dev.ownEnd s b op status data).core = s.core := by
  unfold Dev.ownEnd; (repeat' first | with_reducible rfl | (with_reducible refine (foldl_core _ ?_ _ _).trans ?_; intro _ _) | (with_reducible refine (foldl2_core _ ?_ _ _).trans ?_; intro _ _) | (with_reducible refine (foldl1_core _ ?_ _ _).trans ?_; intro _ _) | (simp only [↓core_mk, Dev.emit_core, Dev.mark_core, Dev.ownSend_core, Dev.pump_core, Dev.recovered_core, Dev.resyncDone_core, Dev.updSto_core, apply_ite Dev.core, ite_self, apply_ite Prod.snd, apply_ite Prod.fst]; done) | with_reducible refine (pair2_core ‹_›).trans ?_ | with_reducible refine (pair1_core ‹_›).trans ?_ | with_reducible refine ite_to ?_ ?_ | split | simp only [↓core_mk, Dev.emit_core, Dev.mark_core, Dev.ownSend_core, Dev.pump_core, Dev.recovered_core, Dev.resyncDone_core, Dev.updSto_core, apply_ite Dev.core, ite_self, apply_ite Prod.snd, apply_ite Prod.fst])
theorem Dev.lostCmd_core (s : Dev) (b c q seq : Nat) (timeout : Bool) : (Dev.lostCmd s b c q seq timeout).core = s.core := by
  unfold Dev.lostCmd; (repeat' first | with_reducible rfl | (with_reducible refine (foldl_core _ ?_ _ _).trans ?_; intro _ _) | (with_reducible refine (foldl2_core _ ?_ _ _).trans ?_; intro _ _) | (with_reducible refine (foldl1_core _ ?_ _ _).trans ?_; intro _ _) | (simp only [↓core_mk, Dev.cmdEnd_core, Dev.hold_core, Dev.pieceUnknown_core, Dev.reap_core, Dev.sideEnd_core, Dev.updCmd_core, apply_ite Dev.core, ite_self, apply_ite Prod.snd, apply_ite Prod.fst]; done) | with_reducible refine (pair2_core ‹_›).trans ?_ | with_reducible refine (pair1_core ‹_›).trans ?_ | with_reducible refine ite_to ?_ ?_ | split | simp only [↓core_mk, Dev.cmdEnd_core, Dev.hold_core, Dev.pieceUnknown_core, Dev.reap_core, Dev.sideEnd_core, Dev.updCmd_core, apply_ite Dev.core, ite_self, apply_ite Prod.snd, apply_ite Prod.fst])
theorem Dev.connect_core (s : Dev) (b : Nat) : (Dev.connect s b).core = s.core := by
  unfold Dev.connect; (repeat' first | with_reducible rfl | (with_reducible refine (foldl_core _ ?_ _ _).trans ?_; intro _ _) | (with_reducible refine (foldl2_core _ ?_ _ _).trans ?_; intro _ _) | (with_reducible refine (foldl1_core _ ?_ _ _).trans ?_; intro _ _) | (simp only [↓core_mk, Dev.emit_core, apply_ite Dev.core, ite_self, apply_ite Prod.snd, apply_ite Prod.fst]; done) | with_reducible refine (pair2_core ‹_›).trans ?_ | with_reducible refine (pair1_core ‹_›).trans ?_ | with_reducible refine ite_to ?_ ?_ | split | simp only [↓core_mk, Dev.emit_core, apply_ite Dev.core, ite_self, apply_ite Prod.snd, apply_ite Prod.fst])
theorem Dev.pathLost_core (s : Dev) (b : Nat) (timeout : Bool) : (Dev.pathLost s b timeout).core = s.core := by
  unfold Dev.pathLost; (repeat' first | with_reducible rfl | (with_reducible refine (foldl_core _ ?_ _ _).trans ?_; intro _ _) | (with_reducible refine (foldl2_core _ ?_ _ _).trans ?_; intro _ _) | (with_reducible refine (foldl1_core _ ?_ _ _).trans ?_; intro _ _) | (simp only [↓core_mk, Dev.connect_core, Dev.bump_core, Dev.emit_core, Dev.lostCmd_core, Dev.pump_core, Dev.setBack_core, Dev.setObj_core, Dev.setSync_core, Dev.storageLog_core, Dev.updSto_core, apply_ite Dev.core, ite_self, apply_ite Prod.snd, apply_ite Prod.fst]; done) | with_reducible refine (pair2_core ‹_›).trans ?_ | with_reducible refine (pair1_core ‹_›).trans ?_ | with_reducible refine ite_to ?_ ?_ | split | simp only [↓core_mk, Dev.connect_core, Dev.bump_core, Dev.emit_core, Dev.lostCmd_core, Dev.pump_core, Dev.setBack_core, Dev.setObj_core, Dev.setSync_core, Dev.storageLog_core, Dev.updSto_core, apply_ite Dev.core, ite_self, apply_ite Prod.snd, apply_ite Prod.fst])
theorem Dev.driveGone_core (s : Dev) (b : Nat) : (Dev.driveGone s b).core = s.core := by
  unfold Dev.driveGone; simp only [↓core_mk, Dev.updSto_core, apply_ite Dev.core, ite_self]
theorem Dev.unheld_core (s : Dev) : (Dev.unheld s).core = s.core := by
  unfold Dev.unheld; (repeat' first | with_reducible rfl | (with_reducible refine (foldl_core _ ?_ _ _).trans ?_; intro _ _) | (with_reducible refine (foldl2_core _ ?_ _ _).trans ?_; intro _ _) | (with_reducible refine (foldl1_core _ ?_ _ _).trans ?_; intro _ _) | (simp only [↓core_mk, Dev.updSto_core, apply_ite Dev.core, ite_self, apply_ite Prod.snd, apply_ite Prod.fst]; done) | with_reducible refine (pair2_core ‹_›).trans ?_ | with_reducible refine (pair1_core ‹_›).trans ?_ | with_reducible refine ite_to ?_ ?_ | split | simp only [↓core_mk, Dev.updSto_core, apply_ite Dev.core, ite_self, apply_ite Prod.snd, apply_ite Prod.fst])
theorem Dev.backLive_core (s0 : Dev) (b ds ms blocks : Nat) (cache : Bool) (atomicBytes boundary : Nat) : (Dev.backLive s0 b ds ms blocks cache atomicBytes boundary).core = s0.core := by
  unfold Dev.backLive; (repeat' first | with_reducible rfl | (with_reducible refine (foldl_core _ ?_ _ _).trans ?_; intro _ _) | (with_reducible refine (foldl2_core _ ?_ _ _).trans ?_; intro _ _) | (with_reducible refine (foldl1_core _ ?_ _ _).trans ?_; intro _ _) | (simp only [↓core_mk, Dev.ownSend_core, Dev.pump_core, Dev.setBack_core, Dev.setObj_core, Dev.storageLog_core, Dev.unheld_core, Dev.updSto_core, apply_ite Dev.core, ite_self, apply_ite Prod.snd, apply_ite Prod.fst]; done) | with_reducible refine (pair2_core ‹_›).trans ?_ | with_reducible refine (pair1_core ‹_›).trans ?_ | with_reducible refine ite_to ?_ ?_ | split | simp only [↓core_mk, Dev.ownSend_core, Dev.pump_core, Dev.setBack_core, Dev.setObj_core, Dev.storageLog_core, Dev.unheld_core, Dev.updSto_core, apply_ite Dev.core, ite_self, apply_ite Prod.snd, apply_ite Prod.fst])
theorem Dev.settlePieces_core (s : Dev) : (Dev.settlePieces s).core = s.core := by
  unfold Dev.settlePieces; (repeat' first | with_reducible rfl | (with_reducible refine (foldl_core _ ?_ _ _).trans ?_; intro _ _) | (with_reducible refine (foldl2_core _ ?_ _ _).trans ?_; intro _ _) | (with_reducible refine (foldl1_core _ ?_ _ _).trans ?_; intro _ _) | (simp only [↓core_mk, Dev.pump_core, Dev.setSync_core, Dev.updSto_core, apply_ite Dev.core, ite_self, apply_ite Prod.snd, apply_ite Prod.fst]; done) | with_reducible refine (pair2_core ‹_›).trans ?_ | with_reducible refine (pair1_core ‹_›).trans ?_ | with_reducible refine ite_to ?_ ?_ | split | simp only [↓core_mk, Dev.pump_core, Dev.setSync_core, Dev.updSto_core, apply_ite Dev.core, ite_self, apply_ite Prod.snd, apply_ite Prod.fst])
end Sys2Proof.Machine
end

