-- ==== Sys2Proof/Laws/FrameHost.lean ====
section
/-! SUPPORT. Frame lemmas of host queues, host functions, the letterbox and the admin queues: each leaves the part, the tick counter and, but for `_clock` lemmas, the bytes of
memory alone. -/
set_option linter.unusedSimpArgs false
set_option linter.unusedVariables false
set_option maxRecDepth 8000
namespace Sys2Proof.Machine

theorem Dev.writeEntry_core (s : Dev) (qk : Nat) (j : Job) : (Dev.writeEntry s qk j).core = s.core := by
  unfold Dev.writeEntry; (repeat' first | with_reducible rfl | (simp only [↓core_mk, Dev.bump_core, Dev.hostWrite_core, Dev.intr_core, Dev.msix_core, Dev.setQueue_core, apply_ite Dev.core, ite_self, apply_ite Prod.snd, apply_ite Prod.fst]; done) | with_reducible refine (pair2_core ‹_›).trans ?_ | with_reducible refine ite_to ?_ ?_ | split | simp only [↓core_mk, Dev.bump_core, Dev.hostWrite_core, Dev.intr_core, Dev.msix_core, Dev.setQueue_core, apply_ite Dev.core, ite_self, apply_ite Prod.snd, apply_ite Prod.fst])
theorem Dev.postOne_core (s : Dev) (qk : Nat) : (Dev.postOne s qk).core = s.core := by
  unfold Dev.postOne; (repeat' first | with_reducible rfl | (simp only [↓core_mk, Dev.setQueue_core, Dev.writeEntry_core, apply_ite Dev.core, ite_self]; done) | with_reducible refine ite_to ?_ ?_ | split)
theorem Dev.postAct_core (s : Dev) (qk : Nat) : (Dev.postAct s qk).core = s.core := by
  unfold Dev.postAct; (repeat' first | with_reducible rfl | (simp only [↓core_mk, Dev.mirrorSync_core, Dev.postOne_core, apply_ite Dev.core, ite_self]; done) | with_reducible refine ite_to ?_ ?_ | split)
theorem Dev.hwWrite_core (s : Dev) (qk : Nat) : (Dev.hwWrite s qk).core = s.core := by
  unfold Dev.hwWrite; (repeat' first | with_reducible rfl | (simp only [↓core_mk, Dev.hostWrite_core, Dev.setQueue_core, apply_ite Dev.core, ite_self]; done) | with_reducible refine ite_to ?_ ?_ | split)
theorem Dev.freezeQueue_core (s : Dev) (qk status : Nat) : (Dev.freezeQueue s qk status).core = s.core := by
  unfold Dev.freezeQueue; (repeat' first | with_reducible rfl | (simp only [↓core_mk, Dev.bump_core, Dev.setQstate_core, apply_ite Dev.core, ite_self]; done) | with_reducible refine ite_to ?_ ?_ | split)
theorem Dev.mirrorIndex_core (s : Dev) (qk : Nat) : (Dev.mirrorIndex s qk).core = s.core := by
  unfold Dev.mirrorIndex; (repeat' first | with_reducible rfl | (simp only [↓core_mk, Dev.mirror_core, apply_ite Dev.core, ite_self]; done) | with_reducible refine ite_to ?_ ?_ | split)
theorem Dev.applyValue_core (s : Dev) (qk v : Nat) (arm : Bool) : (Dev.applyValue s qk v arm).core = s.core := by
  unfold Dev.applyValue; (repeat' first | with_reducible rfl | (with_reducible refine (foldl_core _ ?_ _ _).trans ?_; intro _ _) | (with_reducible refine (foldl2_core _ ?_ _ _).trans ?_; intro _ _) | (with_reducible refine (foldl1_core _ ?_ _ _).trans ?_; intro _ _) | (simp only [↓core_mk, Dev.freezeQueue_core, Dev.mirrorIndex_core, Dev.msix_core, Dev.setQueue_core, apply_ite Dev.core, ite_self, apply_ite Prod.snd, apply_ite Prod.fst]; done) | with_reducible refine (pair2_core ‹_›).trans ?_ | with_reducible refine (pair1_core ‹_›).trans ?_ | with_reducible refine ite_to ?_ ?_ | split | simp only [↓core_mk, Dev.freezeQueue_core, Dev.mirrorIndex_core, Dev.msix_core, Dev.setQueue_core, apply_ite Dev.core, ite_self, apply_ite Prod.snd, apply_ite Prod.fst])
theorem Dev.ring_core (s : Dev) (qk w : Nat) : (Dev.ring s qk w).core = s.core := by
  unfold Dev.ring; (repeat' first | with_reducible rfl | (with_reducible refine (foldl_core _ ?_ _ _).trans ?_; intro _ _) | (with_reducible refine (foldl2_core _ ?_ _ _).trans ?_; intro _ _) | (with_reducible refine (foldl1_core _ ?_ _ _).trans ?_; intro _ _) | (simp only [↓core_mk, Dev.applyValue_core, Dev.issueReq_core, Dev.setQueue_core, apply_ite Dev.core, ite_self, apply_ite Prod.snd, apply_ite Prod.fst]; done) | with_reducible refine (pair2_core ‹_›).trans ?_ | with_reducible refine (pair1_core ‹_›).trans ?_ | with_reducible refine ite_to ?_ ?_ | split | simp only [↓core_mk, Dev.applyValue_core, Dev.issueReq_core, Dev.setQueue_core, apply_ite Dev.core, ite_self, apply_ite Prod.snd, apply_ite Prod.fst])
theorem Dev.ringHeld_core (s : Dev) (qk : Nat) (a1 : Nat) : (Dev.ringHeld s qk a1).core = s.core := by
  induction a1 generalizing s with | zero => rfl | succ k ih => (unfold Dev.ringHeld; dsimp only; repeat' first | with_reducible rfl | (simp only [ih, Dev.ring_core, Dev.setQueue_core, Dev.bump_core, apply_ite Dev.core, ite_self]; done) | split)
theorem Dev.doorbell_core (s : Dev) (n page w : Nat) : (Dev.doorbell s n page w).core = s.core := by
  unfold Dev.doorbell; (repeat' first | with_reducible rfl | (simp only [↓core_mk, Dev.bump_core, Dev.ring_core, Dev.setQueue_core, apply_ite Dev.core, ite_self, apply_ite Prod.snd, apply_ite Prod.fst]; done) | with_reducible refine (pair2_core ‹_›).trans ?_ | with_reducible refine ite_to ?_ ?_ | split | simp only [↓core_mk, Dev.bump_core, Dev.ring_core, Dev.setQueue_core, apply_ite Dev.core, ite_self, apply_ite Prod.snd, apply_ite Prod.fst])
theorem Dev.allocAll_core (s : Dev) (o : Nat) (a1 : List Nat) : ((Dev.allocAll s o a1).2).core = s.core := by
  induction a1 generalizing s with | nil => rfl | cons n ns ih => (unfold Dev.allocAll; dsimp only; repeat' first | exact Dev.alloc_core _ _ _ | exact (pair2_core ‹_›).trans ((ih _).trans (Dev.alloc_core _ _ _)) | exact (Dev.bufFree_core _ _ _).trans ((pair2_core ‹_›).trans ((ih _).trans (Dev.alloc_core _ _ _))) | split)
theorem Dev.slotFrozen_core (s : Dev) (qk : Nat) : (Dev.slotFrozen s qk).core = s.core := by
  unfold Dev.slotFrozen; (repeat' first | with_reducible rfl | (with_reducible refine (foldl_core _ ?_ _ _).trans ?_; intro _ _) | (with_reducible refine (foldl2_core _ ?_ _ _).trans ?_; intro _ _) | (with_reducible refine (foldl1_core _ ?_ _ _).trans ?_; intro _ _) | (simp only [↓core_mk, Dev.freezeQueue_core, apply_ite Dev.core, ite_self, apply_ite Prod.snd, apply_ite Prod.fst]; done) | with_reducible refine (pair2_core ‹_›).trans ?_ | with_reducible refine (pair1_core ‹_›).trans ?_ | with_reducible refine ite_to ?_ ?_ | split | simp only [↓core_mk, Dev.freezeQueue_core, apply_ite Dev.core, ite_self, apply_ite Prod.snd, apply_ite Prod.fst])
theorem Dev.consume_core (s : Dev) (qk n : Nat) : (Dev.consume s qk n).core = s.core := by
  unfold Dev.consume; simp only [Dev.updQueue_core]
theorem Dev.chainJob_core (s : Dev) (qk i : Nat) : (Dev.chainJob s qk i).core = s.core := by
  unfold Dev.chainJob; (repeat' first | with_reducible rfl | (with_reducible refine (foldl_core _ ?_ _ _).trans ?_; intro _ _) | (with_reducible refine (foldl2_core _ ?_ _ _).trans ?_; intro _ _) | (with_reducible refine (foldl1_core _ ?_ _ _).trans ?_; intro _ _) | (simp only [↓core_mk, Dev.allocAll_core, Dev.moverRead_core, Dev.updJob_core, apply_ite Dev.core, ite_self, apply_ite Prod.snd, apply_ite Prod.fst]; done) | with_reducible refine (pair2_core ‹_›).trans ?_ | with_reducible refine (pair1_core ‹_›).trans ?_ | with_reducible refine ite_to ?_ ?_ | split | simp only [↓core_mk, Dev.allocAll_core, Dev.moverRead_core, Dev.updJob_core, apply_ite Dev.core, ite_self, apply_ite Prod.snd, apply_ite Prod.fst])
theorem Dev.chainRetry_core (s : Dev) : (Dev.chainRetry s).core = s.core := by
  unfold Dev.chainRetry; (repeat' first | with_reducible rfl | (with_reducible refine (foldl_core _ ?_ _ _).trans ?_; intro _ _) | (with_reducible refine (foldl2_core _ ?_ _ _).trans ?_; intro _ _) | (with_reducible refine (foldl1_core _ ?_ _ _).trans ?_; intro _ _) | (simp only [↓core_mk, Dev.chainJob_core, apply_ite Dev.core, ite_self, apply_ite Prod.snd, apply_ite Prod.fst]; done) | with_reducible refine (pair2_core ‹_›).trans ?_ | with_reducible refine (pair1_core ‹_›).trans ?_ | with_reducible refine ite_to ?_ ?_ | split | simp only [↓core_mk, Dev.chainJob_core, apply_ite Dev.core, ite_self, apply_ite Prod.snd, apply_ite Prod.fst])
theorem Dev.putJob_core (s : Dev) (qk : Nat) (j : Job) : (Dev.putJob s qk j).core = s.core := by
  unfold Dev.putJob; (repeat' first | with_reducible rfl | (with_reducible refine (foldl_core _ ?_ _ _).trans ?_; intro _ _) | (with_reducible refine (foldl2_core _ ?_ _ _).trans ?_; intro _ _) | (with_reducible refine (foldl1_core _ ?_ _ _).trans ?_; intro _ _) | (simp only [↓core_mk, Dev.consume_core, Dev.updQueue_core, apply_ite Dev.core, ite_self, apply_ite Prod.snd, apply_ite Prod.fst]; done) | with_reducible refine (pair2_core ‹_›).trans ?_ | with_reducible refine (pair1_core ‹_›).trans ?_ | with_reducible refine ite_to ?_ ?_ | split | simp only [↓core_mk, Dev.consume_core, Dev.updQueue_core, apply_ite Dev.core, ite_self, apply_ite Prod.snd, apply_ite Prod.fst])
theorem Dev.sendTake_core (s : Dev) (qk : Nat) (q : Queue) (desc : Nat) (segs : List (Nat × Nat)) : (Dev.sendTake s qk q desc segs).core = s.core := by
  unfold Dev.sendTake; (repeat' first | with_reducible rfl | (with_reducible refine (foldl_core _ ?_ _ _).trans ?_; intro _ _) | (with_reducible refine (foldl2_core _ ?_ _ _).trans ?_; intro _ _) | (with_reducible refine (foldl1_core _ ?_ _ _).trans ?_; intro _ _) | (simp only [↓core_mk, Dev.addObj_core, Dev.chainJob_core, Dev.putJob_core, apply_ite Dev.core, ite_self, apply_ite Prod.snd, apply_ite Prod.fst]; done) | with_reducible refine (pair2_core ‹_›).trans ?_ | with_reducible refine (pair1_core ‹_›).trans ?_ | with_reducible refine ite_to ?_ ?_ | split | simp only [↓core_mk, Dev.addObj_core, Dev.chainJob_core, Dev.putJob_core, apply_ite Dev.core, ite_self, apply_ite Prod.snd, apply_ite Prod.fst])
theorem Dev.sendJob_core (s : Dev) (n Q t desc : Nat) (frags : Option (List Nat)) : (Dev.sendJob s n Q t desc frags).core = s.core := by
  unfold Dev.sendJob; (repeat' first | with_reducible rfl | (with_reducible refine Dev.onReads_core _ _ _ _ _ _ (fun _ => ?_)) | (with_reducible refine (foldl_core _ ?_ _ _).trans ?_; intro _ _) | (with_reducible refine (foldl2_core _ ?_ _ _).trans ?_; intro _ _) | (with_reducible refine (foldl1_core _ ?_ _ _).trans ?_; intro _ _) | (simp only [↓core_mk, Dev.jobFail_core, Dev.onReads_core, Dev.putJob_core, Dev.returnTag_core, Dev.sendTake_core, apply_ite Dev.core, ite_self, apply_ite Prod.snd, apply_ite Prod.fst]; done) | with_reducible refine (pair2_core ‹_›).trans ?_ | with_reducible refine (pair1_core ‹_›).trans ?_ | with_reducible refine ite_to ?_ ?_ | split | simp only [↓core_mk, Dev.jobFail_core, Dev.onReads_core, Dev.putJob_core, Dev.returnTag_core, Dev.sendTake_core, apply_ite Dev.core, ite_self, apply_ite Prod.snd, apply_ite Prod.fst])
theorem Dev.receiveDesc_core (s : Dev) (n Q desc : Nat) : (Dev.receiveDesc s n Q desc).core = s.core := by
  unfold Dev.receiveDesc; (repeat' first | with_reducible rfl | (simp only [↓core_mk, Dev.consume_core, Dev.jobFail_core, Dev.updQueue_core, apply_ite Dev.core, ite_self, apply_ite Prod.snd, apply_ite Prod.fst]; done) | with_reducible refine (pair2_core ‹_›).trans ?_ | with_reducible refine ite_to ?_ ?_ | split | simp only [↓core_mk, Dev.consume_core, Dev.jobFail_core, Dev.updQueue_core, apply_ite Dev.core, ite_self, apply_ite Prod.snd, apply_ite Prod.fst])
theorem Dev.jobStart_core (s : Dev) (qk i : Nat) : (Dev.jobStart s qk i).core = s.core := by
  unfold Dev.jobStart; (repeat' first | with_reducible rfl | (with_reducible refine (foldl_core _ ?_ _ _).trans ?_; intro _ _) | (with_reducible refine (foldl2_core _ ?_ _ _).trans ?_; intro _ _) | (with_reducible refine (foldl1_core _ ?_ _ _).trans ?_; intro _ _) | (simp only [↓core_mk, Dev.admitParcel_core, Dev.jobFail_core, Dev.setChainData_core, Dev.updJob_core, apply_ite Dev.core, ite_self, apply_ite Prod.snd, apply_ite Prod.fst]; done) | with_reducible refine (pair2_core ‹_›).trans ?_ | with_reducible refine (pair1_core ‹_›).trans ?_ | with_reducible refine ite_to ?_ ?_ | split | simp only [↓core_mk, Dev.admitParcel_core, Dev.jobFail_core, Dev.setChainData_core, Dev.updJob_core, apply_ite Dev.core, ite_self, apply_ite Prod.snd, apply_ite Prod.fst])
theorem Dev.jobData_core (s : Dev) (qk i off : Nat) (bs : List Nat) : (Dev.jobData s qk i off bs).core = s.core := by
  unfold Dev.jobData; (repeat' first | with_reducible rfl | (simp only [↓core_mk, Dev.jobStart_core, Dev.updJob_core, apply_ite Dev.core, ite_self]; done) | with_reducible refine ite_to ?_ ?_ | split)
theorem Dev.fragsFailed_core (s : Dev) (qk : Nat) : (Dev.fragsFailed s qk).core = s.core := by
  unfold Dev.fragsFailed; (repeat' first | with_reducible rfl | (with_reducible refine (foldl_core _ ?_ _ _).trans ?_; intro _ _) | (with_reducible refine (foldl2_core _ ?_ _ _).trans ?_; intro _ _) | (with_reducible refine (foldl1_core _ ?_ _ _).trans ?_; intro _ _) | (simp only [↓core_mk, Dev.jobFail_core, Dev.putJob_core, Dev.readsGot_core, apply_ite Dev.core, ite_self, apply_ite Prod.snd, apply_ite Prod.fst]; done) | with_reducible refine (pair2_core ‹_›).trans ?_ | with_reducible refine (pair1_core ‹_›).trans ?_ | with_reducible refine ite_to ?_ ?_ | split | simp only [↓core_mk, Dev.jobFail_core, Dev.putJob_core, Dev.readsGot_core, apply_ite Dev.core, ite_self, apply_ite Prod.snd, apply_ite Prod.fst])
theorem Dev.readFailed_core (s : Dev) (r : Req) : (Dev.readFailed s r).core = s.core := by
  unfold Dev.readFailed; (repeat' first | with_reducible rfl | (with_reducible refine (foldl_core _ ?_ _ _).trans ?_; intro _ _) | (with_reducible refine (foldl2_core _ ?_ _ _).trans ?_; intro _ _) | (with_reducible refine (foldl1_core _ ?_ _ _).trans ?_; intro _ _) | (simp only [↓core_mk, Dev.fragsFailed_core, Dev.freezeQueue_core, Dev.jobFail_core, Dev.nvmDataFail_core, Dev.ringHeld_core, Dev.setQueue_core, Dev.slotFrozen_core, apply_ite Dev.core, ite_self, apply_ite Prod.snd, apply_ite Prod.fst]; done) | with_reducible refine (pair2_core ‹_›).trans ?_ | with_reducible refine (pair1_core ‹_›).trans ?_ | with_reducible refine ite_to ?_ ?_ | split | simp only [↓core_mk, Dev.fragsFailed_core, Dev.freezeQueue_core, Dev.jobFail_core, Dev.nvmDataFail_core, Dev.ringHeld_core, Dev.setQueue_core, Dev.slotFrozen_core, apply_ite Dev.core, ite_self, apply_ite Prod.snd, apply_ite Prod.fst])
theorem Dev.readDone'_core (s : Dev) (r : Req) (data : List Nat) : (Dev.readDone' s r data).core = s.core := by
  unfold Dev.readDone'; (repeat' first | with_reducible rfl | (with_reducible refine (foldl_core _ ?_ _ _).trans ?_; intro _ _) | (with_reducible refine (foldl2_core _ ?_ _ _).trans ?_; intro _ _) | (with_reducible refine (foldl1_core _ ?_ _ _).trans ?_; intro _ _) | (simp only [↓core_mk, Dev.applyValue_core, Dev.jobData_core, Dev.nvmData_core, Dev.ringHeld_core, Dev.setQueue_core, apply_ite Dev.core, ite_self, apply_ite Prod.snd, apply_ite Prod.fst]; done) | with_reducible refine (pair2_core ‹_›).trans ?_ | with_reducible refine (pair1_core ‹_›).trans ?_ | with_reducible refine ite_to ?_ ?_ | split | simp only [↓core_mk, Dev.applyValue_core, Dev.jobData_core, Dev.nvmData_core, Dev.ringHeld_core, Dev.setQueue_core, apply_ite Dev.core, ite_self, apply_ite Prod.snd, apply_ite Prod.fst])
theorem Dev.completionTlp_core (s : Dev) (k tag bytes status : Nat) (data : List Nat) : (Dev.completionTlp s k tag bytes status data).core = s.core := by
  unfold Dev.completionTlp; (repeat' first | with_reducible rfl | (simp only [↓core_mk, Dev.aer_core, Dev.bump_core, Dev.linkErr_core, Dev.readDone'_core, Dev.readFailed_core, Dev.returnTag_core, Dev.setLink_core, apply_ite Dev.core, ite_self, apply_ite Prod.snd, apply_ite Prod.fst]; done) | with_reducible refine (pair2_core ‹_›).trans ?_ | with_reducible refine ite_to ?_ ?_ | split | simp only [↓core_mk, Dev.aer_core, Dev.bump_core, Dev.linkErr_core, Dev.readDone'_core, Dev.readFailed_core, Dev.returnTag_core, Dev.setLink_core, apply_ite Dev.core, ite_self, apply_ite Prod.snd, apply_ite Prod.fst])
theorem Dev.ctoAct_core (s : Dev) (k tag : Nat) (t : Tag) : (Dev.ctoAct s k tag t).core = s.core := by
  unfold Dev.ctoAct; simp only [Dev.aer_core, Dev.bump_core, Dev.linkErr_core, Dev.readFailed_core, Dev.setLink_core]
theorem Dev.dirtyMark_core (s : Dev) (n : Nat) : (Dev.dirtyMark s n).core = s.core := by
  unfold Dev.dirtyMark; (repeat' first | with_reducible rfl | (simp only [↓core_mk, Dev.bump_core, Dev.hostWrite_core, Dev.setFn_core, apply_ite Dev.core, ite_self, apply_ite Prod.snd, apply_ite Prod.fst]; done) | with_reducible refine (pair2_core ‹_›).trans ?_ | with_reducible refine ite_to ?_ ?_ | split | simp only [↓core_mk, Dev.bump_core, Dev.hostWrite_core, Dev.setFn_core, apply_ite Dev.core, ite_self, apply_ite Prod.snd, apply_ite Prod.fst])
theorem Dev.setBox_core (s : Dev) (n : Nat) (b : Letterbox) : (Dev.setBox s n b).core = s.core := id rfl
theorem Dev.emptyBox_core (s : Dev) (n : Nat) : (Dev.emptyBox s n).core = s.core := by
  unfold Dev.emptyBox; simp only [↓core_mk, Dev.setBox_core, apply_ite Dev.core, ite_self]
theorem Dev.resetBox_core (s : Dev) (n : Nat) : (Dev.resetBox s n).core = s.core := by
  unfold Dev.resetBox; simp only [↓core_mk, Dev.emptyBox_core, Dev.setBox_core, apply_ite Dev.core, ite_self]
theorem Dev.discardTxn_core (s : Dev) (key : Nat) : (Dev.discardTxn s key).core = s.core := by
  unfold Dev.discardTxn; (repeat' first | with_reducible rfl | (simp only [↓core_mk, Dev.bump_core, apply_ite Dev.core, ite_self]; done) | with_reducible refine ite_to ?_ ?_ | split)
theorem Dev.newLife_core (s : Dev) : ((Dev.newLife s).2).core = s.core := id rfl
theorem Dev.dropQueue_core (s : Dev) (qk : Nat) : (Dev.dropQueue s qk).core = s.core := by
  unfold Dev.dropQueue; (repeat' first | with_reducible rfl | (with_reducible refine (foldl_core _ ?_ _ _).trans ?_; intro _ _) | (simp only [↓core_mk, Dev.freeChains_core, apply_ite Dev.core, ite_self]; done) | with_reducible refine ite_to ?_ ?_ | split)
theorem Dev.forgetPosts_core (s : Dev) (qk : Nat) : (Dev.forgetPosts s qk).core = s.core := id rfl
theorem Dev.dropQueues_core (s : Dev) (n : Nat) : (Dev.dropQueues s n).core = s.core := by
  unfold Dev.dropQueues; (repeat' first | with_reducible rfl | (with_reducible refine (foldl_core _ ?_ _ _).trans ?_; intro _ _) | (simp only [↓core_mk, Dev.dropQueue_core, apply_ite Dev.core, ite_self]; done) | with_reducible refine ite_to ?_ ?_ | split)
theorem Dev.adminDone_core (s : Dev) (n status result : Nat) : (Dev.adminDone s n status result).core = s.core := by
  unfold Dev.adminDone; simp only [↓core_mk, Dev.updQueue_core]
theorem Dev.adminDrop_core (s : Dev) (n : Nat) : (Dev.adminDrop s n).core = s.core := by
  unfold Dev.adminDrop; simp only [↓core_mk, Dev.updQueue_core]
theorem Dev.endOn_core (s : Dev) (n : Nat) (status : Option Nat) : (Dev.endOn s n status).core = s.core := by
  unfold Dev.endOn; (repeat' first | with_reducible rfl | (with_reducible refine (foldl_core _ ?_ _ _).trans ?_; intro _ _) | (with_reducible refine (foldl2_core _ ?_ _ _).trans ?_; intro _ _) | (with_reducible refine (foldl1_core _ ?_ _ _).trans ?_; intro _ _) | (simp only [↓core_mk, Dev.adminDone_core, Dev.adminDrop_core, Dev.setFn_core, apply_ite Dev.core, ite_self, apply_ite Prod.snd, apply_ite Prod.fst]; done) | with_reducible refine (pair2_core ‹_›).trans ?_ | with_reducible refine (pair1_core ‹_›).trans ?_ | with_reducible refine ite_to ?_ ?_ | split | simp only [↓core_mk, Dev.adminDone_core, Dev.adminDrop_core, Dev.setFn_core, apply_ite Dev.core, ite_self, apply_ite Prod.snd, apply_ite Prod.fst])
theorem Dev.nvmCancelled_core (s : Dev) (n : Nat) : (Dev.nvmCancelled s n).core = s.core := by
  unfold Dev.nvmCancelled; (repeat' first | with_reducible rfl | (with_reducible refine (foldl_core _ ?_ _ _).trans ?_; intro _ _) | (with_reducible refine (foldl2_core _ ?_ _ _).trans ?_; intro _ _) | (with_reducible refine (foldl1_core _ ?_ _ _).trans ?_; intro _ _) | (simp only [↓core_mk, Dev.nvmDataFail_core, apply_ite Dev.core, ite_self, apply_ite Prod.snd, apply_ite Prod.fst]; done) | with_reducible refine (pair2_core ‹_›).trans ?_ | with_reducible refine (pair1_core ‹_›).trans ?_ | with_reducible refine ite_to ?_ ?_ | split | simp only [↓core_mk, Dev.nvmDataFail_core, apply_ite Dev.core, ite_self, apply_ite Prod.snd, apply_ite Prod.fst])
theorem Dev.cancelFn_core (s : Dev) (n : Nat) : (Dev.cancelFn s n).core = s.core := by
  unfold Dev.cancelFn; simp only [Dev.nvmCancelled_core, Dev.cancelReads_core]
theorem Dev.dropTranslations_core (s : Dev) (n : Nat) (gone : Nat → Bool) : (Dev.dropTranslations s n gone).core = s.core := by
  unfold Dev.dropTranslations; (repeat' first | with_reducible rfl | (with_reducible refine (foldl_core _ ?_ _ _).trans ?_; intro _ _) | (with_reducible refine (foldl2_core _ ?_ _ _).trans ?_; intro _ _) | (with_reducible refine (foldl1_core _ ?_ _ _).trans ?_; intro _ _) | (simp only [↓core_mk, Dev.setLink_core, apply_ite Dev.core, ite_self, apply_ite Prod.snd, apply_ite Prod.fst]; done) | with_reducible refine (pair2_core ‹_›).trans ?_ | with_reducible refine (pair1_core ‹_›).trans ?_ | with_reducible refine ite_to ?_ ?_ | split | simp only [↓core_mk, Dev.setLink_core, apply_ite Dev.core, ite_self, apply_ite Prod.snd, apply_ite Prod.fst])
theorem Dev.wipe_core (s : Dev) (n : Nat) : (Dev.wipe s n).core = s.core := by
  unfold Dev.wipe; (repeat' first | with_reducible rfl | (with_reducible refine (foldl_core _ ?_ _ _).trans ?_; intro _ _) | (with_reducible refine (foldl2_core _ ?_ _ _).trans ?_; intro _ _) | (with_reducible refine (foldl1_core _ ?_ _ _).trans ?_; intro _ _) | (simp only [↓core_mk, Dev.cancelFn_core, Dev.ctrlWipe_core, Dev.discardTxn_core, Dev.dropQueues_core, Dev.dropTranslations_core, Dev.freeOwned_core, Dev.resetBox_core, Dev.setFn_core, Dev.setObj_core, apply_ite Dev.core, ite_self, apply_ite Prod.snd, apply_ite Prod.fst]; done) | with_reducible refine (pair2_core ‹_›).trans ?_ | with_reducible refine (pair1_core ‹_›).trans ?_ | with_reducible refine ite_to ?_ ?_ | split | simp only [↓core_mk, Dev.cancelFn_core, Dev.ctrlWipe_core, Dev.discardTxn_core, Dev.dropQueues_core, Dev.dropTranslations_core, Dev.freeOwned_core, Dev.resetBox_core, Dev.setFn_core, Dev.setObj_core, apply_ite Dev.core, ite_self, apply_ite Prod.snd, apply_ite Prod.fst])
theorem Dev.bmeSet_core (s : Dev) (n : Nat) : (Dev.bmeSet s n).core = s.core := by
  unfold Dev.bmeSet; (repeat' first | with_reducible rfl | (with_reducible refine (foldl_core _ ?_ _ _).trans ?_; intro _ _) | (with_reducible refine (foldl2_core _ ?_ _ _).trans ?_; intro _ _) | (with_reducible refine (foldl1_core _ ?_ _ _).trans ?_; intro _ _) | (simp only [↓core_mk, Dev.flushMsix_core, Dev.flushWrites_core, Dev.setFn_core, Dev.setFstate_core, apply_ite Dev.core, ite_self, apply_ite Prod.snd, apply_ite Prod.fst]; done) | with_reducible refine (pair2_core ‹_›).trans ?_ | with_reducible refine (pair1_core ‹_›).trans ?_ | with_reducible refine ite_to ?_ ?_ | split | simp only [↓core_mk, Dev.flushMsix_core, Dev.flushWrites_core, Dev.setFn_core, Dev.setFstate_core, apply_ite Dev.core, ite_self, apply_ite Prod.snd, apply_ite Prod.fst])
theorem Dev.recordRefresh_core (s : Dev) (n : Nat) : (Dev.recordRefresh s n).core = s.core := by
  unfold Dev.recordRefresh; (repeat' first | with_reducible rfl | (with_reducible refine (foldl_core _ ?_ _ _).trans ?_; intro _ _) | (with_reducible refine (foldl2_core _ ?_ _ _).trans ?_; intro _ _) | (with_reducible refine (foldl1_core _ ?_ _ _).trans ?_; intro _ _) | (simp only [↓core_mk, Dev.setQueue_core, apply_ite Dev.core, ite_self, apply_ite Prod.snd, apply_ite Prod.fst]; done) | with_reducible refine (pair2_core ‹_›).trans ?_ | with_reducible refine (pair1_core ‹_›).trans ?_ | with_reducible refine ite_to ?_ ?_ | split | simp only [↓core_mk, Dev.setQueue_core, apply_ite Dev.core, ite_self, apply_ite Prod.snd, apply_ite Prod.fst])
theorem Dev.discardData_core (s : Dev) (n : Nat) : (Dev.discardData s n).core = s.core := by
  unfold Dev.discardData; (repeat' first | with_reducible rfl | (with_reducible refine (foldl_core _ ?_ _ _).trans ?_; intro _ _) | (with_reducible refine (foldl2_core _ ?_ _ _).trans ?_; intro _ _) | (with_reducible refine (foldl1_core _ ?_ _ _).trans ?_; intro _ _) | (simp only [↓core_mk, Dev.bump_core, Dev.cmdDone_core, apply_ite Dev.core, ite_self, apply_ite Prod.snd, apply_ite Prod.fst]; done) | with_reducible refine (pair2_core ‹_›).trans ?_ | with_reducible refine (pair1_core ‹_›).trans ?_ | with_reducible refine ite_to ?_ ?_ | split | simp only [↓core_mk, Dev.bump_core, Dev.cmdDone_core, apply_ite Dev.core, ite_self, apply_ite Prod.snd, apply_ite Prod.fst])
theorem Dev.bmeClear_core (s : Dev) (n : Nat) : (Dev.bmeClear s n).core = s.core := by
  unfold Dev.bmeClear; (repeat' first | with_reducible rfl | (with_reducible refine (foldl_core _ ?_ _ _).trans ?_; intro _ _) | (with_reducible refine (foldl2_core _ ?_ _ _).trans ?_; intro _ _) | (with_reducible refine (foldl1_core _ ?_ _ _).trans ?_; intro _ _) | (simp only [↓core_mk, Dev.bump_core, Dev.cancelFn_core, Dev.discardData_core, Dev.discardWrites_core, Dev.endOn_core, Dev.recordRefresh_core, Dev.setFn_core, Dev.setFstate_core, apply_ite Dev.core, ite_self, apply_ite Prod.snd, apply_ite Prod.fst]; done) | with_reducible refine (pair2_core ‹_›).trans ?_ | with_reducible refine (pair1_core ‹_›).trans ?_ | with_reducible refine ite_to ?_ ?_ | split | simp only [↓core_mk, Dev.bump_core, Dev.cancelFn_core, Dev.discardData_core, Dev.discardWrites_core, Dev.endOn_core, Dev.recordRefresh_core, Dev.setFn_core, Dev.setFstate_core, apply_ite Dev.core, ite_self, apply_ite Prod.snd, apply_ite Prod.fst])
theorem Dev.muteJobs_core (s : Dev) (qk : Nat) : (Dev.muteJobs s qk).core = s.core := by
  unfold Dev.muteJobs; (repeat' first | with_reducible rfl | (with_reducible refine (foldl_core _ ?_ _ _).trans ?_; intro _ _) | (with_reducible refine (foldl2_core _ ?_ _ _).trans ?_; intro _ _) | (with_reducible refine (foldl1_core _ ?_ _ _).trans ?_; intro _ _) | (simp only [↓core_mk, Dev.freeChains_core, Dev.setQueue_core, apply_ite Dev.core, ite_self, apply_ite Prod.snd, apply_ite Prod.fst]; done) | with_reducible refine (pair2_core ‹_›).trans ?_ | with_reducible refine (pair1_core ‹_›).trans ?_ | with_reducible refine ite_to ?_ ?_ | split | simp only [↓core_mk, Dev.freeChains_core, Dev.setQueue_core, apply_ite Dev.core, ite_self, apply_ite Prod.snd, apply_ite Prod.fst])
theorem Dev.stopQueues_core (s : Dev) (n : Nat) : (Dev.stopQueues s n).core = s.core := by
  unfold Dev.stopQueues; (repeat' first | with_reducible rfl | (with_reducible refine (foldl_core _ ?_ _ _).trans ?_; intro _ _) | (with_reducible refine (foldl2_core _ ?_ _ _).trans ?_; intro _ _) | (with_reducible refine (foldl1_core _ ?_ _ _).trans ?_; intro _ _) | (simp only [↓core_mk, Dev.addObj_core, Dev.muteJobs_core, Dev.setFn_core, Dev.setQstate_core, apply_ite Dev.core, ite_self, apply_ite Prod.snd, apply_ite Prod.fst]; done) | with_reducible refine (pair2_core ‹_›).trans ?_ | with_reducible refine (pair1_core ‹_›).trans ?_ | with_reducible refine ite_to ?_ ?_ | split | simp only [↓core_mk, Dev.addObj_core, Dev.muteJobs_core, Dev.setFn_core, Dev.setQstate_core, apply_ite Dev.core, ite_self, apply_ite Prod.snd, apply_ite Prod.fst])
theorem Dev.flrOne_core (s : Dev) (n : Nat) : (Dev.flrOne s n).core = s.core := by
  unfold Dev.flrOne; simp only [Dev.endOn_core, Dev.setFn_core, Dev.setFstate_core, Dev.wipe_core]
theorem Dev.initiateFlr_core (s : Dev) (n : Nat) : (Dev.initiateFlr s n).core = s.core := by
  unfold Dev.initiateFlr; (repeat' first | with_reducible rfl | (with_reducible refine (foldl_core _ ?_ _ _).trans ?_; intro _ _) | (simp only [↓core_mk, Dev.bump_core, Dev.flrOne_core, Dev.setFn_core, Dev.setFstate_core, apply_ite Dev.core, ite_self]; done) | with_reducible refine ite_to ?_ ?_ | split)
theorem Dev.flrComplete_core (s : Dev) (n : Nat) : (Dev.flrComplete s n).core = s.core := by
  unfold Dev.flrComplete; simp only [Dev.emit_core, Dev.endOn_core, Dev.setFn_core, Dev.setFstate_core]
theorem Dev.zeroIndex_core (s : Dev) (qk st : Nat) : (Dev.zeroIndex s qk st).core = s.core := by
  unfold Dev.zeroIndex; (repeat' first | with_reducible rfl | (with_reducible refine (foldl_core _ ?_ _ _).trans ?_; intro _ _) | (with_reducible refine (foldl2_core _ ?_ _ _).trans ?_; intro _ _) | (with_reducible refine (foldl1_core _ ?_ _ _).trans ?_; intro _ _) | (simp only [↓core_mk, Dev.hwWrite_core, apply_ite Dev.core, ite_self, apply_ite Prod.snd, apply_ite Prod.fst]; done) | with_reducible refine (pair2_core ‹_›).trans ?_ | with_reducible refine (pair1_core ‹_›).trans ?_ | with_reducible refine ite_to ?_ ?_ | split | simp only [↓core_mk, Dev.hwWrite_core, apply_ite Dev.core, ite_self, apply_ite Prod.snd, apply_ite Prod.fst])
theorem Dev.resetQueue_core (s : Dev) (qk st : Nat) : (Dev.resetQueue s qk st).core = s.core := by
  unfold Dev.resetQueue; (repeat' first | with_reducible rfl | (with_reducible refine (foldl_core _ ?_ _ _).trans ?_; intro _ _) | (with_reducible refine (foldl2_core _ ?_ _ _).trans ?_; intro _ _) | (with_reducible refine (foldl1_core _ ?_ _ _).trans ?_; intro _ _) | (simp only [↓core_mk, Dev.forgetPosts_core, Dev.newLife_core, Dev.ring_core, Dev.setQstate_core, Dev.updQueue_core, Dev.zeroIndex_core, apply_ite Dev.core, ite_self, apply_ite Prod.snd, apply_ite Prod.fst]; done) | with_reducible refine (pair2_core ‹_›).trans ?_ | with_reducible refine (pair1_core ‹_›).trans ?_ | with_reducible refine ite_to ?_ ?_ | split | simp only [↓core_mk, Dev.forgetPosts_core, Dev.newLife_core, Dev.ring_core, Dev.setQstate_core, Dev.updQueue_core, Dev.zeroIndex_core, apply_ite Dev.core, ite_self, apply_ite Prod.snd, apply_ite Prod.fst])
theorem Dev.postAll_core (s : Dev) (qk : Nat) (a1 : Nat) : ((Dev.postAll s qk a1).2).core = s.core := by
  induction a1 generalizing s with | zero => rfl | succ k ih => (unfold Dev.postAll; dsimp only; repeat' first | with_reducible rfl | (simp only [ih, Dev.writeEntry_core, Dev.setQueue_core, Dev.mirror_core, Dev.bump_core, ↓core_mk, apply_ite Dev.core, ite_self]; done) | (simp only [ih, Dev.writeEntry_core]) | split)
theorem Dev.abortJobs_core (s : Dev) (qk : Nat) : (Dev.abortJobs s qk).core = s.core := by
  unfold Dev.abortJobs; (repeat' first | with_reducible rfl | (with_reducible refine (foldl_core _ ?_ _ _).trans ?_; intro _ _) | (with_reducible refine (foldl2_core _ ?_ _ _).trans ?_; intro _ _) | (with_reducible refine (foldl1_core _ ?_ _ _).trans ?_; intro _ _) | (simp only [↓core_mk, Dev.freeChains_core, Dev.setQueue_core, apply_ite Dev.core, ite_self, apply_ite Prod.snd, apply_ite Prod.fst]; done) | with_reducible refine (pair2_core ‹_›).trans ?_ | with_reducible refine (pair1_core ‹_›).trans ?_ | with_reducible refine ite_to ?_ ?_ | split | simp only [↓core_mk, Dev.freeChains_core, Dev.setQueue_core, apply_ite Dev.core, ite_self, apply_ite Prod.snd, apply_ite Prod.fst])
theorem Dev.abortFn_core (s : Dev) (n : Nat) (own : Bool) : (Dev.abortFn s n own).core = s.core := by
  unfold Dev.abortFn; (repeat' first | with_reducible rfl | (with_reducible refine (foldl_core _ ?_ _ _).trans ?_; intro _ _) | (with_reducible refine (foldl2_core _ ?_ _ _).trans ?_; intro _ _) | (with_reducible refine (foldl1_core _ ?_ _ _).trans ?_; intro _ _) | (simp only [↓core_mk, Dev.abortJobs_core, Dev.cancelFn_core, Dev.discardTxn_core, Dev.freeOwned_core, Dev.postAll_core, Dev.resetQueue_core, apply_ite Dev.core, ite_self, apply_ite Prod.snd, apply_ite Prod.fst]; done) | with_reducible refine (pair2_core ‹_›).trans ?_ | with_reducible refine (pair1_core ‹_›).trans ?_ | with_reducible refine ite_to ?_ ?_ | split | simp only [↓core_mk, Dev.abortJobs_core, Dev.cancelFn_core, Dev.discardTxn_core, Dev.freeOwned_core, Dev.postAll_core, Dev.resetQueue_core, apply_ite Dev.core, ite_self, apply_ite Prod.snd, apply_ite Prod.fst])
theorem Dev.vfEnableSet_core (s : Dev) (n : Nat) : (Dev.vfEnableSet s n).core = s.core := by
  unfold Dev.vfEnableSet; (repeat' first | with_reducible rfl | (with_reducible refine (foldl_core _ ?_ _ _).trans ?_; intro _ _) | (with_reducible refine (foldl2_core _ ?_ _ _).trans ?_; intro _ _) | (with_reducible refine (foldl1_core _ ?_ _ _).trans ?_; intro _ _) | (simp only [↓core_mk, Dev.setFn_core, Dev.setFstate_core, apply_ite Dev.core, ite_self, apply_ite Prod.snd, apply_ite Prod.fst]; done) | with_reducible refine (pair2_core ‹_›).trans ?_ | with_reducible refine (pair1_core ‹_›).trans ?_ | with_reducible refine ite_to ?_ ?_ | split | simp only [↓core_mk, Dev.setFn_core, Dev.setFstate_core, apply_ite Dev.core, ite_self, apply_ite Prod.snd, apply_ite Prod.fst])
theorem Dev.tenantLog_core (s : Dev) (n kind reason count : Nat) : (Dev.tenantLog s n kind reason count).core = s.core := by
  unfold Dev.tenantLog; simp only [Dev.log_core]
theorem Dev.vfGone_core (s : Dev) (v : Nat) : (Dev.vfGone s v).core = s.core := by
  unfold Dev.vfGone; simp only [↓core_mk, Dev.abortFn_core, Dev.bump_core, Dev.endOn_core, Dev.setFstate_core, Dev.tenantLog_core, Dev.wipe_core, apply_ite Dev.core, ite_self]
theorem Dev.vfEnableClear_core (s : Dev) (n : Nat) : (Dev.vfEnableClear s n).core = s.core := by
  unfold Dev.vfEnableClear; (repeat' first | with_reducible rfl | (with_reducible refine (foldl_core _ ?_ _ _).trans ?_; intro _ _) | (simp only [↓core_mk, Dev.setFn_core, Dev.vfGone_core, apply_ite Dev.core, ite_self]; done) | with_reducible refine ite_to ?_ ?_ | split)
theorem Dev.dState_core (s : Dev) (n d : Nat) : (Dev.dState s n d).core = s.core := by
  unfold Dev.dState; simp only [↓core_mk, Dev.drainAll_core, Dev.flushMsix_core, Dev.flushWrites_core, Dev.setFn_core, apply_ite Dev.core, ite_self]
theorem Dev.train_core (s : Dev) (k : Nat) : (Dev.train s k).core = s.core := by
  unfold Dev.train; simp only [Dev.setLink_core, Dev.setObj_core]
theorem Dev.leaveReset_core (s : Dev) (k : Nat) : (Dev.leaveReset s k).core = s.core := by
  unfold Dev.leaveReset; simp only [↓core_mk, Dev.train_core, apply_ite Dev.core, ite_self]
theorem Dev.dueReset_core (s : Dev) (k : Nat) (toTraining : Bool) : (Dev.dueReset s k toTraining).core = s.core := by
  unfold Dev.dueReset; (repeat' first | with_reducible rfl | (simp only [↓core_mk, Dev.setLink_core, apply_ite Dev.core, ite_self, apply_ite Prod.snd, apply_ite Prod.fst]; done) | with_reducible refine (pair2_core ‹_›).trans ?_ | with_reducible refine ite_to ?_ ?_ | split | simp only [↓core_mk, Dev.setLink_core, apply_ite Dev.core, ite_self, apply_ite Prod.snd, apply_ite Prod.fst])
theorem Dev.setPerst_core (s : Dev) (h : Nat) (v : Bool) : (Dev.setPerst s h v).core = s.core := by
  unfold Dev.setPerst; simp only [Dev.setLink_core]
theorem Dev.dropFifo_core (s : Dev) (P : Nat) : (Dev.dropFifo s P).core = s.core := by
  unfold Dev.dropFifo; (repeat' first | with_reducible rfl | (with_reducible refine (foldl_core _ ?_ _ _).trans ?_; intro _ _) | (with_reducible refine (foldl2_core _ ?_ _ _).trans ?_; intro _ _) | (with_reducible refine (foldl1_core _ ?_ _ _).trans ?_; intro _ _) | (simp only [↓core_mk, Dev.jobLost_core, Dev.releaseCopy_core, apply_ite Dev.core, ite_self, apply_ite Prod.snd, apply_ite Prod.fst]; done) | with_reducible refine (pair2_core ‹_›).trans ?_ | with_reducible refine (pair1_core ‹_›).trans ?_ | with_reducible refine ite_to ?_ ?_ | split | simp only [↓core_mk, Dev.jobLost_core, Dev.releaseCopy_core, apply_ite Dev.core, ite_self, apply_ite Prod.snd, apply_ite Prod.fst])
theorem Dev.linkReset_core (s : Dev) (k : Nat) (toTraining : Bool) : (Dev.linkReset s k toTraining).core = s.core := by
  unfold Dev.linkReset; (repeat' first | with_reducible rfl | (with_reducible refine (foldl_core _ ?_ _ _).trans ?_; intro _ _) | (with_reducible refine (foldl2_core _ ?_ _ _).trans ?_; intro _ _) | (with_reducible refine (foldl1_core _ ?_ _ _).trans ?_; intro _ _) | (simp only [↓core_mk, Dev.bump_core, Dev.dropFifo_core, Dev.endOn_core, Dev.flushJobs_core, Dev.leaveReset_core, Dev.setFn_core, Dev.setFstate_core, Dev.setLink_core, Dev.setObj_core, Dev.train_core, Dev.wipe_core, apply_ite Dev.core, ite_self, apply_ite Prod.snd, apply_ite Prod.fst]; done) | with_reducible refine (pair2_core ‹_›).trans ?_ | with_reducible refine (pair1_core ‹_›).trans ?_ | with_reducible refine ite_to ?_ ?_ | split | simp only [↓core_mk, Dev.bump_core, Dev.dropFifo_core, Dev.endOn_core, Dev.flushJobs_core, Dev.leaveReset_core, Dev.setFn_core, Dev.setFstate_core, Dev.setLink_core, Dev.setObj_core, Dev.train_core, Dev.wipe_core, apply_ite Dev.core, ite_self, apply_ite Prod.snd, apply_ite Prod.fst])
theorem Dev.functionsReady_core (s : Dev) (k : Nat) : (Dev.functionsReady s k).core = s.core := by
  unfold Dev.functionsReady; (repeat' first | with_reducible rfl | (with_reducible refine (foldl_core _ ?_ _ _).trans ?_; intro _ _) | (with_reducible refine (foldl2_core _ ?_ _ _).trans ?_; intro _ _) | (with_reducible refine (foldl1_core _ ?_ _ _).trans ?_; intro _ _) | (simp only [↓core_mk, Dev.emit_core, Dev.setFn_core, Dev.setFstate_core, Dev.setObj_core, apply_ite Dev.core, ite_self, apply_ite Prod.snd, apply_ite Prod.fst]; done) | with_reducible refine (pair2_core ‹_›).trans ?_ | with_reducible refine (pair1_core ‹_›).trans ?_ | with_reducible refine ite_to ?_ ?_ | split | simp only [↓core_mk, Dev.emit_core, Dev.setFn_core, Dev.setFstate_core, Dev.setObj_core, apply_ite Dev.core, ite_self, apply_ite Prod.snd, apply_ite Prod.fst])
theorem Dev.refclkLost_core (s : Dev) (h : Nat) : (Dev.refclkLost s h).core = s.core := by
  unfold Dev.refclkLost; (repeat' first | with_reducible rfl | (simp only [↓core_mk, Dev.dueReset_core, Dev.notify_core, Dev.setObj_core, apply_ite Dev.core, ite_self, apply_ite Prod.snd, apply_ite Prod.fst]; done) | with_reducible refine (pair2_core ‹_›).trans ?_ | with_reducible refine ite_to ?_ ?_ | split | simp only [↓core_mk, Dev.dueReset_core, Dev.notify_core, Dev.setObj_core, apply_ite Dev.core, ite_self, apply_ite Prod.snd, apply_ite Prod.fst])
theorem Dev.boxStatus_core (s : Dev) (n : Nat) : (Dev.boxStatus s n).core = s.core := by
  unfold Dev.boxStatus; simp only [↓core_mk, Dev.hostWrite_core, Dev.setBox_core, apply_ite Dev.core, ite_self]
theorem Dev.boxControl_core (s : Dev) (f w : Nat) : (Dev.boxControl s f w).core = s.core := by
  unfold Dev.boxControl; (repeat' first | with_reducible rfl | (with_reducible refine (foldl_core _ ?_ _ _).trans ?_; intro _ _) | (with_reducible refine (foldl2_core _ ?_ _ _).trans ?_; intro _ _) | (with_reducible refine (foldl1_core _ ?_ _ _).trans ?_; intro _ _) | (simp only [↓core_mk, Dev.addObj_core, Dev.boxStatus_core, Dev.bump_core, Dev.intr_core, Dev.setBox_core, apply_ite Dev.core, ite_self, apply_ite Prod.snd, apply_ite Prod.fst]; done) | with_reducible refine (pair2_core ‹_›).trans ?_ | with_reducible refine (pair1_core ‹_›).trans ?_ | with_reducible refine ite_to ?_ ?_ | split | simp only [↓core_mk, Dev.addObj_core, Dev.boxStatus_core, Dev.bump_core, Dev.intr_core, Dev.setBox_core, apply_ite Dev.core, ite_self, apply_ite Prod.snd, apply_ite Prod.fst])
theorem Dev.boxWrite_core (s : Dev) (f n off : Nat) (bs : List Nat) : (Dev.boxWrite s f n off bs).core = s.core := by
  unfold Dev.boxWrite; simp only [↓core_mk, Dev.bump_core, Dev.setBox_core, apply_ite Dev.core, ite_self]
theorem Dev.adminRead_core (s : Dev) (n desc : Nat) : (Dev.adminRead s n desc).core = s.core := by
  unfold Dev.adminRead; simp only [Dev.consume_core, Dev.updQueue_core]
theorem Dev.adminSlot_core (s : Dev) (n desc : Nat) (f : Dev → Dev) (hf : ∀ t, (f t).core = t.core) : (Dev.adminSlot s n desc f).core = s.core := by
  exact Dev.onSlot_core _ _ _ _ _ _ (fun t s => (hf _).trans ((Dev.adminRead_core _ _ _).trans (Dev.returnTag_core _ _ _)))
theorem Dev.adminBegin_core (s : Dev) (n : Nat) (op : AdminOp) : (Dev.adminBegin s n op).core = s.core := id rfl
theorem Dev.adminDisable_core (s : Dev) (n : Nat) : (Dev.adminDisable s n).core = s.core := by
  unfold Dev.adminDisable; simp only [Dev.dropQueue_core, Dev.setFn_core, Dev.setQstate_core]
theorem Dev.takeG_core (s : Dev) : ((Dev.takeG s).2).core = s.core := by
  unfold Dev.takeG; simp only [Dev.fresh_core]
theorem Dev.addQueue_core (s : Dev) (qk : Nat) (q : Queue) : ((Dev.addQueue s qk q).2).core = s.core := by
  unfold Dev.addQueue; simp only [Dev.newLife_core, Dev.setQstate_core, Dev.setQueue_core, Dev.takeG_core]
theorem Dev.adminApply_core (s : Dev) (n : Nat) : (Dev.adminApply s n).core = s.core := by
  unfold Dev.adminApply; simp only [↓core_mk, Dev.addQueue_core, Dev.setFn_core, Dev.setFstate_core, apply_ite Dev.core, ite_self]
theorem Dev.installQueue_core (s : Dev) (qk : Nat) (q : Queue) : (Dev.installQueue s qk q).core = s.core := by
  unfold Dev.installQueue; simp only [Dev.newLife_core, Dev.setQueue_core, Dev.takeG_core]
theorem Dev.adminPeer_core (s : Dev) (n qk result : Nat) (m : MirrorMsg) : (Dev.adminPeer s n qk result m).core = s.core := by
  unfold Dev.adminPeer; simp only [↓core_mk, Dev.adminBegin_core, Dev.adminDone_core, Dev.mirrorSync_core, apply_ite Dev.core, ite_self]
theorem Dev.createApply_core (s : Dev) (n desc : Nat) : (Dev.createApply s n desc).core = s.core := by
  unfold Dev.createApply; simp only [↓core_mk, Dev.addQueue_core, Dev.adminDone_core, Dev.adminPeer_core, apply_ite Dev.core, ite_self]
theorem Dev.endUnstarted_core (s : Dev) (qk : Nat) : (Dev.endUnstarted s qk).core = s.core := by
  unfold Dev.endUnstarted; (repeat' first | with_reducible rfl | (with_reducible refine (foldl_core _ ?_ _ _).trans ?_; intro _ _) | (with_reducible refine (foldl2_core _ ?_ _ _).trans ?_; intro _ _) | (with_reducible refine (foldl1_core _ ?_ _ _).trans ?_; intro _ _) | (simp only [↓core_mk, Dev.freeChains_core, Dev.setQueue_core, apply_ite Dev.core, ite_self, apply_ite Prod.snd, apply_ite Prod.fst]; done) | with_reducible refine (pair2_core ‹_›).trans ?_ | with_reducible refine (pair1_core ‹_›).trans ?_ | with_reducible refine ite_to ?_ ?_ | split | simp only [↓core_mk, Dev.freeChains_core, Dev.setQueue_core, apply_ite Dev.core, ite_self, apply_ite Prod.snd, apply_ite Prod.fst])
theorem Dev.stopBegin_core (s : Dev) (n desc : Nat) (destroy : Bool) : (Dev.stopBegin s n desc destroy).core = s.core := by
  unfold Dev.stopBegin; (repeat' first | with_reducible rfl | (with_reducible refine (foldl_core _ ?_ _ _).trans ?_; intro _ _) | (with_reducible refine (foldl2_core _ ?_ _ _).trans ?_; intro _ _) | (with_reducible refine (foldl1_core _ ?_ _ _).trans ?_; intro _ _) | (simp only [↓core_mk, Dev.adminBegin_core, Dev.adminDone_core, Dev.endUnstarted_core, Dev.setQueue_core, apply_ite Dev.core, ite_self, apply_ite Prod.snd, apply_ite Prod.fst]; done) | with_reducible refine (pair2_core ‹_›).trans ?_ | with_reducible refine (pair1_core ‹_›).trans ?_ | with_reducible refine ite_to ?_ ?_ | split | simp only [↓core_mk, Dev.adminBegin_core, Dev.adminDone_core, Dev.endUnstarted_core, Dev.setQueue_core, apply_ite Dev.core, ite_self, apply_ite Prod.snd, apply_ite Prod.fst])
theorem Dev.stopStep_core (s : Dev) (n qk : Nat) : (Dev.stopStep s n qk).core = s.core := by
  unfold Dev.stopStep; (repeat' first | with_reducible rfl | (with_reducible refine (foldl_core _ ?_ _ _).trans ?_; intro _ _) | (with_reducible refine (foldl2_core _ ?_ _ _).trans ?_; intro _ _) | (with_reducible refine (foldl1_core _ ?_ _ _).trans ?_; intro _ _) | (simp only [↓core_mk, Dev.adminDone_core, Dev.adminPeer_core, Dev.dropQueue_core, Dev.flushJobs_core, Dev.postAll_core, Dev.resetQueue_core, Dev.setQstate_core, apply_ite Dev.core, ite_self, apply_ite Prod.snd, apply_ite Prod.fst]; done) | with_reducible refine (pair2_core ‹_›).trans ?_ | with_reducible refine (pair1_core ‹_›).trans ?_ | with_reducible refine ite_to ?_ ?_ | split | simp only [↓core_mk, Dev.adminDone_core, Dev.adminPeer_core, Dev.dropQueue_core, Dev.flushJobs_core, Dev.postAll_core, Dev.resetQueue_core, Dev.setQstate_core, apply_ite Dev.core, ite_self, apply_ite Prod.snd, apply_ite Prod.fst])
theorem Dev.abortBegin_core (s : Dev) (n desc : Nat) : (Dev.abortBegin s n desc).core = s.core := by
  unfold Dev.abortBegin; simp only [↓core_mk, Dev.abortFn_core, Dev.adminBegin_core, Dev.adminDone_core, Dev.bump_core, Dev.setFn_core, Dev.setFstate_core, apply_ite Dev.core, ite_self]
theorem Dev.abortDone_core (s : Dev) (n : Nat) : (Dev.abortDone s n).core = s.core := by
  unfold Dev.abortDone; (repeat' first | with_reducible rfl | (simp only [↓core_mk, Dev.endOn_core, Dev.setFstate_core, apply_ite Dev.core, ite_self]; done) | with_reducible refine ite_to ?_ ?_ | split)
theorem Dev.quiesceBegin_core (s : Dev) (n desc : Nat) : (Dev.quiesceBegin s n desc).core = s.core := by
  unfold Dev.quiesceBegin; simp only [↓core_mk, Dev.adminBegin_core, Dev.adminDone_core, Dev.bump_core, Dev.discardTxn_core, Dev.setFn_core, apply_ite Dev.core, ite_self]
theorem Dev.quiesceEnd_core (s : Dev) (n forced : Nat) : (Dev.quiesceEnd s n forced).core = s.core := by
  unfold Dev.quiesceEnd; (repeat' first | with_reducible rfl | (with_reducible refine (foldl_core _ ?_ _ _).trans ?_; intro _ _) | (with_reducible refine (foldl2_core _ ?_ _ _).trans ?_; intro _ _) | (with_reducible refine (foldl1_core _ ?_ _ _).trans ?_; intro _ _) | (simp only [↓core_mk, Dev.hwWrite_core, Dev.adminDone_core, Dev.setFn_core, Dev.setFstate_core, Dev.setObj_core, Dev.setQstate_core, apply_ite Dev.core, ite_self, apply_ite Prod.snd, apply_ite Prod.fst]; done) | with_reducible refine (pair2_core ‹_›).trans ?_ | with_reducible refine (pair1_core ‹_›).trans ?_ | with_reducible refine ite_to ?_ ?_ | split | simp only [↓core_mk, Dev.hwWrite_core, Dev.adminDone_core, Dev.setFn_core, Dev.setFstate_core, Dev.setObj_core, Dev.setQstate_core, apply_ite Dev.core, ite_self, apply_ite Prod.snd, apply_ite Prod.fst])
theorem Dev.postFit_core (s : Dev) (qk : Nat) (a1 : Nat) : (Dev.postFit s qk a1).core = s.core := by
  fun_induction Dev.postFit <;> simp_all only [Dev.postAct_core]
theorem Dev.quiesceForce_core (s : Dev) (n : Nat) : (Dev.quiesceForce s n).core = s.core := by
  unfold Dev.quiesceForce; (repeat' first | with_reducible rfl | (with_reducible refine (foldl_core _ ?_ _ _).trans ?_; intro _ _) | (with_reducible refine (foldl2_core _ ?_ _ _).trans ?_; intro _ _) | (with_reducible refine (foldl1_core _ ?_ _ _).trans ?_; intro _ _) | (simp only [↓core_mk, Dev.addObj_core, Dev.jobFail_core, Dev.postFit_core, Dev.quiesceEnd_core, Dev.tenantLog_core, apply_ite Dev.core, ite_self, apply_ite Prod.snd, apply_ite Prod.fst]; done) | with_reducible refine (pair2_core ‹_›).trans ?_ | with_reducible refine (pair1_core ‹_›).trans ?_ | with_reducible refine ite_to ?_ ?_ | split | simp only [↓core_mk, Dev.addObj_core, Dev.jobFail_core, Dev.postFit_core, Dev.quiesceEnd_core, Dev.tenantLog_core, apply_ite Dev.core, ite_self, apply_ite Prod.snd, apply_ite Prod.fst])
theorem Dev.runQueues_core (s : Dev) (n : Nat) : (Dev.runQueues s n).core = s.core := by
  unfold Dev.runQueues; (repeat' first | with_reducible rfl | (with_reducible refine (foldl_core _ ?_ _ _).trans ?_; intro _ _) | (simp only [↓core_mk, Dev.ringHeld_core, Dev.setQstate_core, apply_ite Dev.core, ite_self]; done) | with_reducible refine ite_to ?_ ?_ | split)
theorem Dev.resumeApply_core (s : Dev) (n t : Nat) : (Dev.resumeApply s n t).core = s.core := by
  unfold Dev.resumeApply; (repeat' first | with_reducible rfl | (simp only [↓core_mk, Dev.adminDone_core, Dev.runQueues_core, Dev.setFstate_core, Dev.setObj_core, apply_ite Dev.core, ite_self, apply_ite Prod.snd, apply_ite Prod.fst]; done) | with_reducible refine (pair2_core ‹_›).trans ?_ | with_reducible refine ite_to ?_ ?_ | split | simp only [↓core_mk, Dev.adminDone_core, Dev.runQueues_core, Dev.setFstate_core, Dev.setObj_core, apply_ite Dev.core, ite_self, apply_ite Prod.snd, apply_ite Prod.fst])
theorem Dev.reassign_core (s : Dev) (n : Nat) : (Dev.reassign s n).core = s.core := by
  unfold Dev.reassign; (repeat' first | with_reducible rfl | (with_reducible refine (foldl_core _ ?_ _ _).trans ?_; intro _ _) | (with_reducible refine (foldl2_core _ ?_ _ _).trans ?_; intro _ _) | (with_reducible refine (foldl1_core _ ?_ _ _).trans ?_; intro _ _) | (simp only [↓core_mk, Dev.flushJobs_core, Dev.setFstate_core, Dev.setQstate_core, Dev.wipe_core, apply_ite Dev.core, ite_self, apply_ite Prod.snd, apply_ite Prod.fst]; done) | with_reducible refine (pair2_core ‹_›).trans ?_ | with_reducible refine (pair1_core ‹_›).trans ?_ | with_reducible refine ite_to ?_ ?_ | split | simp only [↓core_mk, Dev.flushJobs_core, Dev.setFstate_core, Dev.setQstate_core, Dev.wipe_core, apply_ite Dev.core, ite_self, apply_ite Prod.snd, apply_ite Prod.fst])
theorem Dev.putByte_clock (s : Dev) (a b : Nat) : (Dev.putByte s a b).clock = s.clock := id rfl
theorem Dev.putBytes_clock (s : Dev) (a1 : Nat) (a2 : List Nat) : (Dev.putBytes s a1 a2).clock = s.clock := by
  fun_induction Dev.putBytes <;> (try simp_all only []) <;> ((repeat' first | with_reducible rfl | (simp only [↓clock_mk, Dev.putByte_clock, apply_ite Dev.clock, ite_self]; done) | with_reducible refine ite_to ?_ ?_ | split))
theorem Dev.store1_clock (s : Dev) (a b : Nat) : (Dev.store1 s a b).clock = s.clock := by
  unfold Dev.store1; (repeat' first | with_reducible rfl | (simp only [↓clock_mk, Dev.putByte_clock, (clock_of_core (Dev.setChain_core _ _ _)), (clock_of_core (Dev.setObj_core _ _ _ _)), apply_ite Dev.clock, ite_self]; done) | with_reducible refine ite_to ?_ ?_ | split)
theorem Dev.storeN_clock (s : Dev) (a1 : Nat) (a2 : List Nat) : (Dev.storeN s a1 a2).clock = s.clock := by
  fun_induction Dev.storeN <;> (try simp_all only []) <;> ((repeat' first | with_reducible rfl | (simp only [↓clock_mk, Dev.store1_clock, apply_ite Dev.clock, ite_self]; done) | with_reducible refine ite_to ?_ ?_ | split))
theorem Dev.countWalk_core (s : Dev) (d : Nat) (r : ParseResult) : (Dev.countWalk s d r).core = s.core := by
  unfold Dev.countWalk; simp only [↓core_mk, Dev.addObj_core, Dev.bump_core, apply_ite Dev.core, ite_self]
theorem Dev.countProbes_core (s : Dev) (d placement : Nat) (bs : List Nat) : (Dev.countProbes s d placement bs).core = s.core := by
  unfold Dev.countProbes; simp only [↓core_mk, Dev.addObj_core, apply_ite Dev.core, ite_self]

end Sys2Proof.Machine
end

