-- ==== Sys2Proof/Laws/FrameParcels.lean ====
section
/-! SUPPORT. Frame lemmas of tables, the sorter, drawers, the cipher, the postmark unit and the matcher: each leaves the part, the tick counter and, but for `_clock` lemmas, the bytes of
memory alone. -/
set_option linter.unusedSimpArgs false
set_option linter.unusedVariables false
set_option maxRecDepth 8000
namespace Sys2Proof.Machine

theorem Dev.setHot_core (s : Dev) (set : Nat) (l : List HotRec) : (Dev.setHot s set l).core = s.core := id rfl
theorem Dev.setEntry_core (s : Dev) (place : Nat) (e : EmEntry) : (Dev.setEntry s place e).core = s.core := id rfl
theorem Dev.setHit_core (s : Dev) (place : Nat) : (Dev.setHit s place).core = s.core := by
  unfold Dev.setHit; (repeat' first | with_reducible rfl | (simp only [↓core_mk, Dev.setEntry_core, apply_ite Dev.core, ite_self]; done) | with_reducible refine ite_to ?_ ?_ | split)
theorem Dev.mergeHits_core (s : Dev) (rs : List HotRec) : (Dev.mergeHits s rs).core = s.core := by
  unfold Dev.mergeHits; (repeat' first | with_reducible rfl | (with_reducible refine (foldl_core _ ?_ _ _).trans ?_; intro _ _) | (simp only [↓core_mk, Dev.setHit_core, apply_ite Dev.core, ite_self]; done) | with_reducible refine ite_to ?_ ?_ | split)
theorem Dev.hotFill_core (s : Dev) (t d place : Nat) (e : EmEntry) : ((Dev.hotFill s t d place e).1).core = s.core := by
  unfold Dev.hotFill; (repeat' first | with_reducible rfl | (simp only [↓core_mk, Dev.mergeHits_core, Dev.setHot_core, apply_ite Dev.core, ite_self]; done) | with_reducible refine ite_to ?_ ?_ | split)
theorem Dev.hotDrop_core (s : Dev) (place : Nat) (keepHit : Bool) : (Dev.hotDrop s place keepHit).core = s.core := by
  unfold Dev.hotDrop; simp only [↓core_mk, Dev.mergeHits_core, apply_ite Dev.core, ite_self]
theorem Dev.hotFlush_core (s : Dev) (bport : Nat) : (Dev.hotFlush s bport).core = s.core := by
  unfold Dev.hotFlush; simp only [↓core_mk, Dev.mergeHits_core]
theorem Dev.emRemove_core (s : Dev) (place : Nat) : (Dev.emRemove s place).core = s.core := by
  unfold Dev.emRemove; (repeat' first | with_reducible rfl | (simp only [↓core_mk, Dev.drop1_core, Dev.hotDrop_core, apply_ite Dev.core, ite_self]; done) | with_reducible refine ite_to ?_ ?_ | split)
theorem Dev.emWrite_core (s : Dev) (t place : Nat) (e : EmEntry) : (Dev.emWrite s t place e).core = s.core := by
  unfold Dev.emWrite; simp only [Dev.bump_core, Dev.emRemove_core, Dev.setEntry_core]
theorem Dev.emInsert_core (s : Dev) (r : Nat) : ((Dev.emInsert s r).2).core = s.core := by
  unfold Dev.emInsert; (repeat' first | with_reducible rfl | (simp only [↓core_mk, Dev.bump_core, Dev.emWrite_core, apply_ite Dev.core, ite_self, apply_ite Prod.snd, apply_ite Prod.fst]; done) | with_reducible refine (pair2_core ‹_›).trans ?_ | with_reducible refine ite_to ?_ ?_ | split | simp only [↓core_mk, Dev.bump_core, Dev.emWrite_core, apply_ite Dev.core, ite_self, apply_ite Prod.snd, apply_ite Prod.fst])
theorem Dev.emDelete_core (s : Dev) (r : Nat) : ((Dev.emDelete s r).2).core = s.core := by
  unfold Dev.emDelete; (repeat' first | with_reducible rfl | (simp only [↓core_mk, Dev.emRemove_core, apply_ite Dev.core, ite_self]; done) | with_reducible refine ite_to ?_ ?_ | split)
theorem Dev.emFlush_core (s : Dev) (r : Nat) (dyn sta : List Nat) : ((Dev.emFlush s r dyn sta).2.1).core = s.core := by
  unfold Dev.emFlush; (repeat' first | with_reducible rfl | (simp only [↓core_mk, Dev.bump_core, apply_ite Dev.core, ite_self, apply_ite Prod.snd, apply_ite Prod.fst]; done) | with_reducible refine (pair2_core ‹_›).trans ?_ | with_reducible refine ite_to ?_ ?_ | split | simp only [↓core_mk, Dev.bump_core, apply_ite Dev.core, ite_self, apply_ite Prod.snd, apply_ite Prod.fst])
theorem Dev.emAnswer_core (s : Dev) (viaPort : Bool) (who seq res : Nat) : (Dev.emAnswer s viaPort who seq res).core = s.core := by
  unfold Dev.emAnswer; simp only [↓core_mk, Dev.portDone_core, Dev.setObj_core, apply_ite Dev.core, ite_self]
theorem Dev.emAccept_core (s : Dev) (viaPort : Bool) (who seq r : Nat) : (Dev.emAccept s viaPort who seq r).core = s.core := by
  unfold Dev.emAccept; (repeat' first | with_reducible rfl | (simp only [↓core_mk, Dev.emAnswer_core, Dev.emQueue_core, apply_ite Dev.core, ite_self]; done) | with_reducible refine ite_to ?_ ?_ | split)
theorem Dev.emLearn_core (s : Dev) (t key b : Nat) : (Dev.emLearn s t key b).core = s.core := by
  unfold Dev.emLearn; (repeat' first | with_reducible rfl | (with_reducible refine (foldl_core _ ?_ _ _).trans ?_; intro _ _) | (with_reducible refine (foldl2_core _ ?_ _ _).trans ?_; intro _ _) | (with_reducible refine (foldl1_core _ ?_ _ _).trans ?_; intro _ _) | (simp only [↓core_mk, Dev.bump_core, Dev.drop1_core, Dev.emWrite_core, apply_ite Dev.core, ite_self, apply_ite Prod.snd, apply_ite Prod.fst]; done) | with_reducible refine (pair2_core ‹_›).trans ?_ | with_reducible refine (pair1_core ‹_›).trans ?_ | with_reducible refine ite_to ?_ ?_ | split | simp only [↓core_mk, Dev.bump_core, Dev.drop1_core, Dev.emWrite_core, apply_ite Dev.core, ite_self, apply_ite Prod.snd, apply_ite Prod.fst])
theorem Dev.emMove_core (s : Dev) (t key b : Nat) : (Dev.emMove s t key b).core = s.core := by
  unfold Dev.emMove; (repeat' first | with_reducible rfl | (with_reducible refine (foldl_core _ ?_ _ _).trans ?_; intro _ _) | (with_reducible refine (foldl2_core _ ?_ _ _).trans ?_; intro _ _) | (with_reducible refine (foldl1_core _ ?_ _ _).trans ?_; intro _ _) | (simp only [↓core_mk, Dev.bump_core, Dev.emWrite_core, apply_ite Dev.core, ite_self, apply_ite Prod.snd, apply_ite Prod.fst]; done) | with_reducible refine (pair2_core ‹_›).trans ?_ | with_reducible refine (pair1_core ‹_›).trans ?_ | with_reducible refine ite_to ?_ ?_ | split | simp only [↓core_mk, Dev.bump_core, Dev.emWrite_core, apply_ite Dev.core, ite_self, apply_ite Prod.snd, apply_ite Prod.fst])
theorem Dev.learnNow_core (s : Dev) (t key b : Nat) : ((Dev.learnNow s t key b).2).core = s.core := by
  unfold Dev.learnNow; (repeat' first | with_reducible rfl | (with_reducible refine (foldl_core _ ?_ _ _).trans ?_; intro _ _) | (with_reducible refine (foldl2_core _ ?_ _ _).trans ?_; intro _ _) | (with_reducible refine (foldl1_core _ ?_ _ _).trans ?_; intro _ _) | (simp only [↓core_mk, Dev.bump_core, Dev.emLearn_core, Dev.emMove_core, apply_ite Dev.core, ite_self, apply_ite Prod.snd, apply_ite Prod.fst]; done) | with_reducible refine (pair2_core ‹_›).trans ?_ | with_reducible refine (pair1_core ‹_›).trans ?_ | with_reducible refine ite_to ?_ ?_ | split | simp only [↓core_mk, Dev.bump_core, Dev.emLearn_core, Dev.emMove_core, apply_ite Dev.core, ite_self, apply_ite Prod.snd, apply_ite Prod.fst])
theorem Dev.emGone_core (s : Dev) (t key : Nat) (aged : Bool) : (Dev.emGone s t key aged).core = s.core := by
  unfold Dev.emGone; (repeat' first | with_reducible rfl | (simp only [↓core_mk, Dev.bump_core, Dev.emRemove_core, apply_ite Dev.core, ite_self]; done) | with_reducible refine ite_to ?_ ?_ | split)
theorem Dev.emRestore_core (s : Dev) (n t key : Nat) : (Dev.emRestore s n t key).core = s.core := by
  unfold Dev.emRestore; (repeat' first | with_reducible rfl | (with_reducible refine (foldl_core _ ?_ _ _).trans ?_; intro _ _) | (with_reducible refine (foldl2_core _ ?_ _ _).trans ?_; intro _ _) | (with_reducible refine (foldl1_core _ ?_ _ _).trans ?_; intro _ _) | (simp only [↓core_mk, Dev.learnNow_core, apply_ite Dev.core, ite_self, apply_ite Prod.snd, apply_ite Prod.fst]; done) | with_reducible refine (pair2_core ‹_›).trans ?_ | with_reducible refine (pair1_core ‹_›).trans ?_ | with_reducible refine ite_to ?_ ?_ | split | simp only [↓core_mk, Dev.learnNow_core, apply_ite Dev.core, ite_self, apply_ite Prod.snd, apply_ite Prod.fst])
theorem Dev.emSweepRemove_core (s : Dev) (t place : Nat) (aged : Bool) (seen : EmEntry) : (Dev.emSweepRemove s t place aged seen).core = s.core := by
  unfold Dev.emSweepRemove; (repeat' first | with_reducible rfl | (simp only [↓core_mk, Dev.bump_core, Dev.emRemove_core, Dev.mirror_core, apply_ite Dev.core, ite_self]; done) | with_reducible refine ite_to ?_ ?_ | split)
theorem Dev.emApplyOne_core (acc : Dev × Nat × List Nat × List Nat × List (Nat × EmOp)) (o : Nat × EmOp) : ((Dev.emApplyOne acc o).1).core = acc.1.core := by
  unfold Dev.emApplyOne; dsimp only; repeat' first | with_reducible rfl | (simp only [Dev.emSweepRemove_core, Dev.emGone_core, Dev.emRestore_core, Dev.emInsert_core, Dev.emDelete_core, Dev.emFlush_core, Dev.emAnswer_core, Dev.drop1_core, Dev.bump_core, Dev.emLearn_core, Dev.emMove_core]; done) | split
theorem Dev.tableCommits_core (s : Dev) : (Dev.tableCommits s).core = s.core := by
  unfold Dev.tableCommits; dsimp only; refine (foldl_core _ (fun _ _ => Dev.hotFlush_core _ _) _ _).trans (Eq.trans (core_mk _) ?_); split; · exact (foldl1_core Dev.emApplyOne Dev.emApplyOne_core _ _).trans (core_mk _)
  · exact (Dev.setObj_core _ _ _ _).trans ((foldl1_core Dev.emApplyOne Dev.emApplyOne_core _ _).trans (core_mk _))
theorem Dev.sweepEntry_core (t : Nat) (s : Dev) (pe : Nat × EmEntry) : (Dev.sweepEntry t s pe).core = s.core := by
  unfold Dev.sweepEntry; (repeat' first | with_reducible rfl | (simp only [↓core_mk, Dev.setEntry_core, apply_ite Dev.core, ite_self]; done) | with_reducible refine ite_to ?_ ?_ | split)
theorem Dev.sweepBegin_core (s : Dev) : (Dev.sweepBegin s).core = s.core := by
  unfold Dev.sweepBegin; (repeat' first | with_reducible rfl | (with_reducible refine (foldl_core _ ?_ _ _).trans ?_; intro _ _) | (with_reducible refine (foldl2_core _ ?_ _ _).trans ?_; intro _ _) | (with_reducible refine (foldl1_core _ ?_ _ _).trans ?_; intro _ _) | (simp only [↓core_mk, apply_ite Dev.core, ite_self, apply_ite Prod.snd, apply_ite Prod.fst]; done) | with_reducible refine (pair2_core ‹_›).trans ?_ | with_reducible refine (pair1_core ‹_›).trans ?_ | with_reducible refine ite_to ?_ ?_ | split | simp only [↓core_mk, apply_ite Dev.core, ite_self, apply_ite Prod.snd, apply_ite Prod.fst])
theorem Dev.sweepRange_core (s : Dev) (t lo hi : Nat) : (Dev.sweepRange s t lo hi).core = s.core := by
  unfold Dev.sweepRange; (repeat' first | with_reducible rfl | (with_reducible refine (foldl_core _ ?_ _ _).trans ?_; intro _ _) | (with_reducible refine (foldl2_core _ ?_ _ _).trans ?_; intro _ _) | (with_reducible refine (foldl1_core _ ?_ _ _).trans ?_; intro _ _) | (simp only [↓core_mk, Dev.sweepEntry_core, apply_ite Dev.core, ite_self, apply_ite Prod.snd, apply_ite Prod.fst]; done) | with_reducible refine (pair2_core ‹_›).trans ?_ | with_reducible refine (pair1_core ‹_›).trans ?_ | with_reducible refine ite_to ?_ ?_ | split | simp only [↓core_mk, Dev.sweepEntry_core, apply_ite Dev.core, ite_self, apply_ite Prod.snd, apply_ite Prod.fst])
theorem sweepTable_core (pos : Nat × Nat) (acc : Nat × Option (Nat × Nat) × Dev) (t : Nat) : (sweepTable pos acc t).2.2.core = acc.2.2.core := by
  unfold sweepTable; dsimp only; split
  · rfl
  · exact Dev.sweepRange_core _ _ _ _
theorem Dev.sweepPassEnd_core (s : Dev) : (Dev.sweepPassEnd s).core = s.core := by
  unfold Dev.sweepPassEnd; (repeat' first | with_reducible rfl | (with_reducible refine (foldl_core _ ?_ _ _).trans ?_; intro _ _) | (with_reducible refine (foldl2_core _ ?_ _ _).trans ?_; intro _ _) | (with_reducible refine (foldl1_core _ ?_ _ _).trans ?_; intro _ _) | (simp only [↓core_mk, Dev.setObj_core, apply_ite Dev.core, ite_self, apply_ite Prod.snd, apply_ite Prod.fst]; done) | with_reducible refine (pair2_core ‹_›).trans ?_ | with_reducible refine (pair1_core ‹_›).trans ?_ | with_reducible refine ite_to ?_ ?_ | split | simp only [↓core_mk, Dev.setObj_core, apply_ite Dev.core, ite_self, apply_ite Prod.snd, apply_ite Prod.fst])
theorem Dev.sweep_core (s : Dev) : (Dev.sweep s).core = s.core := by
  have h := (foldl22_core (sweepTable s.em.sweepPos) (sweepTable_core _) (List.range 64) (128, none, s.sweepBegin)).trans s.sweepBegin_core
  unfold Dev.sweep; dsimp only; split
  · exact (core_mk _).trans h
  · exact (Dev.sweepPassEnd_core _).trans h
theorem Dev.hotTouch_core (s : Dev) (set place : Nat) (refresh : Bool) : (Dev.hotTouch s set place refresh).core = s.core := by
  unfold Dev.hotTouch; (repeat' first | with_reducible rfl | (simp only [↓core_mk, Dev.setHot_core, apply_ite Dev.core, ite_self, apply_ite Prod.snd, apply_ite Prod.fst]; done) | with_reducible refine (pair2_core ‹_›).trans ?_ | with_reducible refine ite_to ?_ ?_ | split | simp only [↓core_mk, Dev.setHot_core, apply_ite Dev.core, ite_self, apply_ite Prod.snd, apply_ite Prod.fst])
theorem Dev.emLookup_core (s : Dev) (t key d : Nat) (cold : Bool) (refresh : EmEntry → Bool) : ((Dev.emLookup s t key d cold refresh).2).core = s.core := by
  unfold Dev.emLookup; (repeat' first | with_reducible rfl | (with_reducible refine (foldl_core _ ?_ _ _).trans ?_; intro _ _) | (with_reducible refine (foldl2_core _ ?_ _ _).trans ?_; intro _ _) | (with_reducible refine (foldl1_core _ ?_ _ _).trans ?_; intro _ _) | (simp only [↓core_mk, Dev.bump_core, Dev.hotFill_core, Dev.hotTouch_core, Dev.setHit_core, apply_ite Dev.core, ite_self, apply_ite Prod.snd, apply_ite Prod.fst]; done) | with_reducible refine (pair2_core ‹_›).trans ?_ | with_reducible refine (pair1_core ‹_›).trans ?_ | with_reducible refine ite_to ?_ ?_ | split | simp only [↓core_mk, Dev.bump_core, Dev.hotFill_core, Dev.hotTouch_core, Dev.setHit_core, apply_ite Dev.core, ite_self, apply_ite Prod.snd, apply_ite Prod.fst])
theorem Dev.emPush_core (s : Dev) (o : EmOp) : (Dev.emPush s o).core = s.core := by
  unfold Dev.emPush; (repeat' first | with_reducible rfl | (with_reducible refine (foldl_core _ ?_ _ _).trans ?_; intro _ _) | (with_reducible refine (foldl2_core _ ?_ _ _).trans ?_; intro _ _) | (with_reducible refine (foldl1_core _ ?_ _ _).trans ?_; intro _ _) | (simp only [↓core_mk, Dev.bump_core, Dev.emQueue_core, apply_ite Dev.core, ite_self, apply_ite Prod.snd, apply_ite Prod.fst]; done) | with_reducible refine (pair2_core ‹_›).trans ?_ | with_reducible refine (pair1_core ‹_›).trans ?_ | with_reducible refine ite_to ?_ ?_ | split | simp only [↓core_mk, Dev.bump_core, Dev.emQueue_core, apply_ite Dev.core, ite_self, apply_ite Prod.snd, apply_ite Prod.fst])
theorem Dev.learnOutcome_core (s : Dev) (t key b : Nat) (look : EmLook) : ((Dev.learnOutcome s t key b look).2.2).core = s.core := by
  unfold Dev.learnOutcome; (repeat' first | with_reducible rfl | (simp only [↓core_mk, Dev.bump_core, apply_ite Dev.core, ite_self, apply_ite Prod.snd, apply_ite Prod.fst]; done) | with_reducible refine (pair2_core ‹_›).trans ?_ | with_reducible refine ite_to ?_ ?_ | split | simp only [↓core_mk, Dev.bump_core, apply_ite Dev.core, ite_self, apply_ite Prod.snd, apply_ite Prod.fst])
theorem Dev.toSlice_core (s : Dev) (d : Nat) (c : SorterCtx) (walk : Bool) : (Dev.toSlice s d c walk).core = s.core := id rfl
theorem Dev.toFins_core (s : Dev) (c : SorterCtx) : (Dev.toFins s c).core = s.core := id rfl
theorem Dev.toPunt_core (s : Dev) (c : SorterCtx) : (Dev.toPunt s c).core = s.core := by
  unfold Dev.toPunt; simp only [↓core_mk, Dev.toFins_core, Dev.wakeDrawer_core, apply_ite Dev.core, ite_self]
theorem Dev.engineDone_core (s : Dev) (c : SorterCtx) : (Dev.engineDone s c).core = s.core := by
  unfold Dev.engineDone; simp only [↓core_mk, Dev.toFins_core, Dev.toPunt_core, apply_ite Dev.core, ite_self]
theorem Dev.countPair_core (s : Dev) (len c : Nat) : (Dev.countPair s len c).core = s.core := by
  unfold Dev.countPair; simp only [↓core_mk, Dev.addObj_core, Dev.bump_core]
theorem Dev.sliceThenFins_core (s : Dev) (d : Nat) (c : SorterCtx) : (Dev.sliceThenFins s d c).core = s.core := by
  unfold Dev.sliceThenFins; simp only [↓core_mk, Dev.toFins_core, Dev.toSlice_core, apply_ite Dev.core, ite_self]
theorem Dev.rewriteCtx_core (s : Dev) (c : SorterCtx) : ∀ r, Dev.rewriteCtx s c = some r → r.2.core = s.core := by
  intro r hr; unfold Dev.rewriteCtx at hr; (try dsimp only at hr); (repeat' split at hr) <;> first | (cases hr; rfl) | (obtain ⟨x, _, hx⟩ := Option.map_eq_some_iff.1 hr; subst hx; (try dsimp only); first | exact Dev.putFrame_core _ _ _ | (split <;> exact Dev.putFrame_core _ _ _))
theorem Dev.applyActions_core (s : Dev) (d : Nat) (c : SorterCtx) : (Dev.applyActions s d c).core = s.core := by
  unfold Dev.applyActions; (repeat' first | with_reducible rfl | (with_reducible refine (foldl_core _ ?_ _ _).trans ?_; intro _ _) | (with_reducible refine (foldl2_core _ ?_ _ _).trans ?_; intro _ _) | (with_reducible refine (foldl1_core _ ?_ _ _).trans ?_; intro _ _) | (simp only [↓core_mk, Dev.admitParcel_core, Dev.bump_core, Dev.countPair_core, Dev.sliceThenFins_core, Dev.toFins_core, Dev.toPunt_core, Dev.toSlice_core, apply_ite Dev.core, ite_self, apply_ite Prod.snd, apply_ite Prod.fst]; done) | with_reducible refine (pair2_core ‹_›).trans ?_ | with_reducible refine (pair1_core ‹_›).trans ?_ | with_reducible refine (Dev.rewriteCtx_core _ _ _ ‹_›).trans ?_ | with_reducible refine ite_to ?_ ?_ | split | simp only [↓core_mk, Dev.admitParcel_core, Dev.bump_core, Dev.countPair_core, Dev.sliceThenFins_core, Dev.toFins_core, Dev.toPunt_core, Dev.toSlice_core, apply_ite Dev.core, ite_self, apply_ite Prod.snd, apply_ite Prod.fst])
theorem Dev.ruleStage_core (s : Dev) (d : Nat) (c : SorterCtx) (t budget : Nat) : ((Dev.ruleStage s d c t budget).2).core = s.core := by
  unfold Dev.ruleStage; (repeat' first | with_reducible rfl | (simp only [↓core_mk, Dev.bump_core, Dev.countProbes_core, apply_ite Dev.core, ite_self, apply_ite Prod.snd, apply_ite Prod.fst]; done) | with_reducible refine (pair2_core ‹_›).trans ?_ | with_reducible refine ite_to ?_ ?_ | split | simp only [↓core_mk, Dev.bump_core, Dev.countProbes_core, apply_ite Dev.core, ite_self, apply_ite Prod.snd, apply_ite Prod.fst])
theorem Dev.emOne_core (s : Dev) (c : SorterCtx) (inst k : Nat) : ((Dev.emOne s c inst k).2.2).core = s.core := by
  unfold Dev.emOne; (repeat' first | with_reducible rfl | (with_reducible refine (foldl_core _ ?_ _ _).trans ?_; intro _ _) | (with_reducible refine (foldl2_core _ ?_ _ _).trans ?_; intro _ _) | (with_reducible refine (foldl1_core _ ?_ _ _).trans ?_; intro _ _) | (simp only [↓core_mk, Dev.bump_core, Dev.emLookup_core, Dev.emPush_core, Dev.learnOutcome_core, apply_ite Dev.core, ite_self, apply_ite Prod.snd, apply_ite Prod.fst]; done) | with_reducible refine (pair2_core ‹_›).trans ?_ | with_reducible refine (pair1_core ‹_›).trans ?_ | with_reducible refine ite_to ?_ ?_ | split | simp only [↓core_mk, Dev.bump_core, Dev.emLookup_core, Dev.emPush_core, Dev.learnOutcome_core, apply_ite Dev.core, ite_self, apply_ite Prod.snd, apply_ite Prod.fst])
theorem Dev.emStage_core (s : Dev) (d : Nat) (c : SorterCtx) : (Dev.emStage s d c).core = s.core := by
  unfold Dev.emStage; (repeat' first | with_reducible rfl | (simp only [↓core_mk, Dev.applyActions_core, Dev.emOne_core, apply_ite Dev.core, ite_self]; done) | with_reducible refine ite_to ?_ ?_ | split)
theorem Dev.parkOn_core (s : Dev) (k : Nat) (c : SorterCtx) (a : Await) : (Dev.parkOn s k c a).core = s.core := id rfl
theorem Dev.toEm_core (s : Dev) (d : Nat) (key : Option Nat) (c : SorterCtx) : (Dev.toEm s d key c).core = s.core := by
  unfold Dev.toEm; (repeat' first | with_reducible rfl | (with_reducible refine (foldl_core _ ?_ _ _).trans ?_; intro _ _) | (with_reducible refine (foldl2_core _ ?_ _ _).trans ?_; intro _ _) | (with_reducible refine (foldl1_core _ ?_ _ _).trans ?_; intro _ _) | (simp only [↓core_mk, Dev.emStage_core, Dev.parkOn_core, apply_ite Dev.core, ite_self, apply_ite Prod.snd, apply_ite Prod.fst]; done) | with_reducible refine (pair2_core ‹_›).trans ?_ | with_reducible refine (pair1_core ‹_›).trans ?_ | with_reducible refine ite_to ?_ ?_ | split | simp only [↓core_mk, Dev.emStage_core, Dev.parkOn_core, apply_ite Dev.core, ite_self, apply_ite Prod.snd, apply_ite Prod.fst])
theorem Dev.secondRules_core (s : Dev) (d : Nat) (key : Option Nat) (c : SorterCtx) (t : Nat) : (Dev.secondRules s d key c t).core = s.core := by
  unfold Dev.secondRules; simp only [Dev.ruleStage_core, Dev.toEm_core]
theorem Dev.secondLookup_core (s : Dev) (d : Nat) (key : Option Nat) (c : SorterCtx) (t : Nat) : (Dev.secondLookup s d key c t).core = s.core := by
  unfold Dev.secondLookup; (repeat' first | with_reducible rfl | (simp only [↓core_mk, Dev.parkOn_core, Dev.secondRules_core, apply_ite Dev.core, ite_self]; done) | with_reducible refine ite_to ?_ ?_ | split)
theorem Dev.toMatcher_core (s : Dev) (d : Nat) (c : SorterCtx) (pset table : Nat) (stream : Bool) : (Dev.toMatcher s d c pset table stream).core = s.core := id rfl
theorem Dev.firstRules_core (s : Dev) (d : Nat) (key : Option Nat) (c : SorterCtx) (t : Nat) : (Dev.firstRules s d key c t).core = s.core := by
  unfold Dev.firstRules; simp only [↓core_mk, Dev.ruleStage_core, Dev.secondLookup_core, Dev.toEm_core, Dev.toMatcher_core, apply_ite Dev.core, ite_self]
theorem Dev.firstLookup_core (s : Dev) (d : Nat) (key : Option Nat) (c : SorterCtx) : (Dev.firstLookup s d key c).core = s.core := by
  unfold Dev.firstLookup; (repeat' first | with_reducible rfl | (simp only [↓core_mk, Dev.bump_core, Dev.firstRules_core, Dev.parkOn_core, Dev.toEm_core, Dev.toFins_core, apply_ite Dev.core, ite_self]; done) | with_reducible refine ite_to ?_ ?_ | split)
theorem Dev.walkCtx_core (s : Dev) (d k : Nat) (c : SorterCtx) : (Dev.walkCtx s d k c).core = s.core := by
  unfold Dev.walkCtx; (repeat' first | with_reducible rfl | (simp only [↓core_mk, Dev.bump_core, Dev.countWalk_core, Dev.firstLookup_core, Dev.setChainData_core, apply_ite Dev.core, ite_self]; done) | with_reducible refine ite_to ?_ ?_ | split)
theorem Dev.sorterTake_core (s : Dev) (d i : Nat) : (Dev.sorterTake s d i).core = s.core := by
  unfold Dev.sorterTake; (repeat' first | with_reducible rfl | (simp only [↓core_mk, Dev.bump_core, Dev.firstLookup_core, Dev.removeQ_core, Dev.toSlice_core, Dev.walkCtx_core, apply_ite Dev.core, ite_self]; done) | with_reducible refine ite_to ?_ ?_ | split)
theorem Dev.leaveCtx_core (s : Dev) (k : Nat) : (Dev.leaveCtx s k).core = s.core := id rfl
theorem Dev.arriveBytes_core (s : Dev) (h : Nat) (more : List Nat) : (Dev.arriveBytes s h more).core = s.core := by
  unfold Dev.arriveBytes; (repeat' first | with_reducible rfl | (simp only [↓core_mk, Dev.fillTo_core, Dev.setChainData_core, apply_ite Dev.core, ite_self]; done) | with_reducible refine ite_to ?_ ?_ | split)
theorem Dev.parseResume_core (s : Dev) (d k : Nat) (more : List Nat) : (Dev.parseResume s d k more).core = s.core := by
  unfold Dev.parseResume; (repeat' first | with_reducible rfl | (simp only [↓core_mk, Dev.arriveBytes_core, Dev.leaveCtx_core, Dev.walkCtx_core, apply_ite Dev.core, ite_self]; done) | with_reducible refine ite_to ?_ ?_ | split)
theorem Dev.memPoison_core (s : Dev) (ch addr who : Nat) : (Dev.memPoison s ch addr who).core = s.core := by
  unfold Dev.memPoison; simp only [Dev.bump_core, Dev.log_core, Dev.notify_core]
theorem Dev.memCorrected_core (s : Dev) (addr who : Nat) : (Dev.memCorrected s addr who).core = s.core := by
  unfold Dev.memCorrected; simp only [↓core_mk, Dev.bump_core, Dev.log_core, apply_ite Dev.core, ite_self]
theorem Dev.memLost_core (s : Dev) (addr who : Nat) : (Dev.memLost s addr who).core = s.core := by
  unfold Dev.memLost; simp only [↓core_mk, Dev.memPoison_core, apply_ite Dev.core, ite_self]
theorem Dev.macFail_core (s : Dev) (a who kind : Nat) : (Dev.macFail s a who kind).core = s.core := by
  unfold Dev.macFail; simp only [↓core_mk, Dev.bump_core, Dev.log_core, apply_ite Dev.core, ite_self]
theorem Dev.lineRead_core (s : Dev) (secure : Bool) (who : Nat) (err : Option (Nat × Nat)) : ((Dev.lineRead s secure who err).2).core = s.core := by
  unfold Dev.lineRead; (repeat' first | with_reducible rfl | (simp only [↓core_mk, Dev.memCorrected_core, Dev.memLost_core, Dev.macFail_core, apply_ite Dev.core, ite_self, apply_ite Prod.snd]; done) | with_reducible refine ite_to ?_ ?_ | split)
theorem Dev.countReads_core (s : Dev) (d : Nat) (c : SorterCtx) : (Dev.countReads s d c).core = s.core := by
  unfold Dev.countReads; (repeat' first | with_reducible rfl | (with_reducible refine (foldl_core _ ?_ _ _).trans ?_; intro _ _) | (with_reducible refine (foldl2_core _ ?_ _ _).trans ?_; intro _ _) | (with_reducible refine (foldl1_core _ ?_ _ _).trans ?_; intro _ _) | (simp only [↓core_mk, Dev.countProbes_core, apply_ite Dev.core, ite_self, apply_ite Prod.snd, apply_ite Prod.fst]; done) | with_reducible refine (pair2_core ‹_›).trans ?_ | with_reducible refine (pair1_core ‹_›).trans ?_ | with_reducible refine ite_to ?_ ?_ | split | simp only [↓core_mk, Dev.countProbes_core, apply_ite Dev.core, ite_self, apply_ite Prod.snd, apply_ite Prod.fst])
theorem Dev.lookupOn_core (s : Dev) (d k : Nat) (c : SorterCtx) : (Dev.lookupOn s d k c).core = s.core := by
  unfold Dev.lookupOn; (repeat' first | with_reducible rfl | (simp only [↓core_mk, Dev.emStage_core, Dev.firstLookup_core, Dev.firstRules_core, Dev.secondRules_core, apply_ite Dev.core, ite_self]; done) | with_reducible refine ite_to ?_ ?_ | split)
theorem Dev.lookupReturn_core (s : Dev) (d k : Nat) (err : Option (Nat × Nat)) : (Dev.lookupReturn s d k err).core = s.core := by
  unfold Dev.lookupReturn; (repeat' first | with_reducible rfl | (with_reducible refine (foldl_core _ ?_ _ _).trans ?_; intro _ _) | (with_reducible refine (foldl2_core _ ?_ _ _).trans ?_; intro _ _) | (with_reducible refine (foldl1_core _ ?_ _ _).trans ?_; intro _ _) | (simp only [↓core_mk, Dev.countReads_core, Dev.leaveCtx_core, Dev.lineRead_core, Dev.lookupOn_core, Dev.toFins_core, apply_ite Dev.core, ite_self, apply_ite Prod.snd, apply_ite Prod.fst]; done) | with_reducible refine (pair2_core ‹_›).trans ?_ | with_reducible refine (pair1_core ‹_›).trans ?_ | with_reducible refine ite_to ?_ ?_ | split | simp only [↓core_mk, Dev.countReads_core, Dev.leaveCtx_core, Dev.lineRead_core, Dev.lookupOn_core, Dev.toFins_core, apply_ite Dev.core, ite_self, apply_ite Prod.snd, apply_ite Prod.fst])
theorem Dev.lookupTimeout_core (s : Dev) (d k : Nat) : (Dev.lookupTimeout s d k).core = s.core := by
  unfold Dev.lookupTimeout; (repeat' first | with_reducible rfl | (with_reducible refine (foldl_core _ ?_ _ _).trans ?_; intro _ _) | (with_reducible refine (foldl2_core _ ?_ _ _).trans ?_; intro _ _) | (with_reducible refine (foldl1_core _ ?_ _ _).trans ?_; intro _ _) | (simp only [↓core_mk, Dev.countReads_core, Dev.fresh_core, Dev.leaveCtx_core, Dev.log_core, Dev.toFins_core, apply_ite Dev.core, ite_self, apply_ite Prod.snd, apply_ite Prod.fst]; done) | with_reducible refine (pair2_core ‹_›).trans ?_ | with_reducible refine (pair1_core ‹_›).trans ?_ | with_reducible refine ite_to ?_ ?_ | split | simp only [↓core_mk, Dev.countReads_core, Dev.fresh_core, Dev.leaveCtx_core, Dev.log_core, Dev.toFins_core, apply_ite Dev.core, ite_self, apply_ite Prod.snd, apply_ite Prod.fst])
theorem Dev.parcelFinish_core (s : Dev) (c : SorterCtx) : (Dev.parcelFinish s c).core = s.core := by
  unfold Dev.parcelFinish; simp only [Dev.finishAll_core]
theorem Dev.steal_core (s : Dev) (d v n : Nat) : (Dev.steal s d v n).core = s.core := by
  unfold Dev.steal; (repeat' first | with_reducible rfl | (with_reducible refine (foldl_core _ ?_ _ _).trans ?_; intro _ _) | (with_reducible refine (foldl2_core _ ?_ _ _).trans ?_; intro _ _) | (with_reducible refine (foldl1_core _ ?_ _ _).trans ?_; intro _ _) | (simp only [↓core_mk, Dev.addObj_core, Dev.pushQueue_core, Dev.setQueueOf_core, apply_ite Dev.core, ite_self, apply_ite Prod.snd, apply_ite Prod.fst]; done) | with_reducible refine (pair2_core ‹_›).trans ?_ | with_reducible refine (pair1_core ‹_›).trans ?_ | with_reducible refine ite_to ?_ ?_ | split | simp only [↓core_mk, Dev.addObj_core, Dev.pushQueue_core, Dev.setQueueOf_core, apply_ite Dev.core, ite_self, apply_ite Prod.snd, apply_ite Prod.fst])
theorem Dev.workSteal_core (s : Dev) : (Dev.workSteal s).core = s.core := by
  unfold Dev.workSteal; (repeat' first | with_reducible rfl | (with_reducible refine (foldl_core _ ?_ _ _).trans ?_; intro _ _) | (simp only [↓core_mk, Dev.steal_core, apply_ite Dev.core, ite_self]; done) | with_reducible refine ite_to ?_ ?_ | split)
theorem Dev.setSlot_core (s : Dev) (h i : Nat) (x : Option Slot) : (Dev.setSlot s h i x).core = s.core := id rfl
theorem Dev.take_core (s : Dev) (h : Nat) : ((Dev.take s h).2).core = s.core := by
  unfold Dev.take; (repeat' first | with_reducible rfl | (with_reducible refine (foldl_core _ ?_ _ _).trans ?_; intro _ _) | (with_reducible refine (foldl2_core _ ?_ _ _).trans ?_; intro _ _) | (with_reducible refine (foldl1_core _ ?_ _ _).trans ?_; intro _ _) | (simp only [↓core_mk, Dev.removeQ_core, Dev.setSlot_core, apply_ite Dev.core, ite_self, apply_ite Prod.snd, apply_ite Prod.fst]; done) | with_reducible refine (pair2_core ‹_›).trans ?_ | with_reducible refine (pair1_core ‹_›).trans ?_ | with_reducible refine ite_to ?_ ?_ | split | simp only [↓core_mk, Dev.removeQ_core, Dev.setSlot_core, apply_ite Dev.core, ite_self, apply_ite Prod.snd, apply_ite Prod.fst])
theorem Dev.setPortStatus_core (s : Dev) (h v : Nat) : (Dev.setPortStatus s h v).core = s.core := by
  unfold Dev.setPortStatus; simp only [Dev.setHart_core]
theorem Dev.slotError_core (s : Dev) (h i : Nat) : (Dev.slotError s h i).core = s.core := by
  unfold Dev.slotError; simp only [↓core_mk, Dev.setPortStatus_core, apply_ite Dev.core, ite_self]
theorem Dev.retireSlot_core (s : Dev) (h i disp w : Nat) : (Dev.retireSlot s h i disp w).core = s.core := by
  unfold Dev.retireSlot; (repeat' first | with_reducible rfl | (with_reducible refine (foldl_core _ ?_ _ _).trans ?_; intro _ _) | (with_reducible refine (foldl2_core _ ?_ _ _).trans ?_; intro _ _) | (with_reducible refine (foldl1_core _ ?_ _ _).trans ?_; intro _ _) | (simp only [↓core_mk, Dev.finishAll_core, Dev.setPortStatus_core, Dev.setSlot_core, Dev.slotError_core, Dev.toSlice_core, apply_ite Dev.core, ite_self, apply_ite Prod.snd, apply_ite Prod.fst]; done) | with_reducible refine (pair2_core ‹_›).trans ?_ | with_reducible refine (pair1_core ‹_›).trans ?_ | with_reducible refine ite_to ?_ ?_ | split | simp only [↓core_mk, Dev.finishAll_core, Dev.setPortStatus_core, Dev.setSlot_core, Dev.slotError_core, Dev.toSlice_core, apply_ite Dev.core, ite_self, apply_ite Prod.snd, apply_ite Prod.fst])
theorem Dev.yieldSlot_core (s : Dev) (h i w : Nat) : (Dev.yieldSlot s h i w).core = s.core := by
  unfold Dev.yieldSlot; split; · exact Dev.slotError_core _ _ _
  · exact (Dev.wakeDrawer_core _ _).trans (Eq.trans (core_mk _) ((Dev.setPortStatus_core _ _ _).trans (Dev.setSlot_core _ _ _ _)))
theorem Dev.overrunTrap_core (s : Dev) (h i : Nat) : (Dev.overrunTrap s h i).core = s.core := by
  unfold Dev.overrunTrap; (repeat' first | with_reducible rfl | (simp only [↓core_mk, Dev.bump_core, Dev.raise_core, Dev.setSlot_core, apply_ite Dev.core, ite_self]; done) | with_reducible refine ite_to ?_ ?_ | split)
theorem Dev.overrunDrop_core (s : Dev) (h i : Nat) : (Dev.overrunDrop s h i).core = s.core := by
  unfold Dev.overrunDrop; (repeat' first | with_reducible rfl | (simp only [↓core_mk, Dev.bump_core, Dev.finishAll_core, Dev.setSlot_core, Dev.wakeDrawer_core, apply_ite Dev.core, ite_self]; done) | with_reducible refine ite_to ?_ ?_ | split)
theorem Dev.overruns_core (s : Dev) : (Dev.overruns s).core = s.core := by
  unfold Dev.overruns; (repeat' first | with_reducible rfl | (with_reducible refine (foldl_core _ ?_ _ _).trans ?_; intro _ _) | (simp only [↓core_mk, Dev.overrunDrop_core, Dev.overrunTrap_core, apply_ite Dev.core, ite_self]; done) | with_reducible refine ite_to ?_ ?_ | split)
theorem Dev.macsecRx_core (s : Dev) (p : Parcel) (i handle : Nat) (k : KeyRec) : ((Dev.macsecRx s p i handle k).2).core = s.core := by
  unfold Dev.macsecRx; (repeat' first | with_reducible rfl | (simp only [↓core_mk, Dev.bump_core, apply_ite Dev.core, ite_self, apply_ite Prod.snd, apply_ite Prod.fst]; done) | with_reducible refine (pair2_core ‹_›).trans ?_ | with_reducible refine ite_to ?_ ?_ | split | simp only [↓core_mk, Dev.bump_core, apply_ite Dev.core, ite_self, apply_ite Prod.snd, apply_ite Prod.fst])
theorem Dev.macsecTx_core (s : Dev) (P : Nat) (f : List Nat) (i handle : Nat) (k : KeyRec) : ((Dev.macsecTx s P f i handle k).2).core = s.core := by
  unfold Dev.macsecTx; (repeat' first | with_reducible rfl | (with_reducible refine (foldl_core _ ?_ _ _).trans ?_; intro _ _) | (with_reducible refine (foldl2_core _ ?_ _ _).trans ?_; intro _ _) | (with_reducible refine (foldl1_core _ ?_ _ _).trans ?_; intro _ _) | (simp only [↓core_mk, Dev.bump_core, Dev.notify_core, Dev.take_core, apply_ite Dev.core, ite_self, apply_ite Prod.snd, apply_ite Prod.fst]; done) | with_reducible refine (pair2_core ‹_›).trans ?_ | with_reducible refine (pair1_core ‹_›).trans ?_ | with_reducible refine ite_to ?_ ?_ | split | simp only [↓core_mk, Dev.bump_core, Dev.notify_core, Dev.take_core, apply_ite Dev.core, ite_self, apply_ite Prod.snd, apply_ite Prod.fst])
theorem Dev.setSa_core (s : Dev) (h : Nat) (a : Sa) (seq map : Nat) : (Dev.setSa s h a seq map).core = s.core := by
  unfold Dev.setSa; (repeat' first | with_reducible rfl | (with_reducible refine (foldl_core _ ?_ _ _).trans ?_; intro _ _) | (with_reducible refine (foldl2_core _ ?_ _ _).trans ?_; intro _ _) | (with_reducible refine (foldl1_core _ ?_ _ _).trans ?_; intro _ _) | (simp only [↓core_mk, Dev.setObj_core, Dev.updCipher_core, apply_ite Dev.core, ite_self, apply_ite Prod.snd, apply_ite Prod.fst]; done) | with_reducible refine (pair2_core ‹_›).trans ?_ | with_reducible refine (pair1_core ‹_›).trans ?_ | with_reducible refine ite_to ?_ ?_ | split | simp only [↓core_mk, Dev.setObj_core, Dev.updCipher_core, apply_ite Dev.core, ite_self, apply_ite Prod.snd, apply_ite Prod.fst])
theorem Dev.seqSpent_core (s : Dev) (h : Nat) : (Dev.seqSpent s h).core = s.core := by
  unfold Dev.seqSpent; simp only [↓core_mk, Dev.notify_core, Dev.updCipher_core, apply_ite Dev.core, ite_self]
theorem Dev.seqMove_core (s : Dev) (h : Nat) (a : Sa) (seq map : Nat) : (Dev.seqMove s h a seq map).core = s.core := by
  unfold Dev.seqMove; simp only [↓core_mk, Dev.notify_core, Dev.setSa_core, apply_ite Dev.core, ite_self]
theorem Dev.espSend_core (s : Dev) (c : SorterCtx) (h : Nat) (a : Sa) (k : KeyRec) : ((Dev.espSend s c h a k).2).core = s.core := by
  unfold Dev.espSend; (repeat' first | with_reducible rfl | (simp only [↓core_mk, Dev.seqMove_core, Dev.seqSpent_core, apply_ite Dev.core, ite_self, apply_ite Prod.snd, apply_ite Prod.fst]; done) | with_reducible refine (pair2_core ‹_›).trans ?_ | with_reducible refine ite_to ?_ ?_ | split | simp only [↓core_mk, Dev.seqMove_core, Dev.seqSpent_core, apply_ite Dev.core, ite_self, apply_ite Prod.snd, apply_ite Prod.fst])
theorem Dev.espReceive_core (s : Dev) (c : SorterCtx) (h : Nat) (a : Sa) (k : KeyRec) : ((Dev.espReceive s c h a k).2).core = s.core := by
  unfold Dev.espReceive; (repeat' first | with_reducible rfl | (simp only [↓core_mk, Dev.seqMove_core, apply_ite Dev.core, ite_self, apply_ite Prod.snd, apply_ite Prod.fst]; done) | with_reducible refine (pair2_core ‹_›).trans ?_ | with_reducible refine ite_to ?_ ?_ | split | simp only [↓core_mk, Dev.seqMove_core, apply_ite Dev.core, ite_self, apply_ite Prod.snd, apply_ite Prod.fst])
theorem Dev.transform_core (s : Dev) (c : SorterCtx) (k : KeyRec) (a? : Option Sa) (a1 : Which) : ((Dev.transform s c k a? a1).2.2).core = s.core := by
  unfold Dev.transform; (repeat' first | with_reducible rfl | (simp only [↓core_mk, Dev.espReceive_core, Dev.espSend_core, Dev.macsecRx_core, Dev.macsecTx_core, apply_ite Dev.core, ite_self]; done) | with_reducible refine ite_to ?_ ?_ | split)
theorem Dev.setSliceJobs_core (s : Dev) (d : Nat) (l : List SliceJob) : (Dev.setSliceJobs s d l).core = s.core := by
  unfold Dev.setSliceJobs; simp only [Dev.updCipher_core]
theorem Dev.setSliceJob_core (s : Dev) (d i : Nat) (j : SliceJob) : (Dev.setSliceJob s d i j).core = s.core := by
  unfold Dev.setSliceJob; simp only [Dev.setSliceJobs_core]
theorem Dev.dropSliceJob_core (s : Dev) (d i : Nat) : (Dev.dropSliceJob s d i).core = s.core := by
  unfold Dev.dropSliceJob; simp only [Dev.setSliceJobs_core]
theorem Dev.takeRng_core (s : Dev) (d n : Nat) : ((Dev.takeRng s d n).2).core = s.core := by
  unfold Dev.takeRng; (repeat' first | with_reducible rfl | (with_reducible refine (foldl_core _ ?_ _ _).trans ?_; intro _ _) | (with_reducible refine (foldl2_core _ ?_ _ _).trans ?_; intro _ _) | (with_reducible refine (foldl1_core _ ?_ _ _).trans ?_; intro _ _) | (simp only [↓core_mk, Dev.updCipher_core, apply_ite Dev.core, ite_self, apply_ite Prod.snd, apply_ite Prod.fst]; done) | with_reducible refine (pair2_core ‹_›).trans ?_ | with_reducible refine (pair1_core ‹_›).trans ?_ | with_reducible refine ite_to ?_ ?_ | split | simp only [↓core_mk, Dev.updCipher_core, apply_ite Dev.core, ite_self, apply_ite Prod.snd, apply_ite Prod.fst])
theorem Dev.putChain_core (s : Dev) (h off : Nat) (bs : List Nat) : (Dev.putChain s h off bs).core = s.core := by
  unfold Dev.putChain; simp only [Dev.setChainData_core]
theorem Dev.setMsg_core (s : Dev) (d i : Nat) (m : Option MsgCtx) : (Dev.setMsg s d i m).core = s.core := by
  unfold Dev.setMsg; simp only [Dev.updCipher_core]
theorem Dev.aeadJob_core (s : Dev) (d : Nat) (j : JobRec) (k : KeyRec) (m : Option MsgCtx) : ((Dev.aeadJob s d j k m).2).core = s.core := by
  unfold Dev.aeadJob; (repeat' first | with_reducible rfl | (simp only [↓core_mk, Dev.putChain_core, Dev.setMsg_core, apply_ite Dev.core, ite_self, apply_ite Prod.snd, apply_ite Prod.fst]; done) | with_reducible refine (pair2_core ‹_›).trans ?_ | with_reducible refine ite_to ?_ ?_ | split | simp only [↓core_mk, Dev.putChain_core, Dev.setMsg_core, apply_ite Dev.core, ite_self, apply_ite Prod.snd, apply_ite Prod.fst])
theorem Dev.macJob_core (s : Dev) (d : Nat) (j : JobRec) (k : KeyRec) (m : Option MsgCtx) : ((Dev.macJob s d j k m).2).core = s.core := by
  unfold Dev.macJob; (repeat' first | with_reducible rfl | (simp only [↓core_mk, Dev.putChain_core, Dev.setMsg_core, apply_ite Dev.core, ite_self, apply_ite Prod.snd, apply_ite Prod.fst]; done) | with_reducible refine (pair2_core ‹_›).trans ?_ | with_reducible refine ite_to ?_ ?_ | split | simp only [↓core_mk, Dev.putChain_core, Dev.setMsg_core, apply_ite Dev.core, ite_self, apply_ite Prod.snd, apply_ite Prod.fst])
theorem Dev.tlsJob_core (s : Dev) (d : Nat) (j : JobRec) (k : KeyRec) (a : Sa) : ((Dev.tlsJob s d j k a).2).core = s.core := by
  unfold Dev.tlsJob; (repeat' first | with_reducible rfl | (simp only [↓core_mk, Dev.bump_core, Dev.putChain_core, Dev.seqMove_core, Dev.seqSpent_core, apply_ite Dev.core, ite_self, apply_ite Prod.snd, apply_ite Prod.fst]; done) | with_reducible refine (pair2_core ‹_›).trans ?_ | with_reducible refine ite_to ?_ ?_ | split | simp only [↓core_mk, Dev.bump_core, Dev.putChain_core, Dev.seqMove_core, Dev.seqSpent_core, apply_ite Dev.core, ite_self, apply_ite Prod.snd, apply_ite Prod.fst])
theorem Dev.jobWork_core (s : Dev) (h : Nat) (j : JobRec) (k : KeyRec) (a? : Option Sa) : ((Dev.jobWork s h j k a?).2).core = s.core := by
  unfold Dev.jobWork; (repeat' first | with_reducible rfl | (with_reducible refine (foldl_core _ ?_ _ _).trans ?_; intro _ _) | (with_reducible refine (foldl2_core _ ?_ _ _).trans ?_; intro _ _) | (with_reducible refine (foldl1_core _ ?_ _ _).trans ?_; intro _ _) | (simp only [↓core_mk, Dev.aeadJob_core, Dev.macJob_core, Dev.putChain_core, Dev.tlsJob_core, apply_ite Dev.core, ite_self, apply_ite Prod.snd, apply_ite Prod.fst]; done) | with_reducible refine (pair2_core ‹_›).trans ?_ | with_reducible refine (pair1_core ‹_›).trans ?_ | with_reducible refine ite_to ?_ ?_ | split | simp only [↓core_mk, Dev.aeadJob_core, Dev.macJob_core, Dev.putChain_core, Dev.tlsJob_core, apply_ite Dev.core, ite_self, apply_ite Prod.snd, apply_ite Prod.fst])
theorem Dev.jobEnd_core (s : Dev) (h i : Nat) (o : JobOut) (data : Nat) : (Dev.jobEnd s h i o data).core = s.core := by
  unfold Dev.jobEnd; simp only [Dev.addObj_core, Dev.bump_core, Dev.dropSliceJob_core, Dev.portDone_core, Dev.updCipher_core]
theorem Dev.parcelDropped_core (s : Dev) (d i : Nat) (c : SorterCtx) (status : Nat) : (Dev.parcelDropped s d i c status).core = s.core := by
  unfold Dev.parcelDropped; simp only [Dev.bump_core, Dev.dropSliceJob_core, Dev.toFins_core]
theorem Dev.parcelOnward_core (s : Dev) (d i : Nat) (c : SorterCtx) (walk : Bool) : (Dev.parcelOnward s d i c walk).core = s.core := by
  unfold Dev.parcelOnward; simp only [↓core_mk, Dev.addObj_core, Dev.bump_core, Dev.dropSliceJob_core, Dev.engineDone_core, Dev.pushFront_core, apply_ite Dev.core, ite_self]
theorem Dev.nextStage_core (s : Dev) (d i stage : Nat) (j : SliceJob) (c : SorterCtx) (walk : Bool) : (Dev.nextStage s d i stage j c walk).core = s.core := by
  unfold Dev.nextStage; (repeat' first | with_reducible rfl | (with_reducible refine (foldl_core _ ?_ _ _).trans ?_; intro _ _) | (with_reducible refine (foldl2_core _ ?_ _ _).trans ?_; intro _ _) | (with_reducible refine (foldl1_core _ ?_ _ _).trans ?_; intro _ _) | (simp only [↓core_mk, Dev.parcelOnward_core, Dev.setSliceJob_core, apply_ite Dev.core, ite_self, apply_ite Prod.snd, apply_ite Prod.fst]; done) | with_reducible refine (pair2_core ‹_›).trans ?_ | with_reducible refine (pair1_core ‹_›).trans ?_ | with_reducible refine ite_to ?_ ?_ | split | simp only [↓core_mk, Dev.parcelOnward_core, Dev.setSliceJob_core, apply_ite Dev.core, ite_self, apply_ite Prod.snd, apply_ite Prod.fst])
theorem Dev.dropCopy_core (s : Dev) (d i : Nat) (j : SliceJob) (c : SorterCtx) (walk : Bool) (n : Option Nat) : (Dev.dropCopy s d i j c walk n).core = s.core := by
  unfold Dev.dropCopy; (repeat' first | with_reducible rfl | (with_reducible refine (foldl_core _ ?_ _ _).trans ?_; intro _ _) | (with_reducible refine (foldl2_core _ ?_ _ _).trans ?_; intro _ _) | (with_reducible refine (foldl1_core _ ?_ _ _).trans ?_; intro _ _) | (simp only [↓core_mk, Dev.bump_core, Dev.nextStage_core, apply_ite Dev.core, ite_self, apply_ite Prod.snd, apply_ite Prod.fst]; done) | with_reducible refine (pair2_core ‹_›).trans ?_ | with_reducible refine (pair1_core ‹_›).trans ?_ | with_reducible refine ite_to ?_ ?_ | split | simp only [↓core_mk, Dev.bump_core, Dev.nextStage_core, apply_ite Dev.core, ite_self, apply_ite Prod.snd, apply_ite Prod.fst])
theorem Dev.jobNoKey_core (s : Dev) (d i : Nat) (j : SliceJob) (denied : Bool) : (Dev.jobNoKey s d i j denied).core = s.core := by
  unfold Dev.jobNoKey; (repeat' first | with_reducible rfl | (with_reducible refine (foldl_core _ ?_ _ _).trans ?_; intro _ _) | (with_reducible refine (foldl2_core _ ?_ _ _).trans ?_; intro _ _) | (with_reducible refine (foldl1_core _ ?_ _ _).trans ?_; intro _ _) | (simp only [↓core_mk, Dev.bump_core, Dev.dropCopy_core, Dev.jobEnd_core, Dev.parcelDropped_core, Dev.parcelOnward_core, Dev.putFrame_core, apply_ite Dev.core, ite_self, apply_ite Prod.snd, apply_ite Prod.fst]; done) | with_reducible refine (pair2_core ‹_›).trans ?_ | with_reducible refine (pair1_core ‹_›).trans ?_ | with_reducible refine ite_to ?_ ?_ | split | simp only [↓core_mk, Dev.bump_core, Dev.dropCopy_core, Dev.jobEnd_core, Dev.parcelDropped_core, Dev.parcelOnward_core, Dev.putFrame_core, apply_ite Dev.core, ite_self, apply_ite Prod.snd, apply_ite Prod.fst])
theorem Dev.jobFinish_core (s : Dev) (d i : Nat) (j : SliceJob) (k : KeyRec) : (Dev.jobFinish s d i j k).core = s.core := by
  unfold Dev.jobFinish; dsimp only; (repeat' first | with_reducible rfl | (simp only [↓core_mk, Dev.bump_core, Dev.dropCopy_core, Dev.jobEnd_core, Dev.jobNoKey_core, Dev.jobWork_core, Dev.nextStage_core, Dev.parcelDropped_core, Dev.putFrame_core, Dev.transform_core, apply_ite Dev.core, ite_self]; done) | with_reducible refine ite_to ?_ ?_ | split)
theorem Dev.sliceWork_core (s : Dev) (d i : Nat) (j : SliceJob) (k : KeyRec) (fin : Bool) : (Dev.sliceWork s d i j k fin).core = s.core := by
  unfold Dev.sliceWork; (repeat' first | with_reducible rfl | (with_reducible refine (foldl_core _ ?_ _ _).trans ?_; intro _ _) | (with_reducible refine (foldl2_core _ ?_ _ _).trans ?_; intro _ _) | (with_reducible refine (foldl1_core _ ?_ _ _).trans ?_; intro _ _) | (simp only [↓core_mk, Dev.jobFinish_core, Dev.setSliceJob_core, Dev.takeRng_core, apply_ite Dev.core, ite_self, apply_ite Prod.snd, apply_ite Prod.fst]; done) | with_reducible refine (pair2_core ‹_›).trans ?_ | with_reducible refine (pair1_core ‹_›).trans ?_ | with_reducible refine ite_to ?_ ?_ | split | simp only [↓core_mk, Dev.jobFinish_core, Dev.setSliceJob_core, Dev.takeRng_core, apply_ite Dev.core, ite_self, apply_ite Prod.snd, apply_ite Prod.fst])
theorem Dev.sliceStep_core (s : Dev) (d i : Nat) (j : SliceJob) (fin : Bool) : (Dev.sliceStep s d i j fin).core = s.core := by
  unfold Dev.sliceStep; (repeat' first | with_reducible rfl | (with_reducible refine (foldl_core _ ?_ _ _).trans ?_; intro _ _) | (with_reducible refine (foldl2_core _ ?_ _ _).trans ?_; intro _ _) | (with_reducible refine (foldl1_core _ ?_ _ _).trans ?_; intro _ _) | (simp only [↓core_mk, Dev.bump_core, Dev.cacheKey_core, Dev.jobNoKey_core, Dev.setSliceJob_core, Dev.sliceWork_core, apply_ite Dev.core, ite_self, apply_ite Prod.snd, apply_ite Prod.fst]; done) | with_reducible refine (pair2_core ‹_›).trans ?_ | with_reducible refine (pair1_core ‹_›).trans ?_ | with_reducible refine ite_to ?_ ?_ | split | simp only [↓core_mk, Dev.bump_core, Dev.cacheKey_core, Dev.jobNoKey_core, Dev.setSliceJob_core, Dev.sliceWork_core, apply_ite Dev.core, ite_self, apply_ite Prod.snd, apply_ite Prod.fst])
theorem Dev.sliceRun_core (s : Dev) (d i : Nat) (fin : Bool) : (Dev.sliceRun s d i fin).core = s.core := by
  unfold Dev.sliceRun; (repeat' first | with_reducible rfl | (simp only [↓core_mk, Dev.jobEnd_core, Dev.parcelDropped_core, Dev.setMsg_core, Dev.sliceStep_core, apply_ite Dev.core, ite_self]; done) | with_reducible refine ite_to ?_ ?_ | split)
theorem Dev.jobWritten_core (s : Dev) (h rec : Nat) : (Dev.jobWritten s h rec).core = s.core := by
  unfold Dev.jobWritten; simp only [↓core_mk, Dev.setSliceJobs_core, Dev.updCipher_core, apply_ite Dev.core, ite_self]
theorem Dev.threadRun_core (s : Dev) (h rec : Nat) (fin : Bool) : (Dev.threadRun s h rec fin).core = s.core := by
  unfold Dev.threadRun; (repeat' first | with_reducible rfl | (simp only [↓core_mk, Dev.jobWritten_core, Dev.sliceRun_core, apply_ite Dev.core, ite_self, apply_ite Prod.snd, apply_ite Prod.fst]; done) | with_reducible refine (pair2_core ‹_›).trans ?_ | with_reducible refine ite_to ?_ ?_ | split | simp only [↓core_mk, Dev.jobWritten_core, Dev.sliceRun_core, apply_ite Dev.core, ite_self, apply_ite Prod.snd, apply_ite Prod.fst])
theorem Dev.cipherSuspend_core (s : Dev) (d : Nat) : (Dev.cipherSuspend s d).core = s.core := by
  unfold Dev.cipherSuspend; (repeat' first | with_reducible rfl | (simp only [↓core_mk, Dev.bump_core, Dev.setSliceJobs_core, apply_ite Dev.core, ite_self, apply_ite Prod.snd, apply_ite Prod.fst]; done) | with_reducible refine (pair2_core ‹_›).trans ?_ | with_reducible refine ite_to ?_ ?_ | split | simp only [↓core_mk, Dev.bump_core, Dev.setSliceJobs_core, apply_ite Dev.core, ite_self, apply_ite Prod.snd, apply_ite Prod.fst])
theorem Dev.cipherBudgets_core (s : Dev) : (Dev.cipherBudgets s).core = s.core := by
  unfold Dev.cipherBudgets; (repeat' first | with_reducible rfl | (with_reducible refine (foldl_core _ ?_ _ _).trans ?_; intro _ _) | (simp only [↓core_mk, Dev.cipherSuspend_core, apply_ite Dev.core, ite_self]; done) | with_reducible refine ite_to ?_ ?_ | split)
theorem Dev.keyReturn_core (s : Dev) (d i : Nat) (err : Option (Nat × Nat)) : (Dev.keyReturn s d i err).core = s.core := by
  unfold Dev.keyReturn; (repeat' first | with_reducible rfl | (with_reducible refine (foldl_core _ ?_ _ _).trans ?_; intro _ _) | (with_reducible refine (foldl2_core _ ?_ _ _).trans ?_; intro _ _) | (with_reducible refine (foldl1_core _ ?_ _ _).trans ?_; intro _ _) | (simp only [↓core_mk, Dev.cacheKey_core, Dev.jobNoKey_core, Dev.lineRead_core, Dev.setSliceJob_core, Dev.sliceRun_core, apply_ite Dev.core, ite_self, apply_ite Prod.snd, apply_ite Prod.fst]; done) | with_reducible refine (pair2_core ‹_›).trans ?_ | with_reducible refine (pair1_core ‹_›).trans ?_ | with_reducible refine ite_to ?_ ?_ | split | simp only [↓core_mk, Dev.cacheKey_core, Dev.jobNoKey_core, Dev.lineRead_core, Dev.setSliceJob_core, Dev.sliceRun_core, apply_ite Dev.core, ite_self, apply_ite Prod.snd, apply_ite Prod.fst])
theorem Dev.rngTimeout_core (s : Dev) (d i : Nat) (j : SliceJob) : (Dev.rngTimeout s d i j).core = s.core := by
  unfold Dev.rngTimeout; (repeat' first | with_reducible rfl | (simp only [↓core_mk, Dev.jobEnd_core, Dev.parcelDropped_core, apply_ite Dev.core, ite_self]; done) | with_reducible refine ite_to ?_ ?_ | split)
theorem Dev.reseed_core (s : Dev) (d : Nat) : (Dev.reseed s d).core = s.core := by
  unfold Dev.reseed; simp only [Dev.setSliceJobs_core, Dev.updCipher_core]
theorem Dev.alarmJobs_core (s : Dev) (d : Nat) (a1 : Nat) : (Dev.alarmJobs s d a1).core = s.core := by
  fun_induction Dev.alarmJobs <;> (try simp_all only []) <;> ((repeat' first | with_reducible rfl | (simp only [↓core_mk, Dev.jobEnd_core, Dev.parcelDropped_core, apply_ite Dev.core, ite_self]; done) | with_reducible refine ite_to ?_ ?_ | split))
theorem Dev.alarmTrip_core (s : Dev) (d sensor value : Nat) : (Dev.alarmTrip s d sensor value).core = s.core := by
  unfold Dev.alarmTrip; (repeat' first | with_reducible rfl | (with_reducible refine (foldl_core _ ?_ _ _).trans ?_; intro _ _) | (with_reducible refine (foldl2_core _ ?_ _ _).trans ?_; intro _ _) | (with_reducible refine (foldl1_core _ ?_ _ _).trans ?_; intro _ _) | (simp only [↓core_mk, Dev.alarmJobs_core, Dev.log_core, Dev.notify_core, Dev.setObj_core, Dev.updCipher_core, apply_ite Dev.core, ite_self, apply_ite Prod.snd, apply_ite Prod.fst]; done) | with_reducible refine (pair2_core ‹_›).trans ?_ | with_reducible refine (pair1_core ‹_›).trans ?_ | with_reducible refine ite_to ?_ ?_ | split | simp only [↓core_mk, Dev.alarmJobs_core, Dev.log_core, Dev.notify_core, Dev.setObj_core, Dev.updCipher_core, apply_ite Dev.core, ite_self, apply_ite Prod.snd, apply_ite Prod.fst])
theorem Dev.katDone_core (s : Dev) (d : Nat) (pass : Bool) : (Dev.katDone s d pass).core = s.core := by
  unfold Dev.katDone; simp only [↓core_mk, Dev.setObj_core, apply_ite Dev.core, ite_self]
theorem Dev.cipherEdge_core (s : Dev) : (Dev.cipherEdge s).core = s.core := by
  unfold Dev.cipherEdge; (repeat' first | with_reducible rfl | (with_reducible refine (foldl_core _ ?_ _ _).trans ?_; intro _ _) | (with_reducible refine (foldl2_core _ ?_ _ _).trans ?_; intro _ _) | (with_reducible refine (foldl1_core _ ?_ _ _).trans ?_; intro _ _) | (simp only [↓core_mk, Dev.bump_core, Dev.updCipher_core, apply_ite Dev.core, ite_self, apply_ite Prod.snd, apply_ite Prod.fst]; done) | with_reducible refine (pair2_core ‹_›).trans ?_ | with_reducible refine (pair1_core ‹_›).trans ?_ | with_reducible refine ite_to ?_ ?_ | split | simp only [↓core_mk, Dev.bump_core, Dev.updCipher_core, apply_ite Dev.core, ite_self, apply_ite Prod.snd, apply_ite Prod.fst])
theorem Dev.tbRefuse_core (s : Dev) (e flagBit code v : Nat) : (Dev.tbRefuse s e flagBit code v).core = s.core := by
  unfold Dev.tbRefuse; simp only [Dev.bump_core, Dev.notify_core, Dev.setObj_core]
theorem Dev.tbArm_core (s : Dev) (e : Nat) : (Dev.tbArm s e).core = s.core := by
  unfold Dev.tbArm; simp only [Dev.setObj_core]
theorem Dev.tbSet_core (s : Dev) (e v : Nat) : ((Dev.tbSet s e v).2).core = s.core := by
  unfold Dev.tbSet; (repeat' first | with_reducible rfl | (simp only [↓core_mk, Dev.setObj_core, Dev.setTb_core, Dev.tbRefuse_core, apply_ite Dev.core, ite_self, apply_ite Prod.snd, apply_ite Prod.fst]; done) | with_reducible refine (pair2_core ‹_›).trans ?_ | with_reducible refine ite_to ?_ ?_ | split | simp only [↓core_mk, Dev.setObj_core, Dev.setTb_core, Dev.tbRefuse_core, apply_ite Dev.core, ite_self, apply_ite Prod.snd, apply_ite Prod.fst])
theorem Dev.tbFreq_core (s : Dev) (e v : Nat) (clamped : Bool) : (Dev.tbFreq s e v clamped).core = s.core := by
  unfold Dev.tbFreq; simp only [↓core_mk, Dev.setObj_core, Dev.setTb_core, apply_ite Dev.core, ite_self]
theorem Dev.tbPhase_core (s : Dev) (e v : Nat) : ((Dev.tbPhase s e v).2).core = s.core := by
  unfold Dev.tbPhase; (repeat' first | with_reducible rfl | (simp only [↓core_mk, Dev.setTb_core, Dev.tbRefuse_core, apply_ite Dev.core, ite_self, apply_ite Prod.snd, apply_ite Prod.fst]; done) | with_reducible refine (pair2_core ‹_›).trans ?_ | with_reducible refine ite_to ?_ ?_ | split | simp only [↓core_mk, Dev.setTb_core, Dev.tbRefuse_core, apply_ite Dev.core, ite_self, apply_ite Prod.snd, apply_ite Prod.fst])
theorem Dev.corrDone_core (s : Dev) (d h status : Nat) : (Dev.corrDone s d h status).core = s.core := by
  unfold Dev.corrDone; simp only [↓core_mk, Dev.portDone_core]
theorem Dev.correction_core (s : Dev) (h op rec : Nat) : (Dev.correction s h op rec).core = s.core := by
  unfold Dev.correction; (repeat' first | with_reducible rfl | (with_reducible refine (foldl_core _ ?_ _ _).trans ?_; intro _ _) | (with_reducible refine (foldl2_core _ ?_ _ _).trans ?_; intro _ _) | (with_reducible refine (foldl1_core _ ?_ _ _).trans ?_; intro _ _) | (simp only [↓core_mk, apply_ite Dev.core, ite_self, apply_ite Prod.snd, apply_ite Prod.fst]; done) | with_reducible refine (pair2_core ‹_›).trans ?_ | with_reducible refine (pair1_core ‹_›).trans ?_ | with_reducible refine ite_to ?_ ?_ | split | simp only [↓core_mk, apply_ite Dev.core, ite_self, apply_ite Prod.snd, apply_ite Prod.fst])
theorem Dev.ppsPulse_core (s : Dev) (agree : Bool) (k : Int) : (Dev.ppsPulse s agree k).core = s.core := by
  unfold Dev.ppsPulse; (repeat' first | with_reducible rfl | (with_reducible refine (foldl_core _ ?_ _ _).trans ?_; intro _ _) | (with_reducible refine (foldl2_core _ ?_ _ _).trans ?_; intro _ _) | (with_reducible refine (foldl1_core _ ?_ _ _).trans ?_; intro _ _) | (simp only [↓core_mk, Dev.emit_core, Dev.notify_core, Dev.setObj_core, apply_ite Dev.core, ite_self, apply_ite Prod.snd, apply_ite Prod.fst]; done) | with_reducible refine (pair2_core ‹_›).trans ?_ | with_reducible refine (pair1_core ‹_›).trans ?_ | with_reducible refine ite_to ?_ ?_ | split | simp only [↓core_mk, Dev.emit_core, Dev.notify_core, Dev.setObj_core, apply_ite Dev.core, ite_self, apply_ite Prod.snd, apply_ite Prod.fst])
theorem Dev.ppsRestore_core (s : Dev) : (Dev.ppsRestore s).core = s.core := by
  unfold Dev.ppsRestore; simp only [↓core_mk, Dev.setObj_core]
theorem Dev.ppsIn_core (s : Dev) (cap : Nat) : (Dev.ppsIn s cap).core = s.core := by
  unfold Dev.ppsIn; (repeat' first | with_reducible rfl | (with_reducible refine (foldl_core _ ?_ _ _).trans ?_; intro _ _) | (with_reducible refine (foldl2_core _ ?_ _ _).trans ?_; intro _ _) | (with_reducible refine (foldl1_core _ ?_ _ _).trans ?_; intro _ _) | (simp only [↓core_mk, Dev.bump_core, Dev.setObj_core, apply_ite Dev.core, ite_self, apply_ite Prod.snd, apply_ite Prod.fst]; done) | with_reducible refine (pair2_core ‹_›).trans ?_ | with_reducible refine (pair1_core ‹_›).trans ?_ | with_reducible refine ite_to ?_ ?_ | split | simp only [↓core_mk, Dev.bump_core, Dev.setObj_core, apply_ite Dev.core, ite_self, apply_ite Prod.snd, apply_ite Prod.fst])
theorem Dev.refReport_core (s : Dev) (n : Nat) : (Dev.refReport s n).core = s.core := by
  unfold Dev.refReport; (repeat' first | with_reducible rfl | (with_reducible refine (foldl_core _ ?_ _ _).trans ?_; intro _ _) | (with_reducible refine (foldl2_core _ ?_ _ _).trans ?_; intro _ _) | (with_reducible refine (foldl1_core _ ?_ _ _).trans ?_; intro _ _) | (simp only [↓core_mk, Dev.setObj_core, apply_ite Dev.core, ite_self, apply_ite Prod.snd, apply_ite Prod.fst]; done) | with_reducible refine (pair2_core ‹_›).trans ?_ | with_reducible refine (pair1_core ‹_›).trans ?_ | with_reducible refine ite_to ?_ ?_ | split | simp only [↓core_mk, Dev.setObj_core, apply_ite Dev.core, ite_self, apply_ite Prod.snd, apply_ite Prod.fst])
theorem Dev.verifyDone_core (s : Dev) (B : Nat) : (Dev.verifyDone s B).core = s.core := by
  unfold Dev.verifyDone; simp only [↓core_mk, Dev.setObj_core, apply_ite Dev.core, ite_self]
theorem Dev.setJobs_core (s : Dev) (d : Nat) (l : List ScanJob) : (Dev.setJobs s d l).core = s.core := id rfl
theorem Dev.setStreams_core (s : Dev) (d : Nat) (l : List StreamCtx) : (Dev.setStreams s d l).core = s.core := by
  unfold Dev.setStreams; simp only [↓core_mk, Dev.setObj_core]
theorem Dev.markLost_core (s : Dev) (ident : Nat) : (Dev.markLost s ident).core = s.core := id rfl
theorem Dev.releaseStream_core (s : Dev) (d : Nat) (x : StreamCtx) : (Dev.releaseStream s d x).core = s.core := by
  unfold Dev.releaseStream; simp only [Dev.drop1_core, Dev.setStreams_core]
theorem Dev.expireStreams_core (s : Dev) (d : Nat) : (Dev.expireStreams s d).core = s.core := by
  unfold Dev.expireStreams; (repeat' first | with_reducible rfl | (with_reducible refine (foldl_core _ ?_ _ _).trans ?_; intro _ _) | (simp only [↓core_mk, Dev.releaseStream_core, apply_ite Dev.core, ite_self]; done) | with_reducible refine ite_to ?_ ?_ | split)
theorem Dev.touchStream_core (s : Dev) (d : Nat) (x : StreamCtx) : (Dev.touchStream s d x).core = s.core := by
  unfold Dev.touchStream; simp only [Dev.setStreams_core]
theorem Dev.createStream_core (s : Dev) (d : Nat) (x : StreamCtx) : (Dev.createStream s d x).core = s.core := by
  unfold Dev.createStream; (repeat' first | with_reducible rfl | (simp only [↓core_mk, Dev.bump_core, Dev.markLost_core, Dev.releaseStream_core, Dev.setStreams_core, apply_ite Dev.core, ite_self]; done) | with_reducible refine ite_to ?_ ?_ | split)
theorem Dev.loseBucket_core (s : Dev) (d b : Nat) : (Dev.loseBucket s d b).core = s.core := by
  unfold Dev.loseBucket; (repeat' first | with_reducible rfl | (with_reducible refine (foldl_core _ ?_ _ _).trans ?_; intro _ _) | (simp only [↓core_mk, Dev.markLost_core, Dev.releaseStream_core, apply_ite Dev.core, ite_self]; done) | with_reducible refine ite_to ?_ ?_ | split)
theorem Dev.startStream_core (s : Dev) (d : Nat) (j0 : ScanJob) (B : Nat) (f : List Nat) : ((Dev.startStream s d j0 B f).2).core = s.core := by
  unfold Dev.startStream; (repeat' first | with_reducible rfl | (simp only [↓core_mk, Dev.bump_core, Dev.createStream_core, Dev.expireStreams_core, Dev.releaseStream_core, Dev.touchStream_core, apply_ite Dev.core, ite_self, apply_ite Prod.snd, apply_ite Prod.fst]; done) | with_reducible refine (pair2_core ‹_›).trans ?_ | with_reducible refine ite_to ?_ ?_ | split | simp only [↓core_mk, Dev.bump_core, Dev.createStream_core, Dev.expireStreams_core, Dev.releaseStream_core, Dev.touchStream_core, apply_ite Dev.core, ite_self, apply_ite Prod.snd, apply_ite Prod.fst])
theorem Dev.startJob_core (s : Dev) (d : Nat) (j : ScanJob) : ((Dev.startJob s d j).2).core = s.core := by
  unfold Dev.startJob; (repeat' first | with_reducible rfl | (simp only [↓core_mk, Dev.startStream_core, apply_ite Dev.core, ite_self]; done) | with_reducible refine ite_to ?_ ?_ | split)
theorem Dev.streamEnd_core (s : Dev) (d : Nat) (j : ScanJob) : (Dev.streamEnd s d j).core = s.core := by
  unfold Dev.streamEnd; (repeat' first | with_reducible rfl | (simp only [↓core_mk, Dev.releaseStream_core, Dev.touchStream_core, apply_ite Dev.core, ite_self]; done) | with_reducible refine ite_to ?_ ?_ | split)
theorem Dev.endJob_core (s : Dev) (d i : Nat) (j : ScanJob) : (Dev.endJob s d i j).core = s.core := by
  unfold Dev.endJob; simp only [↓core_mk, Dev.addObj_core, Dev.bump_core, Dev.secondLookup_core, Dev.setJobs_core, Dev.streamEnd_core, apply_ite Dev.core, ite_self]
theorem Dev.patternScan_core (s : Dev) (d i : Nat) (miss : Option Nat) : (Dev.patternScan s d i miss).core = s.core := by
  unfold Dev.patternScan; (repeat' first | with_reducible rfl | (simp only [↓core_mk, Dev.bump_core, Dev.endJob_core, Dev.setJobs_core, Dev.startJob_core, Dev.toFins_core, apply_ite Dev.core, ite_self, apply_ite Prod.snd, apply_ite Prod.fst]; done) | with_reducible refine (pair2_core ‹_›).trans ?_ | with_reducible refine ite_to ?_ ?_ | split | simp only [↓core_mk, Dev.bump_core, Dev.endJob_core, Dev.setJobs_core, Dev.startJob_core, Dev.toFins_core, apply_ite Dev.core, ite_self, apply_ite Prod.snd, apply_ite Prod.fst])
theorem Dev.missReturn_core (s : Dev) (d i : Nat) (err : Option (Nat × Nat)) : (Dev.missReturn s d i err).core = s.core := by
  unfold Dev.missReturn; (repeat' first | with_reducible rfl | (with_reducible refine (foldl_core _ ?_ _ _).trans ?_; intro _ _) | (with_reducible refine (foldl2_core _ ?_ _ _).trans ?_; intro _ _) | (with_reducible refine (foldl1_core _ ?_ _ _).trans ?_; intro _ _) | (simp only [↓core_mk, Dev.endJob_core, Dev.fresh_core, Dev.lineRead_core, Dev.setJobs_core, apply_ite Dev.core, ite_self, apply_ite Prod.snd, apply_ite Prod.fst]; done) | with_reducible refine (pair2_core ‹_›).trans ?_ | with_reducible refine (pair1_core ‹_›).trans ?_ | with_reducible refine ite_to ?_ ?_ | split | simp only [↓core_mk, Dev.endJob_core, Dev.fresh_core, Dev.lineRead_core, Dev.setJobs_core, apply_ite Dev.core, ite_self, apply_ite Prod.snd, apply_ite Prod.fst])
theorem Dev.matcherSuspend_core (s : Dev) (d i n : Nat) : (Dev.matcherSuspend s d i n).core = s.core := by
  unfold Dev.matcherSuspend; (repeat' first | with_reducible rfl | (simp only [↓core_mk, Dev.setJobs_core, apply_ite Dev.core, ite_self]; done) | with_reducible refine ite_to ?_ ?_ | split)
theorem Dev.matcherBudgets_core (s : Dev) : (Dev.matcherBudgets s).core = s.core := by
  unfold Dev.matcherBudgets; (repeat' first | with_reducible rfl | (with_reducible refine (foldl_core _ ?_ _ _).trans ?_; intro _ _) | (simp only [↓core_mk, Dev.fresh_core, Dev.matcherSuspend_core, apply_ite Dev.core, ite_self]; done) | with_reducible refine ite_to ?_ ?_ | split)

end Sys2Proof.Machine
end

