-- ==== Sys2Proof/Laws/FrameControl.lean ====
section
/-! SUPPORT. Frame lemmas of host registers, ports, Bureau sessions, fencing, resets and the egress side: each leaves the part, the tick counter and, but for `_clock` lemmas, the bytes of
memory alone. -/
set_option linter.unusedSimpArgs false
set_option linter.unusedVariables false
set_option maxRecDepth 8000
namespace Sys2Proof.Machine

theorem Dev.ciRewrite_core (s : Dev) (n : Nat) : (Dev.ciRewrite s n).core = s.core := by
  unfold Dev.ciRewrite; simp only [Dev.intr_core, Dev.setFn_core]
theorem Dev.ciData_core (s : Dev) (n : Nat) : ((Dev.ciData s n).2).core = s.core := by
  unfold Dev.ciData; simp only [Dev.setFn_core]
theorem Dev.commandWrite_core (s : Dev) (n v : Nat) : (Dev.commandWrite s n v).core = s.core := by
  unfold Dev.commandWrite; simp only [↓core_mk, Dev.bmeClear_core, Dev.bmeSet_core, Dev.setFn_core, apply_ite Dev.core, ite_self]
theorem Dev.devCtlWrite_core (s : Dev) (n v : Nat) : (Dev.devCtlWrite s n v).core = s.core := by
  unfold Dev.devCtlWrite; simp only [↓core_mk, Dev.initiateFlr_core, Dev.setFn_core, apply_ite Dev.core, ite_self]
theorem Dev.cfgWrite_core (s : Dev) (n : Nat) (r : CfgReg) (v : Nat) : (Dev.cfgWrite s n r v).core = s.core := by
  unfold Dev.cfgWrite; (repeat' first | with_reducible rfl | (with_reducible refine (foldl_core _ ?_ _ _).trans ?_; intro _ _) | (with_reducible refine (foldl2_core _ ?_ _ _).trans ?_; intro _ _) | (with_reducible refine (foldl1_core _ ?_ _ _).trans ?_; intro _ _) | (simp only [↓core_mk, Dev.aer_core, Dev.ciData_core, Dev.commandWrite_core, Dev.dState_core, Dev.devCtlWrite_core, Dev.drainAll_core, Dev.dropTranslations_core, Dev.flushMsix_core, Dev.setFn_core, Dev.setLink_core, Dev.vfEnableClear_core, Dev.vfEnableSet_core, apply_ite Dev.core, ite_self, apply_ite Prod.snd, apply_ite Prod.fst]; done) | with_reducible refine (pair2_core ‹_›).trans ?_ | with_reducible refine (pair1_core ‹_›).trans ?_ | with_reducible refine ite_to ?_ ?_ | split | simp only [↓core_mk, Dev.aer_core, Dev.ciData_core, Dev.commandWrite_core, Dev.dState_core, Dev.devCtlWrite_core, Dev.drainAll_core, Dev.dropTranslations_core, Dev.flushMsix_core, Dev.setFn_core, Dev.setLink_core, Dev.vfEnableClear_core, Dev.vfEnableSet_core, apply_ite Dev.core, ite_self, apply_ite Prod.snd, apply_ite Prod.fst])
theorem Dev.cfgServe_core (s : Dev) (n : Nat) (r : CfgReg) (wr : Option Nat) : (Dev.cfgServe s n r wr).core = s.core := by
  unfold Dev.cfgServe; (repeat' first | with_reducible rfl | (simp only [↓core_mk, Dev.cfgWrite_core, Dev.ciData_core, Dev.emit_core, apply_ite Dev.core, ite_self]; done) | with_reducible refine ite_to ?_ ?_ | split)
theorem Dev.adminRegWrite_core (s : Dev) (n : Nat) (g : Func → Func) : (Dev.adminRegWrite s n g).core = s.core := by
  unfold Dev.adminRegWrite; simp only [↓core_mk, Dev.bump_core, Dev.setFn_core, apply_ite Dev.core, ite_self]
theorem Dev.funcWrite_core (s : Dev) (n r v : Nat) : (Dev.funcWrite s n r v).core = s.core := by
  unfold Dev.funcWrite; (repeat' first | with_reducible rfl | (simp only [↓core_mk, Dev.adminDisable_core, Dev.adminRegWrite_core, Dev.boxControl_core, Dev.setFn_core, apply_ite Dev.core, ite_self]; done) | with_reducible refine ite_to ?_ ?_ | split)
theorem Dev.msixWrite_core (s : Dev) (n off size v : Nat) : (Dev.msixWrite s n off size v).core = s.core := by
  unfold Dev.msixWrite; simp only [Dev.flushMsix_core, Dev.setFn_core]
theorem Dev.bar0Write_core (s : Dev) (n off size v : Nat) : (Dev.bar0Write s n off size v).core = s.core := by
  unfold Dev.bar0Write; (repeat' first | with_reducible rfl | (simp only [↓core_mk, Dev.boxWrite_core, Dev.bump_core, Dev.funcWrite_core, Dev.msixWrite_core, apply_ite Dev.core, ite_self]; done) | with_reducible refine ite_to ?_ ?_ | split)
theorem Dev.ccWrite_core (s : Dev) (c v : Nat) : (Dev.ccWrite s c v).core = s.core := by
  unfold Dev.ccWrite; simp only [↓core_mk, Dev.ctrlEnable_core, Dev.ctrlShutdown_core, Dev.ctrlStop_core, Dev.setCtrl_core, apply_ite Dev.core, ite_self]
theorem Dev.ctrlWrite_core (s : Dev) (c off size v : Nat) : (Dev.ctrlWrite s c off size v).core = s.core := by
  unfold Dev.ctrlWrite; (repeat' first | with_reducible rfl | (simp only [↓core_mk, Dev.ccWrite_core, Dev.setCtrl_core, apply_ite Dev.core, ite_self]; done) | with_reducible refine ite_to ?_ ?_ | split)
theorem Dev.nvmeBell_core (s : Dev) (c off v : Nat) : (Dev.nvmeBell s c off v).core = s.core := by
  unfold Dev.nvmeBell; simp only [↓core_mk, Dev.cqDoorbell_core, Dev.sqDoorbell_core, apply_ite Dev.core, ite_self]
theorem Dev.barRead_core (s : Dev) (n bar off size : Nat) : (Dev.barRead s n bar off size).core = s.core := by
  unfold Dev.barRead; (repeat' first | with_reducible rfl | (simp only [↓core_mk, Dev.bump_core, Dev.emit_core, apply_ite Dev.core, ite_self, apply_ite Prod.snd, apply_ite Prod.fst]; done) | with_reducible refine (pair2_core ‹_›).trans ?_ | with_reducible refine ite_to ?_ ?_ | split | simp only [↓core_mk, Dev.bump_core, Dev.emit_core, apply_ite Dev.core, ite_self, apply_ite Prod.snd, apply_ite Prod.fst])
theorem Dev.barWrite_core (s : Dev) (n bar off size v : Nat) : (Dev.barWrite s n bar off size v).core = s.core := by
  unfold Dev.barWrite; (repeat' first | with_reducible rfl | (simp only [↓core_mk, Dev.bar0Write_core, Dev.bump_core, Dev.ctrlWrite_core, Dev.doorbell_core, Dev.nvmeBell_core, apply_ite Dev.core, ite_self]; done) | with_reducible refine ite_to ?_ ?_ | split)
theorem Dev.setPort_core (s : Dev) (p : Nat) (x : Port) : (Dev.setPort s p x).core = s.core := id rfl
theorem Dev.clearLocks_core (s : Dev) (ls : List Nat) : (Dev.clearLocks s ls).core = s.core := by
  unfold Dev.clearLocks; (repeat' first | with_reducible rfl | (with_reducible refine (foldl_core _ ?_ _ _).trans ?_; intro _ _) | (simp only [↓core_mk, Dev.setObj_core, apply_ite Dev.core, ite_self]; done) | with_reducible refine ite_to ?_ ?_ | split)
theorem Dev.restartPort_core (s : Dev) (p : Nat) : (Dev.restartPort s p).core = s.core := by
  unfold Dev.restartPort; simp only [Dev.clearLocks_core, Dev.setObj_core, Dev.setPort_core]
theorem Dev.setFifo_core (s : Dev) (P : Nat) (l : List TxFrame) : (Dev.setFifo s P l).core = s.core := id rfl
theorem Dev.markTx_core (s : Dev) (P : Nat) : (Dev.markTx s P).core = s.core := by
  unfold Dev.markTx; (repeat' first | with_reducible rfl | (simp only [↓core_mk, Dev.setFifo_core, apply_ite Dev.core, ite_self]; done) | with_reducible refine ite_to ?_ ?_ | split)
theorem Dev.unmarkTx_core (s : Dev) (P : Nat) : (Dev.unmarkTx s P).core = s.core := by
  unfold Dev.unmarkTx; simp only [↓core_mk, Dev.setFifo_core, apply_ite Dev.core, ite_self]
theorem Dev.clearPause_core (s : Dev) (p : Nat) : (Dev.clearPause s p).core = s.core := by
  unfold Dev.clearPause; (repeat' first | with_reducible rfl | (with_reducible refine (foldl_core _ ?_ _ _).trans ?_; intro _ _) | (simp only [↓core_mk, Dev.setPrio_core, apply_ite Dev.core, ite_self]; done) | with_reducible refine ite_to ?_ ?_ | split)
theorem Dev.frameStart_core (s : Dev) (p length : Nat) (head : List Nat) (cap : Nat) : (Dev.frameStart s p length head cap).core = s.core := by
  unfold Dev.frameStart; (repeat' first | with_reducible rfl | (simp only [↓core_mk, Dev.admitParcel_core, Dev.bump_core, Dev.fillTo_core, Dev.lowEval_core, Dev.pickBuffers_core, Dev.setChain_core, apply_ite Dev.core, ite_self, apply_ite Prod.snd, apply_ite Prod.fst]; done) | with_reducible refine (pair2_core ‹_›).trans ?_ | with_reducible refine ite_to ?_ ?_ | split | simp only [↓core_mk, Dev.admitParcel_core, Dev.bump_core, Dev.fillTo_core, Dev.lowEval_core, Dev.pickBuffers_core, Dev.setChain_core, apply_ite Dev.core, ite_self, apply_ite Prod.snd, apply_ite Prod.fst])
theorem Dev.dropWaiting_core (s : Dev) (h : Nat) : (Dev.dropWaiting s h).core = s.core := by
  unfold Dev.dropWaiting; (repeat' first | with_reducible rfl | (with_reducible refine (foldl_core _ ?_ _ _).trans ?_; intro _ _) | (simp only [↓core_mk, Dev.toFins_core, apply_ite Dev.core, ite_self]; done) | with_reducible refine ite_to ?_ ?_ | split)
theorem Dev.cutShort_core (s : Dev) (r : RxFrame) : (Dev.cutShort s r).core = s.core := by
  unfold Dev.cutShort; simp only [Dev.setChainData_core]
theorem Dev.fixTail_core (s : Dev) (h : Nat) : (Dev.fixTail s h).core = s.core := by
  unfold Dev.fixTail; (repeat' first | with_reducible rfl | (simp only [↓core_mk, Dev.setChainData_core, apply_ite Dev.core, ite_self]; done) | with_reducible refine ite_to ?_ ?_ | split)
theorem Dev.wakePunts_core (s : Dev) : (Dev.wakePunts s).core = s.core := by
  unfold Dev.wakePunts; (repeat' first | with_reducible rfl | (with_reducible refine (foldl_core _ ?_ _ _).trans ?_; intro _ _) | (with_reducible refine (foldl2_core _ ?_ _ _).trans ?_; intro _ _) | (with_reducible refine (foldl1_core _ ?_ _ _).trans ?_; intro _ _) | (simp only [↓core_mk, Dev.wakeDrawer_core, apply_ite Dev.core, ite_self, apply_ite Prod.snd, apply_ite Prod.fst]; done) | with_reducible refine (pair2_core ‹_›).trans ?_ | with_reducible refine (pair1_core ‹_›).trans ?_ | with_reducible refine ite_to ?_ ?_ | split | simp only [↓core_mk, Dev.wakeDrawer_core, apply_ite Dev.core, ite_self, apply_ite Prod.snd, apply_ite Prod.fst])
theorem Dev.frameDone_core (s : Dev) (p : Nat) (tail : List Nat) (fcsOk cut : Bool) : (Dev.frameDone s p tail fcsOk cut).core = s.core := by
  unfold Dev.frameDone; (repeat' first | with_reducible rfl | (with_reducible refine (foldl_core _ ?_ _ _).trans ?_; intro _ _) | (with_reducible refine (foldl2_core _ ?_ _ _).trans ?_; intro _ _) | (with_reducible refine (foldl1_core _ ?_ _ _).trans ?_; intro _ _) | (simp only [↓core_mk, Dev.addObj_core, Dev.arriveBytes_core, Dev.bump_core, Dev.cutShort_core, Dev.dropReserved_core, Dev.dropWaiting_core, Dev.emPush_core, Dev.fillTo_core, Dev.fixTail_core, Dev.setPort_core, Dev.wakePunts_core, apply_ite Dev.core, ite_self, apply_ite Prod.snd, apply_ite Prod.fst]; done) | with_reducible refine (pair2_core ‹_›).trans ?_ | with_reducible refine (pair1_core ‹_›).trans ?_ | with_reducible refine ite_to ?_ ?_ | split | simp only [↓core_mk, Dev.addObj_core, Dev.arriveBytes_core, Dev.bump_core, Dev.cutShort_core, Dev.dropReserved_core, Dev.dropWaiting_core, Dev.emPush_core, Dev.fillTo_core, Dev.fixTail_core, Dev.setPort_core, Dev.wakePunts_core, apply_ite Dev.core, ite_self, apply_ite Prod.snd, apply_ite Prod.fst])
theorem Dev.portEnable_core (s : Dev) (p : Nat) : (Dev.portEnable s p).core = s.core := by
  unfold Dev.portEnable; simp only [Dev.restartPort_core, Dev.unmarkTx_core]
theorem Dev.portDisable_core (s : Dev) (p : Nat) : (Dev.portDisable s p).core = s.core := by
  unfold Dev.portDisable; simp only [Dev.clearLocks_core, Dev.clearPause_core, Dev.frameDone_core, Dev.markTx_core, Dev.setObj_core, Dev.setPort_core]
theorem Dev.trainingFails_core (s : Dev) (p : Nat) : (Dev.trainingFails s p).core = s.core := by
  unfold Dev.trainingFails; simp only [↓core_mk, Dev.notify_core, Dev.setPort_core, apply_ite Dev.core, ite_self]
theorem Dev.alignLock_core (s : Dev) (p : Nat) (order : List Nat) : (Dev.alignLock s p order).core = s.core := by
  unfold Dev.alignLock; (repeat' first | with_reducible rfl | (with_reducible refine (foldl_core _ ?_ _ _).trans ?_; intro _ _) | (simp only [↓core_mk, Dev.setObj_core, Dev.setPort_core, apply_ite Dev.core, ite_self]; done) | with_reducible refine ite_to ?_ ?_ | split)
theorem Dev.goUp_core (s : Dev) (p : Nat) : (Dev.goUp s p).core = s.core := by
  unfold Dev.goUp; simp only [Dev.notify_core, Dev.pauseEval_core, Dev.setObj_core, Dev.setPort_core]
theorem Dev.lockLoss_core (s : Dev) (p : Nat) (lanes : List Nat) : (Dev.lockLoss s p lanes).core = s.core := by
  unfold Dev.lockLoss; simp only [↓core_mk, Dev.clearLocks_core, Dev.frameDone_core, Dev.setPort_core, apply_ite Dev.core, ite_self]
theorem Dev.goDown_core (s : Dev) (p : Nat) : (Dev.goDown s p).core = s.core := by
  unfold Dev.goDown; simp only [Dev.clearPause_core, Dev.frameDone_core, Dev.notify_core, Dev.restartPort_core, Dev.unmarkTx_core]
theorem Dev.linksEdge_core (s : Dev) : (Dev.linksEdge s).core = s.core := by
  unfold Dev.linksEdge; (repeat' first | with_reducible rfl | (with_reducible refine (foldl_core _ ?_ _ _).trans ?_; intro _ _) | (simp only [↓core_mk, Dev.goDown_core, Dev.goUp_core, apply_ite Dev.core, ite_self]; done) | with_reducible refine ite_to ?_ ?_ | split)
theorem Dev.polarityFlip_core (s : Dev) (l : Nat) : (Dev.polarityFlip s l).core = s.core := by
  unfold Dev.polarityFlip; simp only [↓core_mk, Dev.setObj_core]
theorem Dev.fecCount_core (s : Dev) (p n u : Nat) : (Dev.fecCount s p n u).core = s.core := by
  unfold Dev.fecCount; simp only [↓core_mk, Dev.addObj_core, Dev.notify_core, Dev.setPort_core, apply_ite Dev.core, ite_self]
theorem Dev.pauseFor_core (s : Dev) (k n : Nat) : (Dev.pauseFor s k n).core = s.core := by
  unfold Dev.pauseFor; simp only [↓core_mk, Dev.setPrio_core, apply_ite Dev.core, ite_self]
theorem Dev.pauseReceive_core (s0 : Dev) (p mask : Nat) (quanta : List Nat) : (Dev.pauseReceive s0 p mask quanta).core = s0.core := by
  unfold Dev.pauseReceive; (repeat' first | with_reducible rfl | (with_reducible refine (foldl_core _ ?_ _ _).trans ?_; intro _ _) | (with_reducible refine (foldl2_core _ ?_ _ _).trans ?_; intro _ _) | (with_reducible refine (foldl1_core _ ?_ _ _).trans ?_; intro _ _) | (simp only [↓core_mk, Dev.bump_core, Dev.markTx_core, Dev.pauseFor_core, apply_ite Dev.core, ite_self, apply_ite Prod.snd, apply_ite Prod.fst]; done) | with_reducible refine (pair2_core ‹_›).trans ?_ | with_reducible refine (pair1_core ‹_›).trans ?_ | with_reducible refine ite_to ?_ ?_ | split | simp only [↓core_mk, Dev.bump_core, Dev.markTx_core, Dev.pauseFor_core, apply_ite Dev.core, ite_self, apply_ite Prod.snd, apply_ite Prod.fst])
theorem Dev.mgmtReceive_core (s : Dev) (f : List Nat) : (Dev.mgmtReceive s f).core = s.core := by
  exact Dev.mgmtFrame_core _ _ (fun t => by (try dsimp only); split <;> first | exact Dev.emit_core _ _ | rfl)
theorem Dev.setSession_core (s : Dev) (key : Nat) (ss : Session) : (Dev.setSession s key ss).core = s.core := id rfl
theorem Dev.acceptNow_core (s : Dev) (a : Accepted) : (Dev.acceptNow s a).core = s.core := by
  unfold Dev.acceptNow; (repeat' first | with_reducible rfl | (simp only [↓core_mk, Dev.emAccept_core, Dev.setSession_core, apply_ite Dev.core, ite_self, apply_ite Prod.snd, apply_ite Prod.fst]; done) | with_reducible refine (pair2_core ‹_›).trans ?_ | with_reducible refine ite_to ?_ ?_ | split | simp only [↓core_mk, Dev.emAccept_core, Dev.setSession_core, apply_ite Dev.core, ite_self, apply_ite Prod.snd, apply_ite Prod.fst])
theorem Dev.acceptTxn_core (s : Dev) (a : Accepted) : (Dev.acceptTxn s a).core = s.core := by
  unfold Dev.acceptTxn; simp only [↓core_mk, Dev.acceptNow_core, apply_ite Dev.core, ite_self]
theorem Dev.stage_core (s : Dev) (key : Nat) (ss : Session) (x : Staged) : ∀ r, Dev.stage s key ss x = some r → r.core = s.core := by
  intro r hr; unfold Dev.stage at hr; dsimp only at hr; split at hr; · cases hr
  · cases hr; exact Dev.setSession_core _ _ _
theorem Dev.writeRec_core (s : Dev) (key : Nat) (recover : Bool) (r : ObjRec) : ((Dev.writeRec s key recover r).1).core = s.core := by
  unfold Dev.writeRec; dsimp only; repeat' first | with_reducible rfl | exact Dev.acceptTxn_core _ _ | exact Dev.stage_core _ _ _ _ _ ‹_› | split
theorem Dev.writeRecs_core (key : Nat) (recover : Bool) (a1 : Nat) (a2 : Dev) (a3 : List ObjRec) : ((Dev.writeRecs key recover a1 a2 a3).1).core = a2.core := by
  fun_induction Dev.writeRecs <;> (try simp_all only []) <;> ((repeat' first | with_reducible rfl | (simp only [↓core_mk, Dev.writeRec_core, apply_ite Dev.core, ite_self]; done) | with_reducible refine (pair1_core ‹_›).trans ?_ | with_reducible refine ite_to ?_ ?_ | split))
theorem Dev.touchTxn_core (s : Dev) (key : Nat) : (Dev.touchTxn s key).core = s.core := by
  unfold Dev.touchTxn; (repeat' first | with_reducible rfl | (simp only [↓core_mk, Dev.setSession_core, apply_ite Dev.core, ite_self]; done) | with_reducible refine ite_to ?_ ?_ | split)
theorem Dev.commitReq_core (s : Dev) (key id seq : Nat) : ((Dev.commitReq s key id seq).2).core = s.core := by
  unfold Dev.commitReq; (repeat' first | with_reducible rfl | (simp only [↓core_mk, Dev.acceptTxn_core, Dev.setSession_core, Dev.touchTxn_core, apply_ite Dev.core, ite_self]; done) | with_reducible refine ite_to ?_ ?_ | split)
theorem Dev.abortReq_core (s : Dev) (key id : Nat) : ((Dev.abortReq s key id).2).core = s.core := by
  unfold Dev.abortReq; (repeat' first | with_reducible rfl | (simp only [↓core_mk, Dev.setSession_core, apply_ite Dev.core, ite_self]; done) | with_reducible refine ite_to ?_ ?_ | split)
theorem Dev.respond_core (s : Dev) (key seq : Nat) (r : Response) : (Dev.respond s key seq r).core = s.core := by
  unfold Dev.respond; (repeat' first | with_reducible rfl | (simp only [↓core_mk, Dev.emit_core, Dev.setSession_core, apply_ite Dev.core, ite_self, apply_ite Prod.snd, apply_ite Prod.fst]; done) | with_reducible refine (pair2_core ‹_›).trans ?_ | with_reducible refine ite_to ?_ ?_ | split | simp only [↓core_mk, Dev.emit_core, Dev.setSession_core, apply_ite Dev.core, ite_self, apply_ite Prod.snd, apply_ite Prod.fst])
theorem Dev.answerNotReady_core (s : Dev) (key seq : Nat) : (Dev.answerNotReady s key seq).core = s.core := by
  unfold Dev.answerNotReady; (repeat' first | with_reducible rfl | (simp only [↓core_mk, Dev.emit_core, Dev.setSession_core, apply_ite Dev.core, ite_self]; done) | with_reducible refine ite_to ?_ ?_ | split)
theorem Dev.heard_core (s : Dev) (key : Nat) : (Dev.heard s key).core = s.core := by
  unfold Dev.heard; (repeat' first | with_reducible rfl | (simp only [↓core_mk, Dev.setSession_core, apply_ite Dev.core, ite_self]; done) | with_reducible refine ite_to ?_ ?_ | split)
theorem Dev.onPath_core (s : Dev) (key : Nat) (f : Dev → Dev) (hf : ∀ t, (f t).core = t.core) : (Dev.onPath s key f).core = s.core := by
  unfold Dev.onPath; split <;> first | exact Dev.mgmtFrame_core _ _ hf | exact hf _
theorem Dev.request_core (s : Dev) (sess : Sess) (ver seq : Nat) (f : Dev → Nat → Dev) (hf : ∀ t y1, (f t y1).core = t.core) : (Dev.request s sess ver seq f).core = s.core := by
  unfold Dev.request; dsimp only; split; · rfl
  · split
    · rfl
    · refine Dev.onPath_core _ _ _ ?_; intro t; (try dsimp only); repeat' first | with_reducible rfl | (simp only [hf, Dev.heard_core, Dev.emit_core, Dev.bump_core]; done) | split
theorem Dev.bodyReq_core (s : Dev) (key seq count : Nat) (body : List Nat) (f : Dev → List ObjRec → Dev) (hf : ∀ t y1, (f t y1).core = t.core) : (Dev.bodyReq s key seq count body f).core = s.core := by
  unfold Dev.bodyReq; (repeat' first | with_reducible rfl | (simp only [↓core_mk, Dev.emit_core, hf, apply_ite Dev.core, ite_self]; done) | with_reducible refine ite_to ?_ ?_ | split)
theorem Dev.sendReplies_core (s : Dev) : (Dev.sendReplies s).core = s.core := by
  unfold Dev.sendReplies; (repeat' first | with_reducible rfl | (with_reducible refine (foldl_core _ ?_ _ _).trans ?_; intro _ _) | (simp only [↓core_mk, Dev.respond_core, apply_ite Dev.core, ite_self]; done) | with_reducible refine ite_to ?_ ?_ | split)
theorem Dev.readReq_core (s : Dev) (key seq : Nat) (rs : List ObjRec) : (Dev.readReq s key seq rs).core = s.core := by
  unfold Dev.readReq; (repeat' first | with_reducible rfl | (simp only [↓core_mk, Dev.answerNotReady_core, Dev.emit_core, Dev.respond_core, apply_ite Dev.core, ite_self]; done) | with_reducible refine ite_to ?_ ?_ | split)
theorem Dev.writeReq_core (s : Dev) (key seq : Nat) (rs : List ObjRec) : (Dev.writeReq s key seq rs).core = s.core := by
  unfold Dev.writeReq; (repeat' first | with_reducible rfl | (with_reducible refine (foldl_core _ ?_ _ _).trans ?_; intro _ _) | (with_reducible refine (foldl2_core _ ?_ _ _).trans ?_; intro _ _) | (with_reducible refine (foldl1_core _ ?_ _ _).trans ?_; intro _ _) | (simp only [↓core_mk, Dev.acceptTxn_core, Dev.answerNotReady_core, Dev.emit_core, Dev.respond_core, Dev.touchTxn_core, Dev.writeRecs_core, apply_ite Dev.core, ite_self, apply_ite Prod.snd, apply_ite Prod.fst]; done) | with_reducible refine (pair2_core ‹_›).trans ?_ | with_reducible refine (pair1_core ‹_›).trans ?_ | with_reducible refine ite_to ?_ ?_ | split | simp only [↓core_mk, Dev.acceptTxn_core, Dev.answerNotReady_core, Dev.emit_core, Dev.respond_core, Dev.touchTxn_core, Dev.writeRecs_core, apply_ite Dev.core, ite_self, apply_ite Prod.snd, apply_ite Prod.fst])
theorem Dev.txnReq_core (s : Dev) (key seq id : Nat) (f : Dev → Dev) (hf : ∀ t, (f t).core = t.core) : (Dev.txnReq s key seq id f).core = s.core := by
  unfold Dev.txnReq; (repeat' first | with_reducible rfl | (simp only [↓core_mk, Dev.answerNotReady_core, Dev.emit_core, Dev.respond_core, hf, apply_ite Dev.core, ite_self]; done) | with_reducible refine ite_to ?_ ?_ | split)
theorem Dev.bureauDone_core (s : Dev) (n desc status txnId tick : Nat) (xs : List RespRec) (recs : Nat) : (Dev.bureauDone s n desc status txnId tick xs recs).core = s.core := by
  unfold Dev.bureauDone; simp only [↓core_mk, Dev.adminDone_core, Dev.hostWrite_core, apply_ite Dev.core, ite_self]
theorem Dev.withInput_core (s : Dev) (n desc : Nat) (input : Option (List Nat)) (f : List ObjRec → Dev) (hf : ∀ y1, (f y1).core = s.core) : (Dev.withInput s n desc input f).core = s.core := by
  unfold Dev.withInput; repeat' first | exact Dev.adminDone_core _ _ _ _ | exact hf _ | split
theorem Dev.endSession_core (s : Dev) (key : Nat) : (Dev.endSession s key).core = s.core := by
  unfold Dev.endSession; simp only [↓core_mk, Dev.discardTxn_core]
theorem Dev.setStoreCopy_core (s : Dev) (i : Nat) (c : StoreCopy) : (Dev.setStoreCopy s i c).core = s.core := by
  unfold Dev.setStoreCopy; simp only [↓core_mk, apply_ite Dev.core, ite_self]
theorem Dev.sendIdentity_core (s : Dev) : (Dev.sendIdentity s).core = s.core := by
  unfold Dev.sendIdentity; simp only [Dev.emit_core]
theorem Dev.setRole_core (s : Dev) (r : Nat) : (Dev.setRole s r).core = s.core := by
  unfold Dev.setRole; simp only [↓core_mk, Dev.sendIdentity_core, Dev.setObj_core, apply_ite Dev.core, ite_self]
theorem Dev.syncDone_core (s : Dev) (op : SyncOp) : (Dev.syncDone s op).core = s.core := by
  unfold Dev.syncDone; (repeat' first | with_reducible rfl | (simp only [↓core_mk, Dev.adminDone_core, Dev.ownSend_core, Dev.pump_core, Dev.updCmd_core, apply_ite Dev.core, ite_self]; done) | with_reducible refine ite_to ?_ ?_ | split)
theorem Dev.releaseSync_core (s : Dev) : (Dev.releaseSync s).core = s.core := by
  unfold Dev.releaseSync; (repeat' first | with_reducible rfl | (with_reducible refine (foldl_core _ ?_ _ _).trans ?_; intro _ _) | (simp only [↓core_mk, Dev.syncDone_core, apply_ite Dev.core, ite_self]; done) | with_reducible refine ite_to ?_ ?_ | split)
theorem Dev.diag_core (s : Dev) (level cause unit' detail : Nat) : (Dev.diag s level cause unit' detail).core = s.core := by
  unfold Dev.diag; simp only [Dev.log_core]
theorem Dev.correctedOn_core (s : Dev) (n : Nat) : (Dev.correctedOn s n).core = s.core := by
  unfold Dev.correctedOn; (repeat' first | with_reducible rfl | (with_reducible refine (foldl_core _ ?_ _ _).trans ?_; intro _ _) | (with_reducible refine (foldl2_core _ ?_ _ _).trans ?_; intro _ _) | (with_reducible refine (foldl1_core _ ?_ _ _).trans ?_; intro _ _) | (simp only [↓core_mk, Dev.aer_core, Dev.emit_core, Dev.setFn_core, apply_ite Dev.core, ite_self, apply_ite Prod.snd, apply_ite Prod.fst]; done) | with_reducible refine (pair2_core ‹_›).trans ?_ | with_reducible refine (pair1_core ‹_›).trans ?_ | with_reducible refine ite_to ?_ ?_ | split | simp only [↓core_mk, Dev.aer_core, Dev.emit_core, Dev.setFn_core, apply_ite Dev.core, ite_self, apply_ite Prod.snd, apply_ite Prod.fst])
theorem Dev.aerCorrected_core (s : Dev) : (Dev.aerCorrected s).core = s.core := by
  unfold Dev.aerCorrected; (repeat' first | with_reducible rfl | (with_reducible refine (foldl_core _ ?_ _ _).trans ?_; intro _ _) | (with_reducible refine (foldl2_core _ ?_ _ _).trans ?_; intro _ _) | (with_reducible refine (foldl1_core _ ?_ _ _).trans ?_; intro _ _) | (simp only [↓core_mk, Dev.correctedOn_core, apply_ite Dev.core, ite_self, apply_ite Prod.snd, apply_ite Prod.fst]; done) | with_reducible refine (pair2_core ‹_›).trans ?_ | with_reducible refine (pair1_core ‹_›).trans ?_ | with_reducible refine ite_to ?_ ?_ | split | simp only [↓core_mk, Dev.correctedOn_core, apply_ite Dev.core, ite_self, apply_ite Prod.snd, apply_ite Prod.fst])
theorem Dev.twinLog_core (s : Dev) (kind before' : Nat) : (Dev.twinLog s kind before').core = s.core := by
  unfold Dev.twinLog; simp only [Dev.log_core, Dev.notify_core]
theorem Dev.failCommands_core (s : Dev) (status : Nat) : (Dev.failCommands s status).core = s.core := by
  unfold Dev.failCommands; (repeat' first | with_reducible rfl | (with_reducible refine (foldl_core _ ?_ _ _).trans ?_; intro _ _) | (simp only [↓core_mk, Dev.cmdDone_core, apply_ite Dev.core, ite_self]; done) | with_reducible refine ite_to ?_ ?_ | split)
theorem Dev.enterFenced_core (s : Dev) (kind : Nat) : (Dev.enterFenced s kind).core = s.core := by
  unfold Dev.enterFenced; (repeat' first | with_reducible rfl | (with_reducible refine (foldl_core _ ?_ _ _).trans ?_; intro _ _) | (with_reducible refine (foldl2_core _ ?_ _ _).trans ?_; intro _ _) | (with_reducible refine (foldl1_core _ ?_ _ _).trans ?_; intro _ _) | (simp only [↓core_mk, Dev.bump_core, Dev.failCommands_core, Dev.freezeQueue_core, Dev.releaseSync_core, Dev.setObj_core, Dev.setRole_core, Dev.twinLog_core, apply_ite Dev.core, ite_self, apply_ite Prod.snd, apply_ite Prod.fst]; done) | with_reducible refine (pair2_core ‹_›).trans ?_ | with_reducible refine (pair1_core ‹_›).trans ?_ | with_reducible refine ite_to ?_ ?_ | split | simp only [↓core_mk, Dev.bump_core, Dev.failCommands_core, Dev.freezeQueue_core, Dev.releaseSync_core, Dev.setObj_core, Dev.setRole_core, Dev.twinLog_core, apply_ite Dev.core, ite_self, apply_ite Prod.snd, apply_ite Prod.fst])
theorem Dev.deviceFault_core (s : Dev) (cause : Nat) : (Dev.deviceFault s cause).core = s.core := by
  unfold Dev.deviceFault; (repeat' first | with_reducible rfl | (with_reducible refine (foldl_core _ ?_ _ _).trans ?_; intro _ _) | (with_reducible refine (foldl2_core _ ?_ _ _).trans ?_; intro _ _) | (with_reducible refine (foldl1_core _ ?_ _ _).trans ?_; intro _ _) | (simp only [↓core_mk, Dev.aer_core, Dev.diag_core, Dev.enterFenced_core, Dev.freezeQueue_core, Dev.notify_core, Dev.setCtrl_core, Dev.setObj_core, apply_ite Dev.core, ite_self, apply_ite Prod.snd, apply_ite Prod.fst]; done) | with_reducible refine (pair2_core ‹_›).trans ?_ | with_reducible refine (pair1_core ‹_›).trans ?_ | with_reducible refine ite_to ?_ ?_ | split | simp only [↓core_mk, Dev.aer_core, Dev.diag_core, Dev.enterFenced_core, Dev.freezeQueue_core, Dev.notify_core, Dev.setCtrl_core, Dev.setObj_core, apply_ite Dev.core, ite_self, apply_ite Prod.snd, apply_ite Prod.fst])
theorem Dev.stopDrawer_core (s : Dev) (d : Nat) : (Dev.stopDrawer s d).core = s.core := by
  unfold Dev.stopDrawer; (repeat' first | with_reducible rfl | (with_reducible refine (foldl_core _ ?_ _ _).trans ?_; intro _ _) | (with_reducible refine (foldl2_core _ ?_ _ _).trans ?_; intro _ _) | (with_reducible refine (foldl1_core _ ?_ _ _).trans ?_; intro _ _) | (simp only [↓core_mk, Dev.freeOwned_core, Dev.markLost_core, Dev.poisonDrawer_core, Dev.raise_core, Dev.setMover_core, Dev.setObj_core, apply_ite Dev.core, ite_self, apply_ite Prod.snd, apply_ite Prod.fst]; done) | with_reducible refine (pair2_core ‹_›).trans ?_ | with_reducible refine (pair1_core ‹_›).trans ?_ | with_reducible refine ite_to ?_ ?_ | split | simp only [↓core_mk, Dev.freeOwned_core, Dev.markLost_core, Dev.poisonDrawer_core, Dev.raise_core, Dev.setMover_core, Dev.setObj_core, apply_ite Dev.core, ite_self, apply_ite Prod.snd, apply_ite Prod.fst])
theorem Dev.rehome_core (s : Dev) (from' : Nat → Bool) (to' : List Nat) : (Dev.rehome s from' to').core = s.core := by
  unfold Dev.rehome; (repeat' first | with_reducible rfl | (with_reducible refine (foldl_core _ ?_ _ _).trans ?_; intro _ _) | (simp only [↓core_mk, Dev.setObj_core, apply_ite Dev.core, ite_self]; done) | with_reducible refine ite_to ?_ ?_ | split)
theorem Dev.moveHome_core (s : Dev) (e : QEntry) : (Dev.moveHome s e).core = s.core := by
  unfold Dev.moveHome; simp only [Dev.placeEntry_core]
theorem Dev.moveHeld_core (s : Dev) (gone : Nat → Bool) : (Dev.moveHeld s gone).core = s.core := by
  unfold Dev.moveHeld; (repeat' first | with_reducible rfl | (with_reducible refine (foldl_core _ ?_ _ _).trans ?_; intro _ _) | (simp only [↓core_mk, Dev.moveHome_core, Dev.rackOwns_core, apply_ite Dev.core, ite_self]; done) | with_reducible refine ite_to ?_ ?_ | split)
theorem Dev.reissue_core (s : Dev) (x : InFlight) : ((Dev.reissue s x).2).core = s.core := by
  unfold Dev.reissue; (repeat' first | with_reducible rfl | (simp only [↓core_mk, Dev.finishAll_core, Dev.moveHome_core, apply_ite Dev.core, ite_self]; done) | with_reducible refine ite_to ?_ ?_ | split)
theorem Dev.reissueAll_core (s : Dev) (l : List InFlight) : ((Dev.reissueAll s l).2.2).core = s.core := by
  unfold Dev.reissueAll; refine (foldl22_core _ ?_ _ _); intro a x; (try dsimp only); split <;> exact Dev.reissue_core _ _
theorem Dev.fenceDrawer_core (s : Dev) (d : Nat) (c : FenceCause) : (Dev.fenceDrawer s d c).core = s.core := by
  unfold Dev.fenceDrawer; (repeat' first | with_reducible rfl | (with_reducible refine (foldl_core _ ?_ _ _).trans ?_; intro _ _) | (with_reducible refine (foldl2_core _ ?_ _ _).trans ?_; intro _ _) | (with_reducible refine (foldl1_core _ ?_ _ _).trans ?_; intro _ _) | (simp only [↓core_mk, Dev.aerCorrected_core, Dev.deviceFault_core, Dev.log_core, Dev.moveHeld_core, Dev.moveHome_core, Dev.rehome_core, Dev.reissueAll_core, Dev.stopDrawer_core, apply_ite Dev.core, ite_self, apply_ite Prod.snd, apply_ite Prod.fst]; done) | with_reducible refine (pair2_core ‹_›).trans ?_ | with_reducible refine (pair1_core ‹_›).trans ?_ | with_reducible refine ite_to ?_ ?_ | split | simp only [↓core_mk, Dev.aerCorrected_core, Dev.deviceFault_core, Dev.log_core, Dev.moveHeld_core, Dev.moveHome_core, Dev.rehome_core, Dev.reissueAll_core, Dev.stopDrawer_core, apply_ite Dev.core, ite_self, apply_ite Prod.snd, apply_ite Prod.fst])
theorem Dev.dueFence_core (s : Dev) (d cause : Nat) : (Dev.dueFence s d cause).core = s.core := by
  unfold Dev.dueFence; simp only [↓core_mk, apply_ite Dev.core, ite_self]
theorem Dev.loseHot_core (s : Dev) (c : Nat) : (Dev.loseHot s c).core = s.core := id rfl
theorem Dev.fenceCabinet_core (s : Dev) (c : Nat) (f : FenceCause) : (Dev.fenceCabinet s c f).core = s.core := by
  unfold Dev.fenceCabinet; (repeat' first | with_reducible rfl | (with_reducible refine (foldl_core _ ?_ _ _).trans ?_; intro _ _) | (with_reducible refine (foldl2_core _ ?_ _ _).trans ?_; intro _ _) | (with_reducible refine (foldl1_core _ ?_ _ _).trans ?_; intro _ _) | (simp only [↓core_mk, Dev.aerCorrected_core, Dev.deviceFault_core, Dev.diag_core, Dev.loseHot_core, Dev.moveHeld_core, Dev.notify_core, Dev.rehome_core, Dev.reissueAll_core, Dev.setObj_core, Dev.stopDrawer_core, apply_ite Dev.core, ite_self, apply_ite Prod.snd, apply_ite Prod.fst]; done) | with_reducible refine (pair2_core ‹_›).trans ?_ | with_reducible refine (pair1_core ‹_›).trans ?_ | with_reducible refine ite_to ?_ ?_ | split | simp only [↓core_mk, Dev.aerCorrected_core, Dev.deviceFault_core, Dev.diag_core, Dev.loseHot_core, Dev.moveHeld_core, Dev.notify_core, Dev.rehome_core, Dev.reissueAll_core, Dev.setObj_core, Dev.stopDrawer_core, apply_ite Dev.core, ite_self, apply_ite Prod.snd, apply_ite Prod.fst])
theorem Dev.cabinetFirst_core (s : Dev) (c : Nat) : (Dev.cabinetFirst s c).core = s.core := by
  unfold Dev.cabinetFirst; (repeat' first | with_reducible rfl | (with_reducible refine (foldl_core _ ?_ _ _).trans ?_; intro _ _) | (with_reducible refine (foldl2_core _ ?_ _ _).trans ?_; intro _ _) | (with_reducible refine (foldl1_core _ ?_ _ _).trans ?_; intro _ _) | (simp only [↓core_mk, Dev.fenceCabinet_core, apply_ite Dev.core, ite_self, apply_ite Prod.snd, apply_ite Prod.fst]; done) | with_reducible refine (pair2_core ‹_›).trans ?_ | with_reducible refine (pair1_core ‹_›).trans ?_ | with_reducible refine ite_to ?_ ?_ | split | simp only [↓core_mk, Dev.fenceCabinet_core, apply_ite Dev.core, ite_self, apply_ite Prod.snd, apply_ite Prod.fst])
theorem Dev.dueCabinet_core (s : Dev) (c cause : Nat) : (Dev.dueCabinet s c cause).core = s.core := by
  unfold Dev.dueCabinet; simp only [↓core_mk, apply_ite Dev.core, ite_self]
theorem Dev.dueFault_core (s : Dev) (cause : Nat) : (Dev.dueFault s cause).core = s.core := by
  unfold Dev.dueFault; simp only [↓core_mk, apply_ite Dev.core, ite_self]
theorem Dev.fencesEdge_core (s : Dev) : (Dev.fencesEdge s).core = s.core := by
  unfold Dev.fencesEdge; (repeat' first | with_reducible rfl | (with_reducible refine (foldl_core _ ?_ _ _).trans ?_; intro _ _) | (simp only [↓core_mk, Dev.fenceCabinet_core, Dev.fenceDrawer_core, apply_ite Dev.core, ite_self]; done) | with_reducible refine ite_to ?_ ?_ | split)
theorem Dev.faultEdge_core (s : Dev) : (Dev.faultEdge s).core = s.core := by
  unfold Dev.faultEdge; (repeat' first | with_reducible rfl | (simp only [↓core_mk, Dev.deviceFault_core, apply_ite Dev.core, ite_self]; done) | with_reducible refine ite_to ?_ ?_ | split)
theorem Dev.clockEvent_core (s : Dev) (cause : Nat) : (Dev.clockEvent s cause).core = s.core := by
  unfold Dev.clockEvent; simp only [Dev.diag_core, Dev.notify_core]
theorem Dev.sampleStraps_core (s : Dev) : (Dev.sampleStraps s).core = s.core := by
  unfold Dev.sampleStraps; simp only [↓core_mk, Dev.setObj_core, apply_ite Dev.core, ite_self]
theorem Dev.holdover_core (s : Dev) (on : Bool) : (Dev.holdover s on).core = s.core := by
  unfold Dev.holdover; (repeat' first | with_reducible rfl | (with_reducible refine (foldl_core _ ?_ _ _).trans ?_; intro _ _) | (simp only [↓core_mk, Dev.setObj_core, apply_ite Dev.core, ite_self]; done) | with_reducible refine ite_to ?_ ?_ | split)
theorem Dev.resetObjs_core (s : Dev) (cold : Bool) : (Dev.resetObjs s cold).core = s.core := by
  unfold Dev.resetObjs; simp only [↓core_mk, Dev.holdover_core, Dev.sampleStraps_core, apply_ite Dev.core, ite_self]
theorem Dev.resetUnits_core (s : Dev) : (Dev.resetUnits s).core = s.core := by
  unfold Dev.resetUnits; simp only [↓core_mk, Dev.fresh_core]
theorem Dev.lcApply_core (s : Dev) : (Dev.lcApply s).core = s.core := by
  unfold Dev.lcApply; (repeat' first | with_reducible rfl | (simp only [↓core_mk, apply_ite Dev.core, ite_self]; done) | with_reducible refine ite_to ?_ ?_ | split)
theorem Dev.resetBoot_core (s : Dev) (cold : Bool) : (Dev.resetBoot s cold).core = s.core := by
  unfold Dev.resetBoot; simp only [↓core_mk, Dev.fresh_core, apply_ite Dev.core, ite_self]
theorem Dev.coldReset_core (s : Dev) (cause : Nat) : (Dev.coldReset s cause).core = s.core := by
  unfold Dev.coldReset; simp only [↓core_mk, Dev.lcApply_core, Dev.resetBoot_core, Dev.resetObjs_core, Dev.resetUnits_core, Dev.setObj_core]
theorem Dev.warmReset_core (s : Dev) (cause : Nat) : (Dev.warmReset s cause).core = s.core := by
  unfold Dev.warmReset; simp only [↓core_mk, Dev.resetBoot_core, Dev.resetObjs_core, Dev.resetUnits_core, Dev.setObj_core]
theorem Dev.mainDown_core (s : Dev) : (Dev.mainDown s).core = s.core := by
  unfold Dev.mainDown; simp only [↓core_mk, Dev.resetUnits_core, Dev.setObj_core]
theorem Dev.pmeFor_core (s : Dev) (leaf : Nat) : (Dev.pmeFor s leaf).core = s.core := by
  unfold Dev.pmeFor; simp only [↓core_mk, Dev.emit_core, Dev.setFn_core, apply_ite Dev.core, ite_self]
theorem Dev.readmit_core (s : Dev) (P : Nat) (f : QFrame) : (Dev.readmit s P f).core = s.core := by
  unfold Dev.readmit; simp only [↓core_mk, Dev.admitParcel_core, Dev.setChainData_core, apply_ite Dev.core, ite_self]
theorem Dev.jobGone_core (s : Dev) (f : QFrame) : (Dev.jobGone s f).core = s.core := by
  unfold Dev.jobGone; (repeat' first | with_reducible rfl | (with_reducible refine (foldl_core _ ?_ _ _).trans ?_; intro _ _) | (with_reducible refine (foldl2_core _ ?_ _ _).trans ?_; intro _ _) | (with_reducible refine (foldl1_core _ ?_ _ _).trans ?_; intro _ _) | (simp only [↓core_mk, Dev.mirror_core, Dev.updJob_core, apply_ite Dev.core, ite_self, apply_ite Prod.snd, apply_ite Prod.fst]; done) | with_reducible refine (pair2_core ‹_›).trans ?_ | with_reducible refine (pair1_core ‹_›).trans ?_ | with_reducible refine ite_to ?_ ?_ | split | simp only [↓core_mk, Dev.mirror_core, Dev.updJob_core, apply_ite Dev.core, ite_self, apply_ite Prod.snd, apply_ite Prod.fst])
theorem Dev.toPort_core (s : Dev) (P leaf : Nat) (f : QFrame) : (Dev.toPort s P leaf f).core = s.core := by
  unfold Dev.toPort; (repeat' first | with_reducible rfl | (with_reducible refine (foldl_core _ ?_ _ _).trans ?_; intro _ _) | (with_reducible refine (foldl2_core _ ?_ _ _).trans ?_; intro _ _) | (with_reducible refine (foldl1_core _ ?_ _ _).trans ?_; intro _ _) | (simp only [↓core_mk, Dev.bump_core, Dev.jobGone_core, Dev.jobLost_core, Dev.readmit_core, Dev.releaseCopy_core, Dev.setFifo_core, Dev.setQueue_core, apply_ite Dev.core, ite_self, apply_ite Prod.snd, apply_ite Prod.fst]; done) | with_reducible refine (pair2_core ‹_›).trans ?_ | with_reducible refine (pair1_core ‹_›).trans ?_ | with_reducible refine ite_to ?_ ?_ | split | simp only [↓core_mk, Dev.bump_core, Dev.jobGone_core, Dev.jobLost_core, Dev.readmit_core, Dev.releaseCopy_core, Dev.setFifo_core, Dev.setQueue_core, apply_ite Dev.core, ite_self, apply_ite Prod.snd, apply_ite Prod.fst])
theorem Dev.blockedFor_core (s : Dev) (P : Nat) : (Dev.blockedFor s P).core = s.core := by
  unfold Dev.blockedFor; (repeat' first | with_reducible rfl | (with_reducible refine (foldl_core _ ?_ _ _).trans ?_; intro _ _) | (simp only [↓core_mk, Dev.pmeFor_core, apply_ite Dev.core, ite_self]; done) | with_reducible refine ite_to ?_ ?_ | split)
theorem Dev.dequeueTo_core (s : Dev) (P : Nat) : (Dev.dequeueTo s P).core = s.core := by
  unfold Dev.dequeueTo; split; · exact Dev.blockedFor_core _ _
  · exact (Dev.toPort_core _ _ _ _).trans ((Dev.dequeue_core _ _ _ ‹_›).trans (Dev.blockedFor_core _ _))
theorem Dev.writeUses_core (s : Dev) (n : Nat) (q : Queue) (a1 : List Nat) (a2 : List (Nat × Nat)) : (Dev.writeUses s n q a1 a2).core = s.core := by
  fun_induction Dev.writeUses <;> (try simp_all only []) <;> ((repeat' first | with_reducible rfl | (simp only [↓core_mk, Dev.hostWrite_core, apply_ite Dev.core, ite_self]; done) | with_reducible refine ite_to ?_ ?_ | split))
theorem Dev.deliver_core (s : Dev) (x : TxFrame) : (Dev.deliver s x).core = s.core := by
  unfold Dev.deliver; (repeat' first | with_reducible rfl | (with_reducible refine (foldl_core _ ?_ _ _).trans ?_; intro _ _) | (with_reducible refine (foldl2_core _ ?_ _ _).trans ?_; intro _ _) | (with_reducible refine (foldl1_core _ ?_ _ _).trans ?_; intro _ _) | (simp only [↓core_mk, Dev.addObj_core, Dev.moved_core, Dev.setQueue_core, Dev.updJob_core, Dev.writeUses_core, apply_ite Dev.core, ite_self, apply_ite Prod.snd, apply_ite Prod.fst]; done) | with_reducible refine (pair2_core ‹_›).trans ?_ | with_reducible refine (pair1_core ‹_›).trans ?_ | with_reducible refine ite_to ?_ ?_ | split | simp only [↓core_mk, Dev.addObj_core, Dev.moved_core, Dev.setQueue_core, Dev.updJob_core, Dev.writeUses_core, apply_ite Dev.core, ite_self, apply_ite Prod.snd, apply_ite Prod.fst])
theorem Dev.ethSent_core (s : Dev) (P cap : Nat) (x : TxFrame) : (Dev.ethSent s P cap x).core = s.core := by
  unfold Dev.ethSent; (repeat' first | with_reducible rfl | (simp only [↓core_mk, Dev.addObj_core, Dev.bump_core, Dev.emit_core, Dev.jobSent_core, apply_ite Dev.core, ite_self, apply_ite Prod.snd, apply_ite Prod.fst]; done) | with_reducible refine (pair2_core ‹_›).trans ?_ | with_reducible refine ite_to ?_ ?_ | split | simp only [↓core_mk, Dev.addObj_core, Dev.bump_core, Dev.emit_core, Dev.jobSent_core, apply_ite Dev.core, ite_self, apply_ite Prod.snd, apply_ite Prod.fst])
theorem Dev.transmit_core (s : Dev) (P cap : Nat) (x : TxFrame) : (Dev.transmit s P cap x).core = s.core := by
  unfold Dev.transmit; (repeat' first | with_reducible rfl | (with_reducible refine (foldl_core _ ?_ _ _).trans ?_; intro _ _) | (with_reducible refine (foldl2_core _ ?_ _ _).trans ?_; intro _ _) | (with_reducible refine (foldl1_core _ ?_ _ _).trans ?_; intro _ _) | (simp only [↓core_mk, Dev.bump_core, Dev.deliver_core, Dev.emit_core, Dev.ethSent_core, Dev.jobGone_core, Dev.jobLost_core, Dev.releaseCopy_core, Dev.setFifo_core, apply_ite Dev.core, ite_self, apply_ite Prod.snd, apply_ite Prod.fst]; done) | with_reducible refine (pair2_core ‹_›).trans ?_ | with_reducible refine (pair1_core ‹_›).trans ?_ | with_reducible refine ite_to ?_ ?_ | split | simp only [↓core_mk, Dev.bump_core, Dev.deliver_core, Dev.emit_core, Dev.ethSent_core, Dev.jobGone_core, Dev.jobLost_core, Dev.releaseCopy_core, Dev.setFifo_core, apply_ite Dev.core, ite_self, apply_ite Prod.snd, apply_ite Prod.fst])
end Sys2Proof.Machine
end

