-- ==== Sys2Proof/Laws/FrameBureau.lean ====
section
/-! SUPPORT. Frame lemmas of the Bureau applying transactions, power, the lease and boot: each leaves the part, the tick counter and, but for `_clock` lemmas, the bytes of
memory alone. -/
set_option linter.unusedSimpArgs false
set_option linter.unusedVariables false
set_option maxRecDepth 8000
namespace Sys2Proof.Machine

theorem Dev.discardCopy_core (s : Dev) : (Dev.discardCopy s).core = s.core := by
  unfold Dev.discardCopy; (repeat' first | with_reducible rfl | (with_reducible refine (foldl_core _ ?_ _ _).trans ?_; intro _ _) | (with_reducible refine (foldl2_core _ ?_ _ _).trans ?_; intro _ _) | (with_reducible refine (foldl1_core _ ?_ _ _).trans ?_; intro _ _) | (simp only [↓core_mk, Dev.dropQueue_core, Dev.emRemove_core, apply_ite Dev.core, ite_self, apply_ite Prod.snd, apply_ite Prod.fst]; done) | with_reducible refine (pair2_core ‹_›).trans ?_ | with_reducible refine (pair1_core ‹_›).trans ?_ | with_reducible refine ite_to ?_ ?_ | split | simp only [↓core_mk, Dev.dropQueue_core, Dev.emRemove_core, apply_ite Dev.core, ite_self, apply_ite Prod.snd, apply_ite Prod.fst])
theorem Dev.hello_core (s : Dev) : (Dev.hello s).core = s.core := by
  unfold Dev.hello; simp only [↓core_mk, Dev.emit_core]
theorem Dev.markIndex_core (s : Dev) (n : Nat) : (Dev.markIndex s n).core = s.core := by
  unfold Dev.markIndex; simp only [Dev.setFn_core]
theorem Dev.markIndexes_core (s : Dev) : (Dev.markIndexes s).core = s.core := by
  unfold Dev.markIndexes; (repeat' first | with_reducible rfl | (with_reducible refine (foldl_core _ ?_ _ _).trans ?_; intro _ _) | (simp only [↓core_mk, Dev.markIndex_core, apply_ite Dev.core, ite_self]; done) | with_reducible refine ite_to ?_ ?_ | split)
theorem Dev.levelChange_core (s : Dev) : (Dev.levelChange s).core = s.core := by
  unfold Dev.levelChange; (repeat' first | with_reducible rfl | (with_reducible refine (foldl_core _ ?_ _ _).trans ?_; intro _ _) | (with_reducible refine (foldl2_core _ ?_ _ _).trans ?_; intro _ _) | (with_reducible refine (foldl1_core _ ?_ _ _).trans ?_; intro _ _) | (simp only [↓core_mk, Dev.dropQueues_core, Dev.markIndexes_core, Dev.setFn_core, apply_ite Dev.core, ite_self, apply_ite Prod.snd, apply_ite Prod.fst]; done) | with_reducible refine (pair2_core ‹_›).trans ?_ | with_reducible refine (pair1_core ‹_›).trans ?_ | with_reducible refine ite_to ?_ ?_ | split | simp only [↓core_mk, Dev.dropQueues_core, Dev.markIndexes_core, Dev.setFn_core, apply_ite Dev.core, ite_self, apply_ite Prod.snd, apply_ite Prod.fst])
theorem Dev.portsAnew_core (s : Dev) (k : Nat) : (Dev.portsAnew s k).core = s.core := by
  unfold Dev.portsAnew; (repeat' first | with_reducible rfl | (with_reducible refine (foldl_core _ ?_ _ _).trans ?_; intro _ _) | (with_reducible refine (foldl2_core _ ?_ _ _).trans ?_; intro _ _) | (with_reducible refine (foldl1_core _ ?_ _ _).trans ?_; intro _ _) | (simp only [↓core_mk, Dev.pathLost_core, Dev.updSto_core, apply_ite Dev.core, ite_self, apply_ite Prod.snd, apply_ite Prod.fst]; done) | with_reducible refine (pair2_core ‹_›).trans ?_ | with_reducible refine (pair1_core ‹_›).trans ?_ | with_reducible refine ite_to ?_ ?_ | split | simp only [↓core_mk, Dev.pathLost_core, Dev.updSto_core, apply_ite Dev.core, ite_self, apply_ite Prod.snd, apply_ite Prod.fst])
theorem Dev.linkModeSet_core (s : Dev) (k v : Nat) : (Dev.linkModeSet s k v).core = s.core := by
  unfold Dev.linkModeSet; simp only [↓core_mk, Dev.leaveReset_core, Dev.portsAnew_core, Dev.setObj_core, apply_ite Dev.core, ite_self]
theorem Dev.psetSwap_core (s : Dev) (S b : Nat) : (Dev.psetSwap s S b).core = s.core := by
  unfold Dev.psetSwap; simp only [↓core_mk, Dev.setObj_core, apply_ite Dev.core, ite_self]
theorem Dev.assignVf_core (s : Dev) (n : Nat) : (Dev.assignVf s n).core = s.core := by
  unfold Dev.assignVf; (repeat' first | with_reducible rfl | (with_reducible refine (foldl_core _ ?_ _ _).trans ?_; intro _ _) | (with_reducible refine (foldl2_core _ ?_ _ _).trans ?_; intro _ _) | (with_reducible refine (foldl1_core _ ?_ _ _).trans ?_; intro _ _) | (simp only [↓core_mk, Dev.markIndex_core, Dev.reassign_core, Dev.setObj_core, apply_ite Dev.core, ite_self, apply_ite Prod.snd, apply_ite Prod.fst]; done) | with_reducible refine (pair2_core ‹_›).trans ?_ | with_reducible refine (pair1_core ‹_›).trans ?_ | with_reducible refine ite_to ?_ ?_ | split | simp only [↓core_mk, Dev.markIndex_core, Dev.reassign_core, Dev.setObj_core, apply_ite Dev.core, ite_self, apply_ite Prod.snd, apply_ite Prod.fst])
theorem Dev.backSet_core (s : Dev) (b : Nat) : (Dev.backSet s b).core = s.core := by
  unfold Dev.backSet; (repeat' first | with_reducible rfl | (with_reducible refine (foldl_core _ ?_ _ _).trans ?_; intro _ _) | (with_reducible refine (foldl2_core _ ?_ _ _).trans ?_; intro _ _) | (with_reducible refine (foldl1_core _ ?_ _ _).trans ?_; intro _ _) | (simp only [↓core_mk, Dev.connect_core, Dev.pathLost_core, Dev.setBack_core, Dev.setObj_core, apply_ite Dev.core, ite_self, apply_ite Prod.snd, apply_ite Prod.fst]; done) | with_reducible refine (pair2_core ‹_›).trans ?_ | with_reducible refine (pair1_core ‹_›).trans ?_ | with_reducible refine ite_to ?_ ?_ | split | simp only [↓core_mk, Dev.connect_core, Dev.pathLost_core, Dev.setBack_core, Dev.setObj_core, apply_ite Dev.core, ite_self, apply_ite Prod.snd, apply_ite Prod.fst])
theorem Dev.ownerNs_core (s : Dev) (i v : Nat) : ∀ r, Dev.ownerNs s i v = some r → r.core = s.core := by
  intro r hr; unfold Dev.ownerNs at hr; split at hr; · cases hr
  obtain ⟨x, _, hx⟩ := Option.map_eq_some_iff.1 hr; exact hx ▸ Dev.makeNs_core _ _ _ _ _ _ _ _
theorem Dev.saKeep_core (s : Dev) (oid inst old : Nat) : (Dev.saKeep s oid inst old).core = s.core := id rfl
theorem Dev.saBind_core (s : Dev) (oid inst old : Nat) : (Dev.saBind s oid inst old).core = s.core := by
  unfold Dev.saBind; simp only [↓core_mk, Dev.saKeep_core, apply_ite Dev.core, ite_self]
theorem Dev.ppsLow_core (s : Dev) : (Dev.ppsLow s).core = s.core := by
  unfold Dev.ppsLow; (repeat' first | with_reducible rfl | (with_reducible refine (foldl_core _ ?_ _ _).trans ?_; intro _ _) | (with_reducible refine (foldl2_core _ ?_ _ _).trans ?_; intro _ _) | (with_reducible refine (foldl1_core _ ?_ _ _).trans ?_; intro _ _) | (simp only [↓core_mk, apply_ite Dev.core, ite_self, apply_ite Prod.snd, apply_ite Prod.fst]; done) | with_reducible refine (pair2_core ‹_›).trans ?_ | with_reducible refine (pair1_core ‹_›).trans ?_ | with_reducible refine ite_to ?_ ?_ | split | simp only [↓core_mk, apply_ite Dev.core, ite_self, apply_ite Prod.snd, apply_ite Prod.fst])
theorem Dev.stored_core (s : Dev) (x : Staged) (old : Nat) : ((Dev.stored s x old).2).core = s.core := by
  unfold Dev.stored; (repeat' first | with_reducible rfl | (with_reducible refine (Dev.ownerNs_core _ _ _ _ ‹_›).trans ?_) | (with_reducible refine (foldl_core _ ?_ _ _).trans ?_; intro _ _) | (with_reducible refine (foldl2_core _ ?_ _ _).trans ?_; intro _ _) | (with_reducible refine (foldl1_core _ ?_ _ _).trans ?_; intro _ _) | (simp only [↓core_mk, Dev.hello_core, Dev.assignVf_core, Dev.backSet_core, Dev.bump_core, Dev.flushMsix_core, Dev.flushWrites_core, Dev.forgetIntents_core, Dev.levelChange_core, Dev.linkModeSet_core, Dev.loseBucket_core, Dev.markIndex_core, Dev.markIndexes_core, Dev.nsChanged_core, Dev.ownerNs_core, Dev.policerFill_core, Dev.portDisable_core, Dev.portEnable_core, Dev.portsAnew_core, Dev.ppsLow_core, Dev.psetSwap_core, Dev.resumeIo_core, Dev.saBind_core, Dev.saKeep_core, Dev.setCtrl_core, Dev.setObj_core, Dev.setRole_core, Dev.setSession_core, Dev.shaperReload_core, Dev.updCipher_core, apply_ite Dev.core, ite_self, apply_ite Prod.snd, apply_ite Prod.fst]; done) | with_reducible refine (pair2_core ‹_›).trans ?_ | with_reducible refine (pair1_core ‹_›).trans ?_ | with_reducible refine ite_to ?_ ?_ | split | simp only [↓core_mk, Dev.hello_core, Dev.assignVf_core, Dev.backSet_core, Dev.bump_core, Dev.flushMsix_core, Dev.flushWrites_core, Dev.forgetIntents_core, Dev.levelChange_core, Dev.linkModeSet_core, Dev.loseBucket_core, Dev.markIndex_core, Dev.markIndexes_core, Dev.nsChanged_core, Dev.ownerNs_core, Dev.policerFill_core, Dev.portDisable_core, Dev.portEnable_core, Dev.portsAnew_core, Dev.ppsLow_core, Dev.psetSwap_core, Dev.resumeIo_core, Dev.saBind_core, Dev.saKeep_core, Dev.setCtrl_core, Dev.setObj_core, Dev.setRole_core, Dev.setSession_core, Dev.shaperReload_core, Dev.updCipher_core, apply_ite Dev.core, ite_self, apply_ite Prod.snd, apply_ite Prod.fst])
theorem Dev.importKey_core (s : Dev) (k : Option (Nat × KeyRec)) : ((Dev.importKey s k).2).core = s.core := by
  unfold Dev.importKey; (repeat' first | with_reducible rfl | (with_reducible refine (foldl_core _ ?_ _ _).trans ?_; intro _ _) | (with_reducible refine (foldl2_core _ ?_ _ _).trans ?_; intro _ _) | (with_reducible refine (foldl1_core _ ?_ _ _).trans ?_; intro _ _) | (simp only [↓core_mk, Dev.updCipher_core, apply_ite Dev.core, ite_self, apply_ite Prod.snd, apply_ite Prod.fst]; done) | with_reducible refine (pair2_core ‹_›).trans ?_ | with_reducible refine (pair1_core ‹_›).trans ?_ | with_reducible refine ite_to ?_ ?_ | split | simp only [↓core_mk, Dev.updCipher_core, apply_ite Dev.core, ite_self, apply_ite Prod.snd, apply_ite Prod.fst])
theorem Dev.deleteKey_core (s : Dev) (h : Nat) : ((Dev.deleteKey s h).2).core = s.core := by
  unfold Dev.deleteKey; (repeat' first | with_reducible rfl | (simp only [↓core_mk, Dev.updCipher_core, apply_ite Dev.core, ite_self]; done) | with_reducible refine ite_to ?_ ?_ | split)
theorem Dev.installTk_core (s : Dev) (v : Nat) : ((Dev.installTk s v).2).core = s.core := by
  unfold Dev.installTk; (repeat' first | with_reducible rfl | (simp only [↓core_mk, Dev.updCipher_core, apply_ite Dev.core, ite_self, apply_ite Prod.snd, apply_ite Prod.fst]; done) | with_reducible refine (pair2_core ‹_›).trans ?_ | with_reducible refine ite_to ?_ ?_ | split | simp only [↓core_mk, Dev.updCipher_core, apply_ite Dev.core, ite_self, apply_ite Prod.snd, apply_ite Prod.fst])
theorem Dev.rearm_core (s : Dev) : ((Dev.rearm s).2).core = s.core := by
  unfold Dev.rearm; (repeat' first | with_reducible rfl | (with_reducible refine (foldl_core _ ?_ _ _).trans ?_; intro _ _) | (with_reducible refine (foldl2_core _ ?_ _ _).trans ?_; intro _ _) | (with_reducible refine (foldl1_core _ ?_ _ _).trans ?_; intro _ _) | (simp only [↓core_mk, Dev.fresh_core, Dev.setObj_core, Dev.updCipher_core, apply_ite Dev.core, ite_self, apply_ite Prod.snd, apply_ite Prod.fst]; done) | with_reducible refine (pair2_core ‹_›).trans ?_ | with_reducible refine (pair1_core ‹_›).trans ?_ | with_reducible refine ite_to ?_ ?_ | split | simp only [↓core_mk, Dev.fresh_core, Dev.setObj_core, Dev.updCipher_core, apply_ite Dev.core, ite_self, apply_ite Prod.snd, apply_ite Prod.fst])
theorem Dev.imgBegin_core (s : Dev) (v : Nat) : ((Dev.imgBegin s v).2).core = s.core := by
  unfold Dev.imgBegin; (repeat' first | with_reducible rfl | (simp only [↓core_mk, Dev.setObj_core, apply_ite Dev.core, ite_self, apply_ite Prod.snd, apply_ite Prod.fst]; done) | with_reducible refine (pair2_core ‹_›).trans ?_ | with_reducible refine ite_to ?_ ?_ | split | simp only [↓core_mk, Dev.setObj_core, apply_ite Dev.core, ite_self, apply_ite Prod.snd, apply_ite Prod.fst])
theorem Dev.imgFinish_core (s : Dev) : ((Dev.imgFinish s).2).core = s.core := by
  unfold Dev.imgFinish; (repeat' first | with_reducible rfl | (simp only [↓core_mk, Dev.setObj_core, apply_ite Dev.core, ite_self, apply_ite Prod.snd, apply_ite Prod.fst]; done) | with_reducible refine (pair2_core ‹_›).trans ?_ | with_reducible refine ite_to ?_ ?_ | split | simp only [↓core_mk, Dev.setObj_core, apply_ite Dev.core, ite_self, apply_ite Prod.snd, apply_ite Prod.fst])
theorem Dev.lcRequest_core (s : Dev) (v : Nat) : ((Dev.lcRequest s v).2).core = s.core := by
  unfold Dev.lcRequest; (repeat' first | with_reducible rfl | (simp only [↓core_mk, Dev.fresh_core, apply_ite Dev.core, ite_self]; done) | with_reducible refine ite_to ?_ ?_ | split)
theorem Dev.roleRequest_core (s : Dev) (v : Nat) : ((Dev.roleRequest s v).2).core = s.core := by
  unfold Dev.roleRequest; (repeat' first | with_reducible rfl | (with_reducible refine (foldl_core _ ?_ _ _).trans ?_; intro _ _) | (with_reducible refine (foldl2_core _ ?_ _ _).trans ?_; intro _ _) | (with_reducible refine (foldl1_core _ ?_ _ _).trans ?_; intro _ _) | (simp only [↓core_mk, Dev.discardCopy_core, Dev.setRole_core, apply_ite Dev.core, ite_self, apply_ite Prod.snd, apply_ite Prod.fst]; done) | with_reducible refine (pair2_core ‹_›).trans ?_ | with_reducible refine (pair1_core ‹_›).trans ?_ | with_reducible refine ite_to ?_ ?_ | split | simp only [↓core_mk, Dev.discardCopy_core, Dev.setRole_core, apply_ite Dev.core, ite_self, apply_ite Prod.snd, apply_ite Prod.fst])
theorem tbEffect_core (x : Nat × Dev) : ((tbEffect x).2).core = x.2.core := id rfl
theorem Dev.request'_core (s : Dev) (x : Staged) : ((Dev.request' s x).2).core = s.core := by
  unfold Dev.request'; (repeat' first | with_reducible rfl | (with_reducible refine (foldl_core _ ?_ _ _).trans ?_; intro _ _) | (with_reducible refine (foldl2_core _ ?_ _ _).trans ?_; intro _ _) | (with_reducible refine (foldl1_core _ ?_ _ _).trans ?_; intro _ _) | (simp only [↓core_mk, tbEffect_core, Dev.deleteKey_core, Dev.dueCabinet_core, Dev.dueFence_core, Dev.flushJobs_core, Dev.imgBegin_core, Dev.imgFinish_core, Dev.importKey_core, Dev.installTk_core, Dev.lcRequest_core, Dev.nsRecover_core, Dev.ppsRestore_core, Dev.qstatClear_core, Dev.rearm_core, Dev.roleRequest_core, Dev.setObj_core, Dev.tbArm_core, Dev.tbFreq_core, Dev.tbPhase_core, Dev.tbSet_core, apply_ite Dev.core, ite_self, apply_ite Prod.snd, apply_ite Prod.fst]; done) | with_reducible refine (pair2_core ‹_›).trans ?_ | with_reducible refine (pair1_core ‹_›).trans ?_ | with_reducible refine ite_to ?_ ?_ | split | simp only [↓core_mk, tbEffect_core, Dev.deleteKey_core, Dev.dueCabinet_core, Dev.dueFence_core, Dev.flushJobs_core, Dev.imgBegin_core, Dev.imgFinish_core, Dev.importKey_core, Dev.installTk_core, Dev.lcRequest_core, Dev.nsRecover_core, Dev.ppsRestore_core, Dev.qstatClear_core, Dev.rearm_core, Dev.roleRequest_core, Dev.setObj_core, Dev.tbArm_core, Dev.tbFreq_core, Dev.tbPhase_core, Dev.tbSet_core, apply_ite Dev.core, ite_self, apply_ite Prod.snd, apply_ite Prod.fst])
theorem Dev.effect_core (s : Dev) (x : Staged) (old : Nat) : ((Dev.effect s x old).2).core = s.core := by
  unfold Dev.effect; (try dsimp only); (repeat' first | with_reducible rfl | (with_reducible refine (foldl_core _ ?_ _ _).trans ?_; (intro _ _; (try dsimp only))) | (with_reducible refine (foldl2_core _ ?_ _ _).trans ?_; (intro _ _; (try dsimp only))) | (with_reducible refine (foldl1_core _ ?_ _ _).trans ?_; (intro _ _; (try dsimp only))) | (simp only [↓core_mk, Dev.request'_core, Dev.stored_core, apply_ite Dev.core, apply_ite Prod.snd, apply_ite Prod.fst, ite_self]; done) | (with_reducible refine (pair2_core ‹_›).trans ?_) | (with_reducible refine (pair1_core ‹_›).trans ?_) | (with_reducible refine ite_to ?_ ?_) | split | simp only [↓core_mk, Dev.request'_core, Dev.stored_core, apply_ite Dev.core, apply_ite Prod.snd, apply_ite Prod.fst, ite_self])
theorem Dev.logWho_core (s : Dev) (a : Accepted) : ((Dev.logWho s a).2).core = s.core := by
  unfold Dev.logWho; (repeat' first | with_reducible rfl | (simp only [↓core_mk, Dev.fresh_core, apply_ite Dev.core, ite_self]; done) | with_reducible refine ite_to ?_ ?_ | split)
theorem Dev.logItem_core (a : Accepted) (s : Dev) (i : CItem) : (Dev.logItem a s i).core = s.core := by
  unfold Dev.logItem; simp only [↓core_mk, Dev.log_core, Dev.logWho_core, apply_ite Dev.core, ite_self]
theorem Dev.answerTxn_core (s : Dev) (a : Accepted) (l : List CItem) : (Dev.answerTxn s a l).core = s.core := by
  unfold Dev.answerTxn; (repeat' first | with_reducible rfl | (with_reducible refine (foldl_core _ ?_ _ _).trans ?_; intro _ _) | (with_reducible refine (foldl2_core _ ?_ _ _).trans ?_; intro _ _) | (with_reducible refine (foldl1_core _ ?_ _ _).trans ?_; intro _ _) | (simp only [↓core_mk, Dev.bureauDone_core, Dev.corrDone_core, Dev.respond_core, apply_ite Dev.core, ite_self, apply_ite Prod.snd, apply_ite Prod.fst]; done) | with_reducible refine (pair2_core ‹_›).trans ?_ | with_reducible refine (pair1_core ‹_›).trans ?_ | with_reducible refine ite_to ?_ ?_ | split | simp only [↓core_mk, Dev.bureauDone_core, Dev.corrDone_core, Dev.respond_core, apply_ite Dev.core, ite_self, apply_ite Prod.snd, apply_ite Prod.fst])
theorem effectStep_core (oB : Tab Nat) (acc : Tab CItem × Dev) (i : CItem × Nat) : ((effectStep oB acc i).2).core = acc.2.core := by
  unfold effectStep; split
  · rfl
  · exact Dev.effect_core _ _ _
theorem Dev.effects_core (s : Dev) (oB : Tab Nat) (l : List CItem) : ((Dev.effects s oB l).2).core = s.core :=
  foldl2_core _ (effectStep_core oB) _ _
theorem Dev.applyItems_core (s : Dev) (o0 oE : Tab Nat) (a : Accepted) (l0 : List CItem) : (Dev.applyItems s o0 oE a l0).core = s.core := by
  unfold Dev.applyItems; dsimp only; refine (Dev.answerTxn_core _ _ _).trans ((foldl_core _ (fun _ _ => Dev.logItem_core _ _ _) _ _).trans ((Dev.effects_core _ _ _).trans (Eq.trans (core_mk _) ?_))); split <;> first | exact Dev.setObj_core _ _ _ _ | rfl
theorem Dev.applyTxn_core (o0 oE : Tab Nat) (s : Dev) (a : Accepted) : (Dev.applyTxn o0 oE s a).core = s.core := by
  unfold Dev.applyTxn; simp only [↓core_mk, Dev.applyItems_core, Dev.setObj_core, apply_ite Dev.core, ite_self]
theorem Dev.saveBegin_core (s : Dev) : (Dev.saveBegin s).core = s.core := by
  unfold Dev.saveBegin; simp only [↓core_mk, Dev.setObj_core, Dev.setStoreCopy_core, apply_ite Dev.core, ite_self]
theorem Dev.commitGone_core (s : Dev) (a : Accepted) : (Dev.commitGone s a).core = s.core := by
  unfold Dev.commitGone; (repeat' first | with_reducible rfl | (simp only [↓core_mk, Dev.bureauDone_core, Dev.respond_core, apply_ite Dev.core, ite_self]; done) | with_reducible refine ite_to ?_ ?_ | split)
theorem Dev.acceptWaiting_core (s : Dev) (a1 : Nat) : (Dev.acceptWaiting s a1).core = s.core := by
  induction a1 generalizing s with | zero => rfl | succ k ih => (unfold Dev.acceptWaiting; dsimp only; repeat' first | with_reducible rfl | (simp only [ih, Dev.commitGone_core, Dev.acceptNow_core, ↓core_mk]; done) | split)
theorem Dev.commitEdge_core (s : Dev) : (Dev.commitEdge s).core = s.core := by
  unfold Dev.commitEdge; (repeat' first | with_reducible rfl | (with_reducible refine (foldl_core _ ?_ _ _).trans ?_; intro _ _) | (with_reducible refine (foldl2_core _ ?_ _ _).trans ?_; intro _ _) | (with_reducible refine (foldl1_core _ ?_ _ _).trans ?_; intro _ _) | (simp only [↓core_mk, Dev.acceptWaiting_core, Dev.applyTxn_core, Dev.lowEval_core, Dev.saveBegin_core, apply_ite Dev.core, ite_self, apply_ite Prod.snd, apply_ite Prod.fst]; done) | with_reducible refine (pair2_core ‹_›).trans ?_ | with_reducible refine (pair1_core ‹_›).trans ?_ | with_reducible refine ite_to ?_ ?_ | split | simp only [↓core_mk, Dev.acceptWaiting_core, Dev.applyTxn_core, Dev.lowEval_core, Dev.saveBegin_core, apply_ite Dev.core, ite_self, apply_ite Prod.snd, apply_ite Prod.fst])
theorem Dev.loadVals_core (s : Dev) (vals : Tab Nat) : (Dev.loadVals s vals).core = s.core := by
  unfold Dev.loadVals; simp only [Dev.applyItems_core, Dev.lowEval_core]
theorem Dev.avsUpdate_core (s : Dev) (target : Nat) (ack' : Bool) : (Dev.avsUpdate s target ack').core = s.core := by
  unfold Dev.avsUpdate; simp only [↓core_mk, Dev.notify_core, Dev.setObj_core, apply_ite Dev.core, ite_self]
theorem Dev.throttleTo_core (s : Dev) (l : Nat) (temp power : Bool) : (Dev.throttleTo s l temp power).core = s.core := by
  unfold Dev.throttleTo; simp only [↓core_mk, Dev.fresh_core, Dev.notify_core, Dev.setObj_core]
theorem Dev.readPower_core (s : Dev) (temps : List Int) (power : Nat) : (Dev.readPower s temps power).core = s.core := by
  unfold Dev.readPower; (repeat' first | with_reducible rfl | (with_reducible refine (foldl_core _ ?_ _ _).trans ?_; intro _ _) | (with_reducible refine (foldl2_core _ ?_ _ _).trans ?_; intro _ _) | (with_reducible refine (foldl1_core _ ?_ _ _).trans ?_; intro _ _) | (simp only [↓core_mk, Dev.setObj_core, apply_ite Dev.core, ite_self, apply_ite Prod.snd, apply_ite Prod.fst]; done) | with_reducible refine (pair2_core ‹_›).trans ?_ | with_reducible refine (pair1_core ‹_›).trans ?_ | with_reducible refine ite_to ?_ ?_ | split | simp only [↓core_mk, Dev.setObj_core, apply_ite Dev.core, ite_self, apply_ite Prod.snd, apply_ite Prod.fst])
theorem Dev.throttleEdge_core (s : Dev) : (Dev.throttleEdge s).core = s.core := by
  unfold Dev.throttleEdge; simp only [↓core_mk, Dev.throttleTo_core, apply_ite Dev.core, ite_self]
theorem Dev.memTemp_core (s : Dev) (c : Nat) (t0 t1 : Int) : (Dev.memTemp s c t0 t1).core = s.core := by
  unfold Dev.memTemp; simp only [↓core_mk, Dev.setObj_core]
theorem Dev.memBand_core (s : Dev) (c : Nat) (t : Int) : (Dev.memBand s c t).core = s.core := by
  unfold Dev.memBand; simp only [↓core_mk, Dev.fresh_core, Dev.log_core, Dev.notify_core, apply_ite Dev.core, ite_self]
theorem Dev.memBandsEdge_core (s : Dev) : (Dev.memBandsEdge s).core = s.core := by
  unfold Dev.memBandsEdge; (repeat' first | with_reducible rfl | (with_reducible refine (foldl_core _ ?_ _ _).trans ?_; intro _ _) | (simp only [↓core_mk, Dev.memBand_core, apply_ite Dev.core, ite_self]; done) | with_reducible refine ite_to ?_ ?_ | split)
theorem Dev.renew_core (s : Dev) (tick : Nat) : (Dev.renew s tick).core = s.core := by
  unfold Dev.renew; simp only [↓core_mk, Dev.emit_core]
theorem Dev.setFlash_core (s : Dev) (i : Nat) (x : FlashSlot) : (Dev.setFlash s i x).core = s.core := id rfl
theorem Dev.sealSlot_core (s : Dev) (i : Nat) : (Dev.sealSlot s i).core = s.core := by
  unfold Dev.sealSlot; simp only [↓core_mk, Dev.setFlash_core]
theorem Dev.rebuildRec_core (s : Dev) : (Dev.rebuildRec s).core = s.core := by
  unfold Dev.rebuildRec; simp only [↓core_mk, apply_ite Dev.core, ite_self]
theorem Dev.slotDone_core (s : Dev) (i : Nat) : (Dev.slotDone s i).core = s.core := by
  unfold Dev.slotDone; (repeat' first | with_reducible rfl | (simp only [↓core_mk, Dev.setFlash_core, apply_ite Dev.core, ite_self]; done) | with_reducible refine ite_to ?_ ?_ | split)
theorem Dev.handleSlot_core (s : Dev) (i : Nat) : (Dev.handleSlot s i).core = s.core := by
  unfold Dev.handleSlot; simp only [↓core_mk, Dev.sealSlot_core, Dev.setFlash_core, Dev.slotDone_core, apply_ite Dev.core, ite_self]
theorem Dev.bootSlot_clock (s : Dev) (i : Nat) (first : Bool) : (Dev.bootSlot s i first).clock = s.clock := by
  unfold Dev.bootSlot; simp only [↓clock_mk, Dev.putBytes_clock, (clock_of_core (Dev.setObj_core _ _ _ _))]
theorem Dev.bootNext_core (s : Dev) (x : BootDue) : (Dev.bootNext s x).core = s.core := id rfl
theorem Dev.bootFault_core (s : Dev) : (Dev.bootFault s).core = s.core := by
  unfold Dev.bootFault; simp only [Dev.bootNext_core, Dev.diag_core, Dev.fresh_core]
theorem Dev.imageCheck_clock (s : Dev) : (Dev.imageCheck s).clock = s.clock := by
  unfold Dev.imageCheck; (repeat' first | with_reducible rfl | (simp only [↓clock_mk, (clock_of_core (Dev.bootFault_core _)), Dev.bootSlot_clock, (clock_of_core (Dev.handleSlot_core _ _)), (clock_of_core (Dev.rebuildRec_core _)), apply_ite Dev.clock, ite_self, apply_ite Prod.snd, apply_ite Prod.fst]; done) | with_reducible refine (pair2_clock ‹_›).trans ?_ | with_reducible refine ite_to ?_ ?_ | split | simp only [↓clock_mk, (clock_of_core (Dev.bootFault_core _)), Dev.bootSlot_clock, (clock_of_core (Dev.handleSlot_core _ _)), (clock_of_core (Dev.rebuildRec_core _)), apply_ite Dev.clock, ite_self, apply_ite Prod.snd, apply_ite Prod.fst])
theorem Dev.linkStart_core (s : Dev) (k : Nat) : (Dev.linkStart s k).core = s.core := by
  unfold Dev.linkStart; simp only [↓core_mk, Dev.linkModeSet_core, apply_ite Dev.core, ite_self]
theorem Dev.earlySet_core (s : Dev) : (Dev.earlySet s).core = s.core := by
  unfold Dev.earlySet; (repeat' first | with_reducible rfl | (with_reducible refine (foldl_core _ ?_ _ _).trans ?_; intro _ _) | (with_reducible refine (foldl2_core _ ?_ _ _).trans ?_; intro _ _) | (with_reducible refine (foldl1_core _ ?_ _ _).trans ?_; intro _ _) | (simp only [↓core_mk, Dev.linkStart_core, Dev.loadVals_core, Dev.setObj_core, apply_ite Dev.core, ite_self, apply_ite Prod.snd, apply_ite Prod.fst]; done) | with_reducible refine (pair2_core ‹_›).trans ?_ | with_reducible refine (pair1_core ‹_›).trans ?_ | with_reducible refine ite_to ?_ ?_ | split | simp only [↓core_mk, Dev.linkStart_core, Dev.loadVals_core, Dev.setObj_core, apply_ite Dev.core, ite_self, apply_ite Prod.snd, apply_ite Prod.fst])
theorem Dev.memTrained_core (s : Dev) (density vddq : Nat) (ok : Bool) (ch : Nat) : (Dev.memTrained s density vddq ok ch).core = s.core := by
  unfold Dev.memTrained; simp only [↓core_mk, Dev.bootFault_core, Dev.fresh_core, Dev.log_core, Dev.setObj_core, apply_ite Dev.core, ite_self]
theorem Dev.memWiped_clock (s : Dev) : (Dev.memWiped s).clock = s.clock := by
  unfold Dev.memWiped; simp only [↓clock_mk, (clock_of_core (Dev.setObj_core _ _ _ _))]
theorem Dev.release_clock (s : Dev) (failed : List Nat) : (Dev.release s failed).clock = s.clock := by
  unfold Dev.release; (repeat' first | with_reducible rfl | (with_reducible refine (foldl_clock _ ?_ _ _).trans ?_; intro _ _) | (simp only [↓clock_mk, (clock_of_core (Dev.fenceDrawer_core _ _ _)), Dev.putBytes_clock, (clock_of_core (Dev.setHart_core _ _ _)), (clock_of_core (Dev.setObj_core _ _ _ _)), apply_ite Dev.clock, ite_self]; done) | with_reducible refine ite_to ?_ ?_ | split)
theorem Dev.fullLoad_core (s : Dev) : (Dev.fullLoad s).core = s.core := by
  unfold Dev.fullLoad; (repeat' first | with_reducible rfl | (simp only [↓core_mk, Dev.bootNext_core, Dev.loadVals_core, Dev.setObj_core, apply_ite Dev.core, ite_self]; done) | with_reducible refine ite_to ?_ ?_ | split)
theorem Dev.enterReady_core (s : Dev) : (Dev.enterReady s).core = s.core := by
  unfold Dev.enterReady; (repeat' first | with_reducible rfl | (with_reducible refine (foldl_core _ ?_ _ _).trans ?_; intro _ _) | (with_reducible refine (foldl2_core _ ?_ _ _).trans ?_; intro _ _) | (with_reducible refine (foldl1_core _ ?_ _ _).trans ?_; intro _ _) | (simp only [↓core_mk, Dev.hello_core, Dev.ringHeld_core, Dev.setObj_core, apply_ite Dev.core, ite_self, apply_ite Prod.snd, apply_ite Prod.fst]; done) | with_reducible refine (pair2_core ‹_›).trans ?_ | with_reducible refine (pair1_core ‹_›).trans ?_ | with_reducible refine ite_to ?_ ?_ | split | simp only [↓core_mk, Dev.hello_core, Dev.ringHeld_core, Dev.setObj_core, apply_ite Dev.core, ite_self, apply_ite Prod.snd, apply_ite Prod.fst])
theorem Dev.bootEdge_clock (s : Dev) : (Dev.bootEdge s).clock = s.clock := by
  unfold Dev.bootEdge; (repeat' first | with_reducible rfl | (simp only [↓clock_mk, (clock_of_core (Dev.enterReady_core _)), Dev.release_clock, (clock_of_core (Dev.setObj_core _ _ _ _)), apply_ite Dev.clock, ite_self]; done) | with_reducible refine ite_to ?_ ?_ | split)
theorem Dev.imgChecked_core (s : Dev) : (Dev.imgChecked s).core = s.core := by
  unfold Dev.imgChecked; simp only [↓core_mk, Dev.setFlash_core, Dev.setObj_core, apply_ite Dev.core, ite_self]

end Sys2Proof.Machine
end

