-- ==== Sys2Proof/Laws/FrameThreads.lean ====
section
/-! SUPPORT. Frame lemmas of cores, threads, twin operation, migration and the tick edge: each leaves the part, the tick counter and, but for `_clock` lemmas, the bytes of
memory alone. -/
set_option linter.unusedSimpArgs false
set_option linter.unusedVariables false
set_option maxRecDepth 8000
namespace Sys2Proof.Machine

theorem Dev.takeSlot_clock (s : Dev) (h : Nat) : ((Dev.takeSlot s h).2).clock = s.clock := by
  unfold Dev.takeSlot; (repeat' first | with_reducible rfl | (simp only [↓clock_mk, (clock_of_core (Dev.overwritten_core _ _ _ _)), Dev.putBytes_clock, (clock_of_core (Dev.take_core _ _)), apply_ite Dev.clock, ite_self, apply_ite Prod.snd, apply_ite Prod.fst]; done) | with_reducible refine (pair2_clock ‹_›).trans ?_ | with_reducible refine ite_to ?_ ?_ | split | simp only [↓clock_mk, (clock_of_core (Dev.overwritten_core _ _ _ _)), Dev.putBytes_clock, (clock_of_core (Dev.take_core _ _)), apply_ite Dev.clock, ite_self, apply_ite Prod.snd, apply_ite Prod.fst])
theorem Dev.setWindow_core (s : Dev) (d o : Nat) (bs : List Nat) : (Dev.setWindow s d o bs).core = s.core := id rfl
theorem Dev.parcelPortLoad_clock (s : Dev) (t x n : Nat) : ((Dev.parcelPortLoad s t x n).2).clock = s.clock := by
  unfold Dev.parcelPortLoad; (repeat' first | with_reducible rfl | (simp only [↓clock_mk, Dev.takeSlot_clock, apply_ite Dev.clock, ite_self]; done) | with_reducible refine ite_to ?_ ?_ | split)
theorem Dev.ctrlLoad_clock (s : Dev) (h o n : Nat) : ((Dev.ctrlLoad s h o n).2).clock = s.clock := by
  unfold Dev.ctrlLoad; (repeat' first | with_reducible rfl | (simp only [↓clock_mk, (clock_of_core (Dev.fresh_core _)), Dev.parcelPortLoad_clock, apply_ite Dev.clock, ite_self, apply_ite Prod.snd, apply_ite Prod.fst]; done) | with_reducible refine (pair2_clock ‹_›).trans ?_ | with_reducible refine ite_to ?_ ?_ | split | simp only [↓clock_mk, (clock_of_core (Dev.fresh_core _)), Dev.parcelPortLoad_clock, apply_ite Dev.clock, ite_self, apply_ite Prod.snd, apply_ite Prod.fst])
theorem Dev.bufRecord_core (s : Dev) (o r : Nat) : (Dev.bufRecord s o r).core = s.core := by
  unfold Dev.bufRecord; (repeat' first | with_reducible rfl | (simp only [↓core_mk, Dev.alloc_core, Dev.bufDetach_core, Dev.bufDone_core, Dev.bufFree_core, Dev.bufHandover_core, Dev.bufShare_core, apply_ite Dev.core, ite_self]; done) | with_reducible refine ite_to ?_ ?_ | split)
theorem Dev.corrRecord_core (s : Dev) (h r : Nat) : (Dev.corrRecord s h r).core = s.core := by
  unfold Dev.corrRecord; (repeat' first | with_reducible rfl | (with_reducible refine (foldl_core _ ?_ _ _).trans ?_; intro _ _) | (with_reducible refine (foldl2_core _ ?_ _ _).trans ?_; intro _ _) | (with_reducible refine (foldl1_core _ ?_ _ _).trans ?_; intro _ _) | (simp only [↓core_mk, Dev.correction_core, apply_ite Dev.core, ite_self, apply_ite Prod.snd, apply_ite Prod.fst]; done) | with_reducible refine (pair2_core ‹_›).trans ?_ | with_reducible refine (pair1_core ‹_›).trans ?_ | with_reducible refine ite_to ?_ ?_ | split | simp only [↓core_mk, Dev.correction_core, apply_ite Dev.core, ite_self, apply_ite Prod.snd, apply_ite Prod.fst])
theorem Dev.portRecord_core (s : Dev) (h t r : Nat) (a1 : CtrlPort) : (Dev.portRecord s h t r a1).core = s.core := by
  unfold Dev.portRecord; (repeat' first | with_reducible rfl | (simp only [↓core_mk, Dev.bufRecord_core, Dev.corrRecord_core, Dev.emAccept_core, Dev.parcelCreate_core, Dev.threadRun_core, apply_ite Dev.core, ite_self]; done) | with_reducible refine ite_to ?_ ?_ | split)
theorem Dev.ctrlStore_core (s : Dev) (h o n v : Nat) : (Dev.ctrlStore s h o n v).core = s.core := by
  unfold Dev.ctrlStore; (repeat' first | with_reducible rfl | (simp only [↓core_mk, Dev.portRecord_core, Dev.retireSlot_core, Dev.setWindow_core, Dev.yieldSlot_core, apply_ite Dev.core, ite_self]; done) | with_reducible refine ite_to ?_ ?_ | split)
theorem Dev.setDcache_core (s : Dev) (n : Nat) (c : Tab Nat) : (Dev.setDcache s n c).core = s.core := id rfl
theorem Dev.setIcache_core (s : Dev) (n : Nat) (c : Tab Nat) : (Dev.setIcache s n c).core = s.core := id rfl
theorem Dev.gddrLine_core (s : Dev) (h a r err : Nat) (fetch : Bool) : ((Dev.gddrLine s h a r err fetch).2).core = s.core := by
  unfold Dev.gddrLine; (repeat' first | with_reducible rfl | (simp only [↓core_mk, Dev.macFail_core, Dev.memCorrected_core, Dev.memLost_core, apply_ite Dev.core, ite_self, apply_ite Prod.snd, apply_ite Prod.fst]; done) | with_reducible refine (pair2_core ‹_›).trans ?_ | with_reducible refine ite_to ?_ ?_ | split | simp only [↓core_mk, Dev.macFail_core, Dev.memCorrected_core, Dev.memLost_core, apply_ite Dev.core, ite_self, apply_ite Prod.snd, apply_ite Prod.fst])
theorem Dev.fetch2_core (s : Dev) (h a err : Nat) : ((Dev.fetch2 s h a err).2).core = s.core := by
  unfold Dev.fetch2; (repeat' first | with_reducible rfl | (simp only [↓core_mk, Dev.fresh_core, Dev.gddrLine_core, Dev.setIcache_core, apply_ite Dev.core, ite_self, apply_ite Prod.snd, apply_ite Prod.fst]; done) | with_reducible refine (pair2_core ‹_›).trans ?_ | with_reducible refine ite_to ?_ ?_ | split | simp only [↓core_mk, Dev.fresh_core, Dev.gddrLine_core, Dev.setIcache_core, apply_ite Dev.core, ite_self, apply_ite Prod.snd, apply_ite Prod.fst])
theorem Dev.loadMem_clock (s : Dev) (h a n err : Nat) (amo : Bool) : ((Dev.loadMem s h a n err amo).2).clock = s.clock := by
  unfold Dev.loadMem; (repeat' first | with_reducible rfl | (simp only [↓clock_mk, Dev.ctrlLoad_clock, (clock_of_core (Dev.fresh_core _)), (clock_of_core (Dev.gddrLine_core _ _ _ _ _ _)), (clock_of_core (Dev.setDcache_core _ _ _)), apply_ite Dev.clock, ite_self, apply_ite Prod.snd, apply_ite Prod.fst]; done) | with_reducible refine (pair2_clock ‹_›).trans ?_ | with_reducible refine ite_to ?_ ?_ | split | simp only [↓clock_mk, Dev.ctrlLoad_clock, (clock_of_core (Dev.fresh_core _)), (clock_of_core (Dev.gddrLine_core _ _ _ _ _ _)), (clock_of_core (Dev.setDcache_core _ _ _)), apply_ite Dev.clock, ite_self, apply_ite Prod.snd, apply_ite Prod.fst])
theorem Dev.storeMem_clock (s : Dev) (h a n v : Nat) : (Dev.storeMem s h a n v).clock = s.clock := by
  unfold Dev.storeMem; (repeat' first | with_reducible rfl | (simp only [↓clock_mk, (clock_of_core (Dev.ctrlStore_core _ _ _ _ _)), (clock_of_core (Dev.overwritten_core _ _ _ _)), (clock_of_core (Dev.setDcache_core _ _ _)), Dev.storeN_clock, apply_ite Dev.clock, ite_self, apply_ite Prod.snd, apply_ite Prod.fst]; done) | with_reducible refine (pair2_clock ‹_›).trans ?_ | with_reducible refine ite_to ?_ ?_ | split | simp only [↓clock_mk, (clock_of_core (Dev.ctrlStore_core _ _ _ _ _)), (clock_of_core (Dev.overwritten_core _ _ _ _)), (clock_of_core (Dev.setDcache_core _ _ _)), Dev.storeN_clock, apply_ite Dev.clock, ite_self, apply_ite Prod.snd, apply_ite Prod.fst])
theorem Dev.reserve_core (s : Dev) (h : Nat) (g : Option Nat) : (Dev.reserve s h g).core = s.core := by
  unfold Dev.reserve; simp only [Dev.setHart_core]
theorem Dev.exceptOpen_core (s : Dev) (h code v : Nat) : (Dev.exceptOpen s h code v).core = s.core := by
  unfold Dev.exceptOpen; simp only [Dev.except_core, Dev.fresh_core]
theorem Dev.illegalOp_core (s : Dev) (h w : Nat) : (Dev.illegalOp s h w).core = s.core := by
  unfold Dev.illegalOp; simp only [Dev.exceptOpen_core]
theorem Dev.writeRd_core (s : Dev) (h rd v len : Nat) : (Dev.writeRd s h rd v len).core = s.core := by
  unfold Dev.writeRd; simp only [Dev.retired_core, Dev.setHart_core]
theorem Dev.jumpTo_core (s : Dev) (h target : Nat) : (Dev.jumpTo s h target).core = s.core := by
  unfold Dev.jumpTo; simp only [Dev.retired_core, Dev.setHart_core]
theorem Dev.setPc_core (s : Dev) (h v : Nat) : (Dev.setPc s h v).core = s.core := by
  unfold Dev.setPc; simp only [Dev.setHart_core]
theorem Dev.cycles_core (s : Dev) : ((Dev.cycles s).2).core = s.core := by
  unfold Dev.cycles; simp only [Dev.fresh_core]
theorem Dev.csrRead_core (s : Dev) (h c : Nat) : ((Dev.csrRead s h c).2).core = s.core := by
  unfold Dev.csrRead; (repeat' first | with_reducible rfl | (simp only [↓core_mk, Dev.cycles_core, apply_ite Dev.core, ite_self, apply_ite Prod.snd, apply_ite Prod.fst]; done) | with_reducible refine (pair2_core ‹_›).trans ?_ | with_reducible refine ite_to ?_ ?_ | split | simp only [↓core_mk, Dev.cycles_core, apply_ite Dev.core, ite_self, apply_ite Prod.snd, apply_ite Prod.fst])
theorem Dev.setInhibit_core (s : Dev) (h v : Nat) : (Dev.setInhibit s h v).core = s.core := by
  unfold Dev.setInhibit; simp only [Dev.cycles_core, Dev.setHart_core]
theorem Dev.csrWrite_core (s : Dev) (h c v ones : Nat) : (Dev.csrWrite s h c v ones).core = s.core := by
  unfold Dev.csrWrite; (repeat' first | with_reducible rfl | (simp only [↓core_mk, Dev.cycles_core, Dev.setHart_core, Dev.setInhibit_core, apply_ite Dev.core, ite_self]; done) | with_reducible refine ite_to ?_ ?_ | split)
theorem Dev.csrOp_core (s : Dev) (h w raw : Nat) : (Dev.csrOp s h w raw).core = s.core := by
  unfold Dev.csrOp; (repeat' first | with_reducible rfl | (simp only [↓core_mk, Dev.csrRead_core, Dev.csrWrite_core, Dev.illegalOp_core, Dev.writeRd_core, apply_ite Dev.core, ite_self, apply_ite Prod.snd, apply_ite Prod.fst]; done) | with_reducible refine (pair2_core ‹_›).trans ?_ | with_reducible refine ite_to ?_ ?_ | split | simp only [↓core_mk, Dev.csrRead_core, Dev.csrWrite_core, Dev.illegalOp_core, Dev.writeRd_core, apply_ite Dev.core, ite_self, apply_ite Prod.snd, apply_ite Prod.fst])
theorem Dev.loadOp_clock (s : Dev) (h w raw len err : Nat) : (Dev.loadOp s h w raw len err).clock = s.clock := by
  unfold Dev.loadOp; (repeat' first | with_reducible rfl | (simp only [↓clock_mk, (clock_of_core (Dev.except_core _ _ _ _)), (clock_of_core (Dev.exceptOpen_core _ _ _ _)), (clock_of_core (Dev.illegalOp_core _ _ _)), Dev.loadMem_clock, (clock_of_core (Dev.writeRd_core _ _ _ _ _)), apply_ite Dev.clock, ite_self, apply_ite Prod.snd, apply_ite Prod.fst]; done) | with_reducible refine (pair2_clock ‹_›).trans ?_ | with_reducible refine ite_to ?_ ?_ | split | simp only [↓clock_mk, (clock_of_core (Dev.except_core _ _ _ _)), (clock_of_core (Dev.exceptOpen_core _ _ _ _)), (clock_of_core (Dev.illegalOp_core _ _ _)), Dev.loadMem_clock, (clock_of_core (Dev.writeRd_core _ _ _ _ _)), apply_ite Dev.clock, ite_self, apply_ite Prod.snd, apply_ite Prod.fst])
theorem Dev.storeOp_clock (s : Dev) (h w raw len : Nat) : (Dev.storeOp s h w raw len).clock = s.clock := by
  unfold Dev.storeOp; simp only [↓clock_mk, (clock_of_core (Dev.except_core _ _ _ _)), (clock_of_core (Dev.exceptOpen_core _ _ _ _)), (clock_of_core (Dev.illegalOp_core _ _ _)), (clock_of_core (Dev.retired_core _ _ _)), Dev.storeMem_clock, apply_ite Dev.clock, ite_self]
theorem Dev.lrOp_clock (s : Dev) (h a n err rd : Nat) : (Dev.lrOp s h a n err rd).clock = s.clock := by
  unfold Dev.lrOp; (repeat' first | with_reducible rfl | (simp only [↓clock_mk, (clock_of_core (Dev.except_core _ _ _ _)), (clock_of_core (Dev.exceptOpen_core _ _ _ _)), Dev.loadMem_clock, (clock_of_core (Dev.reserve_core _ _ _)), (clock_of_core (Dev.writeRd_core _ _ _ _ _)), apply_ite Dev.clock, ite_self, apply_ite Prod.snd, apply_ite Prod.fst]; done) | with_reducible refine (pair2_clock ‹_›).trans ?_ | with_reducible refine ite_to ?_ ?_ | split | simp only [↓clock_mk, (clock_of_core (Dev.except_core _ _ _ _)), (clock_of_core (Dev.exceptOpen_core _ _ _ _)), Dev.loadMem_clock, (clock_of_core (Dev.reserve_core _ _ _)), (clock_of_core (Dev.writeRd_core _ _ _ _ _)), apply_ite Dev.clock, ite_self, apply_ite Prod.snd, apply_ite Prod.fst])
theorem Dev.scOp_clock (s : Dev) (h a n v rd : Nat) : (Dev.scOp s h a n v rd).clock = s.clock := by
  unfold Dev.scOp; (repeat' first | with_reducible rfl | (simp only [↓clock_mk, (clock_of_core (Dev.except_core _ _ _ _)), (clock_of_core (Dev.exceptOpen_core _ _ _ _)), (clock_of_core (Dev.reserve_core _ _ _)), (clock_of_core (Dev.setDcache_core _ _ _)), Dev.storeMem_clock, (clock_of_core (Dev.writeRd_core _ _ _ _ _)), apply_ite Dev.clock, ite_self, apply_ite Prod.snd, apply_ite Prod.fst]; done) | with_reducible refine (pair2_clock ‹_›).trans ?_ | with_reducible refine ite_to ?_ ?_ | split | simp only [↓clock_mk, (clock_of_core (Dev.except_core _ _ _ _)), (clock_of_core (Dev.exceptOpen_core _ _ _ _)), (clock_of_core (Dev.reserve_core _ _ _)), (clock_of_core (Dev.setDcache_core _ _ _)), Dev.storeMem_clock, (clock_of_core (Dev.writeRd_core _ _ _ _ _)), apply_ite Dev.clock, ite_self, apply_ite Prod.snd, apply_ite Prod.fst])
theorem Dev.amoOp_clock (s : Dev) (h f5 a n v err rd raw : Nat) : (Dev.amoOp s h f5 a n v err rd raw).clock = s.clock := by
  unfold Dev.amoOp; (repeat' first | with_reducible rfl | (simp only [↓clock_mk, (clock_of_core (Dev.except_core _ _ _ _)), (clock_of_core (Dev.exceptOpen_core _ _ _ _)), (clock_of_core (Dev.illegalOp_core _ _ _)), Dev.loadMem_clock, Dev.storeMem_clock, (clock_of_core (Dev.writeRd_core _ _ _ _ _)), apply_ite Dev.clock, ite_self, apply_ite Prod.snd, apply_ite Prod.fst]; done) | with_reducible refine (pair2_clock ‹_›).trans ?_ | with_reducible refine ite_to ?_ ?_ | split | simp only [↓clock_mk, (clock_of_core (Dev.except_core _ _ _ _)), (clock_of_core (Dev.exceptOpen_core _ _ _ _)), (clock_of_core (Dev.illegalOp_core _ _ _)), Dev.loadMem_clock, Dev.storeMem_clock, (clock_of_core (Dev.writeRd_core _ _ _ _ _)), apply_ite Dev.clock, ite_self, apply_ite Prod.snd, apply_ite Prod.fst])
theorem Dev.atomicOp_clock (s : Dev) (h w raw err : Nat) : (Dev.atomicOp s h w raw err).clock = s.clock := by
  unfold Dev.atomicOp; simp only [↓clock_mk, Dev.amoOp_clock, (clock_of_core (Dev.illegalOp_core _ _ _)), Dev.lrOp_clock, Dev.scOp_clock, apply_ite Dev.clock, ite_self]
theorem Dev.fenceOp_core (s : Dev) (h w raw : Nat) : (Dev.fenceOp s h w raw).core = s.core := by
  unfold Dev.fenceOp; (repeat' first | with_reducible rfl | (simp only [↓core_mk, Dev.illegalOp_core, Dev.retired_core, Dev.setDcache_core, Dev.setIcache_core, apply_ite Dev.core, ite_self]; done) | with_reducible refine ite_to ?_ ?_ | split)
theorem Dev.mret_core (s : Dev) (h : Nat) : (Dev.mret s h).core = s.core := by
  unfold Dev.mret; simp only [Dev.jumpTo_core, Dev.setHart_core]
theorem Dev.systemOp_core (s : Dev) (h w raw len : Nat) : (Dev.systemOp s h w raw len).core = s.core := by
  unfold Dev.systemOp; (repeat' first | with_reducible rfl | (simp only [↓core_mk, Dev.csrOp_core, Dev.except_core, Dev.exceptOpen_core, Dev.illegalOp_core, Dev.mret_core, Dev.retired_core, apply_ite Dev.core, ite_self]; done) | with_reducible refine ite_to ?_ ?_ | split)
theorem Dev.aluOp_core (s : Dev) (h w raw len : Nat) (r : Option Nat) : (Dev.aluOp s h w raw len r).core = s.core := by
  unfold Dev.aluOp; (repeat' first | with_reducible rfl | (simp only [↓core_mk, Dev.illegalOp_core, Dev.writeRd_core, apply_ite Dev.core, ite_self]; done) | with_reducible refine ite_to ?_ ?_ | split)
theorem Dev.baseOp_clock (s : Dev) (h w raw len err : Nat) : (Dev.baseOp s h w raw len err).clock = s.clock := by
  unfold Dev.baseOp; (repeat' first | with_reducible rfl | (simp only [↓clock_mk, (clock_of_core (Dev.aluOp_core _ _ _ _ _ _)), Dev.atomicOp_clock, (clock_of_core (Dev.fenceOp_core _ _ _ _)), (clock_of_core (Dev.illegalOp_core _ _ _)), (clock_of_core (Dev.jumpTo_core _ _ _)), Dev.loadOp_clock, (clock_of_core (Dev.retired_core _ _ _)), (clock_of_core (Dev.setPc_core _ _ _)), Dev.storeOp_clock, (clock_of_core (Dev.systemOp_core _ _ _ _ _)), (clock_of_core (Dev.writeRd_core _ _ _ _ _)), apply_ite Dev.clock, ite_self, apply_ite Prod.snd, apply_ite Prod.fst]; done) | with_reducible refine (pair2_clock ‹_›).trans ?_ | with_reducible refine ite_to ?_ ?_ | split | simp only [↓clock_mk, (clock_of_core (Dev.aluOp_core _ _ _ _ _ _)), Dev.atomicOp_clock, (clock_of_core (Dev.fenceOp_core _ _ _ _)), (clock_of_core (Dev.illegalOp_core _ _ _)), (clock_of_core (Dev.jumpTo_core _ _ _)), Dev.loadOp_clock, (clock_of_core (Dev.retired_core _ _ _)), (clock_of_core (Dev.setPc_core _ _ _)), Dev.storeOp_clock, (clock_of_core (Dev.systemOp_core _ _ _ _ _)), (clock_of_core (Dev.writeRd_core _ _ _ _ _)), apply_ite Dev.clock, ite_self, apply_ite Prod.snd, apply_ite Prod.fst])
theorem Dev.fetch_core (s : Dev) (h err : Nat) : ((Dev.fetch s h err).2).core = s.core := by
  unfold Dev.fetch; (repeat' first | with_reducible rfl | (simp only [↓core_mk, Dev.fetch2_core, apply_ite Dev.core, ite_self, apply_ite Prod.snd, apply_ite Prod.fst]; done) | with_reducible refine (pair2_core ‹_›).trans ?_ | with_reducible refine ite_to ?_ ?_ | split | simp only [↓core_mk, Dev.fetch2_core, apply_ite Dev.core, ite_self, apply_ite Prod.snd, apply_ite Prod.fst])
theorem Dev.isa_clock (s : Dev) (h fetchErr err : Nat) : (Dev.isa s h fetchErr err).clock = s.clock := by
  unfold Dev.isa; (repeat' first | with_reducible rfl | (simp only [↓clock_mk, Dev.baseOp_clock, (clock_of_core (Dev.except_core _ _ _ _)), (clock_of_core (Dev.exceptOpen_core _ _ _ _)), (clock_of_core (Dev.fetch_core _ _ _)), (clock_of_core (Dev.illegalOp_core _ _ _)), apply_ite Dev.clock, ite_self, apply_ite Prod.snd, apply_ite Prod.fst]; done) | with_reducible refine (pair2_clock ‹_›).trans ?_ | with_reducible refine ite_to ?_ ?_ | split | simp only [↓clock_mk, Dev.baseOp_clock, (clock_of_core (Dev.except_core _ _ _ _)), (clock_of_core (Dev.exceptOpen_core _ _ _ _)), (clock_of_core (Dev.fetch_core _ _ _)), (clock_of_core (Dev.illegalOp_core _ _ _)), apply_ite Dev.clock, ite_self, apply_ite Prod.snd, apply_ite Prod.fst])
theorem Dev.sideband_core (s : Dev) (b : Nat) (on : Bool) : (Dev.sideband s b on).core = s.core := by
  unfold Dev.sideband; simp only [Dev.setObj_core]
theorem Dev.etherLost_core (s : Dev) (p : Nat) : (Dev.etherLost s p).core = s.core := by
  unfold Dev.etherLost; simp only [↓core_mk, Dev.frameDone_core, Dev.restartPort_core, Dev.setPort_core, apply_ite Dev.core, ite_self]
theorem Dev.ext_core (s : Dev) (h f : Nat) (act : Dev → Nat → Nat → Nat → Dev) (hact : ∀ t y1 y2 y3, (act t y1 y2 y3).core = t.core) : (Dev.ext s h f act).core = s.core := by
  unfold Dev.ext; (repeat' first | with_reducible rfl | (simp only [↓core_mk, Dev.exceptOpen_core, Dev.fetch_core, hact, apply_ite Dev.core, ite_self, apply_ite Prod.snd, apply_ite Prod.fst]; done) | with_reducible refine (pair2_core ‹_›).trans ?_ | with_reducible refine ite_to ?_ ?_ | split | simp only [↓core_mk, Dev.exceptOpen_core, Dev.fetch_core, hact, apply_ite Dev.core, ite_self, apply_ite Prod.snd, apply_ite Prod.fst])
theorem Dev.waitev_core (s : Dev) (h raw a : Nat) : (Dev.waitev s h raw a).core = s.core := by
  unfold Dev.waitev; simp only [Dev.setHart_core, Dev.wakeEval_core]
theorem Dev.sigev_core (s : Dev) (h target event : Nat) : (Dev.sigev s h target event).core = s.core := by
  unfold Dev.sigev; simp only [↓core_mk, Dev.bump_core, Dev.except_core, Dev.retired_core, apply_ite Dev.core, ite_self]
theorem Dev.sigArrive_core (s : Dev) (h target : Nat) : (Dev.sigArrive s h target).core = s.core := by
  unfold Dev.sigArrive; (repeat' first | with_reducible rfl | (simp only [↓core_mk, Dev.bump_core, Dev.event_core, apply_ite Dev.core, ite_self]; done) | with_reducible refine ite_to ?_ ?_ | split)
theorem Dev.armedNow_core (s : Dev) (E : Nat) : (Dev.armedNow s E).core = s.core := by
  unfold Dev.armedNow; (repeat' first | with_reducible rfl | (with_reducible refine (foldl_core _ ?_ _ _).trans ?_; intro _ _) | (simp only [↓core_mk, Dev.setHart_core, apply_ite Dev.core, ite_self]; done) | with_reducible refine ite_to ?_ ?_ | split)
theorem Dev.chbind_core (s : Dev) (h e dest : Nat) : (Dev.chbind s h e dest).core = s.core := by
  unfold Dev.chbind; (repeat' first | with_reducible rfl | (simp only [↓core_mk, Dev.armedNow_core, Dev.chanFault_core, Dev.retired_core, Dev.setChan_core, apply_ite Dev.core, ite_self, apply_ite Prod.snd, apply_ite Prod.fst]; done) | with_reducible refine (pair2_core ‹_›).trans ?_ | with_reducible refine ite_to ?_ ?_ | split | simp only [↓core_mk, Dev.armedNow_core, Dev.chanFault_core, Dev.retired_core, Dev.setChan_core, apply_ite Dev.core, ite_self, apply_ite Prod.snd, apply_ite Prod.fst])
theorem Dev.block_core (s : Dev) (h : Nat) (w : HWait) : (Dev.block s h w).core = s.core := by
  unfold Dev.block; simp only [Dev.setHart_core]
theorem Dev.noDest_core (s : Dev) (h E : Nat) : (Dev.noDest s h E).core = s.core := by
  unfold Dev.noDest; simp only [Dev.chanFault_core, Dev.setChan_core, Dev.withdraw_core]
theorem Dev.chput_core (s : Dev) (h e word : Nat) : (Dev.chput s h e word).core = s.core := by
  unfold Dev.chput; (repeat' first | with_reducible rfl | (simp only [↓core_mk, Dev.block_core, Dev.chanFault_core, Dev.noDest_core, Dev.queueAt_core, Dev.setChan_core, apply_ite Dev.core, ite_self, apply_ite Prod.snd, apply_ite Prod.fst]; done) | with_reducible refine (pair2_core ‹_›).trans ?_ | with_reducible refine ite_to ?_ ?_ | split | simp only [↓core_mk, Dev.block_core, Dev.chanFault_core, Dev.noDest_core, Dev.queueAt_core, Dev.setChan_core, apply_ite Dev.core, ite_self, apply_ite Prod.snd, apply_ite Prod.fst])
theorem Dev.chend_core (s : Dev) (h e : Nat) : (Dev.chend s h e).core = s.core := by
  unfold Dev.chend; (repeat' first | with_reducible rfl | (simp only [↓core_mk, Dev.block_core, Dev.chanFault_core, Dev.noDest_core, Dev.queueAt_core, apply_ite Dev.core, ite_self, apply_ite Prod.snd, apply_ite Prod.fst]; done) | with_reducible refine (pair2_core ‹_›).trans ?_ | with_reducible refine ite_to ?_ ?_ | split | simp only [↓core_mk, Dev.block_core, Dev.chanFault_core, Dev.noDest_core, Dev.queueAt_core, apply_ite Dev.core, ite_self, apply_ite Prod.snd, apply_ite Prod.fst])
theorem Dev.receive_core (s : Dev) (h e : Nat) (w : HWait) : (Dev.receive s h e w).core = s.core := by
  unfold Dev.receive; simp only [↓core_mk, Dev.block_core, Dev.takeToken_core, apply_ite Dev.core, ite_self]
theorem Dev.tokenTaken_core (s : Dev) (h E D n : Nat) : (Dev.tokenTaken s h E D n).core = s.core := by
  unfold Dev.tokenTaken; (repeat' first | with_reducible rfl | (simp only [↓core_mk, Dev.accept_core, Dev.retired_core, Dev.setChan_core, apply_ite Dev.core, ite_self]; done) | with_reducible refine ite_to ?_ ?_ | split)
theorem Dev.tokenAccept_core (s : Dev) (E : Nat) : (Dev.tokenAccept s E).core = s.core := by
  unfold Dev.tokenAccept; (repeat' first | with_reducible rfl | (with_reducible refine (foldl_core _ ?_ _ _).trans ?_; intro _ _) | (with_reducible refine (foldl2_core _ ?_ _ _).trans ?_; intro _ _) | (with_reducible refine (foldl1_core _ ?_ _ _).trans ?_; intro _ _) | (simp only [↓core_mk, Dev.accept_core, Dev.noDest_core, Dev.tokenTaken_core, apply_ite Dev.core, ite_self, apply_ite Prod.snd, apply_ite Prod.fst]; done) | with_reducible refine (pair2_core ‹_›).trans ?_ | with_reducible refine (pair1_core ‹_›).trans ?_ | with_reducible refine ite_to ?_ ?_ | split | simp only [↓core_mk, Dev.accept_core, Dev.noDest_core, Dev.tokenTaken_core, apply_ite Dev.core, ite_self, apply_ite Prod.snd, apply_ite Prod.fst])
theorem Dev.abandon_core (s : Dev) (h : Nat) : (Dev.abandon s h).core = s.core := by
  unfold Dev.abandon; (repeat' first | with_reducible rfl | (simp only [↓core_mk, Dev.setHart_core, Dev.withdraw_core, apply_ite Dev.core, ite_self, apply_ite Prod.snd, apply_ite Prod.fst]; done) | with_reducible refine (pair2_core ‹_›).trans ?_ | with_reducible refine ite_to ?_ ?_ | split | simp only [↓core_mk, Dev.setHart_core, Dev.withdraw_core, apply_ite Dev.core, ite_self, apply_ite Prod.snd, apply_ite Prod.fst])
theorem Dev.channelTimeout_core (s : Dev) (h : Nat) : (Dev.channelTimeout s h).core = s.core := by
  unfold Dev.channelTimeout; (repeat' first | with_reducible rfl | (simp only [↓core_mk, Dev.abandon_core, Dev.chanFault_core, apply_ite Dev.core, ite_self]; done) | with_reducible refine ite_to ?_ ?_ | split)
theorem Dev.countChannels_core (s : Dev) : (Dev.countChannels s).core = s.core := id rfl
theorem Dev.takeInt_core (s : Dev) (h : Nat) : (Dev.takeInt s h).core = s.core := by
  unfold Dev.takeInt; (repeat' first | with_reducible rfl | (simp only [↓core_mk, Dev.setHart_core, apply_ite Dev.core, ite_self]; done) | with_reducible refine ite_to ?_ ?_ | split)
theorem Dev.stallWake_core (s : Dev) (h : Nat) : (Dev.stallWake s h).core = s.core := by
  unfold Dev.stallWake; (repeat' first | with_reducible rfl | (simp only [↓core_mk, Dev.abandon_core, Dev.setHart_core, Dev.writeRd_core, apply_ite Dev.core, ite_self, apply_ite Prod.snd, apply_ite Prod.fst]; done) | with_reducible refine (pair2_core ‹_›).trans ?_ | with_reducible refine ite_to ?_ ?_ | split | simp only [↓core_mk, Dev.abandon_core, Dev.setHart_core, Dev.writeRd_core, apply_ite Dev.core, ite_self, apply_ite Prod.snd, apply_ite Prod.fst])
theorem Dev.coreStall_core (s : Dev) (n : Nat) : (Dev.coreStall s n).core = s.core := by
  unfold Dev.coreStall; simp only [Dev.bump_core, Dev.log_core, Dev.notify_core, Dev.setWindow_core, Dev.stallWake_core]
theorem Dev.stalls_core (s : Dev) : (Dev.stalls s).core = s.core := by
  unfold Dev.stalls; (repeat' first | with_reducible rfl | (with_reducible refine (foldl_core _ ?_ _ _).trans ?_; intro _ _) | (simp only [↓core_mk, Dev.coreStall_core, apply_ite Dev.core, ite_self]; done) | with_reducible refine ite_to ?_ ?_ | split)
theorem Dev.channelEdge_core (s : Dev) : (Dev.channelEdge s).core = s.core := by
  unfold Dev.channelEdge; (repeat' first | with_reducible rfl | (with_reducible refine (foldl_core _ ?_ _ _).trans ?_; intro _ _) | (simp only [↓core_mk, Dev.channelTimeout_core, apply_ite Dev.core, ite_self]; done) | with_reducible refine ite_to ?_ ?_ | split)
theorem Dev.tickWakes_core (s : Dev) : (Dev.tickWakes s).core = s.core := by
  unfold Dev.tickWakes; (repeat' first | with_reducible rfl | (with_reducible refine (foldl_core _ ?_ _ _).trans ?_; intro _ _) | (simp only [↓core_mk, Dev.wakeEval_core, apply_ite Dev.core, ite_self]; done) | with_reducible refine ite_to ?_ ?_ | split)
theorem Dev.debugHalt_core (s : Dev) (h : Nat) : (Dev.debugHalt s h).core = s.core := by
  unfold Dev.debugHalt; simp only [Dev.abandon_core, Dev.setHart_core]
theorem Dev.leaseCheck_core (s : Dev) : (Dev.leaseCheck s).core = s.core := by
  unfold Dev.leaseCheck; (repeat' first | with_reducible rfl | (simp only [↓core_mk, Dev.enterFenced_core, apply_ite Dev.core, ite_self]; done) | with_reducible refine ite_to ?_ ?_ | split)
theorem Dev.bulkCopy_core (s : Dev) : (Dev.bulkCopy s).core = s.core := by
  unfold Dev.bulkCopy; (repeat' first | with_reducible rfl | (with_reducible refine (foldl_core _ ?_ _ _).trans ?_; intro _ _) | (with_reducible refine (foldl2_core _ ?_ _ _).trans ?_; intro _ _) | (with_reducible refine (foldl1_core _ ?_ _ _).trans ?_; intro _ _) | (simp only [↓core_mk, Dev.mirror_core, apply_ite Dev.core, ite_self, apply_ite Prod.snd, apply_ite Prod.fst]; done) | with_reducible refine (pair2_core ‹_›).trans ?_ | with_reducible refine (pair1_core ‹_›).trans ?_ | with_reducible refine ite_to ?_ ?_ | split | simp only [↓core_mk, Dev.mirror_core, apply_ite Dev.core, ite_self, apply_ite Prod.snd, apply_ite Prod.fst])
theorem Dev.switchedOver_core (s : Dev) : (Dev.switchedOver s).core = s.core := by
  unfold Dev.switchedOver; (repeat' first | with_reducible rfl | (with_reducible refine (foldl_core _ ?_ _ _).trans ?_; intro _ _) | (with_reducible refine (foldl2_core _ ?_ _ _).trans ?_; intro _ _) | (with_reducible refine (foldl1_core _ ?_ _ _).trans ?_; intro _ _) | (simp only [↓core_mk, Dev.setObj_core, Dev.setRole_core, Dev.twinLog_core, Dev.updQueue_core, apply_ite Dev.core, ite_self, apply_ite Prod.snd, apply_ite Prod.fst]; done) | with_reducible refine (pair2_core ‹_›).trans ?_ | with_reducible refine (pair1_core ‹_›).trans ?_ | with_reducible refine ite_to ?_ ?_ | split | simp only [↓core_mk, Dev.setObj_core, Dev.setRole_core, Dev.twinLog_core, Dev.updQueue_core, apply_ite Dev.core, ite_self, apply_ite Prod.snd, apply_ite Prod.fst])
theorem Dev.identified_core (s : Dev) (role seq : Nat) (digestOk : Bool) : (Dev.identified s role seq digestOk).core = s.core := by
  unfold Dev.identified; simp only [↓core_mk, Dev.discardCopy_core, Dev.bulkCopy_core, Dev.setObj_core, Dev.setRole_core, Dev.switchedOver_core, apply_ite Dev.core, ite_self]
theorem Dev.twinLost_core (s : Dev) (down : Bool) : (Dev.twinLost s down).core = s.core := by
  unfold Dev.twinLost; simp only [↓core_mk, Dev.addObj_core, Dev.discardCopy_core, Dev.releaseSync_core, Dev.setObj_core, Dev.twinLog_core, apply_ite Dev.core, ite_self]
theorem Dev.bulkItem_core (s : Dev) (t w : Nat) : (Dev.bulkItem s t w).core = s.core := by
  unfold Dev.bulkItem; (repeat' first | with_reducible rfl | (simp only [↓core_mk, Dev.bump_core, Dev.emWrite_core, apply_ite Dev.core, ite_self, apply_ite Prod.snd, apply_ite Prod.fst]; done) | with_reducible refine (pair2_core ‹_›).trans ?_ | with_reducible refine ite_to ?_ ?_ | split | simp only [↓core_mk, Dev.bump_core, Dev.emWrite_core, apply_ite Dev.core, ite_self, apply_ite Prod.snd, apply_ite Prod.fst])
theorem Dev.copied_core (s : Dev) (n : Nat) : (Dev.copied s n).core = s.core := by
  unfold Dev.copied; simp only [Dev.setObj_core]
theorem Dev.applyMirror_core (s : Dev) (m : MirrorMsg) : (Dev.applyMirror s m).core = s.core := by
  unfold Dev.applyMirror; (repeat' first | with_reducible rfl | (with_reducible refine (foldl_core _ ?_ _ _).trans ?_; intro _ _) | (simp only [↓core_mk, Dev.bulkItem_core, Dev.copied_core, Dev.dropQueue_core, Dev.emPush_core, Dev.installQueue_core, Dev.setEntry_core, Dev.setObj_core, Dev.updQueue_core, Dev.updSto_core, apply_ite Dev.core, ite_self]; done) | with_reducible refine ite_to ?_ ?_ | split)
theorem Dev.standbyEdge_core (s : Dev) : (Dev.standbyEdge s).core = s.core := by
  unfold Dev.standbyEdge; simp only [↓core_mk, Dev.hello_core, Dev.setRole_core, Dev.twinLog_core, apply_ite Dev.core, ite_self]
theorem Dev.setLease_core (s : Dev) (seq d : Nat) : (Dev.setLease s seq d).core = s.core := by
  unfold Dev.setLease; simp only [↓core_mk, Dev.setObj_core]
theorem Dev.goActive_core (s : Dev) (t seq term : Nat) : (Dev.goActive s t seq term).core = s.core := by
  unfold Dev.goActive; simp only [Dev.renew_core, Dev.resumeIo_core, Dev.setLease_core, Dev.setRole_core]
theorem Dev.leaseGrant_core (s : Dev) (t seq term pair : Nat) : (Dev.leaseGrant s t seq term pair).core = s.core := by
  unfold Dev.leaseGrant; simp only [↓core_mk, Dev.bump_core, Dev.goActive_core, Dev.setObj_core, apply_ite Dev.core, ite_self]
theorem Dev.takeoverGrant_core (s : Dev) (key rs pair seq term : Nat) : (Dev.takeoverGrant s key rs pair seq term).core = s.core := by
  unfold Dev.takeoverGrant; simp only [↓core_mk, Dev.answerNotReady_core, Dev.bump_core, Dev.emit_core, Dev.goActive_core, apply_ite Dev.core, ite_self]
theorem Dev.takeoverStart_core (s : Dev) (e seq term : Nat) : (Dev.takeoverStart s e seq term).core = s.core := by
  unfold Dev.takeoverStart; simp only [↓core_mk, Dev.renew_core, Dev.setLease_core]
theorem Dev.takeoverBegin_core (s : Dev) : (Dev.takeoverBegin s).core = s.core := by
  unfold Dev.takeoverBegin; (repeat' first | with_reducible rfl | (simp only [↓core_mk, Dev.takeoverStart_core, apply_ite Dev.core, ite_self]; done) | with_reducible refine ite_to ?_ ?_ | split)
theorem Dev.intentUnknown_core (L : Nat) (s : Dev) (x : Intent) : (Dev.intentUnknown L s x).core = s.core := by
  unfold Dev.intentUnknown; simp only [↓core_mk, Dev.setSync_core, Dev.updSto_core, apply_ite Dev.core, ite_self]
theorem Dev.takeQueue_core (s : Dev) (qk : Nat) : (Dev.takeQueue s qk).core = s.core := by
  unfold Dev.takeQueue; (repeat' first | with_reducible rfl | (with_reducible refine (foldl_core _ ?_ _ _).trans ?_; intro _ _) | (with_reducible refine (foldl2_core _ ?_ _ _).trans ?_; intro _ _) | (with_reducible refine (foldl1_core _ ?_ _ _).trans ?_; intro _ _) | (simp only [↓core_mk, Dev.hostWrite_core, Dev.setQstate_core, Dev.setQueue_core, apply_ite Dev.core, ite_self, apply_ite Prod.snd, apply_ite Prod.fst]; done) | with_reducible refine (pair2_core ‹_›).trans ?_ | with_reducible refine (pair1_core ‹_›).trans ?_ | with_reducible refine ite_to ?_ ?_ | split | simp only [↓core_mk, Dev.hostWrite_core, Dev.setQstate_core, Dev.setQueue_core, apply_ite Dev.core, ite_self, apply_ite Prod.snd, apply_ite Prod.fst])
theorem Dev.announceAll_core (s : Dev) : (Dev.announceAll s).core = s.core := by
  unfold Dev.announceAll; (repeat' first | with_reducible rfl | (with_reducible refine (foldl_core _ ?_ _ _).trans ?_; intro _ _) | (simp only [↓core_mk, Dev.addObj_core, Dev.bump_core, Dev.emit_core, apply_ite Dev.core, ite_self]; done) | with_reducible refine ite_to ?_ ?_ | split)
theorem Dev.takeoverActivate_core (s : Dev) (e : Nat) : (Dev.takeoverActivate s e).core = s.core := by
  unfold Dev.takeoverActivate; (repeat' first | with_reducible rfl | (with_reducible refine (foldl_core _ ?_ _ _).trans ?_; intro _ _) | (with_reducible refine (foldl2_core _ ?_ _ _).trans ?_; intro _ _) | (with_reducible refine (foldl1_core _ ?_ _ _).trans ?_; intro _ _) | (simp only [↓core_mk, Dev.announceAll_core, Dev.bump_core, Dev.intentUnknown_core, Dev.policerFill_core, Dev.resumeIo_core, Dev.ringHeld_core, Dev.setObj_core, Dev.setRole_core, Dev.shaperReload_core, Dev.takeQueue_core, Dev.twinLog_core, apply_ite Dev.core, ite_self, apply_ite Prod.snd, apply_ite Prod.fst]; done) | with_reducible refine (pair2_core ‹_›).trans ?_ | with_reducible refine (pair1_core ‹_›).trans ?_ | with_reducible refine ite_to ?_ ?_ | split | simp only [↓core_mk, Dev.announceAll_core, Dev.bump_core, Dev.intentUnknown_core, Dev.policerFill_core, Dev.resumeIo_core, Dev.ringHeld_core, Dev.setObj_core, Dev.setRole_core, Dev.shaperReload_core, Dev.takeQueue_core, Dev.twinLog_core, apply_ite Dev.core, ite_self, apply_ite Prod.snd, apply_ite Prod.fst])
theorem Dev.takeoverEnd_core (s : Dev) : (Dev.takeoverEnd s).core = s.core := by
  unfold Dev.takeoverEnd; (repeat' first | with_reducible rfl | (simp only [↓core_mk, Dev.takeoverActivate_core, apply_ite Dev.core, ite_self]; done) | with_reducible refine ite_to ?_ ?_ | split)
theorem Dev.leaseEdge_core (s : Dev) : (Dev.leaseEdge s).core = s.core := by
  unfold Dev.leaseEdge; simp only [↓core_mk, Dev.leaseCheck_core, Dev.standbyEdge_core, Dev.takeoverBegin_core, Dev.takeoverEnd_core, Dev.twinLost_core, apply_ite Dev.core, ite_self]
theorem Dev.onVf_core (s : Dev) (n desc : Nat) (good : Nat → Bool) (f : Nat → Dev) (hf : ∀ y1, (f y1).core = s.core) : (Dev.onVf s n desc good f).core = s.core := by
  unfold Dev.onVf; dsimp only; repeat' first | exact Dev.adminDone_core _ _ _ _ | exact hf _ | split
theorem Dev.freezeApply_core (s : Dev) (n t : Nat) : (Dev.freezeApply s n t).core = s.core := by
  unfold Dev.freezeApply; simp only [↓core_mk, Dev.adminDone_core, Dev.setFn_core, Dev.setFstate_core, Dev.setObj_core, apply_ite Dev.core, ite_self]
theorem Dev.dropImage_core (s : Dev) (t : Nat) : (Dev.dropImage s t).core = s.core := by
  unfold Dev.dropImage; simp only [Dev.setFn_core, Dev.setObj_core]
theorem Dev.saveState_core (s : Dev) (n t desc off : Nat) : (Dev.saveState s n t desc off).core = s.core := by
  unfold Dev.saveState; simp only [↓core_mk, Dev.adminDone_core, Dev.hostWrite_core, apply_ite Dev.core, ite_self]
theorem Dev.thawApply_core (s : Dev) (n t : Nat) : (Dev.thawApply s n t).core = s.core := by
  unfold Dev.thawApply; (repeat' first | with_reducible rfl | (with_reducible refine (foldl_core _ ?_ _ _).trans ?_; intro _ _) | (with_reducible refine (foldl2_core _ ?_ _ _).trans ?_; intro _ _) | (with_reducible refine (foldl1_core _ ?_ _ _).trans ?_; intro _ _) | (simp only [↓core_mk, Dev.adminDone_core, Dev.dropImage_core, Dev.flushMsix_core, Dev.ring_core, Dev.runQueues_core, Dev.setFstate_core, apply_ite Dev.core, ite_self, apply_ite Prod.snd, apply_ite Prod.fst]; done) | with_reducible refine (pair2_core ‹_›).trans ?_ | with_reducible refine (pair1_core ‹_›).trans ?_ | with_reducible refine ite_to ?_ ?_ | split | simp only [↓core_mk, Dev.adminDone_core, Dev.dropImage_core, Dev.flushMsix_core, Dev.ring_core, Dev.runQueues_core, Dev.setFstate_core, apply_ite Dev.core, ite_self, apply_ite Prod.snd, apply_ite Prod.fst])
theorem Dev.restoreBytes_core (s : Dev) (n t : Nat) (b : List Nat) : (Dev.restoreBytes s n t b).core = s.core := by
  unfold Dev.restoreBytes; (repeat' first | with_reducible rfl | (simp only [↓core_mk, Dev.adminBegin_core, Dev.adminDone_core, Dev.setFn_core, Dev.tenantLog_core, apply_ite Dev.core, ite_self, apply_ite Prod.snd, apply_ite Prod.fst]; done) | with_reducible refine (pair2_core ‹_›).trans ?_ | with_reducible refine ite_to ?_ ?_ | split | simp only [↓core_mk, Dev.adminBegin_core, Dev.adminDone_core, Dev.setFn_core, Dev.tenantLog_core, apply_ite Dev.core, ite_self, apply_ite Prod.snd, apply_ite Prod.fst])
theorem Dev.restoreRec_core (n t : Nat) (o0 : Tab Nat) (s : Dev) (r : ObjRec) : (Dev.restoreRec n t o0 s r).core = s.core := by
  unfold Dev.restoreRec; (repeat' first | with_reducible rfl | (simp only [↓core_mk, Dev.logItem_core, Dev.setObj_core, apply_ite Dev.core, ite_self]; done) | with_reducible refine ite_to ?_ ?_ | split)
theorem Dev.restoreAdmin_core (s : Dev) (t : Nat) : (Dev.restoreAdmin s t).core = s.core := by
  unfold Dev.restoreAdmin; (repeat' first | with_reducible rfl | (simp only [↓core_mk, Dev.setFn_core, apply_ite Dev.core, ite_self]; done) | with_reducible refine ite_to ?_ ?_ | split)
theorem Dev.restoreKeys_core (s : Dev) (t : Nat) (ks : List (Nat × Nat)) : (Dev.restoreKeys s t ks).core = s.core := by
  unfold Dev.restoreKeys; (repeat' first | with_reducible rfl | (with_reducible refine (foldl_core _ ?_ _ _).trans ?_; intro _ _) | (with_reducible refine (foldl2_core _ ?_ _ _).trans ?_; intro _ _) | (with_reducible refine (foldl1_core _ ?_ _ _).trans ?_; intro _ _) | (simp only [↓core_mk, Dev.emQueue_core, apply_ite Dev.core, ite_self, apply_ite Prod.snd, apply_ite Prod.fst]; done) | with_reducible refine (pair2_core ‹_›).trans ?_ | with_reducible refine (pair1_core ‹_›).trans ?_ | with_reducible refine ite_to ?_ ?_ | split | simp only [↓core_mk, Dev.emQueue_core, apply_ite Dev.core, ite_self, apply_ite Prod.snd, apply_ite Prod.fst])
theorem Dev.restoreApply_core (s : Dev) (n t : Nat) : (Dev.restoreApply s n t).core = s.core := by
  unfold Dev.restoreApply; (repeat' first | with_reducible rfl | (with_reducible refine (foldl_core _ ?_ _ _).trans ?_; intro _ _) | (with_reducible refine (foldl2_core _ ?_ _ _).trans ?_; intro _ _) | (with_reducible refine (foldl1_core _ ?_ _ _).trans ?_; intro _ _) | (simp only [↓core_mk, Dev.adminBegin_core, Dev.adminDone_core, Dev.installQueue_core, Dev.restoreAdmin_core, Dev.restoreKeys_core, Dev.restoreRec_core, Dev.setFn_core, Dev.setObj_core, Dev.updQueue_core, apply_ite Dev.core, ite_self, apply_ite Prod.snd, apply_ite Prod.fst]; done) | with_reducible refine (pair2_core ‹_›).trans ?_ | with_reducible refine (pair1_core ‹_›).trans ?_ | with_reducible refine ite_to ?_ ?_ | split | simp only [↓core_mk, Dev.adminBegin_core, Dev.adminDone_core, Dev.installQueue_core, Dev.restoreAdmin_core, Dev.restoreKeys_core, Dev.restoreRec_core, Dev.setFn_core, Dev.setObj_core, Dev.updQueue_core, apply_ite Dev.core, ite_self, apply_ite Prod.snd, apply_ite Prod.fst])
theorem Dev.restoreDone_core (s : Dev) : (Dev.restoreDone s).core = s.core := by
  unfold Dev.restoreDone; (repeat' first | with_reducible rfl | (with_reducible refine (foldl_core _ ?_ _ _).trans ?_; intro _ _) | (simp only [↓core_mk, Dev.adminDone_core, Dev.emptyBox_core, Dev.setFstate_core, apply_ite Dev.core, ite_self]; done) | with_reducible refine ite_to ?_ ?_ | split)
theorem Dev.imagesEdge_core (s : Dev) : (Dev.imagesEdge s).core = s.core := by
  unfold Dev.imagesEdge; (repeat' first | with_reducible rfl | (with_reducible refine (foldl_core _ ?_ _ _).trans ?_; intro _ _) | (simp only [↓core_mk, Dev.restoreApply_core, apply_ite Dev.core, ite_self]; done) | with_reducible refine ite_to ?_ ?_ | split)
theorem Dev.shiftBusy_core (s : Dev) : (Dev.shiftBusy s).core = s.core := id rfl
theorem Dev.memLimitTicks_core (s : Dev) : (Dev.memLimitTicks s).core = s.core := by
  unfold Dev.memLimitTicks; (repeat' first | with_reducible rfl | (with_reducible refine (foldl_core _ ?_ _ _).trans ?_; intro _ _) | (simp only [↓core_mk, Dev.bump_core, apply_ite Dev.core, ite_self]; done) | with_reducible refine ite_to ?_ ?_ | split)
theorem Dev.countTicks_core (s : Dev) : (Dev.countTicks s).core = s.core := by
  unfold Dev.countTicks; simp only [↓core_mk, Dev.bump_core, Dev.memLimitTicks_core, apply_ite Dev.core, ite_self]
theorem Dev.snapshot_core (s : Dev) : (Dev.snapshot s).core = s.core := by
  unfold Dev.snapshot; (repeat' first | with_reducible rfl | (simp only [↓core_mk, apply_ite Dev.core, ite_self]; done) | with_reducible refine ite_to ?_ ?_ | split)
theorem Dev.bureauEdge_clock (s : Dev) : (Dev.bureauEdge s).clock = s.clock := by
  unfold Dev.bureauEdge; (repeat' first | with_reducible rfl | (simp only [↓clock_mk, Dev.bootEdge_clock, (clock_of_core (Dev.coldReset_core _ _)), (clock_of_core (Dev.commitEdge_core _)), (clock_of_core (Dev.imagesEdge_core _)), (clock_of_core (Dev.warmReset_core _ _)), apply_ite Dev.clock, ite_self, apply_ite Prod.snd, apply_ite Prod.fst]; done) | with_reducible refine (pair2_clock ‹_›).trans ?_ | with_reducible refine ite_to ?_ ?_ | split | simp only [↓clock_mk, Dev.bootEdge_clock, (clock_of_core (Dev.coldReset_core _ _)), (clock_of_core (Dev.commitEdge_core _)), (clock_of_core (Dev.imagesEdge_core _)), (clock_of_core (Dev.warmReset_core _ _)), apply_ite Dev.clock, ite_self, apply_ite Prod.snd, apply_ite Prod.fst])
theorem Dev.tableEdge_core (s : Dev) : (Dev.tableEdge s).core = s.core := by
  unfold Dev.tableEdge; simp only [Dev.takeViews_core, Dev.restoreDone_core, Dev.sendReplies_core, Dev.tableCommits_core]
theorem Dev.adminStep_core (s : Dev) (n : Nat) (a1 : AdminOp) : (Dev.adminStep s n a1).core = s.core := by
  unfold Dev.adminStep; (repeat' first | with_reducible rfl | (simp only [↓core_mk, Dev.createApply_core, Dev.freezeApply_core, Dev.resumeApply_core, Dev.stopStep_core, Dev.thawApply_core, apply_ite Dev.core, ite_self]; done) | with_reducible refine ite_to ?_ ?_ | split)
theorem Dev.functionEdge_core (s : Dev) (n : Nat) : (Dev.functionEdge s n).core = s.core := by
  unfold Dev.functionEdge; simp only [↓core_mk, Dev.adminApply_core, Dev.boxStatus_core, Dev.stopQueues_core, apply_ite Dev.core, ite_self]
theorem Dev.hostsEdge_core (s : Dev) : (Dev.hostsEdge s).core = s.core := by
  unfold Dev.hostsEdge
  exact (foldl_core _ (fun _ _ => Dev.ciRewrite_core _ _) _ _).trans ((foldl_core _ (fun _ _ => Dev.adminStep_core _ _ _) _ _).trans
    ((Dev.chainRetry_core _).trans (foldl_core _ (fun _ _ => Dev.functionEdge_core _ _) _ _)))
theorem Dev.runPiece_clock (s : Dev) (a1 : EdgePiece) : (Dev.runPiece s a1).clock = s.clock := by
  unfold Dev.runPiece; (repeat' first | with_reducible rfl | (simp only [↓clock_mk, Dev.bureauEdge_clock, (clock_of_core (Dev.calendarOpen_core _)), (clock_of_core (Dev.channelEdge_core _)), (clock_of_core (Dev.cipherBudgets_core _)), (clock_of_core (Dev.cipherEdge_core _)), (clock_of_core (Dev.coarseEmpty_core _)), (clock_of_core (Dev.faultEdge_core _)), (clock_of_core (Dev.fencesEdge_core _)), (clock_of_core (Dev.hostsEdge_core _)), (clock_of_core (Dev.intentSend_core _)), (clock_of_core (Dev.latencySample_core _)), (clock_of_core (Dev.leaseEdge_core _)), (clock_of_core (Dev.linksEdge_core _)), (clock_of_core (Dev.matcherBudgets_core _)), (clock_of_core (Dev.memBandsEdge_core _)), (clock_of_core (Dev.overruns_core _)), (clock_of_core (Dev.policerTokens_core _)), (clock_of_core (Dev.shaperCredit_core _)), (clock_of_core (Dev.snapshot_core _)), (clock_of_core (Dev.stalls_core _)), (clock_of_core (Dev.tableEdge_core _)), (clock_of_core (Dev.throttleEdge_core _)), (clock_of_core (Dev.workSteal_core _)), apply_ite Dev.clock, ite_self]; done) | with_reducible refine ite_to ?_ ?_ | split)
theorem Dev.doPiece_clock (s : Dev) (p : EdgePiece) : (Dev.doPiece s p).clock = s.clock := by
  unfold Dev.doPiece; simp only [↓clock_mk, Dev.runPiece_clock, apply_ite Dev.clock, ite_self]
theorem Dev.through_clock (s : Dev) (p : EdgePiece) : (Dev.through s p).clock = s.clock := by
  unfold Dev.through; (repeat' first | with_reducible rfl | (with_reducible refine (foldl_clock _ ?_ _ _).trans ?_; intro _ _) | (simp only [↓clock_mk, Dev.doPiece_clock, apply_ite Dev.clock, ite_self]; done) | with_reducible refine ite_to ?_ ?_ | split)
theorem Dev.finishEdge_clock (s : Dev) : (Dev.finishEdge s).clock = s.clock := by
  unfold Dev.finishEdge; (repeat' first | with_reducible rfl | (with_reducible refine (foldl_clock _ ?_ _ _).trans ?_; intro _ _) | (simp only [↓clock_mk, Dev.doPiece_clock, apply_ite Dev.clock, ite_self]; done) | with_reducible refine ite_to ?_ ?_ | split)
theorem Dev.beforeBureau_clock (s : Dev) : (Dev.beforeBureau s).clock = s.clock := by
  unfold Dev.beforeBureau; (repeat' first | with_reducible rfl | (with_reducible refine (foldl_clock _ ?_ _ _).trans ?_; intro _ _) | (simp only [↓clock_mk, Dev.doPiece_clock, apply_ite Dev.clock, ite_self]; done) | with_reducible refine ite_to ?_ ?_ | split)
theorem Dev.rwApply_clock (s : Dev) : (Dev.rwApply s).clock = s.clock := by
  unfold Dev.rwApply; (repeat' first | with_reducible rfl | (simp only [↓clock_mk, (clock_of_core (Dev.applyTxn_core _ _ _ _)), Dev.beforeBureau_clock, (clock_of_core (Dev.lowEval_core _)), apply_ite Dev.clock, ite_self, apply_ite Prod.snd, apply_ite Prod.fst]; done) | with_reducible refine (pair2_clock ‹_›).trans ?_ | with_reducible refine ite_to ?_ ?_ | split | simp only [↓clock_mk, (clock_of_core (Dev.applyTxn_core _ _ _ _)), Dev.beforeBureau_clock, (clock_of_core (Dev.lowEval_core _)), apply_ite Dev.clock, ite_self, apply_ite Prod.snd, apply_ite Prod.fst])

end Sys2Proof.Machine
end

