-- ==== Sys2Proof/Laws/FrameMemory.lean ====
section
/-! SUPPORT. The tick edge, and the effects that write memory: the tick counter's rise, and the canonical form that every write keeps. -/
namespace Sys2Proof.Machine

/-- The edge opens a tick: the counter rises by one, and memory is as it was. -/
theorem Dev.openTick_frame (s : Dev) : s.openTick.core = (s.part, s.tick + 1, s.mem) := by
  have h : (s.countTicks.shiftBusy).core = s.core := (Dev.shiftBusy_core _).trans (Dev.countTicks_core _)
  simp only [Dev.core, Prod.mk.injEq] at h
  unfold Dev.openTick
  refine (Dev.tickWakes_core _).trans ((Dev.countChannels_core _).trans ((Dev.tbTick_core _).trans ?_))
  simp only [Dev.core, h.1, h.2.1, h.2.2]

/-- What leaves memory alone keeps its canonical form. -/
theorem memWf_of_core {s d : Dev} (h : d.core = s.core) (hw : Memory.wf s.mem = true) : Memory.wf d.mem = true := by
  simp only [Dev.core, Prod.mk.injEq] at h
  rw [h.2.2]; exact hw

theorem Dev.store1_memWf (s : Dev) (a b : Nat) (hw : Memory.wf s.mem = true) : Memory.wf (s.store1 a b).mem = true := by
  unfold Dev.store1
  split
  · exact hw
  · split
    · split
      · exact memWf_of_core (Dev.setChain_core _ _ _) hw
      · exact hw
    · dsimp only
      split
      · exact hw
      · split
        · exact memWf_of_core (Dev.setObj_core _ _ _ _) hw
        · exact memPut_wf _ _ hw

theorem Dev.storeN_memWf : ∀ (bs : List Nat) (s : Dev) (a : Nat), Memory.wf s.mem = true → Memory.wf (s.storeN a bs).mem = true
  | [], _, _, h => h
  | b :: bs, s, a, h => Dev.storeN_memWf bs _ (a + 1) (Dev.store1_memWf s a b h)

theorem Dev.bootSlot_memWf (s : Dev) (i : Nat) (first : Bool) (hw : Memory.wf s.mem = true) : Memory.wf (s.bootSlot i first).mem = true := by
  unfold Dev.bootSlot
  refine memWf_of_core ((Dev.setObj_core _ _ _ _).trans ((Dev.setObj_core _ _ _ _).trans ((Dev.setObj_core _ _ _ _).trans
    ((Dev.setObj_core _ _ _ _).trans (core_mk _))))) ?_
  exact Dev.putBytes_wf _ _ _ (Dev.putBytes_wf _ _ _ hw)

theorem Dev.imageCheck_memWf (s : Dev) (hw : Memory.wf s.mem = true) : Memory.wf s.imageCheck.mem = true := by
  unfold Dev.imageCheck
  extract_lets _ s0 _ s1
  have h0 : Memory.wf s0.mem = true := memWf_of_core (Dev.rebuildRec_core _) hw
  have h1 : Memory.wf s1.mem = true := by unfold s1; split <;> exact h0
  split
  · exact memWf_of_core ((Dev.handleSlot_core _ _).trans ((Dev.rebuildRec_core _).trans (core_mk _))) hw
  · split
    · exact memWf_of_core (Dev.bootFault_core _) h1
    · split
      · exact Dev.bootSlot_memWf _ _ _ h1
      · extract_lets s2
        split
        · exact memWf_of_core (Dev.bootFault_core _) h1
        · exact h1

theorem Dev.memWiped_memWf (s : Dev) (hw : Memory.wf s.mem = true) : Memory.wf s.memWiped.mem = true := by
  unfold Dev.memWiped
  exact memWf_of_core ((Dev.setObj_core _ _ _ _).trans (Dev.setObj_core _ _ _ _)) (memFilter_wf _ hw)

theorem Dev.takeSlot_memWf (s : Dev) (h : Nat) (hw : Memory.wf s.mem = true) : Memory.wf (s.takeSlot h).2.mem = true := by
  unfold Dev.takeSlot
  have hc := Dev.take_core s h
  split <;> rename_i heq <;> rw [heq] at hc
  · exact memWf_of_core (Dev.overwritten_core _ _ _ _) (Dev.putBytes_wf _ _ _ (memWf_of_core hc hw))
  · exact memWf_of_core hc hw

theorem Dev.parcelPortLoad_memWf (s : Dev) (t x n : Nat) (hw : Memory.wf s.mem = true) : Memory.wf (s.parcelPortLoad t x n).2.mem = true := by
  unfold Dev.parcelPortLoad
  repeat' first | exact hw | exact Dev.takeSlot_memWf _ _ hw | split

theorem Dev.ctrlLoad_memWf (s : Dev) (h o n : Nat) (hw : Memory.wf s.mem = true) : Memory.wf (s.ctrlLoad h o n).2.mem = true := by
  unfold Dev.ctrlLoad
  extract_lets free
  split
  · exact hw
  · rename_i t x _
    have hp := Dev.parcelPortLoad_memWf s (h / 32 * 32 + t) x n hw
    split <;> rename_i heq <;> rw [heq] at hp <;> exact hp
  · repeat' first | exact hw | split

theorem Dev.loadMem_memWf (s : Dev) (h a n err : Nat) (amo : Bool) (hw : Memory.wf s.mem = true) :
    Memory.wf (s.loadMem h a n err amo).2.mem = true := by
  unfold Dev.loadMem
  split
  · exact hw
  · split <;> exact hw
  · split
    · exact hw
    · exact Dev.ctrlLoad_memWf _ _ _ _ hw
  · split <;> exact hw
  · rename_i p r _
    extract_lets n' s1
    split
    · have hg := (Dev.gddrLine_core s1 h p r err false).trans (Dev.setDcache_core _ _ _)
      split <;> rename_i heq <;> rw [heq] at hg <;> exact memWf_of_core hg hw
    · split
      · exact hw
      · have hg := Dev.gddrLine_core s h p r err false
        split <;> rename_i heq <;> rw [heq] at hg
        · exact memWf_of_core ((Dev.setDcache_core _ _ _).trans ((Dev.fresh_core _).trans hg)) hw
        · exact memWf_of_core hg hw
  · exact hw

theorem Dev.storeMem_memWf (s : Dev) (h a n v : Nat) (hw : Memory.wf s.mem = true) : Memory.wf (s.storeMem h a n v).mem = true := by
  unfold Dev.storeMem
  have hp (p : Nat) : Memory.wf ((s.storeN p (leBytes n v)).overwritten (some h) p (p + n)).mem = true :=
    memWf_of_core (Dev.overwritten_core _ _ _ _) (Dev.storeN_memWf _ _ _ hw)
  extract_lets put
  split
  · exact hp _
  · exact hp _
  · exact memWf_of_core (Dev.ctrlStore_core _ _ _ _ _) hw
  · extract_lets s1
    split
    · exact memWf_of_core (Dev.setDcache_core _ _ _) (hp _)
    · exact hp _
  · exact hw

theorem Dev.loadOp_memWf (s : Dev) (h w raw len err : Nat) (hw : Memory.wf s.mem = true) : Memory.wf (s.loadOp h w raw len err).mem = true := by
  unfold Dev.loadOp
  extract_lets f3 n a
  have hl := Dev.loadMem_memWf s h a n err false hw
  repeat' first
    | with_reducible exact memWf_of_core (Dev.illegalOp_core _ _ _) hw
    | with_reducible exact memWf_of_core (Dev.exceptOpen_core _ _ _ _) hw
    | with_reducible exact memWf_of_core (Dev.except_core _ _ _ _) hw
    | (split <;> rename_i heq <;> rw [heq] at hl <;> first | with_reducible exact memWf_of_core (Dev.writeRd_core _ _ _ _ _) hl | with_reducible exact memWf_of_core (Dev.except_core _ _ _ _) hl)
    | split

theorem Dev.storeOp_memWf (s : Dev) (h w raw len : Nat) (hw : Memory.wf s.mem = true) : Memory.wf (s.storeOp h w raw len).mem = true := by
  unfold Dev.storeOp
  extract_lets f3 n a
  repeat' first
    | with_reducible exact memWf_of_core (Dev.illegalOp_core _ _ _) hw
    | with_reducible exact memWf_of_core (Dev.exceptOpen_core _ _ _ _) hw
    | with_reducible exact memWf_of_core (Dev.except_core _ _ _ _) hw
    | with_reducible exact memWf_of_core (Dev.retired_core _ _ _) (Dev.storeMem_memWf _ _ _ _ _ hw)
    | split

theorem Dev.lrOp_memWf (s : Dev) (h a n err rd : Nat) (hw : Memory.wf s.mem = true) : Memory.wf (s.lrOp h a n err rd).mem = true := by
  unfold Dev.lrOp
  have hl := Dev.loadMem_memWf s h a n err true hw
  repeat' first
    | with_reducible exact memWf_of_core (Dev.exceptOpen_core _ _ _ _) hw
    | with_reducible exact memWf_of_core (Dev.except_core _ _ _ _) hw
    | (split <;> rename_i heq <;> rw [heq] at hl <;>
        first | with_reducible exact memWf_of_core ((Dev.writeRd_core _ _ _ _ _).trans (Dev.reserve_core _ _ _)) hl | with_reducible exact memWf_of_core (Dev.except_core _ _ _ _) hl)
    | split

theorem Dev.scOp_memWf (s : Dev) (h a n v rd : Nat) (hw : Memory.wf s.mem = true) : Memory.wf (s.scOp h a n v rd).mem = true := by
  unfold Dev.scOp
  extract_lets held s1 s2
  have h1 : Memory.wf s1.mem = true := memWf_of_core (Dev.reserve_core _ _ _) hw
  have h2 : Memory.wf s2.mem = true := by
    unfold s2
    split
    · exact memWf_of_core (Dev.setDcache_core _ _ _) h1
    · exact h1
  repeat' first
    | with_reducible exact memWf_of_core (Dev.exceptOpen_core _ _ _ _) hw
    | with_reducible exact memWf_of_core (Dev.except_core _ _ _ _) hw
    | (with_reducible refine memWf_of_core (Dev.writeRd_core _ _ _ _ _) ?_)
    | with_reducible exact Dev.storeMem_memWf _ _ _ _ _ h2
    | with_reducible exact h2
    | split

theorem Dev.amoOp_memWf (s : Dev) (h f5 a n v err rd raw : Nat) (hw : Memory.wf s.mem = true) :
    Memory.wf (s.amoOp h f5 a n v err rd raw).mem = true := by
  unfold Dev.amoOp
  have hl := Dev.loadMem_memWf s h a n err true hw
  repeat' first
    | with_reducible exact memWf_of_core (Dev.illegalOp_core _ _ _) hw
    | with_reducible exact memWf_of_core (Dev.exceptOpen_core _ _ _ _) hw
    | with_reducible exact memWf_of_core (Dev.except_core _ _ _ _) hw
    | (split <;> rename_i heq <;> rw [heq] at hl <;>
        first | with_reducible exact memWf_of_core (Dev.writeRd_core _ _ _ _ _) (Dev.storeMem_memWf _ _ _ _ _ hl) | exact memWf_of_core (Dev.except_core _ _ _ _) hl)
    | split

theorem Dev.atomicOp_memWf (s : Dev) (h w raw err : Nat) (hw : Memory.wf s.mem = true) : Memory.wf (s.atomicOp h w raw err).mem = true := by
  unfold Dev.atomicOp
  extract_lets n a v f5
  repeat' first
    | with_reducible exact memWf_of_core (Dev.illegalOp_core _ _ _) hw
    | with_reducible exact Dev.lrOp_memWf _ _ _ _ _ _ hw
    | with_reducible exact Dev.scOp_memWf _ _ _ _ _ _ hw
    | with_reducible exact Dev.amoOp_memWf _ _ _ _ _ _ _ _ _ hw
    | split

theorem Dev.baseOp_memWf (s : Dev) (h w raw len err : Nat) (hw : Memory.wf s.mem = true) : Memory.wf (s.baseOp h w raw len err).mem = true := by
  unfold Dev.baseOp
  extract_lets t a b
  split
  · exact memWf_of_core (Dev.writeRd_core _ _ _ _ _) hw
  · exact memWf_of_core (Dev.writeRd_core _ _ _ _ _) hw
  · exact memWf_of_core ((Dev.setPc_core _ _ _).trans (Dev.writeRd_core _ _ _ _ _)) hw
  · split
    · exact memWf_of_core ((Dev.setPc_core _ _ _).trans (Dev.writeRd_core _ _ _ _ _)) hw
    · exact memWf_of_core (Dev.illegalOp_core _ _ _) hw
  · split
    · exact memWf_of_core (Dev.jumpTo_core _ _ _) hw
    · exact memWf_of_core (Dev.retired_core _ _ _) hw
    · exact memWf_of_core (Dev.illegalOp_core _ _ _) hw
  · exact Dev.loadOp_memWf _ _ _ _ _ _ hw
  · exact Dev.storeOp_memWf _ _ _ _ _ hw
  · exact memWf_of_core (Dev.aluOp_core _ _ _ _ _ _) hw
  · exact memWf_of_core (Dev.aluOp_core _ _ _ _ _ _) hw
  · exact memWf_of_core (Dev.aluOp_core _ _ _ _ _ _) hw
  · exact memWf_of_core (Dev.aluOp_core _ _ _ _ _ _) hw
  · exact memWf_of_core (Dev.fenceOp_core _ _ _ _) hw
  · exact Dev.atomicOp_memWf _ _ _ _ _ hw
  · exact memWf_of_core (Dev.systemOp_core _ _ _ _ _) hw
  · exact memWf_of_core (Dev.illegalOp_core _ _ _) hw

theorem Dev.isa_memWf (s : Dev) (h fetchErr err : Nat) (hw : Memory.wf s.mem = true) : Memory.wf (s.isa h fetchErr err).mem = true := by
  unfold Dev.isa
  extract_lets pc
  have hf := Dev.fetch_core s h fetchErr
  repeat' first
    | with_reducible exact memWf_of_core (Dev.exceptOpen_core _ _ _ _) hw
    | with_reducible exact hw
    | (split <;> rename_i heq <;> rw [heq] at hf <;> have h1 := memWf_of_core hf hw <;>
        repeat' first
          | with_reducible exact memWf_of_core (Dev.except_core _ _ _ _) h1
          | with_reducible exact Dev.baseOp_memWf _ _ _ _ _ _ h1
          | with_reducible exact memWf_of_core (Dev.illegalOp_core _ _ _) h1
          | with_reducible exact hw
          | split)
    | split

/-! ### What an edge does to memory (R24, R410) -/

/-- What an edge's work leaves of memory: the part, the tick counter, the canonical form, and every byte outside the hand-over record of
stage 1. -/
structure EdgeMem (s d : Dev) : Prop where
  part : d.part = s.part
  tick : d.tick = s.tick
  wf : Memory.wf s.mem = true → Memory.wf d.mem = true
  bytes : ∀ a, (a < stagingBase ∨ stagingBase + 64 ≤ a) → d.byte a = s.byte a

theorem EdgeMem.refl (s : Dev) : EdgeMem s s := ⟨rfl, rfl, id, fun _ _ => rfl⟩

theorem EdgeMem.trans {s d e : Dev} (h : EdgeMem s d) (k : EdgeMem d e) : EdgeMem s e :=
  ⟨k.part.trans h.part, k.tick.trans h.tick, fun w => k.wf (h.wf w), fun a ha => (k.bytes a ha).trans (h.bytes a ha)⟩

theorem EdgeMem.of_core {s d : Dev} (h : d.core = s.core) : EdgeMem s d := by
  have w := fun x => memWf_of_core h x
  simp only [Dev.core, Prod.mk.injEq] at h
  exact ⟨h.1, h.2.1, w, fun a _ => by simp only [Dev.byte, h.2.2]⟩

theorem EdgeMem.foldl {α : Type} (f : Dev → α → Dev) (h : ∀ d x, EdgeMem d (f d x)) : ∀ (l : List α) (s : Dev), EdgeMem s (l.foldl f s)
  | [], s => EdgeMem.refl s
  | x :: l, s => (h s x).trans (EdgeMem.foldl f h l (f s x))

/-- Bytes stored within the hand-over record. -/
theorem EdgeMem.putBytes : ∀ (bs : List Nat) (s : Dev) (a : Nat), stagingBase ≤ a → a + bs.length ≤ stagingBase + 64 → EdgeMem s (s.putBytes a bs)
  | [], s, _, _, _ => EdgeMem.refl s
  | b :: bs, s, a, h, k => by
    simp only [List.length_cons] at k
    refine EdgeMem.trans (d := s.putByte a b) ⟨rfl, rfl, fun w => memPut_wf _ _ w, fun c hc => ?_⟩
      (EdgeMem.putBytes bs (s.putByte a b) (a + 1) (by omega) (by omega))
    rw [Dev.byte_putByte, if_neg (by omega)]

theorem leBytes_length : ∀ n v : Nat, (leBytes n v).length = n
  | 0, _ => rfl
  | n + 1, v => congrArg (· + 1) (leBytes_length n (v / 256))

theorem Dev.release_edgeMem (s : Dev) (failed : List Nat) : EdgeMem s (s.release failed) := by
  unfold Dev.release
  refine EdgeMem.trans (EdgeMem.putBytes (leBytes 64 (s.handOver (s.boot.booted.getD 0))) s stagingBase (Nat.le_refl _)
    (Nat.add_le_add_left (Nat.le_of_eq (leBytes_length _ _)) _)) (EdgeMem.of_core ?_)
  refine (foldl_core _ (fun _ _ => Dev.setHart_core _ _ _) _ _).trans ((foldl_core _ (fun _ _ => Dev.fenceDrawer_core _ _ _) _ _).trans
    (Eq.trans (core_mk _) (Dev.setObj_core _ _ _ _)))

theorem Dev.bootEdge_edgeMem (s : Dev) : EdgeMem s s.bootEdge := by
  unfold Dev.bootEdge
  split
  · exact EdgeMem.refl s
  · rename_i rest _
    have h1 : EdgeMem s { s with boot := { s.boot with due := rest } } := EdgeMem.of_core (core_mk s)
    split
    · exact h1.trans (EdgeMem.of_core (Dev.enterReady_core _))
    · exact h1.trans (EdgeMem.of_core (Dev.setObj_core _ _ _ _))
    · exact h1.trans (Dev.release_edgeMem _ _)

theorem Dev.bureauEdge_edgeMem (s : Dev) : EdgeMem s s.bureauEdge := by
  unfold Dev.bureauEdge
  refine (Dev.bootEdge_edgeMem s).trans (EdgeMem.of_core ?_)
  have h := (Dev.imagesEdge_core s.bootEdge.commitEdge).trans (Dev.commitEdge_core s.bootEdge)
  dsimp only
  split
  · split
    · exact (Dev.warmReset_core _ _).trans h
    · exact (Dev.coldReset_core _ _).trans h
  · exact h

/-- Every piece of edge work but the Bureau's leaves memory alone. -/
theorem Dev.runPiece_core (s : Dev) (p : EdgePiece) (hp : p ≠ .bureau) : (s.runPiece p).core = s.core := by
  cases p <;> first
    | exact absurd rfl hp
    | (simp only [Dev.runPiece, Dev.matcherBudgets_core, Dev.cipherBudgets_core, Dev.fencesEdge_core, Dev.faultEdge_core, Dev.overruns_core,
        Dev.stalls_core, Dev.channelEdge_core, Dev.cipherEdge_core, Dev.intentSend_core, Dev.linksEdge_core, Dev.throttleEdge_core,
        Dev.memBandsEdge_core, Dev.snapshot_core, Dev.tableEdge_core, Dev.leaseEdge_core, Dev.policerTokens_core, Dev.shaperCredit_core,
        Dev.coarseEmpty_core, Dev.calendarOpen_core, Dev.workSteal_core, Dev.latencySample_core, Dev.hostsEdge_core, ↓core_mk]; done)

theorem Dev.doPiece_core (s : Dev) (p : EdgePiece) (hp : p ≠ .bureau) : (s.doPiece p).core = s.core := by
  unfold Dev.doPiece
  split
  · exact (Dev.runPiece_core _ _ hp).trans (core_mk s)
  · rfl

theorem Dev.doPiece_edgeMem (s : Dev) (p : EdgePiece) : EdgeMem s (s.doPiece p) := by
  by_cases hp : p = .bureau
  · subst hp
    unfold Dev.doPiece
    split
    · exact EdgeMem.trans (d := { s with edgeTodo := s.edgeTodo.filter (· != .bureau) }) (EdgeMem.of_core (core_mk s)) (Dev.bureauEdge_edgeMem _)
    · exact EdgeMem.refl s
  · exact EdgeMem.of_core (Dev.doPiece_core s p hp)

theorem Dev.through_edgeMem (s : Dev) (p : EdgePiece) : EdgeMem s (s.through p) := EdgeMem.foldl _ Dev.doPiece_edgeMem _ _
theorem Dev.finishEdge_edgeMem (s : Dev) : EdgeMem s s.finishEdge := EdgeMem.foldl _ Dev.doPiece_edgeMem _ _

/-- Pieces among which the Bureau's is not leave memory alone. -/
theorem Dev.pieces_core : ∀ (l : List EdgePiece) (s : Dev), EdgePiece.bureau ∉ l → (l.foldl Dev.doPiece s).core = s.core
  | [], _, _ => rfl
  | p :: l, s, h => by
    simp only [List.mem_cons, not_or] at h
    exact (Dev.pieces_core l _ h.2).trans (Dev.doPiece_core s p (Ne.symm h.1))

theorem Dev.beforeBureau_core (s : Dev) : s.beforeBureau.core = s.core := Dev.pieces_core _ _ (by decide)
theorem Dev.throughSnapshot_core (s : Dev) : (s.through .snapshot).core = s.core := Dev.pieces_core _ _ (by decide)

theorem Dev.rwApply_core (s : Dev) : s.rwApply.core = s.core := by
  unfold Dev.rwApply
  dsimp only
  split
  · exact (Dev.lowEval_core _).trans ((Dev.applyTxn_core _ _ _ _).trans ((core_mk _).trans (Dev.beforeBureau_core s)))
  · exact Dev.beforeBureau_core s

/-- A tick edge raises the counter by one while ticks run, but for an edge whose work ends them, and of memory it changes at most the
hand-over record (R18, R410). -/
theorem Dev.tickEdge_frame (s : Dev) (stepwise : Bool) :
    (s.tickEdge stepwise).part = s.part ∧
    (s.tickEdge stepwise).tick = (if s.power.main && s.power.dclk && (!s.power.up || s.finishEdge.power.up) then s.tick + 1 else s.tick) ∧
    (Memory.wf s.mem = true → Memory.wf (s.tickEdge stepwise).mem = true) ∧
    ∀ a, (a < stagingBase ∨ stagingBase + 64 ≤ a) → (s.tickEdge stepwise).byte a = s.byte a := by
  have hf := Dev.finishEdge_edgeMem s
  have ho := Dev.openTick_frame s.finishEdge
  have h2 := Dev.finishEdge_edgeMem s.finishEdge.openTick
  simp only [Dev.core, Prod.mk.injEq] at ho
  have hb : ∀ a, s.finishEdge.openTick.byte a = s.finishEdge.byte a := fun a => by simp only [Dev.byte, ho.2.2]
  have hw : Memory.wf s.mem = true → Memory.wf s.finishEdge.openTick.mem = true := fun w => by rw [ho.2.2]; exact hf.wf w
  unfold Dev.tickEdge
  dsimp only
  by_cases h : (s.power.main && s.power.dclk) = true
  · by_cases hu : s.power.up = true
    · by_cases hv : s.finishEdge.power.up = true
      · cases stepwise
        · simp only [h, hu, hv, if_true, Bool.false_eq_true, if_false, Bool.not_true, Bool.false_or, Bool.and_self]
          exact ⟨h2.part.trans (ho.1.trans hf.part), h2.tick.trans (ho.2.1.trans (congrArg (· + 1) hf.tick)), fun w => h2.wf (hw w),
            fun a ha => (h2.bytes a ha).trans ((hb a).trans (hf.bytes a ha))⟩
        · simp only [h, hu, hv, if_true, Bool.not_true, Bool.false_or, Bool.and_self]
          exact ⟨ho.1.trans hf.part, ho.2.1.trans (congrArg (· + 1) hf.tick), hw, fun a ha => (hb a).trans (hf.bytes a ha)⟩
      · simp only [h, hu, hv, if_true, Bool.false_eq_true, if_false, Bool.not_true, Bool.false_or, Bool.and_false]
        exact ⟨hf.part, hf.tick, hf.wf, hf.bytes⟩
    · simp only [h, hu, if_true, Bool.false_eq_true, if_false, Bool.not_false, Bool.true_or, Bool.and_true]
      exact ⟨trivial, trivial, id, fun _ _ => rfl⟩
  · simp only [h, Bool.false_eq_true, if_false, Bool.false_and]
    exact ⟨trivial, trivial, id, fun _ _ => trivial⟩

end Sys2Proof.Machine
end

