-- ==== Sys2Proof/Laws/Slots.lean ====
section
/-! SUPPORT. What a command does that reads a queue's slot: where a tag is free it goes on with the tag, and an admin command that may start
runs on the device that has taken it. -/
namespace Sys2Proof.Machine

/-- A slot's read goes on with its tag. -/
theorem Dev.onSlot_some {s s1 : Dev} {n addr bytes t : Nat} {why : ReqFor} (f : Nat → Dev → Dev) (h : s.slotAsk n addr bytes why = (some t, s1)) :
    s.onSlot n addr bytes why f = f t s1 := by
  unfold Dev.onSlot; rw [h]

/-- Without a tag the read waits, and nothing else happens. -/
theorem Dev.onSlot_none {s s1 : Dev} {n addr bytes : Nat} {why : ReqFor} (f : Nat → Dev → Dev) (h : s.slotAsk n addr bytes why = (none, s1)) :
    s.onSlot n addr bytes why f = s1 := by
  unfold Dev.onSlot; rw [h]

/-- An admin slot that gets its tag goes on with the command taken. -/
theorem Dev.adminSlot_taken {s : Dev} {n desc : Nat} (f : Dev → Dev) (h : (s.slotAsk n (s.adminAddr n) 32 (.slot (qkey n 0))).1.isSome = true) :
    s.adminSlot n desc f = f (s.adminTaken n desc) := by
  unfold Dev.adminSlot Dev.onSlot Dev.adminTaken
  rcases hs : s.slotAsk n (s.adminAddr n) 32 (.slot (qkey n 0)) with ⟨_ | t, s1⟩
  · rw [hs] at h; cases h
  · rfl

/-- An admin command that may start has its effect on the device that has taken it. -/
theorem adminRun_starts {s : State} {n desc op : Nat} {manager : Bool} (f : Dev → Dev) (h : adminStarts s n desc op manager) :
    adminRun s n desc op manager f = .next (s.after (f (s.adminTaken n desc))) := by
  obtain ⟨h1, h2, h3, h4, h5, h6⟩ := h
  unfold adminRun onMainIf ok
  rw [h1, h2, h3]
  simp only [BEq.rfl, Bool.and_self, if_true]
  rw [Dev.adminSlot_taken _ h4]
  cases manager
  · simp [h5]
  · simp [h5, h6 rfl]

end Sys2Proof.Machine
end

