-- ==== Sys2Proof/Tests/Slice0.lean ====
section
/-! SUPPORT. Tests: ill-formed terms that `Instr.wf` refuses, a few effects against the worked examples of the spec, and for every statement
with hypotheses a state and operands that meet them, clause by clause. -/
namespace Sys2Proof.Tests
open Sys2Proof Sys2Proof.Machine
set_option maxRecDepth 20000
set_option exponentiation.threshold 4096
set_option linter.unusedVariables false

/-- The tick of the test states. -/
def tT : Nat := 2 ^ 40
/-- A device that runs. -/
def tD : Dev := { tick := tT, edgeTodo := edgeOrder, power := { main := true, dclk := true } }
/-- A state with a device and some objects at given values. -/
def tS (d : Dev) (o : List (Nat × Nat × Nat)) : State := State.reset.after { d with objs := o.map (fun e => (okey e.1 e.2.1, e.2.2)) }
/-- A scan job. -/
def tJob (running parked : Bool) : ScanJob :=
  { c := { p := { kind := 1 }, ingress := none, takeTick := 0, cfg := [] }, table := 0, pset := 0, bank := 0, stream := false,
    started := running, running := running, parked := parked, pos := 0, auto := {}, hits := [], first := 0, stop := 0, flags := 0, base := 0, ident := 0 }

/-! ### Ill-formed terms: one for each check of `Instr.wf`, which refuses it -/

theorem test_wf_refuses_1 : ([
  .selfcheck [64] [] false, .selfcheck [] [4] false, .monitorWatchdog 64, .drawerFence 64 false,
  .frameWriteStart 32 0 [] 0, .frameWriteStart 0 (2 ^ 25) [] 0, .frameWriteStart 0 0 [2 ^ 8] 0, .frameWriteStart 0 0 [] (2 ^ 76),
  .frameEnd 32 [] false, .frameEnd 0 [2 ^ 8] false, .parcelCreate 2048 0, .parcelCreate 0 (2 ^ 512),
  .admissionHoldRelease 64, .windowStallRelease (2 ^ 16), .sorterTake 64 0, .parseExtendResume 64 0 [],
  .parseExtendResume 0 0 [2 ^ 8], .gddr6LookupReturn 64 0 none, .gddr6LookupReturn 0 0 (some (2 ^ 2, 0)), .gddr6LookupReturn 0 0 (some (0, 2 ^ 48)),
  .lookupTimeout 64 0, .patternScan 64 0 none, .matcherCacheMissReturn 64 0 none, .matcherCacheMissReturn 0 0 (some (2 ^ 2, 0)),
  .matcherCacheMissReturn 0 0 (some (0, 2 ^ 48)), .matcherSuspend 64 0 0, .dmaMoverResume 64, .threadOverrunTrap 2048 0,
  .overrunDrop 2048 0, .dequeue 48, .transmitComplete 48 0, .transmitComplete 0 (2 ^ 76),
  .alloc (2 ^ 16) 0, .alloc 0 (2 ^ 25), .freeChain (2 ^ 16) 0, .freeChain 0 (2 ^ 32),
  .shareChain (2 ^ 16) 0 0, .shareChain 0 (2 ^ 32) 0, .shareChain 0 0 (2 ^ 16), .detach (2 ^ 16) 0] : List Instr).all (fun c => !c.wf) = true := by decide

theorem test_wf_refuses_2 : ([
  .detach 0 (2 ^ 32), .handover (2 ^ 16) 0 0, .handover 0 (2 ^ 32) 0, .handover 0 0 (2 ^ 16),
  .trainingComplete 32, .trainingFailure 32, .linkRetry 32, .alignLock 32 [],
  .alignLock 0 [32], .linkUp 32, .alignTimeout 32 0, .alignTimeout 0 (2 ^ 32),
  .lockLoss 32 [], .lockLoss 0 [32], .linkDown 32, .polarityRetry 32,
  .fecDegrade 32 0 0, .pauseReceive 32 0 [], .pauseReceive 0 (2 ^ 8) [], .pauseReceive 0 0 [2 ^ 16],
  .pauseExpire 32 0, .pauseExpire 0 (2 ^ 3), .xoffResend 32 0, .xoffResend 0 (2 ^ 3),
  .pfcStorm 32 0, .pfcStorm 0 (2 ^ 3), .pfcStormEnd 32 0, .pfcStormEnd 0 (2 ^ 3),
  .mgmtFrameReceive [2 ^ 8], .verifyDone (2 ^ 4) 0, .verifyDone 0 (2 ^ 1), .bankDrainDone (2 ^ 4) 0,
  .bankDrainDone 0 (2 ^ 1), .search 2048 0, .search 0 (2 ^ 2048), .insert 2048 0,
  .insert 0 (2 ^ 2048), .delete 2048 0, .delete 0 (2 ^ 2048), .nextEntry 2048 0] : List Instr).all (fun c => !c.wf) = true := by decide

theorem test_wf_refuses_3 : ([
  .nextEntry 0 (2 ^ 2048), .flushByPort 2048 0, .flushByPort 0 (2 ^ 2048), .xehiborHandshake (2 ^ 4) .owner,
  .associationClose (2 ^ 4) false, .readReq (.xeh 16) 0 0 0 [], .readReq (.admin 4160) 0 0 0 [], .readReq .mctp (2 ^ 16) 0 0 [],
  .readReq .mctp 0 (2 ^ 32) 0 [], .readReq .mctp 0 0 0 [2 ^ 8], .writeReq (.xeh 16) 0 0 0 [], .writeReq (.admin 4160) 0 0 0 [],
  .writeReq .mctp (2 ^ 16) 0 0 [], .writeReq .mctp 0 (2 ^ 32) 0 [], .writeReq .mctp 0 0 0 [2 ^ 8], .commitTxn (.xeh 16) 0 0 0,
  .commitTxn (.admin 4160) 0 0 0, .commitTxn .mctp (2 ^ 16) 0 0, .commitTxn .mctp 0 (2 ^ 32) 0, .commitTxn .mctp 0 0 (2 ^ 32),
  .abortTxn (.xeh 16) 0 0 0, .abortTxn (.admin 4160) 0 0 0, .abortTxn .mctp (2 ^ 16) 0 0, .abortTxn .mctp 0 (2 ^ 32) 0,
  .abortTxn .mctp 0 0 (2 ^ 32), .txnIdleTimeout (.xeh 16), .txnIdleTimeout (.admin 4160), .notifyAck (.xeh 16) 0,
  .notifyAck (.admin 4160) 0, .notifyAck .mctp (2 ^ 32), .notifyResend (.xeh 16) 0, .notifyResend (.admin 4160) 0,
  .notifyResend .mctp (2 ^ 32), .perstAssert 4, .perstRelease 4, .hotReset 8,
  .dlDown 8, .hostLinkReset 8, .dlActive 8 0, .linkTrainingTimeout 8] : List Instr).all (fun c => !c.wf) = true := by decide

theorem test_wf_refuses_4 : ([
  .functionsReady 8, .vfReady 4160, .configRequest 4160 .command none, .configRequest 0 .command (some (2 ^ 64)),
  .bmeSet 4160, .bmeClear 4160, .initiateFlr 4160, .flrComplete 4160,
  .vfEnableSet 4160, .vfEnableClear 4160, .dStateChange 4160 0, .dStateChange 0 (2 ^ 3),
  .atsInvalidate ⟨4160, 0, 0⟩, .atsInvalidate ⟨0, 2 ^ 52, 0⟩, .atsInvalidate ⟨0, 0, 2 ^ 53⟩, .completionTlp 8 0 0 0 [], .completionTlp 0 (2 ^ 14) 0 0 [], .completionTlp 0 0 0 0 [2 ^ 8],
  .completionTimeout 8 0, .completionTimeout 0 (2 ^ 14), .tagQuarantineEnd 8 0, .tagQuarantineEnd 0 (2 ^ 14),
  .wakeEvent (some [2 ^ 8]), .ciDataRead 4160, .registerWrite 4160 0 0 0 none, .registerWrite 0 0 0 0 (some (2 ^ 64)),
  .doorbellValue 4160 0 0, .doorbellValue 0 0 (2 ^ 64), .doorbellRefresh 4160 0 0, .doorbellRefresh 0 0 (2 ^ 64),
  .doorbellReleaseArm 4160 0 0, .doorbellReleaseArm 0 0 (2 ^ 64), .sendJob 4160 0 none 0 none, .sendJob 0 (2 ^ 14) none 0 none,
  .sendJob 0 0 (some (2 ^ 256)) 0 none, .sendJob 0 0 none 0 (some [2 ^ 128]), .receiveDescriptor 4160 0 none 0, .receiveDescriptor 0 (2 ^ 14) none 0,
  .receiveDescriptor 0 0 (some (2 ^ 256)) 0, .completionPost 4160 0, .completionPost 0 (2 ^ 14), .hwIndexWrite 4160 0] : List Instr).all (fun c => !c.wf) = true := by decide

theorem test_wf_refuses_5 : ([
  .hwIndexWrite 0 (2 ^ 14), .dirtyMark 4160, .adminEnable 4160, .adminDisable 4160,
  .createQueue 4160 0, .createQueue 0 (2 ^ 512), .destroyQueue 4160 0, .destroyQueue 0 (2 ^ 512),
  .queueReset 4160 0, .queueReset 0 (2 ^ 512), .bureauRead 4160 0 none, .bureauRead 0 (2 ^ 512) none,
  .bureauRead 0 0 (some [2 ^ 8]), .bureauWrite 4160 0 none, .bureauWrite 0 (2 ^ 512) none, .bureauWrite 0 0 (some [2 ^ 8]),
  .bureauCommit 4160 0, .bureauCommit 0 (2 ^ 512), .functionAbort 4160 0, .functionAbort 0 (2 ^ 512),
  .functionAbortDone 4160, .adminInvalidOpcode 4160 0, .adminInvalidOpcode 0 (2 ^ 512), .quiesceFunction 4160 0,
  .quiesceFunction 0 (2 ^ 512), .quiesceComplete 4160, .quiesceBound 4160, .resumeFunction 4160 0,
  .resumeFunction 0 (2 ^ 512), .freezeState 4160 0, .freezeState 0 (2 ^ 512), .saveState 4160 0 none none, .saveState 0 0 none (some (2 ^ 2, 0)), .saveState 0 0 none (some (0, 2 ^ 48)),
  .saveState 0 (2 ^ 512) none none, .saveState 0 0 (some [2 ^ 8]) none, .restoreState 4160 0 none, .restoreState 0 (2 ^ 512) none,
  .restoreState 0 0 (some [2 ^ 8]), .restoreImageApply 4160, .thawState 4160 0, .thawState 0 (2 ^ 512)] : List Instr).all (fun c => !c.wf) = true := by decide

theorem test_wf_refuses_6 : ([
  .lbSend 4160 0, .lbSend 0 (2 ^ 64), .lbAck 4160 0, .lbAck 0 (2 ^ 64),
  .lbTokenRefill 4160, .nvmeSqDoorbell (2 ^ 16) 0 0, .nvmeSqDoorbell 0 (2 ^ 16) 0, .nvmeSqDoorbell 0 0 (2 ^ 32),
  .nvmeCqDoorbell (2 ^ 16) 0 0, .nvmeCqDoorbell 0 (2 ^ 16) 0, .nvmeCqDoorbell 0 0 (2 ^ 32), .nvmeCommandFetch (2 ^ 16) 0 0,
  .nvmeCommandFetch 0 (2 ^ 16) 0, .nvmeCommandFetch 0 0 (2 ^ 512), .createIoSq (2 ^ 16) 0, .createIoSq 0 (2 ^ 16),
  .deleteIoSq (2 ^ 16) 0, .deleteIoSq 0 (2 ^ 16), .createIoCq (2 ^ 16) 0, .createIoCq 0 (2 ^ 16),
  .deleteIoCq (2 ^ 16) 0, .deleteIoCq 0 (2 ^ 16), .getLogPage (2 ^ 16) 0 none, .getLogPage 0 (2 ^ 16) none,
  .getLogPage 0 0 (some [2 ^ 128]), .identify (2 ^ 16) 0 none, .identify 0 (2 ^ 16) none,
  .identify 0 0 (some [2 ^ 128]), .abortCmd (2 ^ 16) 0, .abortCmd 0 (2 ^ 16),
  .setFeatures (2 ^ 16) 0, .setFeatures 0 (2 ^ 16), .getFeatures (2 ^ 16) 0, .getFeatures 0 (2 ^ 16),
  .asyncEventRequest (2 ^ 16) 0, .asyncEventRequest 0 (2 ^ 16), .namespaceManagement (2 ^ 16) 0 [], .namespaceManagement 0 (2 ^ 16) []] : List Instr).all (fun c => !c.wf) = true := by decide

theorem test_wf_refuses_7 : ([
  .namespaceManagement 0 0 [2 ^ 8], .namespaceAttachment (2 ^ 16) 0 [], .namespaceAttachment 0 (2 ^ 16) [], .namespaceAttachment 0 0 [2 ^ 16],
  .thawSq (2 ^ 16) 0, .thawSq 0 (2 ^ 16), .thawSqComplete (2 ^ 16) 0, .thawSqComplete 0 (2 ^ 16),
  .nvmeInvalidOpcode (2 ^ 16) 0 0, .nvmeInvalidOpcode 0 (2 ^ 16) 0, .nvmeInvalidOpcode 0 0 (2 ^ 16), .flushCmd (2 ^ 16) 0 0,
  .flushCmd 0 (2 ^ 16) 0, .flushCmd 0 0 (2 ^ 16), .nvmWrite (2 ^ 16) 0 0 none, .nvmWrite 0 (2 ^ 16) 0 none,
  .nvmWrite 0 0 (2 ^ 16) none, .nvmWrite 0 0 0 (some [2 ^ 128]), .nvmRead (2 ^ 16) 0 0 none,
  .nvmRead 0 (2 ^ 16) 0 none, .nvmRead 0 0 (2 ^ 16) none, .nvmRead 0 0 0 (some [2 ^ 128]),
  .writeZeroes (2 ^ 16) 0 0, .writeZeroes 0 (2 ^ 16) 0, .writeZeroes 0 0 (2 ^ 16), .datasetManagement (2 ^ 16) 0 0 ⟨[], []⟩,
  .datasetManagement 0 (2 ^ 16) 0 ⟨[], []⟩, .datasetManagement 0 0 (2 ^ 16) ⟨[], []⟩, .datasetManagement 0 0 0 ⟨[2 ^ 128], []⟩, .datasetManagement 0 0 0 ⟨[], [(2 ^ 64, 0)]⟩, .datasetManagement 0 0 0 ⟨[], [(0, 2 ^ 32)]⟩,
  .backendCompletion (2 ^ 10) (.shutdown 0) 0 [], .backendCompletion 0 (.shutdown 0) 0 [2 ^ 8], .backendPathLoss (2 ^ 10), .backendLive (2 ^ 10) 0 0 0 false 0 0,
  .keepAlive (2 ^ 10) false, .backendCmdTimeout (2 ^ 10), .heldCommandTimeout (2 ^ 16) 0 0, .heldCommandTimeout 0 (2 ^ 16) 0] : List Instr).all (fun c => !c.wf) = true := by decide

theorem test_wf_refuses_8 : ([
  .heldCommandTimeout 0 0 (2 ^ 16), .sqFreeze (2 ^ 16) 0, .sqFreeze 0 (2 ^ 16), .controllerEnable (2 ^ 16),
  .controllerDisable (2 ^ 16), .controllerShutdown (2 ^ 16), .controllerDisableDone (2 ^ 16), .runCipher 2048 0 false,
  .runCipher 0 (2 ^ 512) false, .release 2048 0, .release 0 (2 ^ 512), .cipherParcelJob 64 0 false,
  .cipherSuspend 64, .keyCacheMissReturn 64 0 none, .keyCacheMissReturn 0 0 (some (2 ^ 2, 0)), .keyCacheMissReturn 0 0 (some (0, 2 ^ 48)),
  .rngWaitTimeout 64 0, .drbgReseed 64, .rngFault 4, .rngRecover 4,
  .alarmTrip 64 0 0, .katDone 64 false, .setTime 2048 0, .setTime 0 (2 ^ 256),
  .adjFreq 2048 0, .adjFreq 0 (2 ^ 256), .adjPhase 2048 0, .adjPhase 0 (2 ^ 256),
  .ppsInEdge (2 ^ 76), .isaInstruction 2048 0 0, .waitev 2048, .sigev 2048,
  .sigevArrive 2048 0, .sigevArrive 0 2048, .chbind 2048, .chput 2048,
  .chend 2048, .chget 2048, .chtok 2048, .channelTokenAccept (2 ^ 13)] : List Instr).all (fun c => !c.wf) = true := by decide

theorem test_wf_refuses_9 : ([
  .channelTimeout 2048, .interruptTake 2048, .coreStall (2 ^ 8), .takeParcel 2048,
  .retire 2048 0 0, .retire 0 (2 ^ 2) 0, .retire 0 0 (2 ^ 3), .yieldSlot 2048 0,
  .yieldSlot 0 (2 ^ 2), .debugHalt 2048, .debugResume 2048, .nchpoison 2048 0,
  .nchpoison 0 (2 ^ 13), .coreRelease [64], .vauxGood (2 ^ 4) false, .avsUpdate (2 ^ 16) false,
  .memTempRead (2 ^ 4) 0 0, .patrolScrub (2 ^ 48) 0, .twinIdentityRecord 0 0 (2 ^ 32) 0 0 0, .twinIdentityRecord 0 0 0 0 (2 ^ 32) 0,
  .twinIdentityRecord 0 0 0 0 0 (2 ^ 32), .leaseGrant (.xeh 16) 0 0 0 0, .leaseGrant (.admin 4160) 0 0 0 0, .leaseGrant .mctp 0 (2 ^ 32) 0 0,
  .leaseGrant .mctp 0 0 (2 ^ 64) 0, .leaseGrant .mctp 0 0 0 (2 ^ 32), .leaseTakeoverGrant (.xeh 16) 0 0 0 0, .leaseTakeoverGrant (.admin 4160) 0 0 0 0,
  .leaseTakeoverGrant .mctp 0 (2 ^ 32) 0 0, .leaseTakeoverGrant .mctp 0 0 (2 ^ 32) 0, .leaseTakeoverGrant .mctp 0 0 0 (2 ^ 64), .openDrainStuck (2 ^ 8),
  .pcieRefclkAbsent 4, .cabinetFencing 4 false, .pcieRefclkReturn 4, .pmeTurnOff 8,
  .linkPowerStateChange 8 0 0, .stuckOutputClear (2 ^ 8), .interruptCoalescingTimer (2 ^ 16) 0, .interruptCoalescingTimer 0 (2 ^ 16)] : List Instr).all (fun c => !c.wf) = true := by decide

/-- ADD x3, x1, x2; SD x2, -8(x1); ECALL: thread 2047 fetches each from its drawer store. -/
def tHart (raw : Nat) : State :=
  tS { tD with cores := { harts := [(2047, { on := true, regs := [(1, 0x108), (2, 0x77)] })] },
               mem := (List.range 4).filterMap (fun i => if raw / 2 ^ (8 * i) % 256 = 0 then none
                 else some (0x107E00000 + i, BitVec.ofNat 8 (raw / 2 ^ (8 * i)))) } []

/-! ### Effects, against the worked examples of the spec -/

/-- R507: the CRC-32C of "123456789". -/
theorem test_crc32c_check_value : crc32c 0 [0x31, 0x32, 0x33, 0x34, 0x35, 0x36, 0x37, 0x38, 0x39] = 0xE3069283 := by decide

/-- The worked example of R360: SET with V = 1,700,000,000 s and A = 9,999,990 applied at edge 10,000,001 reads 5,632 ns more. -/
theorem test_set_time_base :
    ((({ tD with tick := 10000001 } : Dev).tbSet 1 (9999990 * 2 ^ 96 + 1700000000 * 2 ^ 48)).2.tb 1).val = (1700000000 * 10 ^ 9 + 5632) * 2 ^ 48 := by
  decide

/-- The worked example of R258: queue 40 of function 8 with P = 0xFFFFFFF0 and C = 0xFFFFFFC0, 256 slots. -/
def tBell (p c v : Nat) : Option (Nat × Nat × Nat) :=
  let s : State := tS { tD with hosts := { funcs := [(8, { bme := true })], queues := [(qkey 8 40, { g := 0, type := 1, log2 := 8, ring := 0, idx := 0, prod := p, cons := c })] } }
    [(Obj.FUNC_STATE, 8, 2), (Obj.LINK_STATE_8000, 1, 4), (Obj.READINESS, 0, 3)]
  match exec (.doorbellValue 8 5 (v * 2 ^ 32 + 2 ^ 24 + 40)) s with
  | .next t => (t.queue? (qkey 8 40)).map (fun q => (q.prod % 2 ^ 32, q.st, q.status))
  | _ => none

theorem test_doorbell_good : tBell 0xFFFFFFF0 0xFFFFFFC0 0x90 = some (0x90, 1, 0) := by decide
theorem test_doorbell_overrun : tBell 0x90 0x40 0x150 = some (0x90, 2, 0x20) := by decide

/-- The worked example of R217: a sojourn of 12 ticks and one of 8 fall in bin 4. -/
theorem test_latency_bins : histBin 12 = 4 ∧ histBin 8 = 4 ∧ histBin 0 = 0 ∧ histBin 16384 = 15 := by decide

/-- The worked example of R33: drawer 37's store, from drawer 5, from drawer 37 by its alias, and on an IK9C. -/
theorem test_drawer_store_windows :
    tD.coreWin (5 * 32) 0x000104A00040 = some (.sram 0x000104A00040) ∧ tD.coreWin (37 * 32) 0x40 = some (.sram 0x000104A00040) ∧
    ({ tD with part := .ik9c } : Dev).coreWin (5 * 32) 0x000104A00040 = none := by decide

/-- The worked example of R206: 1 Gb/s is 64 bytes per tick; and of R214: 100,000 kb/s are 6.4 bytes per tick. -/
theorem test_rates : tokenInc 100000 = 107374182 ∧ tokenInc 200000 = 214748365 ∧
    (tS tD [(Obj.SHAPE_EN, 1000, 1), (Obj.RATE, 1000, 1000000000)]).inc 1000 = 64 * 2 ^ 24 := by decide

/-- The worked example of R383: thread 3 of core 137 is h = 1,099, at cabinet 2, position 2, core 1. -/
theorem test_mhartid : (tD.csrRead 1099 0xF14).1 = some (2 * 2 ^ 9 + 2 * 2 ^ 5 + 1 * 2 ^ 3 + 3) := by decide

/-- R18: an edge raises the tick counter by one. -/
theorem test_tick_edge : (tS { tD with edgeTodo := [] } []).toDev.openTick.tick = tT + 1 := by decide

/-- R7, R463, R472: after the power-on reset the device is in AUX_ONLY at level 9. -/
theorem test_reset_values : State.reset.obj Obj.READINESS = 0 ∧ State.reset.obj Obj.COMPAT_LEVEL = 9 ∧ State.reset.pending = [] := by decide

/-- R185: 65,537 bytes are two buffers of shelf 5; a request of 1 byte from shelf 0. -/
theorem test_alloc_shelves : ((tS tD []).alloc 0xFFF2 65537).1.shelf = 5 ∧ ((tS tD []).alloc 0xFFF2 1).1.shelf = 0 := by decide

/-- ADD writes rd, and a store of eight bytes is little-endian (R9, R380). -/
theorem test_add : (match exec (.isaInstruction 2047 0 0) (tHart 0x002081B3) with
    | .next t => some ((t.hart 2047).reg 3, (t.hart 2047).pc) | _ => none) = some (0x17F, 4) := by decide
theorem test_store : (match exec (.isaInstruction 2047 0 0) (tHart 0xFE20BC23) with
    | .next t => some (t.byte 0x107E00100, t.byte 0x107E00101) | _ => none) = some (0x77, 0) := by decide

/-! ### Witnesses: what meets the hypotheses of each statement -/

theorem test_witness_StepRunsTheFrontCommand : ∃ (s : State) (c : Instr) (rest : List Instr), s.pending = c :: rest :=
  ⟨{ tS tD [] with pending := [.snapshot, .sweep] }, .snapshot, [.sweep], rfl⟩

theorem test_witness_EmptyQueueIdles : ∃ s : State, s.pending = [] := ⟨State.reset, rfl⟩

theorem test_witness_StepKeepsInv : ∃ s t : State, Inv s ∧ step s = .next t :=
  ⟨{ tS tD [] with pending := [.alloc 0xFFF2 64] }, _, ⟨rfl, by decide, by decide⟩, rfl⟩

theorem test_witness_QueueRunsFirstInFirstOut : ∃ s t : State, step s = .next t :=
  ⟨{ tS tD [] with pending := [.alloc 0xFFF2 64, .snapshot] }, _, rfl⟩

theorem test_witness_MainDomainDownNoEffect : ∃ (c : Instr) (s : State), s.power.up = false ∧ auxiliary c = false :=
  ⟨.alloc 0xFFF2 64, State.reset, by decide, by decide⟩

theorem test_witness_OutputsFollowTheState :
    (∃ s t : State, exec (.i3cTargetReset) s = .next t ∧ t.obj Obj.READINESS < 2) ∧
    (∃ s t : State, exec (.i3cTargetReset) s = .next t ∧ 2 ≤ t.obj Obj.READINESS ∧ t.obj Obj.READINESS ≠ 3) ∧
    (∃ s t : State, exec (.i3cTargetReset) s = .next t ∧ t.obj Obj.DEVICE_FAULT ≠ 0) ∧
    (∃ (s t : State) (p : Nat), exec (.i3cTargetReset) s = .next t ∧ t.obj Obj.DEVICE_FAULT = 0 ∧ t.obj Obj.READINESS = 3 ∧ p < 32 ∧
      t.obj Obj.LINK_STATE_2000 p ≠ 0) :=
  ⟨⟨State.reset, _, rfl, by decide⟩, ⟨tS tD [(Obj.READINESS, 0, 2)], _, rfl, by decide, by decide⟩,
    ⟨tS tD [(Obj.DEVICE_FAULT, 0, 0x31)], _, rfl, by decide⟩,
    ⟨tS tD [(Obj.READINESS, 0, 3), (Obj.LINK_STATE_2000, 31, 3)], _, 31, rfl, by decide, by decide, by decide, by decide⟩⟩

theorem test_witness_TickRule :
    (∃ (s t : State) (b : Bool), exec (.tickEdge b) s = .next t) ∧ (∃ s t : State, exec .dclkLock s = .next t) ∧
    (∃ (c : Instr) (s t : State), exec c s = .next t ∧ (∀ b : Bool, c ≠ .tickEdge b) ∧ c ≠ .dclkLock) :=
  ⟨⟨tS { tD with edgeTodo := [] } [], _, true, rfl⟩, ⟨tS { power := { main := true } } [], _, rfl⟩,
    ⟨.alloc 0xFFF2 64, tS tD [], _, rfl, by decide, by decide⟩⟩

theorem test_witness_MemoryFrame :
    (∃ (c : Instr) (s t : State), writesMemory c = false ∧ runsBureau c = false ∧ exec c s = .next t) ∧
    (∃ (c : Instr) (s t : State), runsBureau c = true ∧ exec c s = .next t) :=
  ⟨⟨.alloc 0xFFF2 64, tS tD [], _, by decide, by decide, rfl⟩, ⟨.bureauCommitApply, tS tD [], _, by decide, rfl⟩⟩

theorem test_witness_ColdResetSamplesTheCompatibilityStrap :
    (∃ s : State, s.power.vaux = false) ∧ (∃ (s : State) (w : Nat), s.power.vaux = true ∧ s.boot.accepted = some w) :=
  ⟨⟨tS { power := { vaux := false } } [], by decide⟩, ⟨tS { boot := { accepted := some 4 } } [], 4, by decide, by decide⟩⟩

/-- The doorbell that takes P to C + size is good, and the next value is an overrun. -/
theorem test_witness_ProducerDoorbellOutcomes :
    let q : Queue := { g := 0, type := 1, log2 := 4, ring := 0, idx := 0, prod := 2, cons := 1 }
    let s : State := tS { tD with hosts := { funcs := [(0, { bme := true })], queues := [(1, q)] } }
      [(Obj.FUNC_STATE, 0, 2), (Obj.LINK_STATE_8000, 0, 4), (Obj.READINESS, 0, 3)]
    let w : Nat := 17 * 2 ^ 32 + 2 ^ 24 + 1
    let x : Nat := 18 * 2 ^ 32 + 2 ^ 24 + 1
    s.power.up = true ∧ s.barUp 0 = true ∧ bits w 31 24 = 1 ∧ bits x 31 24 = 1 ∧ s.badBell 0 0 w = false ∧ s.badBell 0 0 x = false ∧
    s.queue? (qkey 0 (w % 16384)) = some q ∧ s.queue? (qkey 0 (x % 16384)) = some q ∧ q.type ≠ 3 ∧ q.st = 1 ∧ q.refreshing = false ∧
    (s.fn 0).quiesce = none ∧ s.obj Obj.READINESS = 3 ∧ s.level7 = false ∧
    (w / 2 ^ 32 % 2 ^ 32 + 2 ^ 32 - q.prod % 2 ^ 32) % 2 ^ 32 ≤ q.size - (q.prod % 2 ^ 32 + 2 ^ 32 - q.cons % 2 ^ 32) % 2 ^ 32 ∧
    ¬ (x / 2 ^ 32 % 2 ^ 32 + 2 ^ 32 - q.prod % 2 ^ 32) % 2 ^ 32 ≤ q.size - (q.prod % 2 ^ 32 + 2 ^ 32 - q.cons % 2 ^ 32) % 2 ^ 32 := by decide

/-- The earliest and the latest tick that SET takes, and the ones beyond. -/
theorem test_witness_SetTimeBase :
    (tS tD []).obj Obj.TB_STATE 7 = 0 ∧
    (let A := ((tT - 2 ^ 20) * 2 ^ 96) / 2 ^ 96 % 2 ^ 64; A ≤ (tS tD []).tick ∧ (tS tD []).tick ≤ A + 2 ^ 20) ∧
    (let A := (tT * 2 ^ 96) / 2 ^ 96 % 2 ^ 64; A ≤ (tS tD []).tick ∧ (tS tD []).tick ≤ A + 2 ^ 20) ∧
    (let A := ((tT + 1) * 2 ^ 96) / 2 ^ 96 % 2 ^ 64; (tS tD []).tick < A) ∧
    (let A := ((tT - 2 ^ 20 - 1) * 2 ^ 96) / 2 ^ 96 % 2 ^ 64; A + 2 ^ 20 < (tS tD []).tick) := by decide

theorem test_witness_RandomnessStarvedJobsEnd :
    let c : SorterCtx := { p := { kind := 1 }, ingress := none, takeTick := 0, cfg := [] }
    let j : SliceJob := { cls := 3, work := .parcel c false, rngSince := some (tT - 2048) }
    let k : SliceJob := { cls := 3, work := .thread 2047 5, rngSince := some (tT - 2048) }
    let s : State := tS { tD with cipher := { jobs := [(63, [j, k])] } } []
    s.power.up = true ∧ (s.sliceJobs 63)[0]? = some j ∧ (s.sliceJobs 63)[1]? = some k ∧ j.rngSince = some (tT - 2048) ∧
    k.rngSince = some (tT - 2048) ∧ tT - 2048 + 2048 ≤ s.tick ∧ 2047 / 32 = 63 := by decide

theorem test_witness_MhartidSpellsThePlace : (3 < 4 ∧ 15 < 16 ∧ 3 < 4 ∧ 7 < 8) ∧ 512 * 1 + 32 * 15 + 8 * 3 + 7 < Part.threads .ik9c ∧
    ((tS tD []).csrRead (512 * 3 + 32 * 15 + 8 * 3 + 7) 0xF14).1 = some (512 * 3 + 32 * 15 + 8 * 3 + 7) := by decide

/-- Lengths 0 and 16,777,217 are refused; 16,777,216 is taken from a free shelf 5 and 65,537 is refused once none is free. -/
theorem test_witness_AllocationKeepsTheFloor :
    ((tS tD []).alloc 0xFFF2 0).1.status = 0x01 ∧ ((tS tD []).alloc 0xFFF2 16777217).1.status = 0x01 ∧
    ((tS tD []).alloc 0xFFF2 16777216).1.status = 0 ∧ ((tS tD [(Obj.SHELF_BUFFERS, 5, 1)]).alloc 0xFFF2 65537).1.status = 0x41 := by decide

theorem test_witness_ChainOperationOutcomes :
    let c : Chain := { bufs := [7], owner := 5, allocTick := 0 }
    let st (c : Chain) : State := tS { tD with shelves := { chains := [(7, c)] } } []
    (st c).chain? 7 = some c ∧ (st { c with shares := 1 }).chain? 7 = some { c with shares := 1 } ∧
    (st { c with shares := 65535 }).chain? 7 = some { c with shares := 65535 } ∧
    (st { c with shares := 1, deferred := true }).chain? 7 = some { c with shares := 1, deferred := true } ∧
    c.owner = 5 ∧ c.owner ≠ 6 ∧ c.deferred = false ∧ validOwner (st c).part 0xFFF2 = true ∧ validOwner (st c).part 0xFFF3 = false := by decide

theorem test_witness_IdleTransactionIsDiscarded :
    let x : Txn := { id := 1, items := [], last := 0 }
    let ss : Session := { who := .owner, txn := some x }
    let s : State := tS { tD with bureau := { sessions := [(0x20000, ss)] } } []
    s.power.up = true ∧ s.session? (sessKey .mctp) = some ss ∧ ss.txn = some x ∧ x.last + s.obj Obj.TXN_IDLE_TIMEOUT ≤ s.tick := by decide

theorem test_witness_LogRings : ∃ (ring : Nat) (d e : ObjDef), objDef? Obj.DIAG_ENTRY = some d ∧ objDef? (Obj.DIAG_ENTRY + 1) = some e ∧
    e.ty = .u64 ∧ ring ≤ 2 ^ 32 ∧ 0 < ring := ⟨256, _, _, rfl, rfl, by decide, by decide, by decide⟩

theorem test_witness_NotificationQueueBound :
    let n : Notif := { seq := 0, code := 0, obj := 0, tick := 0, detail := 0, lost := false, sends := 1, lastSend := 0 }
    ({ who := .owner, notifs := List.replicate 256 n } : Session).notifs.length = 256 ∧
    ({ who := .owner, notifs := List.replicate 255 n } : Session).notifs.length < 256 ∧
    ({ who := .owner, notifs := List.replicate 255 n } : Session).discardLost = false := by decide

theorem test_witness_StormIgnoresPause :
    let s : State := tS { tD with eth := { prios := [(255, { pauseEnd := some (tT + 9), pausedSince := tT - 2048 })] } } [(Obj.PFC_WATCHDOG, 31, 2048)]
    s.power.up = true ∧ (7 : Nat) < 8 ∧ s.obj Obj.PFC_WATCHDOG 31 ≠ 0 ∧ (s.prio (8 * 31 + 7)).pauseEnd.isSome = true ∧
    (s.prio (8 * 31 + 7)).pausedSince + s.obj Obj.PFC_WATCHDOG 31 ≤ s.tick := by decide

theorem test_witness_BootWatchdogFailsTheSlot :
    let s : State := tS { tD with boot := { booted := some 3, released := some (tT - 7812500) } } [(Obj.READINESS, 0, 2)]
    s.power.up = true ∧ s.boot.released = some (tT - 7812500) ∧ tT - 7812500 + 7812500 ≤ s.tick ∧ s.obj Obj.READINESS = 2 ∧ s.boot.booted = some 3 := by
  decide

theorem test_witness_StuckOutputIsReported :
    let s : State := tS { tD with twin := { peerFence := true }, bureau := { sessions := [(0x20000, { who := .owner })] } } []
    s.power.vaux = true ∧ bit (s.obj Obj.SIDEBAND_STATUS) 0 = false ∧ s.twin.peerFence = true ∧ bit (s.obj Obj.SIDEBAND_STATUS) 10 = false ∧
    s.session? 0x20000 = some { who := .owner } ∧ ({ who := .owner } : Session).notified 0x20000 = true := by decide

theorem test_witness_IntegerOperationWritesItsRegister : ∃ (v : Nat) (s1 : Dev),
    (tHart 0x002081B3).power.up = true ∧ (tHart 0x002081B3).issues 2047 = true ∧
    (tHart 0x002081B3).trigFires 2047 2 ((tHart 0x002081B3).hart 2047).pc = false ∧ (tHart 0x002081B3).fetch 2047 0 = (.word 0x002081B3 4, s1) ∧
    0x002081B3 % 128 = 0x33 ∧
    rvOp (rvF7 0x002081B3) (rvF3 0x002081B3) ((s1.hart 2047).reg (rvRs1 0x002081B3)) ((s1.hart 2047).reg (rvRs2 0x002081B3)) = some v :=
  ⟨0x17F, ((tHart 0x002081B3).fetch 2047 0).2, by decide, by decide, by decide, Prod.ext (by decide) rfl, by decide, by decide⟩

theorem test_witness_StoreWritesItsBytesAlone : ∃ (p : Nat) (s1 : Dev),
    (tHart 0xFE20BC23).power.up = true ∧ (tHart 0xFE20BC23).issues 2047 = true ∧
    (tHart 0xFE20BC23).trigFires 2047 2 ((tHart 0xFE20BC23).hart 2047).pc = false ∧ (tHart 0xFE20BC23).fetch 2047 0 = (.word 0xFE20BC23 4, s1) ∧
    0xFE20BC23 % 128 = 0x23 ∧ rvF3 0xFE20BC23 = 3 ∧ ((s1.hart 2047).reg (rvRs1 0xFE20BC23) + rvImmS 0xFE20BC23) % 2 ^ 64 = 0x100 ∧
    s1.trigFires 2047 1 0x100 = false ∧ 0x100 % 8 = 0 ∧ s1.coreWin 2047 0x100 = some (.sram p) ∧ p < 0x000300000000 :=
  ⟨0x107E00100, ((tHart 0xFE20BC23).fetch 2047 0).2, by decide, by decide, by decide, Prod.ext (by decide) rfl, by decide, by decide, by decide, by decide, by decide, by decide, by decide⟩

theorem test_witness_EcallTakesTheTrap : ∃ s1 : Dev,
    (tHart 0x73).power.up = true ∧ (tHart 0x73).issues 2047 = true ∧ (tHart 0x73).trigFires 2047 2 ((tHart 0x73).hart 2047).pc = false ∧
    (tHart 0x73).fetch 2047 0 = (.word 0x73 4, s1) :=
  ⟨_, by decide, by decide, by decide, rfl⟩

theorem test_witness_LeaseExpirySelfFences :
    let s : State := tS { tD with edgeTodo := [.lease] } [(Obj.TWIN_ENABLE, 0, 1), (Obj.ROLE, 0, 1), (Obj.LEASE_DEADLINE, 0, tT)]
    s.power.up = true ∧ s.edgeTodo = [.lease] ∧ s.twin.fenceDue = none ∧ s.obj Obj.TWIN_ENABLE = 1 ∧ s.obj Obj.ROLE = 1 ∧
    s.twin.released = false ∧ s.obj Obj.LEASE_DEADLINE ≤ s.tick := by decide

/-- A VF with 2 tokens sends 3 and 2 messages. -/
theorem test_witness_LetterboxSendNeedsTokens :
    let s : State := tS { tD with hosts := { boxes := [(64, { tokens := 2, tmSent := 5, ttSent := 8 })] } } [(Obj.FUNC_STATE, 64, 2), (Obj.VF_BUDGET, 0, 1)]
    isPf 64 = false ∧ s.present 64 = true ∧ (3 * 256 + 8) / 65536 = 0 ∧
    heldOf (s.box 64).tmSent (s.box 64).tmAcked + bits (3 * 256 + 8) 15 8 ≤ 8 ∧ bits (3 * 256 + 8) 7 0 ≤ heldOf (s.box 64).ttSent (s.box 64).ttAcked ∧
    (s.box 64).tokens < bits (3 * 256 + 8) 15 8 ∧ bits (2 * 256 + 8) 15 8 ≤ (s.box 64).tokens := by decide

theorem test_witness_CompletesEdgeWork :
    (∃ (s : State), s.power.up = true ∧ (s.edgeTodo.contains .snapshot = true)) ∧
    (∃ (s : State), s.power.up = true ∧ (s.edgeTodo.contains .bureau = true)) ∧
    (∃ (s : State), s.power.up = true ∧ (s.edgeTodo.contains .bureau = true)) ∧
    (∃ (s : State), s.power.up = true ∧ (s.edgeTodo.contains .table = true)) ∧
    (∃ (s : State), s.power.up = true ∧ (s.edgeTodo.contains .shaper = true)) ∧
    (∃ (s : State), s.power.up = true ∧ (s.edgeTodo.contains .calendar = true)) ∧
    (∃ (s : State), s.power.up = true ∧ (s.edgeTodo.contains .coarse = true)) ∧
    (∃ (s : State), s.power.up = true ∧ (s.edgeTodo.contains .policer = true)) ∧
    (∃ (s : State), s.power.up = true ∧ (s.edgeTodo.contains .steal = true)) ∧
    (∃ (s : State), s.power.up = true ∧ (s.edgeTodo.contains .sample = true)) ∧
    (∃ (s : State), s.power.up = true ∧ (s.edgeTodo.contains .lease = true)) :=
  ⟨⟨tS tD [], by decide, by decide⟩,
   ⟨tS tD [], by decide, by decide⟩,
   ⟨tS tD [], by decide, by decide⟩,
   ⟨tS tD [], by decide, by decide⟩,
   ⟨tS tD [], by decide, by decide⟩,
   ⟨tS tD [], by decide, by decide⟩,
   ⟨tS tD [], by decide, by decide⟩,
   ⟨tS tD [], by decide, by decide⟩,
   ⟨tS tD [], by decide, by decide⟩,
   ⟨tS tD [], by decide, by decide⟩,
   ⟨tS tD [], by decide, by decide⟩⟩

theorem test_witness_CompletesClockAndMonitor :
    (∃ (s : State), s.power.up = true ∧ (s.obj Obj.REF_STATE ≠ 1)) ∧
    (∃ (s : State), s.power.up = true ∧ (s.obj Obj.REF_STATE ≠ 0)) ∧
    (∃ (s : State), s.power.up = true ∧ (s.obj Obj.REF_STATE ≠ 0)) ∧
    (∃ (s : State) (drawers cabinets : List Nat) (hub : Bool), s.power.up = true ∧ (s.tick % max 1 s.work.selfCheck = 0)) ∧
    (∃ (s : State) (d : Nat) (cause : FenceCause), s.power.up = true ∧ (Tab.get? s.work.fence d = some cause) ∧ (cause.detect < s.tick) ∧ (s.edgeTodo.contains .fences = true)) ∧
    (∃ (s : State) (c : Nat) (cause : FenceCause), s.power.up = true ∧ (Tab.get? s.work.cabFence c = some cause) ∧ (cause.detect < s.tick) ∧ (s.edgeTodo.contains .fences = true)) ∧
    (∃ (s : State) (cause : Nat), s.power.up = true ∧ (0x31 ≤ cause ∧ cause ≤ 0x35)) ∧
    (∃ (s : State), s.power.up = true ∧ (s.edgeTodo.contains .deviceFault = true)) :=
  ⟨⟨tS tD [], by decide, by decide⟩,
   ⟨tS tD [(Obj.REF_STATE, 0, 1)], by decide, by decide⟩,
   ⟨tS tD [(Obj.REF_STATE, 0, 2)], by decide, by decide⟩,
   ⟨tS tD [], [63], [3], true, by decide, by decide⟩,
   ⟨tS { tD with work := { fence := [(63, { cause := 2, detect := 7 })] } } [], 63, _, by decide, rfl, by decide, by decide⟩,
   ⟨tS { tD with work := { cabFence := [(3, { cause := 0x22, detect := 7 })] } } [], 3, _, by decide, rfl, by decide, by decide⟩,
   ⟨tS tD [], 0x35, by decide, by decide⟩,
   ⟨tS tD [], by decide, by decide⟩⟩

theorem test_witness_CompletesAdmission :
    (∃ (s : State) (p length : Nat) (head : List Nat) (cap : Nat), s.power.up = true ∧ (p < s.part.ports) ∧ (s.portUp p = true) ∧ ((s.port p).rx.isNone = true) ∧ (18 ≤ length)) ∧
    (∃ (s : State) (p : Nat) (tail : List Nat) (fcsOk : Bool), s.power.up = true ∧ ((s.port p).rx.isSome = true)) ∧
    (∃ (s : State) (h w : Nat), s.power.up = true ∧ (h < s.part.threads) ∧ (s.inService (h / 32) = true)) ∧
    (∃ (s : State) (d : Nat), s.power.up = true ∧ (s.inService d = true) ∧ (s.queueRoom d = true) ∧ (s.obj Obj.DEVICE_FAULT = 0)) ∧
    (∃ (s : State) (g : Nat), s.power.up = true ∧ (s.windowOpen g = true) ∧ (s.obj Obj.DEVICE_FAULT = 0)) :=
  ⟨⟨tS tD [(Obj.LINK_STATE_2000, 31, 3)], 31, 18, [], 0, by decide, by decide, by decide, by decide, by decide⟩,
   ⟨tS { tD with eth := { ports := [(31, { rx := some { chain := 0, length := 64, held := 64, arrived := 0, prio := 0, start := 0 } })] } } [], 31, [], true, by decide, by decide⟩,
   ⟨tS tD [], 2047, 0, by decide, by decide, by decide⟩,
   ⟨tS tD [], 63, by decide, by decide, by decide, by decide⟩,
   ⟨tS tD [], 65535, by decide, by decide, by decide⟩⟩

theorem test_witness_CompletesSorterAndMatcher :
    (∃ (s : State) (d i : Nat), s.power.up = true ∧ (s.sorterReady d i = true)) ∧
    (∃ (s : State) (d i : Nat) (more : List Nat), s.power.up = true ∧ (i < 3) ∧ ((s.parked? (3 * d + i) .header).isSome = true)) ∧
    (∃ (s : State) (d i : Nat) (poison : Option (Nat × Nat)), s.power.up = true ∧ (i < 3) ∧ ((s.parked? (3 * d + i) .lookup).isSome = true)) ∧
    (∃ (s : State) (d i : Nat) (c : SorterCtx), s.power.up = true ∧ (i < 3) ∧ (s.parked? (3 * d + i) .lookup = some c) ∧ (c.parkTick + 2 ≤ s.tick)) ∧
    (∃ (s : State) (d i : Nat) (miss : Option Nat) (j : ScanJob), s.power.up = true ∧ ((s.jobsOf d)[i]? = some j) ∧ (s.scanReady d j = true)) ∧
    (∃ (s : State) (d i : Nat) (poison : Option (Nat × Nat)) (j : ScanJob), s.power.up = true ∧ ((s.jobsOf d)[i]? = some j) ∧ (j.parked = true)) ∧
    (∃ (s : State) (d i n : Nat), s.power.up = true ∧ (s.edgeTodo.contains .budgets = true) ∧ (s.matcherRuns d i = true)) ∧
    (∃ (s : State) (S b : Nat), s.power.up = true ∧ (b < 2) ∧ (s.pats.verifying.contains (2 * S + b) = true)) ∧
    (∃ (s : State) (S b : Nat), s.power.up = true ∧ (b < 2) ∧ (s.obj Obj.BANK_STATE (2 * S + b) = 5) ∧ (s.scanJobs.any (fun j => j.started && j.bank == 2 * S + b) = false)) :=
  ⟨⟨tS { tD with work := { queues := [(63, [{ seq := 0, p := { kind := 1 } }])] } } [], 63, 2, by decide, by decide⟩,
   ⟨tS { tD with work := { ctxs := [(191, { p := { kind := 1 }, ingress := none, takeTick := 0, cfg := [], stage := .header, parkTick := tT - 2 })] } } [], 63, 2, [], by decide, by decide, by decide⟩,
   ⟨tS { tD with work := { ctxs := [(191, { p := { kind := 1 }, ingress := none, takeTick := 0, cfg := [], stage := .lookup, parkTick := tT - 2 })] } } [], 63, 2, none, by decide, by decide, by decide⟩,
   ⟨tS { tD with work := { ctxs := [(191, { p := { kind := 1 }, ingress := none, takeTick := 0, cfg := [], stage := .lookup, parkTick := tT - 2 })] } } [], 63, 2, _, by decide, by decide, rfl, by decide⟩,
   ⟨tS { tD with pats := { jobs := [(63, [tJob false false])] } } [], 63, 0, none, _, by decide, rfl, by decide⟩,
   ⟨tS { tD with pats := { jobs := [(63, [tJob true true])] } } [], 63, 0, none, _, by decide, rfl, by decide⟩,
   ⟨tS { tD with pats := { jobs := [(63, [tJob true false])] } } [], 63, 0, 64, by decide, by decide, by decide⟩,
   ⟨tS { tD with pats := { verifying := [15] } } [], 7, 1, by decide, by decide, by decide⟩,
   ⟨tS tD [(Obj.BANK_STATE, 15, 5)], 7, 1, by decide, by decide, by decide, by decide⟩⟩

theorem test_witness_CompletesParcelWork :
    (∃ (s : State) (d : Nat), s.power.up = true ∧ (s.inService d = true) ∧ (s.movedNow d < 16384) ∧ ((s.mover d).pick.isSome = true)) ∧
    (∃ (s : State) (e : Nat) (c : SorterCtx), s.power.up = true ∧ (s.work.fins[e]? = some c) ∧ ((c.hold && s.rxEnd c.p.handle == .arriving) = false)) ∧
    (∃ (s : State) (h k : Nat), s.power.up = true ∧ (s.trapDue h k = true) ∧ (k < 4)) ∧
    (∃ (s : State) (h k : Nat), s.power.up = true ∧ (s.dropDue h k = true) ∧ (k < 4)) ∧
    (∃ (s : State) (P : Nat), s.power.up = true ∧ (s.portReady P = true)) ∧
    (∃ (s : State) (P cap : Nat) (x : TxFrame), s.power.up = true ∧ (s.nextTx P = some x) ∧ ((s.rxEnd x.f.chain != .arriving) = true) ∧ (s.mayLeave P x = true)) ∧
    (∃ (s : State) (h : Nat), s.power.up = true ∧ (s.hasPort h = true)) ∧
    (∃ (s : State) (h slot disp : Nat), s.power.up = true ∧ (s.hasPort h = true) ∧ (slot < 4)) ∧
    (∃ (s : State) (h slot : Nat), s.power.up = true ∧ (s.hasPort h = true) ∧ (slot < 4)) :=
  ⟨⟨tS { tD with hosts := { movers := [(63, { waits := [{ cls := 3, fn := 0, off := 0, bytes := 64, why := .job 1 0 }] })] } } [], 63, by decide, by decide, by decide, by decide⟩,
   ⟨tS { tD with work := { fins := [{ p := { kind := 1 }, ingress := none, takeTick := 0, cfg := [] }] } } [], 0, _, by decide, rfl, by decide⟩,
   ⟨tS { tD with work := { slots := [(8191, { p := { kind := 1 }, ingress := none, takeTick := tT - 2, overdue := false, reason := 0, pr := {}, pat := {} })] } } [], 2047, 3, by decide, by decide, by decide⟩,
   ⟨tS { tD with work := { slots := [(8191, { p := { kind := 1 }, ingress := none, takeTick := tT - 3, overdue := true, reason := 0, pr := {}, pat := {} })] } } [], 2047, 3, by decide, by decide, by decide⟩,
   ⟨tS tD [], 47, by decide, by decide⟩,
   ⟨tS { tD with sched := { fifos := [(47, [{ f := { p := { kind := 1 }, chain := 0, len := 64, tick := 0, colour := 0, holder := 0, first := true, truncate := 0, mirror := false, ce := false }, leaf := 0 }])] } } [], 47, 0, _, by decide, rfl, by decide, by decide⟩,
   ⟨tS tD [], 2047, by decide, by decide⟩,
   ⟨tS tD [], 2047, 3, 0, by decide, by decide, by decide⟩,
   ⟨tS tD [], 2047, 3, by decide, by decide, by decide⟩⟩

theorem test_witness_CompletesBufferOperations :
    (∃ (s : State) (owner length : Nat), s.power.up = true ∧ (validOwner s.part owner = true)) ∧
    (∃ (s : State) (owner handle : Nat), s.power.up = true ∧ (validOwner s.part owner = true)) ∧
    (∃ (s : State) (owner handle n : Nat), s.power.up = true ∧ (validOwner s.part owner = true)) ∧
    (∃ (s : State) (owner handle : Nat), s.power.up = true ∧ (validOwner s.part owner = true)) ∧
    (∃ (s : State) (owner handle newOwner : Nat), s.power.up = true ∧ (validOwner s.part owner = true)) :=
  ⟨⟨tS tD [], 0xFFF2, 16777216, by decide, by decide⟩,
   ⟨tS tD [], 0xFFF2, 0, by decide, by decide⟩,
   ⟨tS tD [], 0xFFF2, 0, 1, by decide, by decide⟩,
   ⟨tS tD [], 0xFFF2, 0, by decide, by decide⟩,
   ⟨tS tD [], 0xFFF2, 0, 0x3F, by decide, by decide⟩⟩

theorem test_witness_CompletesPortLink :
    (∃ (s : State) (p : Nat), s.power.up = true ∧ (s.linkState p = 1) ∧ ((s.port p).retry = false) ∧ (s.ethref = true)) ∧
    (∃ (s : State) (p : Nat), s.power.up = true ∧ (s.linkState p = 1) ∧ ((s.port p).retry = false)) ∧
    (∃ (s : State) (p : Nat), s.power.up = true ∧ (s.linkState p = 1) ∧ ((s.port p).retry = true) ∧ ((s.port p).since + s.obj Obj.LINK_RETRY p ≤ s.tick)) ∧
    (∃ (s : State) (p : Nat) (order : List Nat), s.power.up = true ∧ ((s.linkState p == 2 || s.linkState p == 3) = true) ∧ (s.ethref = true)) ∧
    (∃ (s : State) (p : Nat), s.power.up = true ∧ (s.edgeTodo.contains .links = true) ∧ (s.linkUpDue p = true)) ∧
    (∃ (s : State) (p mask : Nat), s.power.up = true ∧ (s.linkState p = 2) ∧ ((s.port p).lockSince.isNone = true) ∧ ((s.port p).since + 98304 ≤ s.tick)) ∧
    (∃ (s : State) (p : Nat) (lanes : List Nat), s.power.up = true ∧ ((s.linkState p == 2 || s.linkState p == 3) = true)) ∧
    (∃ (s : State) (p : Nat), s.power.up = true ∧ (s.edgeTodo.contains .links = true) ∧ (s.linkDownDue p = true)) ∧
    (∃ (s : State) (l : Nat), s.power.up = true ∧ (s.polarityDue l = true)) ∧
    (∃ (s : State) (p corrected uncorrected : Nat), s.power.up = true ∧ (p < s.part.ports) ∧ (s.linkState p ≠ 0)) :=
  ⟨⟨tS { tD with eth := { ports := [(31, { since := 0 })] } } [(Obj.LINK_STATE_2000, 31, 1)], 31, by decide, by decide, by decide, by decide⟩,
   ⟨tS { tD with eth := { ports := [(31, { since := 0 })] } } [(Obj.LINK_STATE_2000, 31, 1)], 31, by decide, by decide, by decide⟩,
   ⟨tS { tD with eth := { ports := [(31, { retry := true, since := 0 })] } } [(Obj.LINK_STATE_2000, 31, 1)], 31, by decide, by decide, by decide, by decide⟩,
   ⟨tS { tD with eth := { ports := [(31, { since := 0 })] } } [(Obj.LINK_STATE_2000, 31, 3)], 31, [], by decide, by decide, by decide⟩,
   ⟨tS { tD with eth := { ports := [(31, { lockSince := some 0 })] } } [(Obj.LINK_STATE_2000, 31, 2)], 31, by decide, by decide, by decide⟩,
   ⟨tS { tD with eth := { ports := [(31, { since := tT - 98304 })] } } [(Obj.LINK_STATE_2000, 31, 2)], 31, 0xFFFFFFFF, by decide, by decide, by decide, by decide⟩,
   ⟨tS { tD with eth := { ports := [(31, { since := 0 })] } } [(Obj.LINK_STATE_2000, 31, 3)], 31, [], by decide, by decide⟩,
   ⟨tS { tD with eth := { ports := [(31, { lossSince := some 0 })] } } [(Obj.LINK_STATE_2000, 31, 3)], 31, by decide, by decide, by decide⟩,
   ⟨tS { tD with eth := { ports := [(31, { since := tT - 4096 })] } } [(Obj.LINK_STATE_2000, 31, 2), (Obj.PORT_MODE, 31, 11)], 31, by decide, by decide⟩,
   ⟨tS { tD with eth := { ports := [(31, { since := 0 })] } } [(Obj.LINK_STATE_2000, 31, 3)], 31, 0, 0, by decide, by decide, by decide⟩⟩

theorem test_witness_CompletesPauseAndManagementPort :
    (∃ (s : State) (p mask : Nat) (quanta : List Nat), s.power.up = true ∧ (p < s.part.ports) ∧ (s.portUp p = true)) ∧
    (∃ (s : State) (p q t : Nat), s.power.up = true ∧ (q < 8) ∧ ((s.prio (8 * p + q)).pauseEnd = some t) ∧ (t ≤ s.tick)) ∧
    (∃ (s : State) (p q t : Nat), s.power.up = true ∧ (q < 8) ∧ (s.portUp p = true) ∧ (s.sendsPause = true) ∧ ((s.pausePrios p).contains q = true) ∧ (s.xoffCause (8 * p + q) = true) ∧ ((s.prio (8 * p + q)).xoff = some t) ∧ (t ≤ s.tick)) ∧
    (∃ (s : State) (p q : Nat), s.power.up = true ∧ (q < 8) ∧ (s.obj Obj.PFC_WATCHDOG p ≠ 0) ∧ ((s.prio (8 * p + q)).pauseEnd.isSome = true) ∧ ((s.prio (8 * p + q)).pausedSince + s.obj Obj.PFC_WATCHDOG p ≤ s.tick)) ∧
    (∃ (s : State) (p q : Nat), s.power.up = true ∧ (q < 8) ∧ ((s.prio (8 * p + q)).storm = true) ∧ ((s.prio (8 * p + q)).lastPause + s.obj Obj.PFC_WATCHDOG p ≤ s.tick)) ∧
    (∃ (s : State) (data : List Nat), s.power.up = true ∧ (s.mgmtOut = true)) :=
  ⟨⟨tS { tD with eth := { ports := [(31, { since := 0 })] } } [(Obj.LINK_STATE_2000, 31, 3)], 31, 255, [], by decide, by decide, by decide⟩,
   ⟨tS { tD with eth := { prios := [(255, { pauseEnd := some tT })] } } [], 31, 7, _, by decide, by decide, rfl, by decide⟩,
   ⟨tS { tD with eth := { prios := [(255, { xoff := some tT })] } } [(Obj.LINK_STATE_2000, 31, 3), (Obj.XOFF_THRESHOLD, 255, 0), (Obj.FLOW_CONTROL, 31, 2), (Obj.PFC_PRIORITIES, 31, 128)], 31, 7, _, by decide, by decide, by decide, by decide, by decide, by decide, rfl, by decide⟩,
   ⟨tS { tD with eth := { prios := [(255, { pauseEnd := some (tT + 1), pausedSince := tT - 2048 })] } } [(Obj.PFC_WATCHDOG, 31, 2048)], 31, 7, by decide, by decide, by decide, by decide, by decide⟩,
   ⟨tS { tD with eth := { prios := [(255, { storm := true, lastPause := tT - 2048 })] } } [(Obj.PFC_WATCHDOG, 31, 2048)], 31, 7, by decide, by decide, by decide, by decide⟩,
   ⟨tS tD [(Obj.READINESS, 0, 3)], [], by decide, by decide⟩⟩

theorem test_witness_CompletesExactMatch :
    (∃ (s : State) (h rec : Nat), s.power.up = true ∧ (h < s.part.threads)) ∧
    (∃ (s : State) (h rec : Nat), s.power.up = true ∧ (h < s.part.threads)) ∧
    (∃ (s : State) (h rec : Nat), s.power.up = true ∧ (h < s.part.threads)) ∧
    (∃ (s : State) (h rec : Nat), s.power.up = true ∧ (h < s.part.threads)) ∧
    (∃ (s : State) (h rec : Nat), s.power.up = true ∧ (h < s.part.threads)) :=
  ⟨⟨tS tD [], 2047, 0, by decide, by decide⟩,
   ⟨tS tD [], 2047, 0, by decide, by decide⟩,
   ⟨tS tD [], 2047, 0, by decide, by decide⟩,
   ⟨tS tD [], 2047, 0, by decide, by decide⟩,
   ⟨tS tD [], 2047, 0, by decide, by decide⟩⟩

theorem test_witness_CompletesBureauSessions :
    (∃ (s : State) (a : Nat) (anchor : Anchor), s.power.up = true ∧ (2 ≤ s.obj Obj.READINESS) ∧ (a < 16) ∧ ((s.session? (0x10000 + a)).isNone = true) ∧ ((anchor != .debug || [0, 3].contains s.boot.fuses.lifeCycle) = true)) ∧
    (∃ (s : State) (a : Nat) (alert : Bool) (ss : Session), s.power.up = true ∧ (s.session? (0x10000 + a) = some ss) ∧ (a < 16) ∧ (ss.lastRecord + sixtySeconds ≤ s.tick)) ∧
    (∃ (s : State) (a : Nat) (ss : Session), s.power.up = true ∧ (s.session? (0x10000 + a) = some ss) ∧ (a < 16) ∧ (s.tick < ss.lastRecord + sixtySeconds)) ∧
    (∃ (s : State) (sess : Sess) (ver seq count : Nat) (body : List Nat), (s.remote sess = true)) ∧
    (∃ (s : State) (sess : Sess) (ver seq count : Nat) (body : List Nat), (s.remote sess = true)) ∧
    (∃ (s : State) (sess : Sess) (ver seq txn : Nat), (s.remote sess = true)) ∧
    (∃ (s : State) (sess : Sess) (ver seq txn : Nat), (s.remote sess = true)) ∧
    (∃ (s : State) (sess : Sess) (ss : Session) (t : Txn), s.power.up = true ∧ (s.session? (sessKey sess) = some ss) ∧ (ss.txn = some t) ∧ (t.last + s.obj Obj.TXN_IDLE_TIMEOUT ≤ s.tick)) ∧
    (∃ (s : State) (sess : Sess) (seq : Nat) (ss : Session), (s.session? (sessKey sess) = some ss)) ∧
    (∃ (s : State) (sess : Sess) (seq : Nat) (ss : Session) (n : Notif), s.power.up = true ∧ (s.session? (sessKey sess) = some ss) ∧ (ss.notifs.find? (fun n => n.seq == seq) = some n) ∧ (n.lastSend + tenMs ≤ s.tick) ∧ (n.sends ≤ 5)) ∧
    (∃ (s : State) (v : Save), s.power.up = true ∧ (s.bureau.save = some v)) :=
  ⟨⟨tS { tD with boot := { fuses := { lifeCycle := 3 } } } [(Obj.READINESS, 0, 3)], 15, .debug, by decide, by decide, by decide, by decide, by decide⟩,
   ⟨tS { tD with bureau := { sessions := [(0x1000F, { who := .owner, lastRecord := tT - 117187500 })] } } [], 15, false, _, by decide, rfl, by decide, by decide⟩,
   ⟨tS { tD with bureau := { sessions := [(0x1000F, { who := .owner, lastRecord := tT - 117187499 })] } } [], 15, _, by decide, rfl, by decide, by decide⟩,
   ⟨tS { tD with bureau := { sessions := [(0x20000, { who := .owner })] } } [], .mctp, 0, 0, 0, [], by decide⟩,
   ⟨tS { tD with bureau := { sessions := [(0x20000, { who := .owner })] } } [], .mctp, 0, 0, 0, [], by decide⟩,
   ⟨tS { tD with bureau := { sessions := [(0x20000, { who := .owner })] } } [], .mctp, 0, 0, 0, by decide⟩,
   ⟨tS { tD with bureau := { sessions := [(0x20000, { who := .owner })] } } [], .mctp, 0, 0, 0, by decide⟩,
   ⟨tS { tD with bureau := { sessions := [(0x20000, { who := .owner, txn := some { id := 1, items := [], last := 0 } })] } } [], .mctp, _, _, by decide, rfl, rfl, by decide⟩,
   ⟨tS { tD with bureau := { sessions := [(0x20000, { who := .owner, notifs := [{ seq := 9, code := 0, obj := 0, tick := 0, detail := 0, lost := false, sends := 5, lastSend := tT - 19532 }] })] } } [], .mctp, 9, _, rfl⟩,
   ⟨tS { tD with bureau := { sessions := [(0x20000, { who := .owner, notifs := [{ seq := 9, code := 0, obj := 0, tick := 0, detail := 0, lost := false, sends := 5, lastSend := tT - 19532 }] })] } } [], .mctp, 9, _, _, by decide, rfl, rfl, by decide, by decide⟩,
   ⟨tS { tD with bureau := { save := some { copy := 0, vals := [], start := 0 } } } [], _, by decide, rfl⟩⟩

theorem test_witness_CompletesHostLink :
    (∃ (s : State) (h : Nat), (2 * h < s.part.links)) ∧
    (∃ (s : State) (h : Nat), (2 * h < s.part.links)) ∧
    (∃ (s : State) (k : Nat), s.power.up = true ∧ (k < s.part.links) ∧ (3 ≤ s.obj Obj.LINK_STATE_8000 k)) ∧
    (∃ (s : State) (k : Nat), s.power.up = true ∧ (k < s.part.links) ∧ (3 ≤ s.obj Obj.LINK_STATE_8000 k)) ∧
    (∃ (s : State) (k : Nat) (hot : Bool) (t : Nat), s.power.up = true ∧ (s.resetReady k = true) ∧ ((s.link k).resetDue = some (hot, t))) ∧
    (∃ (s : State) (k status : Nat), s.power.up = true ∧ (k < s.part.links) ∧ (s.obj Obj.LINK_STATE_8000 k = 2) ∧ (s.trained k status = true)) ∧
    (∃ (s : State) (k : Nat), s.power.up = true ∧ (k < s.part.links) ∧ (s.obj Obj.LINK_STATE_8000 k = 2) ∧ ((s.link k).since + 196608 ≤ s.tick)) ∧
    (∃ (s : State) (k : Nat), s.power.up = true ∧ (k < s.part.links) ∧ (s.obj Obj.LINK_STATE_8000 k = 3)) ∧
    (∃ (s : State) (k : Nat), s.power.up = true ∧ (k < s.part.links) ∧ (s.obj Obj.LINK_STATE_8000 k = 4)) ∧
    (∃ (s : State) (k power width : Nat), s.power.up = true ∧ (k < s.part.links) ∧ (s.obj Obj.LINK_STATE_8000 k = 4) ∧ (s.powerOk k power width = true)) ∧
    (∃ (s : State), (s.power.vaux = true) ∧ (s.power.main = false)) ∧
    (∃ (s : State) (f : List Nat), (s.power.vaux = true) ∧ (s.power.main = false) ∧ (s.wakeMatch f = true)) ∧
    (∃ (s : State) (h : Nat), s.power.up = true ∧ (2 * h < s.part.links) ∧ (bit (s.obj Obj.SIDEBAND_STATUS) (14 + h) = false)) ∧
    (∃ (s : State) (h : Nat), s.power.up = true ∧ (2 * h < s.part.links) ∧ (bit (s.obj Obj.SIDEBAND_STATUS) (14 + h) = true)) ∧
    (∃ (s : State) (r : Nat), s.power.up = true ∧ (s.rootPort r = true)) ∧
    (∃ (s : State) (r : Nat), s.power.up = true ∧ (s.rootPort r = true)) :=
  ⟨⟨tS tD [], 3, by decide⟩,
   ⟨tS tD [], 3, by decide⟩,
   ⟨tS tD [(Obj.LINK_STATE_8000, 7, 3)], 7, by decide, by decide, by decide⟩,
   ⟨tS tD [(Obj.LINK_STATE_8000, 7, 3)], 7, by decide, by decide, by decide⟩,
   ⟨tS { tD with hosts := { links := [(7, { resetDue := some (true, tT - 1) })] } } [], 7, _, _, by decide, by decide, rfl⟩,
   ⟨tS tD [(Obj.LINK_STATE_8000, 7, 2), (Obj.LINK_MODE, 7, 1)], 7, 0x6100, by decide, by decide, by decide, by decide⟩,
   ⟨tS { tD with hosts := { links := [(7, { since := tT - 196608 })] } } [(Obj.LINK_STATE_8000, 7, 2)], 7, by decide, by decide, by decide, by decide⟩,
   ⟨tS tD [(Obj.LINK_STATE_8000, 7, 3)], 7, by decide, by decide, by decide⟩,
   ⟨tS tD [(Obj.LINK_STATE_8000, 7, 4)], 7, by decide, by decide, by decide⟩,
   ⟨tS { tD with hosts := { links := [(7, { aspm := 2, l1ss := 2 })] } } [(Obj.LINK_STATE_8000, 7, 4)], 7, 3, 0, by decide, by decide, by decide, by decide⟩,
   ⟨tS { power := { vaux := true, main := false } } [], by decide, by decide⟩,
   ⟨tS { power := { vaux := true, main := false } } [(Obj.WAKE_MODE, 0, 2)], List.replicate 64 0, by decide, by decide, by decide⟩,
   ⟨tS tD [], 3, by decide, by decide, by decide⟩,
   ⟨tS tD [(Obj.SIDEBAND_STATUS, 0, 2 ^ 17)], 3, by decide, by decide, by decide⟩,
   ⟨tS tD [(Obj.LINK_MODE, 7, 3), (Obj.ROOT_PORT_WIDTH, 7, 1)], 63, by decide, by decide⟩,
   ⟨tS tD [(Obj.LINK_MODE, 7, 3), (Obj.ROOT_PORT_WIDTH, 7, 1)], 63, by decide, by decide⟩⟩

theorem test_witness_CompletesFunctionControl :
    (∃ (s : State) (n : Nat), s.power.up = true ∧ (isPf n = false) ∧ (s.present n = true) ∧ ((s.fn n).vfSince.isSome = true)) ∧
    (∃ (s : State) (n : Nat) (reg : CfgReg) (wr : Option Nat), s.power.up = true ∧ (fnInPart s.part n = true) ∧ (3 ≤ s.obj Obj.LINK_STATE_8000 (s.linkOf n))) ∧
    (∃ (s : State) (n : Nat), s.power.up = true ∧ (s.cfgUp n = true) ∧ ((s.fn n).bme = false)) ∧
    (∃ (s : State) (n : Nat), s.power.up = true ∧ (s.cfgUp n = true) ∧ ((s.fn n).bme = true)) ∧
    (∃ (s : State) (n : Nat), s.power.up = true ∧ (s.cfgUp n = true)) ∧
    (∃ (s : State) (n : Nat), s.power.up = true ∧ (s.fstate n = 6) ∧ (fnInPart s.part n = true)) ∧
    (∃ (s : State) (n : Nat), s.power.up = true ∧ (isPf n = true) ∧ (s.cfgUp n = true) ∧ ((s.fn n).vfEnable = false)) ∧
    (∃ (s : State) (n : Nat), s.power.up = true ∧ (isPf n = true) ∧ (s.cfgUp n = true) ∧ ((s.fn n).vfEnable = true)) ∧
    (∃ (s : State) (n d : Nat), s.power.up = true ∧ ((if d = 4 then fnInPart s.part n && s.obj Obj.LINK_STATE_8000 (s.linkOf n) == 1 else s.cfgUp n && (d == 0 || d == 3)) = true)) ∧
    (∃ (s : State) (n : Nat), s.power.up = true ∧ (s.cfgUp n = true)) ∧
    (∃ (s : State) (n : Nat), s.power.up = true ∧ (s.cfgUp n = true)) :=
  ⟨⟨tS { tD with hosts := { funcs := [(64, { vfSince := some 0 })] } } [(Obj.FUNC_STATE, 64, 1), (Obj.VF_BUDGET, 0, 1)], 64, by decide, by decide, by decide, by decide⟩,
   ⟨tS { tD with hosts := { funcs := [(0, { bme := true })] } } [(Obj.FUNC_STATE, 0, 2), (Obj.LINK_STATE_8000, 0, 4), (Obj.READINESS, 0, 3), (Obj.VF_BUDGET, 0, 1)], 63 - 56, .ciData, none, by decide, by decide, by decide⟩,
   ⟨tS { tD with hosts := { funcs := [] } } [(Obj.FUNC_STATE, 0, 2), (Obj.LINK_STATE_8000, 0, 4), (Obj.READINESS, 0, 3), (Obj.VF_BUDGET, 0, 1)], 0, by decide, by decide, by decide⟩,
   ⟨tS { tD with hosts := { funcs := [(0, { bme := true })] } } [(Obj.FUNC_STATE, 0, 2), (Obj.LINK_STATE_8000, 0, 4), (Obj.READINESS, 0, 3), (Obj.VF_BUDGET, 0, 1)], 0, by decide, by decide, by decide⟩,
   ⟨tS { tD with hosts := { funcs := [(0, { bme := true })] } } [(Obj.FUNC_STATE, 0, 2), (Obj.LINK_STATE_8000, 0, 4), (Obj.READINESS, 0, 3), (Obj.VF_BUDGET, 0, 1)], 0, by decide, by decide⟩,
   ⟨tS tD [(Obj.FUNC_STATE, 4159, 6)], 4159, by decide, by decide, by decide⟩,
   ⟨tS { tD with hosts := { funcs := [(0, { bme := true })] } } [(Obj.FUNC_STATE, 0, 2), (Obj.LINK_STATE_8000, 0, 4), (Obj.READINESS, 0, 3), (Obj.VF_BUDGET, 0, 1)], 0, by decide, by decide, by decide, by decide⟩,
   ⟨tS { tD with hosts := { funcs := [(0, { vfEnable := true })] } } [(Obj.FUNC_STATE, 0, 2), (Obj.LINK_STATE_8000, 0, 4), (Obj.READINESS, 0, 3), (Obj.VF_BUDGET, 0, 1)], 0, by decide, by decide, by decide, by decide⟩,
   ⟨tS { tD with hosts := { funcs := [(0, { bme := true })] } } [(Obj.FUNC_STATE, 0, 2), (Obj.LINK_STATE_8000, 0, 4), (Obj.READINESS, 0, 3), (Obj.VF_BUDGET, 0, 1)], 0, 3, by decide, by decide⟩,
   ⟨tS { tD with hosts := { funcs := [(0, { bme := true })] } } [(Obj.FUNC_STATE, 0, 2), (Obj.LINK_STATE_8000, 0, 4), (Obj.READINESS, 0, 3), (Obj.VF_BUDGET, 0, 1)], 0, by decide, by decide⟩,
   ⟨tS { tD with hosts := { funcs := [(0, { bme := true })] } } [(Obj.FUNC_STATE, 0, 2), (Obj.LINK_STATE_8000, 0, 4), (Obj.READINESS, 0, 3), (Obj.VF_BUDGET, 0, 1)], 0, by decide, by decide⟩⟩

theorem test_witness_CompletesHostRequests :
    (∃ (s : State) (k tag bytes status : Nat) (data : List Nat), s.power.up = true ∧ (k < s.part.links) ∧ (1 < s.obj Obj.LINK_STATE_8000 k)) ∧
    (∃ (s : State) (k tag : Nat) (t : Tag), s.power.up = true ∧ (s.timedOut? k tag = some t)) ∧
    (∃ (s : State) (k tag q : Nat) (t : Tag) (e : Bool), s.power.up = true ∧ (Tab.get? (s.link k).tags tag = some t) ∧ (t.quar = some (q, e)) ∧ (q + 2 * s.ctoTicks t.req.fn ≤ s.tick)) ∧
    (∃ (s : State) (n bar off size v : Nat), s.power.up = true ∧ (s.barUp n = true) ∧ ((bar = 0 ∨ bar = 2 ∨ bar = 6))) ∧
    (∃ (s : State) (n bar off size : Nat), s.power.up = true ∧ (s.barUp n = true) ∧ ((bar = 0 ∨ bar = 2 ∨ bar = 6))) ∧
    (∃ (s : State) (n page w : Nat), s.power.up = true ∧ (s.barUp n = true) ∧ (bits w 31 24 ≠ 2) ∧ (bits w 31 24 ≠ 3)) ∧
    (∃ (s : State) (n page w : Nat), s.power.up = true ∧ (s.barUp n = true) ∧ (bits w 31 24 = 2)) ∧
    (∃ (s : State) (n page w : Nat), s.power.up = true ∧ (s.barUp n = true) ∧ (bits w 31 24 = 3)) :=
  ⟨⟨tS tD [(Obj.LINK_STATE_8000, 7, 4)], 7, 0, 0, 0, [], by decide, by decide, by decide⟩,
   ⟨tS { tD with hosts := { links := [(7, { tags := [(255, { req := { fn := 0, addr := 0, off := 0, bytes := 64, why := .job 1 0 }, issued := tT - 62500 })] })] } } [], 7, 255, _, by decide, rfl⟩,
   ⟨tS { tD with hosts := { links := [(7, { tags := [(255, { req := { fn := 0, addr := 0, off := 0, bytes := 64, why := .job 1 0 }, issued := tT - 62500, quar := some (tT - 125000, true) })] })] } } [], 7, 255, _, _, _, by decide, rfl, rfl, by decide⟩,
   ⟨tS { tD with hosts := { funcs := [(0, { bme := true })] } } [(Obj.FUNC_STATE, 0, 2), (Obj.LINK_STATE_8000, 0, 4), (Obj.READINESS, 0, 3), (Obj.VF_BUDGET, 0, 1)], 0, 2, 0, 8, 0, by decide, by decide, by decide⟩,
   ⟨tS { tD with hosts := { funcs := [(0, { bme := true })] } } [(Obj.FUNC_STATE, 0, 2), (Obj.LINK_STATE_8000, 0, 4), (Obj.READINESS, 0, 3), (Obj.VF_BUDGET, 0, 1)], 0, 0, 0, 4, by decide, by decide, by decide⟩,
   ⟨tS { tD with hosts := { funcs := [(0, { bme := true })] } } [(Obj.FUNC_STATE, 0, 2), (Obj.LINK_STATE_8000, 0, 4), (Obj.READINESS, 0, 3), (Obj.VF_BUDGET, 0, 1)], 0, 0, 2 ^ 24, by decide, by decide, by decide, by decide⟩,
   ⟨tS { tD with hosts := { funcs := [(0, { bme := true })] } } [(Obj.FUNC_STATE, 0, 2), (Obj.LINK_STATE_8000, 0, 4), (Obj.READINESS, 0, 3), (Obj.VF_BUDGET, 0, 1)], 0, 0, 2 * 2 ^ 24, by decide, by decide, by decide⟩,
   ⟨tS { tD with hosts := { funcs := [(0, { bme := true })] } } [(Obj.FUNC_STATE, 0, 2), (Obj.LINK_STATE_8000, 0, 4), (Obj.READINESS, 0, 3), (Obj.VF_BUDGET, 0, 1)], 0, 0, 3 * 2 ^ 24, by decide, by decide, by decide⟩⟩

theorem test_witness_CompletesHostQueues :
    (∃ (s : State) (n Q t : Nat) (q : Queue) (s1 : Dev) (err d : Nat) (frags : Option (List Nat)), s.power.up = true ∧ (s.queue? (qkey n Q) = some q) ∧ (q.type = 1) ∧ (s.mayRead n q = true) ∧ (s.queueHeld n Q = false) ∧ (s.sendLow n q (some d) = false) ∧ (s.slotAsk n (s.descAddr q) s.descBytes (.slot (qkey n Q)) = (some t, s1))) ∧
    (∃ (s : State) (n Q t : Nat) (q : Queue) (s1 : Dev) (err : Nat) (frags : Option (List Nat)), s.power.up = true ∧ (s.queue? (qkey n Q) = some q) ∧ (q.type = 1) ∧ (s.mayRead n q = true) ∧ (s.queueHeld n Q = false) ∧ (s.sendLow n q none = false) ∧ (s.slotAsk n (s.descAddr q) s.descBytes (.slot (qkey n Q)) = (some t, s1)) ∧ (s1.canFail n t err = true)) ∧
    (∃ (s : State) (n Q t err d : Nat) (q : Queue) (s1 : Dev), s.power.up = true ∧ (s.queue? (qkey n Q) = some q) ∧ (q.type = 2) ∧ (s.mayRead n q = true) ∧ (q.held.length < 31) ∧ (s.slotAsk n (s.descAddr q) s.descBytes (.slot (qkey n Q)) = (some t, s1))) ∧
    (∃ (s : State) (n Q t err : Nat) (q : Queue) (s1 : Dev), s.power.up = true ∧ (s.queue? (qkey n Q) = some q) ∧ (q.type = 2) ∧ (s.mayRead n q = true) ∧ (q.held.length < 31) ∧ (s.slotAsk n (s.descAddr q) s.descBytes (.slot (qkey n Q)) = (some t, s1)) ∧ (s1.canFail n t err = true)) ∧
    (∃ (s : State) (n Q : Nat), s.power.up = true ∧ (s.postReady (qkey n Q) = true)) ∧
    (∃ (s : State) (n Q : Nat), s.power.up = true ∧ (s.hwDue (qkey n Q) = true)) ∧
    (∃ (s : State) (n : Nat), s.power.up = true ∧ ((s.fn n).dirty.head?.any (fun j => decide (j.2 < s.tick)) = true) ∧ (s.mayWrite (s.parentPf n) = true)) ∧
    (∃ (s : State) (n : Nat), s.power.up = true ∧ (s.barUp n = true) ∧ ((s.fn n).adminEn = false)) ∧
    (∃ (s : State) (n : Nat), s.power.up = true ∧ (s.barUp n = true) ∧ (((s.fn n).adminEn || (s.fn n).adminDue) = true)) ∧
    (∃ (s : State) (n desc : Nat), s.power.up = true ∧ (s.adminReady n = true) ∧ (adminOpcodes.contains (adminOp desc) = false) ∧ ((s.slotAsk n (s.adminAddr n) 32 (.slot (qkey n 0))).1.isSome = true)) :=
  ⟨⟨tS { tD with hosts := { funcs := [(0, { bme := true })], links := [(0, { tags := [(0, { req := { fn := 0, addr := 0, off := 0, bytes := 32, why := .slot (qkey 0 1) }, issued := 0 })] })], queues := [(1, { g := 0, log2 := 4, ring := 0, idx := 0, type := 1, prod := 1 })] } } [(Obj.FUNC_STATE, 0, 2), (Obj.LINK_STATE_8000, 0, 4), (Obj.READINESS, 0, 3), (Obj.VF_BUDGET, 0, 1)], 0, 1, 0, _, _, 0, 0, none, by decide, rfl, by decide, by decide, by decide, by decide, rfl⟩,
   ⟨tS { tD with hosts := { funcs := [(0, { bme := true })], links := [(0, { tags := [(0, { req := { fn := 0, addr := 0, off := 0, bytes := 32, why := .slot (qkey 0 1) }, issued := 0 })] })], queues := [(1, { g := 0, log2 := 4, ring := 0, idx := 0, type := 1, prod := 1 })] } } [(Obj.FUNC_STATE, 0, 2), (Obj.LINK_STATE_8000, 0, 4), (Obj.READINESS, 0, 3), (Obj.VF_BUDGET, 0, 1)], 0, 1, 0, _, _, 0, none, by decide, rfl, by decide, by decide, by decide, by decide, rfl, by decide⟩,
   ⟨tS { tD with hosts := { funcs := [(0, { bme := true })], links := [(0, { tags := [(0, { req := { fn := 0, addr := 0, off := 0, bytes := 32, why := .slot (qkey 0 1) }, issued := 0 })] })], queues := [(1, { g := 0, log2 := 4, ring := 0, idx := 0, type := 2, prod := 1 })] } } [(Obj.FUNC_STATE, 0, 2), (Obj.LINK_STATE_8000, 0, 4), (Obj.READINESS, 0, 3), (Obj.VF_BUDGET, 0, 1)], 0, 1, 0, 0, 0, _, _, by decide, rfl, by decide, by decide, by decide, rfl⟩,
   ⟨tS { tD with hosts := { funcs := [(0, { bme := true })], links := [(0, { tags := [(0, { req := { fn := 0, addr := 0, off := 0, bytes := 32, why := .slot (qkey 0 1) }, issued := 0 })] })], queues := [(1, { g := 0, log2 := 4, ring := 0, idx := 0, type := 2, prod := 1 })] } } [(Obj.FUNC_STATE, 0, 2), (Obj.LINK_STATE_8000, 0, 4), (Obj.READINESS, 0, 3), (Obj.VF_BUDGET, 0, 1)], 0, 1, 0, 0, _, _, by decide, rfl, by decide, by decide, by decide, rfl, by decide⟩,
   ⟨tS { tD with hosts := { funcs := [(0, { bme := true })], queues := [(1, { g := 0, type := 1, log2 := 4, ring := 0, idx := 0, cq := 2, jobs := [{ index := 0, done := true }] }), (2, { g := 1, type := 3, log2 := 4, ring := 0, idx := 0, prod := 15 })] } } [(Obj.FUNC_STATE, 0, 2), (Obj.LINK_STATE_8000, 0, 4), (Obj.READINESS, 0, 3), (Obj.VF_BUDGET, 0, 1)], 0, 1, by decide, by decide⟩,
   ⟨tS { tD with hosts := { funcs := [(0, { bme := true })], queues := [(1, { g := 0, log2 := 4, ring := 0, idx := 0, type := 1, cons := 5 })] } } [(Obj.FUNC_STATE, 0, 2), (Obj.LINK_STATE_8000, 0, 4), (Obj.READINESS, 0, 3), (Obj.VF_BUDGET, 0, 1)], 0, 1, by decide, by decide⟩,
   ⟨tS { tD with hosts := { funcs := [(0, { bme := true }), (64, { dirty := [(1, 0)] })] } } [(Obj.FUNC_STATE, 0, 2), (Obj.LINK_STATE_8000, 0, 4), (Obj.READINESS, 0, 3), (Obj.VF_BUDGET, 0, 1)], 64, by decide, by decide, by decide⟩,
   ⟨tS { tD with hosts := { funcs := [(0, { bme := true })] } } [(Obj.FUNC_STATE, 0, 2), (Obj.LINK_STATE_8000, 0, 4), (Obj.READINESS, 0, 3), (Obj.VF_BUDGET, 0, 1)], 0, by decide, by decide, by decide⟩,
   ⟨tS { tD with hosts := { funcs := [(0, { adminEn := true })] } } [(Obj.FUNC_STATE, 0, 2), (Obj.LINK_STATE_8000, 0, 4), (Obj.READINESS, 0, 3), (Obj.VF_BUDGET, 0, 1)], 0, by decide, by decide, by decide⟩,
   ⟨tS { tD with hosts := { funcs := [(0, { bme := true })], links := [(0, { tags := [(0, { req := { fn := 0, addr := 0, off := 0, bytes := 32, why := .slot (qkey 0 0) }, issued := 0 })] })], queues := [(0, { g := 0, log2 := 4, ring := 0, idx := 0, type := 0, prod := 1 })] } } [(Obj.FUNC_STATE, 0, 2), (Obj.LINK_STATE_8000, 0, 4), (Obj.READINESS, 0, 3), (Obj.VF_BUDGET, 0, 1)], 0, 0xFF * 2 ^ 56, by decide, by decide, by decide, by decide⟩⟩

theorem test_witness_CompletesAdminCommands :
    (∃ (s : State) (n desc : Nat), adminStarts s n desc 0x01 false) ∧
    (∃ (s : State) (n desc : Nat), adminStarts s n desc 0x02 false) ∧
    (∃ (s : State) (n desc : Nat), adminStarts s n desc 0x03 false) ∧
    (∃ (s : State) (n desc : Nat) (input : List Nat) (ss : Session) (rs : List ObjRec), adminStarts s n desc 0x10 false ∧ ((s.adminTaken n desc).session? n = some ss) ∧ (parseRecs input.length (input.take (bits desc 191 160)) = some rs)) ∧
    (∃ (s : State) (n desc : Nat) (input : List Nat) (ss : Session) (rs : List ObjRec), adminStarts s n desc 0x11 false ∧ ((s.adminTaken n desc).session? n = some ss) ∧ (parseRecs input.length (input.take (bits desc 191 160)) = some rs)) ∧
    (∃ (s : State) (n desc : Nat) (t : Dev), adminStarts s n desc 0x12 false ∧ (bit desc 48 = false) ∧ ((s.adminTaken n desc).commitReq n (adminArg desc) 0 = (none, t))) ∧
    (∃ (s : State) (n desc : Nat), adminStarts s n desc 0x12 false ∧ (bit desc 48 = true)) ∧
    (∃ (s : State) (n desc : Nat), adminStarts s n desc 0x20 true) ∧
    (∃ (s : State) (n : Nat), s.power.up = true ∧ ((s.fn n).abort.isSome = true) ∧ (s.fstate n = 5)) :=
  ⟨⟨tS { tD with hosts := { funcs := [(0, { bme := true })], links := [(0, { tags := [(0, { req := { fn := 0, addr := 0, off := 0, bytes := 32, why := .slot (qkey 0 0) }, issued := 0 })] })], queues := [(0, { g := 0, log2 := 4, ring := 0, idx := 0, type := 0, prod := 1 })] } } [(Obj.FUNC_STATE, 0, 2), (Obj.LINK_STATE_8000, 0, 4), (Obj.READINESS, 0, 3), (Obj.VF_BUDGET, 0, 1)], 0, 1 * 2 ^ 56, by decide +kernel⟩,
   ⟨tS { tD with hosts := { funcs := [(0, { bme := true })], links := [(0, { tags := [(0, { req := { fn := 0, addr := 0, off := 0, bytes := 32, why := .slot (qkey 0 0) }, issued := 0 })] })], queues := [(0, { g := 0, log2 := 4, ring := 0, idx := 0, type := 0, prod := 1 })] } } [(Obj.FUNC_STATE, 0, 2), (Obj.LINK_STATE_8000, 0, 4), (Obj.READINESS, 0, 3), (Obj.VF_BUDGET, 0, 1)], 0, 2 * 2 ^ 56, by decide +kernel⟩,
   ⟨tS { tD with hosts := { funcs := [(0, { bme := true })], links := [(0, { tags := [(0, { req := { fn := 0, addr := 0, off := 0, bytes := 32, why := .slot (qkey 0 0) }, issued := 0 })] })], queues := [(0, { g := 0, log2 := 4, ring := 0, idx := 0, type := 0, prod := 1 })] } } [(Obj.FUNC_STATE, 0, 2), (Obj.LINK_STATE_8000, 0, 4), (Obj.READINESS, 0, 3), (Obj.VF_BUDGET, 0, 1)], 0, 3 * 2 ^ 56, by decide +kernel⟩,
   ⟨tS { tD with hosts := { funcs := [(0, { bme := true })], links := [(0, { tags := [(0, { req := { fn := 0, addr := 0, off := 0, bytes := 32, why := .slot (qkey 0 0) }, issued := 0 })] })], queues := [(0, { g := 0, log2 := 4, ring := 0, idx := 0, type := 0, prod := 1 })] }, bureau := { sessions := [(0, { who := .manager })] } } [(Obj.FUNC_STATE, 0, 2), (Obj.LINK_STATE_8000, 0, 4), (Obj.READINESS, 0, 3), (Obj.VF_BUDGET, 0, 1)], 0, 16 * 2 ^ 56, [], _, _, by decide +kernel, rfl, rfl⟩,
   ⟨tS { tD with hosts := { funcs := [(0, { bme := true })], links := [(0, { tags := [(0, { req := { fn := 0, addr := 0, off := 0, bytes := 32, why := .slot (qkey 0 0) }, issued := 0 })] })], queues := [(0, { g := 0, log2 := 4, ring := 0, idx := 0, type := 0, prod := 1 })] }, bureau := { sessions := [(0, { who := .manager })] } } [(Obj.FUNC_STATE, 0, 2), (Obj.LINK_STATE_8000, 0, 4), (Obj.READINESS, 0, 3), (Obj.VF_BUDGET, 0, 1)], 0, 17 * 2 ^ 56, [], _, _, by decide +kernel, rfl, rfl⟩,
   ⟨tS { tD with hosts := { funcs := [(0, { bme := true })], links := [(0, { tags := [(0, { req := { fn := 0, addr := 0, off := 0, bytes := 32, why := .slot (qkey 0 0) }, issued := 0 })] })], queues := [(0, { g := 0, log2 := 4, ring := 0, idx := 0, type := 0, prod := 1 })] }, bureau := { sessions := [(0, { who := .manager, txn := some { id := 7, items := [{ oid := Obj.STEAL_MAX, inst := 0, written := 0, value := 0, clamped := false }], last := 0 } })] } } [(Obj.FUNC_STATE, 0, 2), (Obj.LINK_STATE_8000, 0, 4), (Obj.READINESS, 0, 3), (Obj.VF_BUDGET, 0, 1)], 0, 0x12 * 2 ^ 56 + 7 * 2 ^ 32, _, by decide +kernel, by decide, rfl⟩,
   ⟨tS { tD with hosts := { funcs := [(0, { bme := true })], links := [(0, { tags := [(0, { req := { fn := 0, addr := 0, off := 0, bytes := 32, why := .slot (qkey 0 0) }, issued := 0 })] })], queues := [(0, { g := 0, log2 := 4, ring := 0, idx := 0, type := 0, prod := 1 })] }, bureau := { sessions := [(0, { who := .manager })] } } [(Obj.FUNC_STATE, 0, 2), (Obj.LINK_STATE_8000, 0, 4), (Obj.READINESS, 0, 3), (Obj.VF_BUDGET, 0, 1)], 0, 0x12 * 2 ^ 56 + 2 ^ 48, by decide +kernel, by decide⟩,
   ⟨tS { tD with hosts := { funcs := [(0, { bme := true })], links := [(0, { tags := [(0, { req := { fn := 0, addr := 0, off := 0, bytes := 32, why := .slot (qkey 0 0) }, issued := 0 })] })], queues := [(0, { g := 0, log2 := 4, ring := 0, idx := 0, type := 0, prod := 1 })] } } [(Obj.FUNC_STATE, 0, 2), (Obj.LINK_STATE_8000, 0, 4), (Obj.READINESS, 0, 3), (Obj.VF_BUDGET, 0, 1)], 0, 32 * 2 ^ 56, by decide +kernel⟩,
   ⟨tS { tD with hosts := { funcs := [(0, { abort := some (0, 0, 2) })] } } [(Obj.FUNC_STATE, 0, 5)], 0, by decide, by decide, by decide⟩⟩

theorem test_witness_CompletesTenancy :
    (∃ (s : State) (n desc : Nat), adminStarts s n desc 0x21 true) ∧
    (∃ (s : State) (n x t : Nat), s.power.up = true ∧ ((s.fn n).quiesce = some (x, t)) ∧ (t < s.tick) ∧ (s.vfIdle n = true)) ∧
    (∃ (s : State) (n x t : Nat), s.power.up = true ∧ ((s.fn n).quiesce = some (x, t)) ∧ (t + 3907 ≤ s.tick)) ∧
    (∃ (s : State) (n desc : Nat), adminStarts s n desc 0x22 true ∧ (((s.adminTaken n desc).vfsOf n).contains (adminArg desc) = true) ∧ ((s.adminTaken n desc).fstate (adminArg desc) = 4) ∧ (((s.adminTaken n desc).fn (adminArg desc)).bme = true)) ∧
    (∃ (s : State) (n desc : Nat), adminStarts s n desc 0x30 true ∧ (((s.adminTaken n desc).vfsOf n).contains (adminArg desc) = true) ∧ ((s.adminTaken n desc).fstate (adminArg desc) = 4) ∧ (((s.adminTaken n desc).ctrlOfFn (adminArg desc)).any (fun c => ((s.adminTaken n desc).ctrl c).en) = false)) ∧
    (∃ (s : State) (n desc : Nat) (b : List Nat), adminStarts s n desc 0x31 true ∧ (((s.adminTaken n desc).vfsOf n).contains (adminArg desc) = true) ∧ ((s.adminTaken n desc).fstate (adminArg desc) = 7) ∧ (8 ≤ bits desc 191 160)) ∧
    (∃ (s : State) (n desc : Nat) (b : List Nat), adminStarts s n desc 0x32 true ∧ (((s.adminTaken n desc).vfsOf n).contains (adminArg desc) = true) ∧ ((s.adminTaken n desc).fstate (adminArg desc) = 1) ∧ (((s.adminTaken n desc).queuesOf (adminArg desc)).isEmpty = true) ∧ (8 ≤ bits desc 191 160)) ∧
    (∃ (s : State) (n t : Nat), s.power.up = true ∧ (Tab.get? s.hosts.admin n = some (.image t)) ∧ (s.edgeTodo.contains .bureau = true)) ∧
    (∃ (s : State) (n desc : Nat), adminStarts s n desc 0x33 true ∧ (((s.adminTaken n desc).vfsOf n).contains (adminArg desc) = true) ∧ (((s.adminTaken n desc).fstate (adminArg desc) = 7 ∨ ((s.adminTaken n desc).fstate (adminArg desc) = 8 ∧ ((s.adminTaken n desc).fn (adminArg desc)).bme = true)))) ∧
    (∃ (s : State) (n w : Nat), s.power.up = true ∧ (s.barUp n = true) ∧ (bits w 15 8 ≠ 0)) ∧
    (∃ (s : State) (n w : Nat), s.power.up = true ∧ (s.barUp n = true) ∧ (bits w 15 8 = 0)) ∧
    (∃ (s : State) (n : Nat), s.power.up = true ∧ (isPf n = false) ∧ (fnInPart s.part n = true) ∧ (s.tick % max 1 (s.obj Obj.LB_INTERVAL n) = 0) ∧ ((s.box n).refilled ≠ s.tick)) :=
  ⟨⟨tS { tD with hosts := { funcs := [(0, { bme := true })], links := [(0, { tags := [(0, { req := { fn := 0, addr := 0, off := 0, bytes := 32, why := .slot (qkey 0 0) }, issued := 0 })] })], queues := [(0, { g := 0, log2 := 4, ring := 0, idx := 0, type := 0, prod := 1 })] } } [(Obj.FUNC_STATE, 0, 2), (Obj.LINK_STATE_8000, 0, 4), (Obj.READINESS, 0, 3), (Obj.VF_BUDGET, 0, 1)], 0, 33 * 2 ^ 56, by decide +kernel⟩,
   ⟨tS { tD with hosts := { funcs := [(64, { quiesce := some (0, tT - 1) })] } } [(Obj.NVME_FUNCTION, 0, 64)], 64, _, _, by decide, rfl, by decide, by decide⟩,
   ⟨tS { tD with hosts := { funcs := [(64, { quiesce := some (0, tT - 3907) })] } } [(Obj.FUNC_STATE, 0, 2), (Obj.LINK_STATE_8000, 0, 4), (Obj.READINESS, 0, 3), (Obj.VF_BUDGET, 0, 1)], 64, _, _, by decide, rfl, by decide⟩,
   ⟨tS { tD with hosts := { funcs := [(0, { bme := true }), (64, { bme := true })], links := [(0, { tags := [(0, { req := { fn := 0, addr := 0, off := 0, bytes := 32, why := .slot (qkey 0 0) }, issued := 0 })] })], queues := [(0, { g := 0, log2 := 4, ring := 0, idx := 0, type := 0, prod := 1 })] } } [(Obj.FUNC_STATE, 0, 2), (Obj.LINK_STATE_8000, 0, 4), (Obj.READINESS, 0, 3), (Obj.VF_BUDGET, 0, 1), (Obj.FUNC_STATE, 64, 4), (Obj.NVME_FUNCTION, 0, 64)], 0, 0x22 * 2 ^ 56 + 64 * 2 ^ 32, by decide +kernel, by decide +kernel, by decide +kernel, by decide +kernel⟩,
   ⟨tS { tD with hosts := { funcs := [(0, { bme := true })], links := [(0, { tags := [(0, { req := { fn := 0, addr := 0, off := 0, bytes := 32, why := .slot (qkey 0 0) }, issued := 0 })] })], queues := [(0, { g := 0, log2 := 4, ring := 0, idx := 0, type := 0, prod := 1 })] } } [(Obj.FUNC_STATE, 0, 2), (Obj.LINK_STATE_8000, 0, 4), (Obj.READINESS, 0, 3), (Obj.VF_BUDGET, 0, 1), (Obj.FUNC_STATE, 64, 4), (Obj.NVME_FUNCTION, 0, 64)], 0, 0x30 * 2 ^ 56 + 64 * 2 ^ 32, by decide +kernel, by decide +kernel, by decide +kernel, by decide +kernel⟩,
   ⟨tS { tD with hosts := { funcs := [(0, { bme := true })], links := [(0, { tags := [(0, { req := { fn := 0, addr := 0, off := 0, bytes := 32, why := .slot (qkey 0 0) }, issued := 0 })] })], queues := [(0, { g := 0, log2 := 4, ring := 0, idx := 0, type := 0, prod := 1 })] } } [(Obj.FUNC_STATE, 0, 2), (Obj.LINK_STATE_8000, 0, 4), (Obj.READINESS, 0, 3), (Obj.VF_BUDGET, 0, 1), (Obj.FUNC_STATE, 64, 7), (Obj.NVME_FUNCTION, 0, 64)], 0, 0x31 * 2 ^ 56 + 64 * 2 ^ 32 + 8 * 2 ^ 160, [], by decide +kernel, by decide +kernel, by decide +kernel, by decide⟩,
   ⟨tS { tD with hosts := { funcs := [(0, { bme := true })], links := [(0, { tags := [(0, { req := { fn := 0, addr := 0, off := 0, bytes := 32, why := .slot (qkey 0 0) }, issued := 0 })] })], queues := [(0, { g := 0, log2 := 4, ring := 0, idx := 0, type := 0, prod := 1 })] } } [(Obj.FUNC_STATE, 0, 2), (Obj.LINK_STATE_8000, 0, 4), (Obj.READINESS, 0, 3), (Obj.VF_BUDGET, 0, 1), (Obj.FUNC_STATE, 64, 1), (Obj.NVME_FUNCTION, 0, 64)], 0, 0x32 * 2 ^ 56 + 64 * 2 ^ 32 + 8 * 2 ^ 160, [], by decide +kernel, by decide +kernel, by decide +kernel, by decide +kernel, by decide⟩,
   ⟨tS { tD with hosts := { funcs := [(0, { bme := true })], admin := [(0, .image 64)] } } [(Obj.FUNC_STATE, 0, 2), (Obj.LINK_STATE_8000, 0, 4), (Obj.READINESS, 0, 3), (Obj.VF_BUDGET, 0, 1)], 0, _, by decide, rfl, by decide⟩,
   ⟨tS { tD with hosts := { funcs := [(0, { bme := true })], links := [(0, { tags := [(0, { req := { fn := 0, addr := 0, off := 0, bytes := 32, why := .slot (qkey 0 0) }, issued := 0 })] })], queues := [(0, { g := 0, log2 := 4, ring := 0, idx := 0, type := 0, prod := 1 })] } } [(Obj.FUNC_STATE, 0, 2), (Obj.LINK_STATE_8000, 0, 4), (Obj.READINESS, 0, 3), (Obj.VF_BUDGET, 0, 1), (Obj.FUNC_STATE, 64, 7), (Obj.NVME_FUNCTION, 0, 64)], 0, 0x33 * 2 ^ 56 + 64 * 2 ^ 32, by decide +kernel, by decide +kernel, by decide +kernel⟩,
   ⟨tS { tD with hosts := { funcs := [(0, { bme := true })] } } [(Obj.FUNC_STATE, 0, 2), (Obj.LINK_STATE_8000, 0, 4), (Obj.READINESS, 0, 3), (Obj.VF_BUDGET, 0, 1)], 0, 8 * 2 ^ 8, by decide, by decide, by decide⟩,
   ⟨tS { tD with hosts := { funcs := [(0, { bme := true })] } } [(Obj.FUNC_STATE, 0, 2), (Obj.LINK_STATE_8000, 0, 4), (Obj.READINESS, 0, 3), (Obj.VF_BUDGET, 0, 1)], 0, 8, by decide, by decide, by decide⟩,
   ⟨tS tD [(Obj.LB_INTERVAL, 4159, 1)], 4159, by decide, by decide, by decide, by decide, by decide⟩⟩

theorem test_witness_CompletesNvmeController :
    (∃ (s : State) (c q v : Nat), s.power.up = true ∧ (s.ctrlUp c = true)) ∧
    (∃ (s : State) (c q v : Nat), s.power.up = true ∧ (s.ctrlUp c = true)) ∧
    (∃ (s : State) (c q sqe t : Nat) (s1 : Dev), s.power.up = true ∧ (s.mayFetch c q = true) ∧ (s.slotAsk (s.ctrlFn c) (s.nvmAddr c q) 64 (.nvmSlot c q) = (some t, s1))) ∧
    (∃ (s : State) (c q cid : Nat) (m : NvmCmd), s.power.up = true ∧ (s.cmd? c q cid = some m) ∧ (m.started = false) ∧ (m.final = false) ∧ ((s.opcodes c (q == 0)).contains m.opcode = false)) ∧
    (∃ (s : State) (c : Nat), s.power.up = true ∧ (s.canEnable c = true)) ∧
    (∃ (s : State) (c : Nat), s.power.up = true ∧ ((s.ctrl c).en = true) ∧ ((s.ctrl c).ending ≠ some 0)) ∧
    (∃ (s : State) (c : Nat), s.power.up = true ∧ ((s.ctrl c).en = true) ∧ ((s.ctrl c).ending.isNone = true) ∧ ((s.ctrl c).shst = 0)) ∧
    (∃ (s : State) (c : Nat), s.power.up = true ∧ (s.endReady c = true)) ∧
    (∃ (s : State) (c q : Nat) (x : Cq), s.power.up = true ∧ (Tab.get? (s.ctrl c).cqs q = some x) ∧ (0 < x.pend) ∧ (x.pendTick + aggTicks ((s.ctrl c).coalesce q).2 ≤ s.tick)) :=
  ⟨⟨tS { tD with storage := { ctrls := [(0, { en := true, rdy := true, cc := 0 })] }, hosts := { funcs := [(0, { bme := true })] } } [(Obj.FUNC_STATE, 0, 2), (Obj.LINK_STATE_8000, 0, 4), (Obj.READINESS, 0, 3), (Obj.VF_BUDGET, 0, 1), (Obj.NVME_FUNCTION, 0, 0)], 0, 0, 0, by decide, by decide⟩,
   ⟨tS { tD with storage := { ctrls := [(0, { en := true, rdy := true, cc := 0 })] }, hosts := { funcs := [(0, { bme := true })] } } [(Obj.FUNC_STATE, 0, 2), (Obj.LINK_STATE_8000, 0, 4), (Obj.READINESS, 0, 3), (Obj.VF_BUDGET, 0, 1), (Obj.NVME_FUNCTION, 0, 0)], 0, 0, 0, by decide, by decide⟩,
   ⟨tS { tD with storage := { ctrls := [(0, { en := true, rdy := true, sqs := [(1, { size := 4, cq := 1, tail := 1 })] })] }, hosts := { links := [(0, { tags := [(0, { req := { fn := 0, addr := 0, off := 0, bytes := 64, why := .nvmSlot 0 1 }, issued := 0 })] })], funcs := [(0, { bme := true })] } } [(Obj.FUNC_STATE, 0, 2), (Obj.LINK_STATE_8000, 0, 4), (Obj.READINESS, 0, 3), (Obj.VF_BUDGET, 0, 1), (Obj.NVME_FUNCTION, 0, 0)], 0, 1, 0, 0, _, by decide, by decide, rfl⟩,
   ⟨tS { tD with storage := { ctrls := [(0, { en := true, rdy := true, sqs := [(0, { size := 4, cq := 0, cmds := [{ cid := 5, seq := 9, sqe := 0, opcode := 0xFF }] })] })] }, hosts := { funcs := [(0, { bme := true })] } } [(Obj.FUNC_STATE, 0, 2), (Obj.LINK_STATE_8000, 0, 4), (Obj.READINESS, 0, 3), (Obj.VF_BUDGET, 0, 1), (Obj.NVME_FUNCTION, 0, 0)], 0, 0, 5, _, by decide, rfl, by decide, by decide, by decide⟩,
   ⟨tS tD [(Obj.FUNC_STATE, 0, 2), (Obj.NVME_FUNCTION, 0, 0)], 0, by decide, by decide⟩,
   ⟨tS { tD with storage := { ctrls := [(0, { en := true, rdy := true, cc := 0 })] }, hosts := { funcs := [(0, { bme := true })] } } [(Obj.FUNC_STATE, 0, 2), (Obj.LINK_STATE_8000, 0, 4), (Obj.READINESS, 0, 3), (Obj.VF_BUDGET, 0, 1), (Obj.NVME_FUNCTION, 0, 0)], 0, by decide, by decide, by decide⟩,
   ⟨tS { tD with storage := { ctrls := [(0, { en := true, rdy := true, cc := 0 })] }, hosts := { funcs := [(0, { bme := true })] } } [(Obj.FUNC_STATE, 0, 2), (Obj.LINK_STATE_8000, 0, 4), (Obj.READINESS, 0, 3), (Obj.VF_BUDGET, 0, 1), (Obj.NVME_FUNCTION, 0, 0)], 0, by decide, by decide, by decide, by decide⟩,
   ⟨tS { tD with storage := { ctrls := [(0, { en := true, rdy := true, ending := some 0 })] }, hosts := { funcs := [(0, { bme := true })] } } [(Obj.FUNC_STATE, 0, 2), (Obj.LINK_STATE_8000, 0, 4), (Obj.READINESS, 0, 3), (Obj.VF_BUDGET, 0, 1), (Obj.NVME_FUNCTION, 0, 0)], 0, by decide, by decide⟩,
   ⟨tS { tD with storage := { ctrls := [(0, { en := true, rdy := true, cqs := [(1, { size := 4, pend := 1, pendTick := tT - 196 })], feats := [(8, 0x100)] })] }, hosts := { funcs := [(0, { bme := true })] } } [(Obj.FUNC_STATE, 0, 2), (Obj.LINK_STATE_8000, 0, 4), (Obj.READINESS, 0, 3), (Obj.VF_BUDGET, 0, 1), (Obj.NVME_FUNCTION, 0, 0)], 0, 1, _, by decide, rfl, by decide, by decide⟩⟩

theorem test_witness_CompletesNvmeAdmin :
    (∃ (s : State) (c cid : Nat) (m : NvmCmd), s.power.up = true ∧ (s.adm? c cid 1 = some m)) ∧
    (∃ (s : State) (c cid : Nat) (m : NvmCmd), s.power.up = true ∧ (s.adm? c cid 0 = some m)) ∧
    (∃ (s : State) (c cid : Nat) (m : NvmCmd), s.power.up = true ∧ (s.adm? c cid 5 = some m)) ∧
    (∃ (s : State) (c cid : Nat) (m : NvmCmd), s.power.up = true ∧ (s.adm? c cid 4 = some m)) ∧
    (∃ (s : State) (c cid : Nat) (list : List Nat) (segs : List (Nat × Nat)) (m : NvmCmd) (s1 : Dev), s.power.up = true ∧ (s.adm? c cid 2 = some m) ∧ ((s.dataAt c m (logLen m.sqe) 0 true list).segs = .ok segs) ∧ (s.readsAsk (s.ctrlFn c) (s.dataAt c m (logLen m.sqe) 0 true list).tables (.nvmList c 0 m.seq) = (true, s1))) ∧
    (∃ (s : State) (c cid : Nat) (list : List Nat) (segs : List (Nat × Nat)) (m : NvmCmd) (s1 : Dev), s.power.up = true ∧ (s.adm? c cid 6 = some m) ∧ ((s.dataAt c m 4096 0 true list).segs = .ok segs) ∧ (s.readsAsk (s.ctrlFn c) (s.dataAt c m 4096 0 true list).tables (.nvmList c 0 m.seq) = (true, s1))) ∧
    (∃ (s : State) (c cid : Nat) (m : NvmCmd), s.power.up = true ∧ (s.adm? c cid 8 = some m)) ∧
    (∃ (s : State) (c cid : Nat) (m : NvmCmd), s.power.up = true ∧ (s.adm? c cid 9 = some m)) ∧
    (∃ (s : State) (c cid : Nat) (m : NvmCmd), s.power.up = true ∧ (s.adm? c cid 0xA = some m)) ∧
    (∃ (s : State) (c cid : Nat) (m : NvmCmd), s.power.up = true ∧ (s.adm? c cid 0xC = some m)) ∧
    (∃ (s : State) (c cid : Nat) (data : List Nat) (segs : List (Nat × Nat)) (m : NvmCmd) (s1 : Dev), s.power.up = true ∧ (s.adm? c cid 0xD = some m) ∧ ((s.manageData c m).segs = .ok segs) ∧ (s.readsAsk (s.ctrlFn c) (s.manageData c m).tables (.nvmList c 0 m.seq) = (true, s1))) ∧
    (∃ (s : State) (c cid : Nat) (ids : List Nat) (segs : List (Nat × Nat)) (m : NvmCmd) (s1 : Dev), s.power.up = true ∧ (s.adm? c cid 0x15 = some m) ∧ ((s.dataAt c m 4096 0 true []).taken.segs = .ok segs) ∧ (s.readsAsk (s.ctrlFn c) (s.dataAt c m 4096 0 true []).taken.tables (.nvmList c 0 m.seq) = (true, s1))) ∧
    (∃ (s : State) (c cid : Nat) (m : NvmCmd), s.power.up = true ∧ (s.adm? c cid 0xC2 = some m)) ∧
    (∃ (s : State) (c q : Nat), s.power.up = true ∧ (s.thawReady c q = true)) :=
  ⟨⟨tS { tD with storage := { ctrls := [(0, { en := true, rdy := true, sqs := [(0, { size := 4, cq := 0, cmds := [{ cid := 5, seq := 9, sqe := 0, opcode := 1 }] })] })] }, hosts := { funcs := [(0, { bme := true })] } } [(Obj.FUNC_STATE, 0, 2), (Obj.LINK_STATE_8000, 0, 4), (Obj.READINESS, 0, 3), (Obj.VF_BUDGET, 0, 1), (Obj.NVME_FUNCTION, 0, 0)], 0, 5, _, by decide, rfl⟩,
   ⟨tS { tD with storage := { ctrls := [(0, { en := true, rdy := true, sqs := [(0, { size := 4, cq := 0, cmds := [{ cid := 5, seq := 9, sqe := 0, opcode := 0 }] })] })] }, hosts := { funcs := [(0, { bme := true })] } } [(Obj.FUNC_STATE, 0, 2), (Obj.LINK_STATE_8000, 0, 4), (Obj.READINESS, 0, 3), (Obj.VF_BUDGET, 0, 1), (Obj.NVME_FUNCTION, 0, 0)], 0, 5, _, by decide, rfl⟩,
   ⟨tS { tD with storage := { ctrls := [(0, { en := true, rdy := true, sqs := [(0, { size := 4, cq := 0, cmds := [{ cid := 5, seq := 9, sqe := 0, opcode := 5 }] })] })] }, hosts := { funcs := [(0, { bme := true })] } } [(Obj.FUNC_STATE, 0, 2), (Obj.LINK_STATE_8000, 0, 4), (Obj.READINESS, 0, 3), (Obj.VF_BUDGET, 0, 1), (Obj.NVME_FUNCTION, 0, 0)], 0, 5, _, by decide, rfl⟩,
   ⟨tS { tD with storage := { ctrls := [(0, { en := true, rdy := true, sqs := [(0, { size := 4, cq := 0, cmds := [{ cid := 5, seq := 9, sqe := 0, opcode := 4 }] })] })] }, hosts := { funcs := [(0, { bme := true })] } } [(Obj.FUNC_STATE, 0, 2), (Obj.LINK_STATE_8000, 0, 4), (Obj.READINESS, 0, 3), (Obj.VF_BUDGET, 0, 1), (Obj.NVME_FUNCTION, 0, 0)], 0, 5, _, by decide, rfl⟩,
   ⟨tS { tD with storage := { ctrls := [(0, { en := true, rdy := true, sqs := [(0, { size := 4, cq := 0, cmds := [{ cid := 5, seq := 9, sqe := 0, opcode := 2 }] })] })] }, hosts := { funcs := [(0, { bme := true })] } } [(Obj.FUNC_STATE, 0, 2), (Obj.LINK_STATE_8000, 0, 4), (Obj.READINESS, 0, 3), (Obj.VF_BUDGET, 0, 1), (Obj.NVME_FUNCTION, 0, 0)], 0, 5, [], _, _, _, by decide, rfl, rfl, rfl⟩,
   ⟨tS { tD with storage := { ctrls := [(0, { en := true, rdy := true, sqs := [(0, { size := 4, cq := 0, cmds := [{ cid := 5, seq := 9, sqe := 0, opcode := 6 }] })] })] }, hosts := { funcs := [(0, { bme := true })] } } [(Obj.FUNC_STATE, 0, 2), (Obj.LINK_STATE_8000, 0, 4), (Obj.READINESS, 0, 3), (Obj.VF_BUDGET, 0, 1), (Obj.NVME_FUNCTION, 0, 0)], 0, 5, [], _, _, _, by decide, rfl, rfl, rfl⟩,
   ⟨tS { tD with storage := { ctrls := [(0, { en := true, rdy := true, sqs := [(0, { size := 4, cq := 0, cmds := [{ cid := 5, seq := 9, sqe := 0, opcode := 8 }] })] })] }, hosts := { funcs := [(0, { bme := true })] } } [(Obj.FUNC_STATE, 0, 2), (Obj.LINK_STATE_8000, 0, 4), (Obj.READINESS, 0, 3), (Obj.VF_BUDGET, 0, 1), (Obj.NVME_FUNCTION, 0, 0)], 0, 5, _, by decide, rfl⟩,
   ⟨tS { tD with storage := { ctrls := [(0, { en := true, rdy := true, sqs := [(0, { size := 4, cq := 0, cmds := [{ cid := 5, seq := 9, sqe := 0, opcode := 9 }] })] })] }, hosts := { funcs := [(0, { bme := true })] } } [(Obj.FUNC_STATE, 0, 2), (Obj.LINK_STATE_8000, 0, 4), (Obj.READINESS, 0, 3), (Obj.VF_BUDGET, 0, 1), (Obj.NVME_FUNCTION, 0, 0)], 0, 5, _, by decide, rfl⟩,
   ⟨tS { tD with storage := { ctrls := [(0, { en := true, rdy := true, sqs := [(0, { size := 4, cq := 0, cmds := [{ cid := 5, seq := 9, sqe := 0, opcode := 0xA }] })] })] }, hosts := { funcs := [(0, { bme := true })] } } [(Obj.FUNC_STATE, 0, 2), (Obj.LINK_STATE_8000, 0, 4), (Obj.READINESS, 0, 3), (Obj.VF_BUDGET, 0, 1), (Obj.NVME_FUNCTION, 0, 0)], 0, 5, _, by decide, rfl⟩,
   ⟨tS { tD with storage := { ctrls := [(0, { en := true, rdy := true, sqs := [(0, { size := 4, cq := 0, cmds := [{ cid := 5, seq := 9, sqe := 0, opcode := 0xC }] })] })] }, hosts := { funcs := [(0, { bme := true })] } } [(Obj.FUNC_STATE, 0, 2), (Obj.LINK_STATE_8000, 0, 4), (Obj.READINESS, 0, 3), (Obj.VF_BUDGET, 0, 1), (Obj.NVME_FUNCTION, 0, 0)], 0, 5, _, by decide, rfl⟩,
   ⟨tS { tD with storage := { ctrls := [(0, { en := true, rdy := true, sqs := [(0, { size := 4, cq := 0, cmds := [{ cid := 5, seq := 9, sqe := 2 ^ 320, opcode := 0xD }] })] })] }, hosts := { funcs := [(0, { bme := true })] } } [(Obj.FUNC_STATE, 0, 2), (Obj.LINK_STATE_8000, 0, 4), (Obj.READINESS, 0, 3), (Obj.VF_BUDGET, 0, 1), (Obj.NVME_FUNCTION, 0, 0)], 0, 5, [], _, _, _, by decide, rfl, rfl, rfl⟩,
   ⟨tS { tD with storage := { ctrls := [(0, { en := true, rdy := true, sqs := [(0, { size := 4, cq := 0, cmds := [{ cid := 5, seq := 9, sqe := 0, opcode := 0x15 }] })] })] }, hosts := { funcs := [(0, { bme := true })], links := [(0, { tags := (List.range 8).map (fun i => (i, { req := { fn := 0, addr := 512 * i, off := 512 * i, bytes := 512, why := .nvmList 0 0 9 }, issued := 0 })) })] } } [(Obj.FUNC_STATE, 0, 2), (Obj.LINK_STATE_8000, 0, 4), (Obj.READINESS, 0, 3), (Obj.VF_BUDGET, 0, 1), (Obj.NVME_FUNCTION, 0, 0)], 0, 5, [], _, _, _, by decide, rfl, rfl, rfl⟩,
   ⟨tS { tD with storage := { ctrls := [(0, { en := true, rdy := true, sqs := [(0, { size := 4, cq := 0, cmds := [{ cid := 5, seq := 9, sqe := 0, opcode := 0xC2 }] })] })] }, hosts := { funcs := [(0, { bme := true })] } } [(Obj.FUNC_STATE, 0, 2), (Obj.LINK_STATE_8000, 0, 4), (Obj.READINESS, 0, 3), (Obj.VF_BUDGET, 0, 1), (Obj.NVME_FUNCTION, 0, 0)], 0, 5, _, by decide, rfl⟩,
   ⟨tS { tD with storage := { ctrls := [(0, { en := true, rdy := true, sqs := [(1, { size := 4, cq := 1, st := 2 })] })] }, hosts := { funcs := [(0, { bme := true })] } } [(Obj.FUNC_STATE, 0, 2), (Obj.LINK_STATE_8000, 0, 4), (Obj.READINESS, 0, 3), (Obj.VF_BUDGET, 0, 1), (Obj.NVME_FUNCTION, 0, 0)], 0, 1, by decide, by decide⟩⟩

theorem test_witness_CompletesNvmeIo :
    (∃ (s : State) (c q cid : Nat) (m : NvmCmd), s.power.up = true ∧ (s.io? c q cid 0 = some m)) ∧
    (∃ (s : State) (c q cid : Nat) (list : Option (List Nat)) (m : NvmCmd), s.power.up = true ∧ (s.io? c q cid 1 = some m)) ∧
    (∃ (s : State) (c q cid : Nat) (list : Option (List Nat)) (m : NvmCmd), s.power.up = true ∧ (s.io? c q cid 2 = some m)) ∧
    (∃ (s : State) (c q cid : Nat) (m : NvmCmd), s.power.up = true ∧ (s.io? c q cid 8 = some m)) ∧
    (∃ (s : State) (c q cid : Nat) (x : DsmData) (m : NvmCmd), s.power.up = true ∧ (s.io? c q cid 9 = some m)) ∧
    (∃ (s : State) (c q cid : Nat) (m : NvmCmd), s.power.up = true ∧ (s.heldOut c q cid = true) ∧ (s.cmd? c q cid = some m)) ∧
    (∃ (s : State) (c q t : Nat) (x : Sq), s.power.up = true ∧ (s.sq? c q = some x) ∧ (x.freezeDue = some t) ∧ (t < s.tick) ∧ (x.st = 0)) :=
  ⟨⟨tS { tD with storage := { ctrls := [(0, { en := true, rdy := true, sqs := [(1, { size := 4, cq := 1, cmds := [{ cid := 5, seq := 9, sqe := 0, opcode := 0 }] })] })] }, hosts := { funcs := [(0, { bme := true })] } } [(Obj.FUNC_STATE, 0, 2), (Obj.LINK_STATE_8000, 0, 4), (Obj.READINESS, 0, 3), (Obj.VF_BUDGET, 0, 1), (Obj.NVME_FUNCTION, 0, 0)], 0, 1, 5, _, by decide, rfl⟩,
   ⟨tS { tD with storage := { ctrls := [(0, { en := true, rdy := true, sqs := [(1, { size := 4, cq := 1, cmds := [{ cid := 5, seq := 9, sqe := 0, opcode := 1 }] })] })] }, hosts := { funcs := [(0, { bme := true })] } } [(Obj.FUNC_STATE, 0, 2), (Obj.LINK_STATE_8000, 0, 4), (Obj.READINESS, 0, 3), (Obj.VF_BUDGET, 0, 1), (Obj.NVME_FUNCTION, 0, 0)], 0, 1, 5, some [], _, by decide, rfl⟩,
   ⟨tS { tD with storage := { ctrls := [(0, { en := true, rdy := true, sqs := [(1, { size := 4, cq := 1, cmds := [{ cid := 5, seq := 9, sqe := 0, opcode := 2 }] })] })] }, hosts := { funcs := [(0, { bme := true })] } } [(Obj.FUNC_STATE, 0, 2), (Obj.LINK_STATE_8000, 0, 4), (Obj.READINESS, 0, 3), (Obj.VF_BUDGET, 0, 1), (Obj.NVME_FUNCTION, 0, 0)], 0, 1, 5, some [], _, by decide, rfl⟩,
   ⟨tS { tD with storage := { ctrls := [(0, { en := true, rdy := true, sqs := [(1, { size := 4, cq := 1, cmds := [{ cid := 5, seq := 9, sqe := 0, opcode := 8 }] })] })] }, hosts := { funcs := [(0, { bme := true })] } } [(Obj.FUNC_STATE, 0, 2), (Obj.LINK_STATE_8000, 0, 4), (Obj.READINESS, 0, 3), (Obj.VF_BUDGET, 0, 1), (Obj.NVME_FUNCTION, 0, 0)], 0, 1, 5, _, by decide, rfl⟩,
   ⟨tS { tD with storage := { ctrls := [(0, { en := true, rdy := true, sqs := [(1, { size := 4, cq := 1, cmds := [{ cid := 5, seq := 9, sqe := 0, opcode := 9 }] })] })] }, hosts := { funcs := [(0, { bme := true })] } } [(Obj.FUNC_STATE, 0, 2), (Obj.LINK_STATE_8000, 0, 4), (Obj.READINESS, 0, 3), (Obj.VF_BUDGET, 0, 1), (Obj.NVME_FUNCTION, 0, 0)], 0, 1, 5, ⟨[], []⟩, _, by decide, rfl⟩,
   ⟨tS { tD with storage := { ctrls := [(0, { en := true, rdy := true, sqs := [(1, { size := 4, cq := 1, cmds := [{ cid := 5, seq := 9, sqe := 0, opcode := 0, held := some 0, toFlush := [1] }] })] })] }, hosts := { funcs := [(0, { bme := true })] } } [(Obj.FUNC_STATE, 0, 2), (Obj.LINK_STATE_8000, 0, 4), (Obj.READINESS, 0, 3), (Obj.VF_BUDGET, 0, 1), (Obj.NVME_FUNCTION, 0, 0)], 0, 1, 5, _, by decide, by decide, rfl⟩,
   ⟨tS { tD with storage := { ctrls := [(0, { en := true, rdy := true, sqs := [(1, { size := 4, cq := 1, freezeDue := some (tT - 1) })] })] }, hosts := { funcs := [(0, { bme := true })] } } [(Obj.FUNC_STATE, 0, 2), (Obj.LINK_STATE_8000, 0, 4), (Obj.READINESS, 0, 3), (Obj.VF_BUDGET, 0, 1), (Obj.NVME_FUNCTION, 0, 0)], 0, 1, _, _, by decide, rfl, rfl, by decide, by decide⟩⟩

theorem test_witness_CompletesBackends :
    (∃ (s : State) (b c q m j status : Nat) (sec : Bool) (data : List Nat) (y : NvmCmd) (p : Piece), s.power.up = true ∧ (s.live b = true) ∧ (s.cmdBy? c q m = some y) ∧ (y.pieces[j]? = some p) ∧ ((if sec then p.secBk else p.priBk) = b)) ∧
    (∃ (s : State) (b c q m status : Nat) (data : List Nat), s.power.up = true ∧ (s.live b = true)) ∧
    (∃ (s : State) (b x status : Nat) (data : List Nat), s.power.up = true ∧ (s.live b = true)) ∧
    (∃ (s : State) (b i k status : Nat) (data : List Nat), s.power.up = true ∧ (s.live b = true)) ∧
    (∃ (s : State) (b : Nat), s.power.up = true ∧ ((s.live b || (s.obj Obj.BK_KIND b == 1 && s.driveAt (s.obj Obj.BK_ROOT_PORT b))) = true)) ∧
    (∃ (s : State) (b dataBytes metaBytes blocks : Nat) (cache : Bool) (atomicBytes boundary : Nat), s.power.up = true ∧ (s.obj Obj.BK_KIND b ≠ 0) ∧ ((s.obj Obj.BK_STATE b == 1 || s.obj Obj.BK_STATE b == 3) = true) ∧ (s.obj Obj.BK_KIND b = 1 → Tab.get? s.storage.drives (s.obj Obj.BK_ROOT_PORT b) = some true)) ∧
    (∃ (s : State) (b : Nat), s.power.up = true ∧ (s.live b = true) ∧ (2 ≤ s.obj Obj.BK_KIND b) ∧ (s.obj Obj.ROLE ≠ 4) ∧ ((s.back b).kaSent + s.obj Obj.KATO / 2 ≤ s.tick) ∧ (0 < s.obj Obj.KATO)) ∧
    (∃ (s : State) (b : Nat), s.power.up = true ∧ (s.live b = true) ∧ (2 ≤ s.obj Obj.BK_KIND b) ∧ (s.obj Obj.ROLE ≠ 4) ∧ ((s.back b).kaSent + s.obj Obj.KATO / 2 ≤ s.tick) ∧ ((s.back b).kaSeen + s.obj Obj.KATO ≤ s.tick)) ∧
    (∃ (s : State) (b : Nat), s.power.up = true ∧ (s.live b = true) ∧ (s.cmdTimedOut b = true)) ∧
    (∃ (s : State), s.power.up = true ∧ (s.storage.unsettled.any (fun u => decide (u.settle ≤ s.tick)) = true)) ∧
    (∃ (s : State) (x : Nat), s.power.up = true ∧ (s.resyncReady x = true)) ∧
    (∃ (s : State) (x : Nat) (good : Bool), s.power.up = true ∧ (s.sync x = 2) ∧ (good = true → s.storage.own.any (fun o => o.op == .copy x && o.writing) = true)) ∧
    (∃ (s : State) (x i : Nat), s.power.up = true ∧ (s.nsOfSlot x = some i) ∧ (s.intentOld i x = true)) ∧
    (∃ (s : State) (i : Nat), s.power.up = true ∧ (s.storage.deleting.any (fun d => d.1 == i) = true) ∧ (s.storage.ctrls.all (fun c => c.2.sqs.all (fun q => q.2.cmds.all (fun m => m.nsid != i + 1))) = true)) :=
  ⟨⟨tS { tD with storage := { ctrls := [(0, { en := true, rdy := true, sqs := [(1, { size := 4, cq := 1, cmds := [{ cid := 5, seq := 9, sqe := 0, opcode := 2, pieces := [{ slot := 0, slba := 0, blocks := 1, priBk := 1023, pri := .inFlight, issued := some 0, first := some 0 }] }] })] })] }, hosts := { funcs := [(0, { bme := true })] } } [(Obj.FUNC_STATE, 0, 2), (Obj.LINK_STATE_8000, 0, 4), (Obj.READINESS, 0, 3), (Obj.VF_BUDGET, 0, 1), (Obj.NVME_FUNCTION, 0, 0), (Obj.BK_STATE, 1023, 2)], 1023, 0, 1, 9, 0, 0, false, [], _, _, by decide, by decide, rfl, rfl, by decide⟩,
   ⟨tS tD [(Obj.BK_STATE, 1023, 2)], 1023, 0, 1, 9, 0, [], by decide, by decide⟩,
   ⟨tS tD [(Obj.BK_STATE, 1023, 2)], 1023, 0, 0, [], by decide, by decide⟩,
   ⟨tS tD [(Obj.BK_STATE, 1023, 2)], 1023, 0, 0, 0, [], by decide, by decide⟩,
   ⟨tS tD [(Obj.BK_STATE, 1023, 2)], 1023, by decide, by decide⟩,
   ⟨tS tD [(Obj.BK_KIND, 1023, 2), (Obj.BK_STATE, 1023, 3)], 1023, 4096, 8, 1, true, 4096, 0, by decide, by decide, by decide, by decide⟩,
   ⟨tS tD [(Obj.BK_STATE, 1023, 2), (Obj.BK_KIND, 1023, 2)], 1023, by decide, by decide, by decide, by decide, by decide, by decide⟩,
   ⟨tS tD [(Obj.BK_STATE, 1023, 2), (Obj.BK_KIND, 1023, 2)], 1023, by decide, by decide, by decide, by decide, by decide, by decide⟩,
   ⟨tS { tD with storage := { ctrls := [(0, { en := true, rdy := true, sqs := [(1, { size := 4, cq := 1, cmds := [{ cid := 5, seq := 9, sqe := 0, opcode := 2, pieces := [{ slot := 0, slba := 0, blocks := 1, priBk := 1023, pri := .inFlight, issued := some 0, first := some 0 }] }] })] })] }, hosts := { funcs := [(0, { bme := true })] } } [(Obj.FUNC_STATE, 0, 2), (Obj.LINK_STATE_8000, 0, 4), (Obj.READINESS, 0, 3), (Obj.VF_BUDGET, 0, 1), (Obj.NVME_FUNCTION, 0, 0), (Obj.BK_STATE, 1023, 2)], 1023, by decide, by decide, by decide⟩,
   ⟨tS { tD with storage := { unsettled := [{ slot := 0, slba := 0, blocks := 1, nsid := 1, ctrl := 0, sqid := 1, mirrored := false, settle := tT }] } } [], by decide, by decide⟩,
   ⟨tS tD [(Obj.EXTENT, 9, 1 + 4 + 1 * 2 ^ 96 + 1022 * 2 ^ 108 + 1023 * 2 ^ 118), (Obj.BK_STATE, 1023, 2), (Obj.BK_STATE, 1022, 2)], 9, by decide, by decide⟩,
   ⟨tS { tD with storage := { own := [{ op := .copy 9, backend := 1023, writing := true }] } } [(Obj.EXTENT, 9, 1 + 4 + 2 * 2 ^ 96 + 1022 * 2 ^ 108 + 1023 * 2 ^ 118)], 9, true, by decide, by decide, by decide⟩,
   ⟨tS { tD with storage := { nss := [(0, { blocks := 256 })], intents := [(0, 0)] } } [], 0, _, by decide, rfl, by decide⟩,
   ⟨tS { tD with storage := { deleting := [(0, 0, 1)] } } [], 0, by decide, by decide, by decide⟩⟩

theorem test_witness_CompletesCipher :
    (∃ (s : State) (h rec : Nat) (fin : Bool), s.power.up = true ∧ (h < s.part.threads) ∧ (s.inService (h / 32) = true)) ∧
    (∃ (s : State) (h rec : Nat), s.power.up = true ∧ (h < s.part.threads) ∧ (s.inService (h / 32) = true)) ∧
    (∃ (s : State) (d i : Nat) (fin : Bool), s.power.up = true ∧ (s.parcelJob d i = true) ∧ (s.sliceGo d i = true)) ∧
    (∃ (s : State) (d : Nat), s.power.up = true ∧ (s.edgeTodo.contains .budgets = true) ∧ (s.inService d = true)) ∧
    (∃ (s : State) (d i : Nat) (poison : Option (Nat × Nat)) (j : SliceJob), s.power.up = true ∧ (s.inService d = true) ∧ ((s.sliceJobs d)[i]? = some j) ∧ (j.keyMiss = true)) ∧
    (∃ (s : State) (d i : Nat) (j : SliceJob), s.power.up = true ∧ ((s.sliceJobs d)[i]? = some j) ∧ (j.starved s.tick = true)) ∧
    (∃ (s : State) (d : Nat), s.power.up = true ∧ (s.inService d = true) ∧ (s.rngFault (d / 16) = false)) ∧
    (∃ (s : State) (c : Nat), s.power.up = true ∧ (c < s.part.cabinets) ∧ (s.rngFault c = false)) ∧
    (∃ (s : State) (c : Nat), s.power.up = true ∧ (c < s.part.cabinets) ∧ (s.rngFault c = true)) ∧
    (∃ (s : State) (d sensor value : Nat), s.power.up = true ∧ (s.inService d = true) ∧ ((1 ≤ sensor ∧ sensor ≤ 5))) ∧
    (∃ (s : State) (d : Nat) (pass : Bool), s.power.up = true ∧ (s.inService d = true) ∧ (s.obj Obj.SLICE_STATE d = 0)) :=
  ⟨⟨tS tD [], 2047, 0, true, by decide, by decide, by decide⟩,
   ⟨tS tD [], 2047, 0, by decide, by decide, by decide⟩,
   ⟨tS { tD with cipher := { jobs := [(63, [{ cls := 3, work := .parcel { p := { kind := 1 }, ingress := none, takeTick := 0, cfg := [] } false }])] } } [(Obj.SLICE_STATE, 63, 1)], 63, 0, true, by decide, by decide, by decide⟩,
   ⟨tS tD [], 63, by decide, by decide, by decide⟩,
   ⟨tS { tD with cipher := { jobs := [(63, [{ cls := 3, work := .parcel { p := { kind := 1 }, ingress := none, takeTick := 0, cfg := [] } false, keyMiss := true }])] } } [], 63, 0, none, _, by decide, by decide, rfl, by decide⟩,
   ⟨tS { tD with cipher := { jobs := [(63, [{ cls := 3, work := .parcel { p := { kind := 1 }, ingress := none, takeTick := 0, cfg := [] } false, rngSince := some (tT - 2048) }])] } } [], 63, 0, _, by decide, rfl, by decide⟩,
   ⟨tS tD [], 63, by decide, by decide, by decide⟩,
   ⟨tS tD [], 3, by decide, by decide, by decide⟩,
   ⟨tS tD [(Obj.RNG_STATE, 0, 8)], 3, by decide, by decide, by decide⟩,
   ⟨tS tD [], 63, 5, 0, by decide, by decide, by decide⟩,
   ⟨tS tD [], 63, true, by decide, by decide, by decide⟩⟩

theorem test_witness_CompletesPostmark :
    (∃ (s : State) (h rec : Nat), s.power.up = true ∧ (h < s.part.threads) ∧ (s.inService (h / 32) = true)) ∧
    (∃ (s : State) (h rec : Nat), s.power.up = true ∧ (h < s.part.threads) ∧ (s.inService (h / 32) = true)) ∧
    (∃ (s : State) (h rec : Nat), s.power.up = true ∧ (h < s.part.threads) ∧ (s.inService (h / 32) = true)) ∧
    (∃ (s : State) (agree : Bool) (k : Int), s.power.up = true ∧ (s.ppsDue = some k) ∧ (bit (s.obj Obj.PPS_STATUS) 2 = false)) ∧
    (∃ (s : State) (cap : Nat), s.power.up = true ∧ (cap / 4096 = s.tick)) ∧
    (∃ (s : State), s.power.up = true ∧ (bit (s.obj Obj.PPS_STATUS) 0 = true) ∧ (s.postmark.ppsInTick + 3906250 ≤ s.tick)) ∧
    (∃ (s : State) (edges : Nat), s.power.up = true ∧ (s.tick % 2 ^ 21 = 0) ∧ (s.postmark.refWindow ≠ s.tick)) ∧
    (∃ (s : State), s.power.up = true ∧ (s.obj Obj.REF10M_STATE = 1) ∧ (s.refSilent = true)) :=
  ⟨⟨tS tD [], 2047, 0, by decide, by decide, by decide⟩,
   ⟨tS tD [], 2047, 0, by decide, by decide, by decide⟩,
   ⟨tS tD [], 2047, 0, by decide, by decide, by decide⟩,
   ⟨tS { tD with postmark := { bases := [(0, { val := 1000000000 * 2 ^ 48 - 1 })] } } [(Obj.PPS_OUT_TB, 0, 0)], true, 1, by decide, by decide +kernel, by decide⟩,
   ⟨tS tD [], tT * 4096 + 4095, by decide, by decide⟩,
   ⟨tS { tD with postmark := { ppsInTick := tT - 3906250 } } [(Obj.PPS_STATUS, 0, 1)], by decide, by decide, by decide⟩,
   ⟨tS tD [], 0, by decide, by decide, by decide⟩,
   ⟨tS tD [(Obj.REF10M_STATE, 0, 1)], by decide, by decide, by decide⟩⟩

theorem test_witness_CompletesThreads :
    (∃ (s : State) (h fetchErr err : Nat), s.power.up = true ∧ (s.issues h = true)) ∧
    (∃ (s : State) (h : Nat), s.power.up = true ∧ (s.issues h = true)) ∧
    (∃ (s : State) (h : Nat), s.power.up = true ∧ (s.issues h = true)) ∧
    (∃ (s : State) (h target : Nat), s.power.up = true ∧ ((s.sigFor h target).isSome = true)) ∧
    (∃ (s : State) (h : Nat), s.power.up = true ∧ (s.issues h = true)) ∧
    (∃ (s : State) (h : Nat), s.power.up = true ∧ (s.issues h = true)) ∧
    (∃ (s : State) (h : Nat), s.power.up = true ∧ (s.issues h = true)) ∧
    (∃ (s : State) (h : Nat), s.power.up = true ∧ (s.issues h = true)) ∧
    (∃ (s : State) (h : Nat), s.power.up = true ∧ (s.issues h = true)) ∧
    (∃ (s : State) (h : Nat), s.power.up = true ∧ (s.timedOut h = true)) ∧
    (∃ (s : State) (h : Nat), s.power.up = true ∧ (s.hartRuns h = true) ∧ ((s.hart h).wait = .run) ∧ ((s.intNext h).isSome = true)) ∧
    (∃ (s : State) (n : Nat), s.power.up = true ∧ (s.edgeTodo.contains .stall = true) ∧ (s.stalled n = true)) ∧
    (∃ (s : State) (h : Nat), s.power.up = true ∧ (s.debugOk = true) ∧ (s.hartRuns h = true)) ∧
    (∃ (s : State) (h : Nat), s.power.up = true ∧ (s.inDebug h = true)) ∧
    (∃ (s : State) (h E : Nat), s.power.up = true ∧ (s.inDebug h = true) ∧ (E / 32 = h / 8)) :=
  ⟨⟨tS { tD with cores := { harts := [(2047, { on := true })] } } [], 2047, 0, 0, by decide, by decide⟩,
   ⟨tS { tD with cores := { harts := [(2047, { on := true })] } } [], 2047, by decide, by decide⟩,
   ⟨tS { tD with cores := { harts := [(2047, { on := true })] } } [], 2047, by decide, by decide⟩,
   ⟨tS { tD with cores := { sigs := [(2047, 2046, 15)] } } [], 2047, 2046, by decide, by decide⟩,
   ⟨tS { tD with cores := { harts := [(2047, { on := true })] } } [], 2047, by decide, by decide⟩,
   ⟨tS { tD with cores := { harts := [(2047, { on := true })] } } [], 2047, by decide, by decide⟩,
   ⟨tS { tD with cores := { harts := [(2047, { on := true })] } } [], 2047, by decide, by decide⟩,
   ⟨tS { tD with cores := { harts := [(2047, { on := true })] } } [], 2047, by decide, by decide⟩,
   ⟨tS { tD with cores := { harts := [(2047, { on := true })] } } [], 2047, by decide, by decide⟩,
   ⟨tS { tD with cores := { harts := [(2047, { on := true, wait := .get 31 1, left := some 0 })] } } [], 2047, by decide, by decide⟩,
   ⟨tS { tD with cores := { harts := [(2047, { on := true, mie_ := true, mie := 0x200000, mip := 0x200000 })] } } [], 2047, by decide, by decide, by decide, by decide⟩,
   ⟨tS { tD with cores := { harts := (List.range 8).map (fun i => (2040 + i, { on := true, wait := .event 0 1 })) } } [], 255, by decide, by decide, by decide⟩,
   ⟨tS { tD with cores := { harts := [(2047, { on := true })] }, boot := { fuses := { lifeCycle := 3 } } } [], 2047, by decide, by decide, by decide⟩,
   ⟨tS { tD with cores := { harts := [(2047, { on := true, halted := true })] }, boot := { fuses := { lifeCycle := 0 } } } [], 2047, by decide, by decide⟩,
   ⟨tS { tD with cores := { harts := [(2047, { on := true, halted := true })] }, boot := { fuses := { lifeCycle := 0 } } } [], 2047, 255 * 32 + 31, by decide, by decide, by decide⟩⟩

theorem test_witness_CompletesBoot :
    (∃ (s : State) (puf : Bool), s.power.up = true ∧ (s.bootIn 0 = true)) ∧
    (∃ (s : State), s.power.up = true ∧ (s.bootIn 1 = true) ∧ (s.boot.early = false)) ∧
    (∃ (s : State) (density vddq : Nat) (good : Bool) (ch : Nat), s.power.up = true ∧ (s.obj Obj.MEM_STATE = 1) ∧ ((density == 1 || density == 2) = true) ∧ (vddq ≤ 1)) ∧
    (∃ (s : State), s.power.up = true ∧ (s.obj Obj.MEM_STATE = 2)) ∧
    (∃ (s : State), s.power.up = true ∧ (s.bootIn 1 = true) ∧ (s.boot.early = true) ∧ (s.boot.booted.isNone = true)) ∧
    (∃ (s : State) (failed : List Nat), s.power.up = true ∧ (s.bootIn 1 = true) ∧ (s.boot.booted.isSome = true) ∧ (s.obj Obj.MEM_STATE = 3) ∧ (s.boot.released.isNone = true)) ∧
    (∃ (s : State), s.power.up = true ∧ (s.bootIn 1 = true) ∧ (s.boot.released.isSome = true)) ∧
    (∃ (s : State), s.power.up = true ∧ (s.bootIn 2 = true)) ∧
    (∃ (s : State) (t : Nat), s.power.up = true ∧ (s.boot.released = some t) ∧ (t + 7812500 ≤ s.tick) ∧ ((s.obj Obj.READINESS = 1 ∨ s.obj Obj.READINESS = 2))) ∧
    (∃ (s : State), s.power.up = true ∧ (s.obj Obj.IMG_STATE = 1)) ∧
    (∃ (s : State), s.power.up = true ∧ (s.obj Obj.IMG_STATE = 3)) ∧
    (∃ (s : State), s.power.up = true ∧ (s.obj Obj.IMG_STATE = 4)) ∧
    (∃ (s : State), (s.power.vaux = true) ∧ (s.boot.accepted.isSome = true)) :=
  ⟨⟨tS tD [], true, by decide, by decide⟩,
   ⟨tS tD [(Obj.READINESS, 0, 1)], by decide, by decide, by decide⟩,
   ⟨tS tD [(Obj.MEM_STATE, 0, 1)], 2, 1, true, 0, by decide, by decide, by decide, by decide⟩,
   ⟨tS tD [(Obj.MEM_STATE, 0, 2)], by decide, by decide⟩,
   ⟨tS { tD with boot := { early := true } } [(Obj.READINESS, 0, 1)], by decide, by decide, by decide, by decide⟩,
   ⟨tS { tD with boot := { booted := some 0 } } [(Obj.READINESS, 0, 1), (Obj.MEM_STATE, 0, 3)], [], by decide, by decide, by decide, by decide, by decide⟩,
   ⟨tS { tD with boot := { released := some 0 } } [(Obj.READINESS, 0, 1)], by decide, by decide, by decide⟩,
   ⟨tS tD [(Obj.READINESS, 0, 2)], by decide, by decide⟩,
   ⟨tS { tD with boot := { released := some (tT - 7812500) } } [(Obj.READINESS, 0, 1)], _, by decide, rfl, by decide, by decide⟩,
   ⟨tS tD [(Obj.IMG_STATE, 0, 1)], by decide, by decide⟩,
   ⟨tS tD [(Obj.IMG_STATE, 0, 3)], by decide, by decide⟩,
   ⟨tS tD [(Obj.IMG_STATE, 0, 4)], by decide, by decide⟩,
   ⟨tS { tD with boot := { accepted := some 4 } } [], by decide, by decide⟩⟩

theorem test_witness_CompletesPower :
    (∃ (s : State) (straps : Nat) (high : Bool), (s.power.vaux = false)) ∧
    (∃ (s : State), (s.power.vaux = true) ∧ (s.power.main = false)) ∧
    (∃ (s : State), (s.power.main = true)) ∧
    (∃ (s : State), (s.power.vaux = true) ∧ (s.power.main = true)) ∧
    (∃ (s : State), (s.power.main = true) ∧ (s.power.dclk = false)) ∧
    (∃ (s : State) (target : Nat) (ack : Bool), s.power.up = true ∧ (s.obj Obj.READINESS = 3) ∧ (s.pins.avsTick + 2048 ≤ s.tick) ∧ (bit (s.obj Obj.RAIL_STATUS) 6 = false)) ∧
    (∃ (s : State), (s.power.main = true) ∧ (s.pins.thermtrip = false)) ∧
    (∃ (s : State) (c : Nat) (t0 t1 : Int), s.power.up = true ∧ (c < s.part.memCtrls) ∧ (s.obj Obj.MEM_STATE = 3)) ∧
    (∃ (s : State) (addr : Nat), s.power.up = true ∧ (s.obj Obj.MEM_STATE = 3) ∧ ((s.regionOf addr).isSome = true)) ∧
    (∃ (s : State) (addr : Nat), s.power.up = true ∧ (s.obj Obj.MEM_STATE = 3) ∧ ((s.regionOf addr).isSome = true)) ∧
    (∃ (s : State) (addr found : Nat), s.power.up = true ∧ (s.obj Obj.MEM_STATE = 3) ∧ ((s.regionOf addr).isSome = true) ∧ (2 ≤ found)) :=
  ⟨⟨tS { power := { vaux := false } } [], 15, true, by decide⟩,
   ⟨tS {} [], by decide, by decide⟩,
   ⟨tS tD [], by decide⟩,
   ⟨tS tD [], by decide, by decide⟩,
   ⟨tS { power := { main := true } } [], by decide, by decide⟩,
   ⟨tS { tD with pins := { avsTick := tT - 2048 } } [(Obj.READINESS, 0, 3)], 0, true, by decide, by decide, by decide, by decide⟩,
   ⟨tS tD [], by decide, by decide⟩,
   ⟨tS tD [(Obj.MEM_STATE, 0, 3)], 11, 0, 0, by decide, by decide, by decide⟩,
   ⟨tS tD [(Obj.MEM_STATE, 0, 3), (Obj.MEM_USABLE_BYTES, 0, 96 * 2 ^ 30)], gddrBase, by decide, by decide, by decide⟩,
   ⟨tS tD [(Obj.MEM_STATE, 0, 3), (Obj.MEM_USABLE_BYTES, 0, 96 * 2 ^ 30)], gddrBase + 96 * 2 ^ 30 - 1, by decide, by decide, by decide⟩,
   ⟨tS tD [(Obj.MEM_STATE, 0, 3), (Obj.MEM_USABLE_BYTES, 0, 96 * 2 ^ 30)], gddrBase, 2, by decide, by decide, by decide, by decide⟩⟩

theorem test_witness_CompletesTwin :
    (∃ (s : State), s.power.up = true ∧ (s.flag Obj.TWIN_ENABLE = true) ∧ (s.obj Obj.READINESS = 3) ∧ (s.twin.downSince.isSome = true) ∧ (bit (s.obj Obj.SIDEBAND_STATUS) 13 = false)) ∧
    (∃ (s : State) (serial part pair role seq digest : Nat), s.power.up = true ∧ (s.flag Obj.TWIN_ENABLE = true) ∧ (s.twin.downSince.isNone = true) ∧ ((s.obj Obj.TWIN_LINK_STATE = 1 ∨ s.obj Obj.TWIN_LINK_STATE = 2)) ∧ (serial ≠ s.obj Obj.PEER_SERIAL ∨ part ≠ s.obj Obj.PART_CODE ∨ pair ≠ s.obj Obj.PAIR_ID)) ∧
    (∃ (s : State) (role seq digest : Nat), s.power.up = true ∧ (s.flag Obj.TWIN_ENABLE = true) ∧ (s.twin.downSince.isNone = true) ∧ ((s.obj Obj.TWIN_LINK_STATE = 1 ∨ s.obj Obj.TWIN_LINK_STATE = 2))) ∧
    (∃ (s : State) (m : MirrorMsg), s.power.up = true ∧ (s.flag Obj.TWIN_ENABLE = true) ∧ ((s.obj Obj.ROLE = 2 ∨ s.obj Obj.ROLE = 3)) ∧ (s.obj Obj.TWIN_LINK_STATE = 2)) ∧
    (∃ (s : State) (n : Nat) (op : SyncOp) (rest : List (Nat × SyncOp)), s.power.up = true ∧ (s.flag Obj.TWIN_ENABLE = true) ∧ (s.twin.sent = (n, op) :: rest)) ∧
    (∃ (s : State) (down : Nat), s.power.up = true ∧ (s.edgeTodo.contains .lease = true) ∧ (s.lossFound down = true)) ∧
    (∃ (s : State), s.power.up = true ∧ (s.flag Obj.TWIN_ENABLE = true) ∧ (s.mirrors = true) ∧ (s.twin.lastSync + s.obj Obj.TWIN_PERIOD ≤ s.tick)) ∧
    (∃ (s : State), s.power.up = true ∧ (s.flag Obj.TWIN_ENABLE = true) ∧ (s.maySync = true)) ∧
    (∃ (s : State), s.power.up = true ∧ (s.flag Obj.TWIN_ENABLE = true) ∧ (s.obj Obj.ROLE = 1) ∧ (s.twin.released = false) ∧ (s.leaseTime = true)) ∧
    (∃ (s : State), s.power.up = true ∧ (s.flag Obj.TWIN_ENABLE = true) ∧ (s.obj Obj.ROLE ≠ 1) ∧ (s.leaseTime = true)) ∧
    (∃ (s : State) (sess : Sess) (t seq term pair : Nat), s.power.up = true ∧ (s.witness (sessKey sess) = true)) ∧
    (∃ (s : State) (u : Dev) (t seq term : Nat), s.power.up = true ∧ (u.flag Obj.TWIN_ENABLE = true) ∧ (u.obj Obj.READINESS = 3) ∧ (u.twin.renews.contains t = true) ∧ (u.obj Obj.ROLE = 0)) ∧
    (∃ (s : State) (u : Dev) (t term : Nat), s.power.up = true ∧ (u.flag Obj.TWIN_ENABLE = true) ∧ (u.obj Obj.READINESS = 3) ∧ (u.twin.renews.contains t = true) ∧ (u.obj Obj.ROLE = 1) ∧ (u.twin.released = false) ∧ (u.tick < u.obj Obj.LEASE_DEADLINE)) ∧
    (∃ (s : State) (sess : Sess) (rs pair seq term : Nat), s.power.up = true ∧ (s.witness (sessKey sess) = true)) ∧
    (∃ (s : State) (u : Dev) (key rs pair seq term : Nat), s.power.up = true ∧ (u.obj Obj.READINESS = 3) ∧ (u.grantBad pair seq = false) ∧ (u.obj Obj.ROLE = 2)) ∧
    (∃ (s : State) (u : Dev) (key rs pair seq term : Nat), s.power.up = true ∧ (u.obj Obj.READINESS = 3) ∧ (u.grantBad pair seq = true)) ∧
    (∃ (s : State) (u : Dev) (key rs pair seq term : Nat), s.power.up = true ∧ (u.obj Obj.READINESS = 3) ∧ (u.grantBad pair seq = false) ∧ (u.obj Obj.ROLE = 0)) ∧
    (∃ (s : State) (e seq term : Nat), s.power.up = true ∧ (s.flag Obj.TWIN_ENABLE = true) ∧ (s.edgeTodo.contains .lease = true) ∧ (s.twin.takeover = some (e, seq, term, false)) ∧ (s.obj Obj.ROLE = 2) ∧ (e ≤ s.tick)) ∧
    (∃ (s : State) (e seq term : Nat), s.power.up = true ∧ (s.flag Obj.TWIN_ENABLE = true) ∧ (s.edgeTodo.contains .lease = true) ∧ (s.twin.takeover = some (e, seq, term, true)) ∧ (s.obj Obj.ROLE = 2) ∧ (e + s.obj Obj.FENCE_GUARD ≤ s.tick)) ∧
    (∃ (s : State) (t k : Nat), s.power.up = true ∧ (s.flag Obj.TWIN_ENABLE = true) ∧ (s.twin.announce = some (t, k)) ∧ (s.obj Obj.ROLE = 1) ∧ (t + 2048 * (3 - k) ≤ s.tick)) ∧
    (∃ (s : State) (stays : Bool), s.power.up = true ∧ (s.flag Obj.TWIN_ENABLE = true) ∧ (s.obj Obj.ROLE ≠ 4)) ∧
    (∃ (s : State), s.power.up = true ∧ (s.flag Obj.TWIN_ENABLE = true) ∧ (s.obj Obj.ROLE = 1) ∧ (s.twin.switching = true) ∧ (s.twin.released = false) ∧ (s.twin.sent.isEmpty = true)) :=
  ⟨⟨tS tD [(Obj.TWIN_ENABLE, 0, 1), (Obj.READINESS, 0, 3)], by decide, by decide, by decide, by decide, by decide⟩,
   ⟨tS { tD with twin := { downSince := none } } [(Obj.TWIN_ENABLE, 0, 1), (Obj.TWIN_LINK_STATE, 0, 1)], 1, 0, 0, 0, 0, 0, by decide, by decide, by decide, by decide, by decide⟩,
   ⟨tS { tD with twin := { downSince := none } } [(Obj.TWIN_ENABLE, 0, 1), (Obj.TWIN_LINK_STATE, 0, 2)], 0, 0, 0, by decide, by decide, by decide, by decide⟩,
   ⟨tS tD [(Obj.TWIN_ENABLE, 0, 1), (Obj.ROLE, 0, 3), (Obj.TWIN_LINK_STATE, 0, 2)], .retire 0, by decide, by decide, by decide, by decide⟩,
   ⟨tS { tD with twin := { sent := [(0, .piece 0 0 0 0 0)] } } [(Obj.TWIN_ENABLE, 0, 1)], _, _, _, by decide, by decide, rfl⟩,
   ⟨tS { tD with twin := { mirroring := true } } [(Obj.TWIN_ENABLE, 0, 1), (Obj.ROLE, 0, 1)], 2 ^ 32, by decide, by decide, by decide⟩,
   ⟨tS { tD with twin := { mirroring := true } } [(Obj.TWIN_ENABLE, 0, 1), (Obj.ROLE, 0, 1)], by decide, by decide, by decide, by decide⟩,
   ⟨tS tD [(Obj.TWIN_ENABLE, 0, 1), (Obj.ROLE, 0, 3), (Obj.TWIN_LINK_STATE, 0, 2)], by decide, by decide, by decide⟩,
   ⟨tS tD [(Obj.TWIN_ENABLE, 0, 1), (Obj.ROLE, 0, 1), (Obj.READINESS, 0, 3)], by decide, by decide, by decide, by decide, by decide⟩,
   ⟨tS tD [(Obj.TWIN_ENABLE, 0, 1), (Obj.ROLE, 0, 4), (Obj.READINESS, 0, 3)], by decide, by decide, by decide, by decide⟩,
   ⟨tS { tD with bureau := { sessions := [(0x1000F, { who := .witness })] }, twin := { renews := [5] } } [(Obj.TWIN_ENABLE, 0, 1), (Obj.READINESS, 0, 3)], (.xeh 15), 5, 1, 0, 0, by decide, by decide⟩,
   ⟨tS tD [], (tS { tD with twin := { renews := [5] } } [(Obj.TWIN_ENABLE, 0, 1), (Obj.READINESS, 0, 3)]).toDev, 5, 1, 0, by decide, by decide, by decide, by decide, by decide⟩,
   ⟨tS tD [], (tS { tD with twin := { renews := [5] } } [(Obj.TWIN_ENABLE, 0, 1), (Obj.ROLE, 0, 1), (Obj.READINESS, 0, 3), (Obj.LEASE_DEADLINE, 0, tT + 1)]).toDev, 5, 0, by decide, by decide, by decide, by decide, by decide, by decide, by decide⟩,
   ⟨tS { tD with bureau := { sessions := [(0x1000F, { who := .witness })] }, twin := { renews := [5] } } [(Obj.TWIN_ENABLE, 0, 1), (Obj.ROLE, 0, 2), (Obj.READINESS, 0, 3)], (.xeh 15), 0, 0, 1, 0, by decide, by decide⟩,
   ⟨tS tD [], (tS tD [(Obj.TWIN_ENABLE, 0, 1), (Obj.ROLE, 0, 2), (Obj.READINESS, 0, 3)]).toDev, 0x1000F, 0, 0, 1, 0, by decide, by decide, by decide, by decide⟩,
   ⟨tS tD [], (tS tD [(Obj.TWIN_ENABLE, 0, 1), (Obj.ROLE, 0, 2), (Obj.READINESS, 0, 3)]).toDev, 0x1000F, 0, 0, 0, 0, by decide, by decide, by decide⟩,
   ⟨tS tD [], (tS tD [(Obj.TWIN_ENABLE, 0, 1), (Obj.READINESS, 0, 3)]).toDev, 0x1000F, 0, 0, 1, 0, by decide, by decide, by decide, by decide⟩,
   ⟨tS { tD with twin := { takeover := some (tT, 1, 0, false) } } [(Obj.TWIN_ENABLE, 0, 1), (Obj.ROLE, 0, 2)], _, _, _, by decide, by decide, by decide, rfl, by decide, by decide⟩,
   ⟨tS { tD with twin := { takeover := some (0, 1, 0, true) } } [(Obj.TWIN_ENABLE, 0, 1), (Obj.ROLE, 0, 2)], _, _, _, by decide, by decide, by decide, rfl, by decide, by decide⟩,
   ⟨tS { tD with twin := { announce := some (tT - 4096, 1) } } [(Obj.TWIN_ENABLE, 0, 1), (Obj.ROLE, 0, 1)], _, _, by decide, by decide, rfl, by decide, by decide⟩,
   ⟨tS tD [(Obj.TWIN_ENABLE, 0, 1)], true, by decide, by decide, by decide⟩,
   ⟨tS { tD with twin := { switching := true } } [(Obj.TWIN_ENABLE, 0, 1), (Obj.ROLE, 0, 1)], by decide, by decide, by decide, by decide, by decide, by decide⟩⟩

theorem test_witness_CompletesSignals :
    (∃ (s : State) (b : Nat), (s.power.vaux = true) ∧ (b ≤ 10) ∧ (s.sideOn b = false) ∧ ((b = 0 → s.twin.peerFence = true)) ∧ ((b = 1 → s.pins.thermtrip = true))) ∧
    (∃ (s : State) (b : Nat), (s.power.vaux = true) ∧ (b ≤ 10)) ∧
    (∃ (s : State) (i level : Nat) (phase held : Bool), (s.power.vaux = true) ∧ (i < 4)) ∧
    (∃ (s : State) (pmb : Bool), (s.power.vaux = true) ∧ (s.sideOn (busBit pmb) = false)) ∧
    (∃ (s : State) (pmb : Bool), (s.power.vaux = true)) ∧
    (∃ (s : State), s.power.up = true ∧ (s.sideOn 13 = false)) ∧
    (∃ (s : State), s.power.up = true ∧ (s.sideOn 13 = true)) ∧
    (∃ (s : State), (s.power.vaux = true)) :=
  ⟨⟨tS tD [(Obj.SIDEBAND_STATUS, 0, 0)], 10, by decide, by decide, by decide, by decide, by decide⟩,
   ⟨tS tD [], 10, by decide, by decide⟩,
   ⟨tS tD [], 3, 0, true, true, by decide, by decide⟩,
   ⟨tS tD [], true, by decide, by decide⟩,
   ⟨tS tD [], true, by decide⟩,
   ⟨tS tD [], by decide, by decide⟩,
   ⟨tS tD [(Obj.SIDEBAND_STATUS, 0, 2 ^ 13)], by decide, by decide⟩,
   ⟨tS tD [], by decide⟩⟩

end Sys2Proof.Tests
end

section
/-! The compatibility level after a cold reset (R7): the straps are sampled after the objects take their defaults, and nothing that follows
in the reset writes COMPAT_LEVEL. -/
namespace Sys2Proof.Machine

/-! ### The steps of a cold reset leave the pins as they were -/

@[simp] theorem Dev.lcApply_pins (s : Dev) : s.lcApply.pins = s.pins := by
  unfold Dev.lcApply; split <;> rfl

@[simp] theorem Dev.resetBoot_pins (s : Dev) (cold : Bool) : (s.resetBoot cold).pins = s.pins := by
  cases cold <;> rfl

@[simp] theorem Dev.resetUnits_pins (s : Dev) : s.resetUnits.pins = s.pins := rfl

/-! ### COMPAT_LEVEL through a reset -/

/-- The compatibility level that a strap word selects: bit 0 is COMPAT_IK7 (R7, 0x10B0.01). -/
def strapLevel (straps : Nat) : Nat := if straps % 2 = 1 then 7 else 9

/-- Only the strap word's lowest bit counts, so that cutting it to the four straps changes nothing. -/
theorem strapLevel_mod16 (v : Nat) : strapLevel (v % 16) = strapLevel v := by
  simp only [strapLevel, Nat.mod_mod_of_dvd v (show 2 ∣ 16 by decide)]

/-- Both levels fit in the object's one byte. -/
theorem strapLevel_lt (v : Nat) : strapLevel v < 256 := by
  unfold strapLevel; split <;> decide

theorem Dev.compatLevel_setObj_same (s : Dev) {v : Nat} (hv : v < 256) :
    (s.setObj Obj.COMPAT_LEVEL 0 v).obj Obj.COMPAT_LEVEL = v := by
  rw [Dev.obj_setObj s Obj.COMPAT_LEVEL 0 0 v _ rfl, if_pos rfl]
  exact Nat.mod_eq_of_lt hv

theorem Dev.compatLevel_setObj_ne (s : Dev) (oid i v : Nat) (h : oid < 2 ^ 32) (ho : Obj.COMPAT_LEVEL ≠ oid) :
    (s.setObj oid i v).obj Obj.COMPAT_LEVEL = s.obj Obj.COMPAT_LEVEL :=
  Dev.obj_setObj_ne s oid _ i 0 v h (by decide) ho

theorem Dev.sampleStraps_compatLevel (s : Dev) : s.sampleStraps.obj Obj.COMPAT_LEVEL = strapLevel s.pins.straps := by
  have hlevel : (if bit (s.pins.straps % 16) 0 then 7 else 9) = strapLevel s.pins.straps := by
    rw [← strapLevel_mod16]; simp [bit, strapLevel]
  have hset (d : Dev) := d.compatLevel_setObj_same (strapLevel_lt s.pins.straps)
  unfold Dev.sampleStraps
  simp only [hlevel]
  split
  · rw [Dev.compatLevel_setObj_ne _ Obj.SIDEBAND_STATUS _ _ (by decide) (by decide),
      Dev.compatLevel_setObj_ne _ Obj.MCTP_ADDRESS _ _ (by decide) (by decide), hset]
  · rw [Dev.compatLevel_setObj_ne _ Obj.MCTP_ADDRESS _ _ (by decide) (by decide), hset]

/-- HOLDOVER is a bit of TB_FLAGS alone (R16). -/
theorem Dev.holdover_compatLevel (s : Dev) (on : Bool) : (s.holdover on).obj Obj.COMPAT_LEVEL = s.obj Obj.COMPAT_LEVEL := by
  unfold Dev.holdover
  refine List.foldlRecOn (motive := fun t : Dev => t.obj Obj.COMPAT_LEVEL = s.obj Obj.COMPAT_LEVEL) _ _ rfl ?_
  intro t ht e _
  exact (Dev.compatLevel_setObj_ne t Obj.TB_FLAGS e _ (by decide) (by decide)).trans ht

theorem Dev.resetObjs_compatLevel (s : Dev) (cold : Bool) : (s.resetObjs cold).obj Obj.COMPAT_LEVEL = strapLevel s.pins.straps := by
  have hsample := Dev.sampleStraps_compatLevel { s with objs := s.objs.filter (fun e => keptObj cold e.1) }
  unfold Dev.resetObjs
  simp only
  split
  · exact hsample
  · exact (Dev.holdover_compatLevel _ true).trans hsample

/-- Every cold reset, whatever its cause, sets the level from the strap as the pins hold it (R7). -/
theorem Dev.coldReset_compatLevel (s : Dev) (cause : Nat) :
    (s.coldReset cause).obj Obj.COMPAT_LEVEL = strapLevel s.pins.straps := by
  calc (s.coldReset cause).obj Obj.COMPAT_LEVEL
      = ((s.lcApply.resetBoot true).resetUnits.resetObjs true).obj Obj.COMPAT_LEVEL :=
        Dev.compatLevel_setObj_ne _ Obj.LAST_RESET_CAUSE 0 cause (by decide) (by decide)
    _ = strapLevel (s.lcApply.resetBoot true).resetUnits.pins.straps := Dev.resetObjs_compatLevel _ true
    _ = strapLevel s.pins.straps := by simp

/-! ### The commands that begin a cold reset -/

/-- The device at the moment VAUX becomes good (R463): the straps as sampled, every other domain down. -/
def Dev.vauxUp (s : Dev) (straps : Nat) (high : Bool) : Dev :=
  { s with
    power := { s.power with vaux := true, main := false, hold := false, dclk := false, lost := none }
    pins := { s.pins with straps := straps % 16, vauxHigh := high } }

theorem exec_vauxGood_of_down (s : State) (straps : Nat) (high : Bool) (h : s.power.vaux = false) :
    exec (.vauxGood straps high) s = .next (s.after ((s.toDev.vauxUp straps high).coldReset 0)) := by
  change execVauxGood straps high s = _
  simp [execVauxGood, h, Dev.vauxUp]

theorem exec_lcTransition_of_accepted (s : State) (w : Nat) (hv : s.power.vaux = true) (ha : s.boot.accepted = some w) :
    exec .lcTransition s = .next (s.after (s.toDev.coldReset 7)) := by
  change execLcTransition s = _
  simp [execLcTransition, hv, ha]

/-- Settles O11: both commands begin a cold reset, which sets the level from the straps that the pins then hold. -/
theorem coldResetSamplesTheCompatibilityStrap : Obligations.ColdResetSamplesTheCompatibilityStrap := by
  intro s
  constructor
  · intro straps high h
    refine ⟨_, exec_vauxGood_of_down s straps high h, ?_⟩
    calc ((s.toDev.vauxUp straps high).coldReset 0).obj Obj.COMPAT_LEVEL
        = strapLevel (straps % 16) := Dev.coldReset_compatLevel _ 0
      _ = strapLevel straps := strapLevel_mod16 straps
  · intro w hv ha
    exact ⟨_, exec_lcTransition_of_accepted s w hv ha, Dev.coldReset_compatLevel s.toDev 7⟩

end Sys2Proof.Machine
end

section
/-! What a command answers: the device it leaves, and what that device has in common with the one before. -/
namespace Sys2Proof.Machine

/-- A command from state s answers a next state whose device has the projection p as before. -/
def Keeps {α : Type} (p : Dev → α) (s : State) (r : Res) : Prop := ∃ d : Dev, r = ok s d ∧ p d = p s.toDev

namespace Keeps

variable {α : Type} {p : Dev → α} {s : State} {c : Bool} {f : Dev → Dev}

theorem ok {d : Dev} (h : p d = p s.toDev) : Keeps p s (ok s d) := ⟨d, rfl, h⟩

theorem idle : Keeps p s (Machine.ok s s.toDev) := .ok rfl

theorem always (h : p (f s.toDev) = p s.toDev) : Keeps p s (always s f) := .ok h

theorem onMain (h : p (f s.toDev) = p s.toDev) : Keeps p s (onMain s f) := by
  refine .ok ?_
  split
  · exact h
  · rfl

theorem onMainIf (h : p (f s.toDev) = p s.toDev) : Keeps p s (onMainIf s c f) := by
  refine .ok ?_
  split
  · exact h
  · rfl

theorem twinIf (h : p (f s.toDev) = p s.toDev) : Keeps p s (twinIf s c f) := .onMainIf h

theorem edgeCmd {q : EdgePiece} (h : p (s.through q) = p s.toDev) : Keeps p s (edgeCmd s q) := .onMainIf h

/-- The device of the answer, read off the next state. -/
theorem next {r : Res} {t : State} (h : Keeps p s r) (ht : r = .next t) : p t.toDev = p s.toDev := by
  obtain ⟨d, rfl, hd⟩ := h
  cases ht
  exact hd

/-- What leaves the part, the tick counter and memory alone leaves the first two alone. -/
theorem clock {r : Res} (h : Keeps Dev.core s r) : Keeps Dev.clock s r := by
  obtain ⟨d, hr, hd⟩ := h
  exact ⟨d, hr, clock_of_core hd⟩

end Keeps
end Sys2Proof.Machine
end

section
/-! What each command that does more than one thing leaves alone, unit by unit: the part, the tick counter and the bytes
of memory (`Dev.core`), from the frame lemmas of the effects it is made of. -/
namespace Sys2Proof.Machine

/-- A choice between two devices that both keep a projection. -/
theorem ite_keeps {α : Type} {p : Dev → α} {z : α} {c : Prop} [Decidable c] {a b : Dev} (ha : p a = z) (hb : p b = z) :
    p (if c then a else b) = z := by
  split
  · exact ha
  · exact hb

/-! ### The frames of command families -/

theorem adminRun_core (s : State) (n desc op : Nat) (manager : Bool) {f : Dev → Dev} (hf : ∀ t, (f t).core = t.core) :
    Keeps Dev.core s (adminRun s n desc op manager f) :=
  .onMainIf (Dev.adminSlot_core _ _ _ _ fun t => ite_keeps (Dev.adminDone_core ..) (ite_keeps (Dev.adminDone_core ..) (hf t)))

theorem adminCmd_core (s : State) (c cid op : Nat) {f : Dev → NvmCmd → Dev} (hf : ∀ t m, (f t m).core = t.core) :
    Keeps Dev.core s (adminCmd s c cid op f) := by
  unfold adminCmd
  split
  · exact .onMain ((Dev.pump_core _).trans ((hf _ _).trans (Dev.updCmd_core ..)))
  · exact .idle

theorem adminData_core (s : State) (c cid op : Nat) (d : Dev → NvmCmd → HostData) (come : Bool) {f : Dev → NvmCmd → List (Nat × Nat) → Dev}
    (hf : ∀ t m gs, (f t m gs).core = t.core) : Keeps Dev.core s (adminData s c cid op d come f) := by
  unfold adminData
  split
  · exact .onMain ((Dev.pump_core _).trans (Dev.withData_core _ _ _ _ _ _ _ fun _ _ => (hf _ _ _).trans (Dev.updCmd_core ..)))
  · exact .idle

theorem ioCmd_core (s : State) (c q cid op : Nat) {f : Dev → NvmCmd → Dev} (hf : ∀ t m, (f t m).core = t.core) :
    Keeps Dev.core s (ioCmd s c q cid op f) := by
  unfold ioCmd
  split
  · exact .onMain ((Dev.pump_core _).trans (hf _ _))
  · exact .idle

theorem corrCmd_core (s : State) (h op rec : Nat) : Keeps Dev.core s (corrCmd h op rec s) := .onMainIf (Dev.correction_core ..)

/-! ### NVMe commands and backends -/

theorem execNsDeleteFree_core (s : State) (i : Nat) : Keeps Dev.core s (execNsDeleteFree i s) :=
  .onMainIf ((Dev.updSto_core _ _).trans ((Dev.setObj_core ..).trans (foldl_core _ (fun _ _ => Dev.clearSlots_core ..) _ _)))

theorem execNvmeInvalidOpcode_core (s : State) (c q cid : Nat) : Keeps Dev.core s (execNvmeInvalidOpcode c q cid s) := by
  unfold execNvmeInvalidOpcode
  split
  · split
    · exact .onMain ((Dev.pump_core _).trans (Dev.cmdDone_core ..))
    · exact .idle
  · exact .idle

theorem execBackendCompletion_core (s : State) (b : Nat) (op : BkOp) (status : Nat) (data : List Nat) :
    Keeps Dev.core s (execBackendCompletion b op status data s) := by
  refine .onMainIf ?_
  split
  · split
    · exact ite_keeps (Dev.pieceEnd_core ..) rfl
    · rfl
  · exact Dev.flushEnd_core ..
  · exact Dev.ownEnd_core ..

theorem execBackendPathLoss_core (s : State) (b : Nat) : Keeps Dev.core s (execBackendPathLoss b s) :=
  .onMainIf ((foldl_core _ (fun _ _ => Dev.pathLost_core ..) _ _).trans (Dev.driveGone_core ..))

theorem execKeepAlive_core (s : State) (b : Nat) (answered : Bool) : Keeps Dev.core s (execKeepAlive b answered s) :=
  .onMainIf (ite_keeps (Dev.pathLost_core ..) ((Dev.emit_core _ _).trans (Dev.setBack_core ..)))

theorem execHeldCommandTimeout_core (s : State) (c q cid : Nat) : Keeps Dev.core s (execHeldCommandTimeout c q cid s) := by
  refine .onMainIf ?_
  split
  · exact (Dev.pump_core _).trans (Dev.cmdDone_core ..)
  · rfl

theorem execIntentClear_core (s : State) (x : Nat) : Keeps Dev.core s (execIntentClear x s) := by
  unfold execIntentClear
  split
  · exact .onMainIf (Dev.ownSend_core ..)
  · exact .idle

theorem execHotPlugInsertion_core (s : State) (r : Nat) (nvme : Bool) : Keeps Dev.core s (execHotPlugInsertion r nvme s) := by
  refine .onMainIf (ite_keeps ((Dev.storageLog_core ..).trans (Dev.updSto_core _ _)) ((foldl_core _ (fun t b => ?_) _ _).trans (Dev.updSto_core _ _)))
  exact ite_keeps ((Dev.connect_core ..).trans (Dev.setObj_core ..)) rfl

/-! ### Host queues, functions and links -/

theorem execSendJob_core (s : State) (n Q : Nat) (desc : Option Nat) (err : Nat) (frags : Option (List Nat)) :
    Keeps Dev.core s (execSendJob n Q desc err frags s) := by
  unfold execSendJob
  split
  · refine .onMainIf (Dev.onSlot_core _ _ _ _ _ _ fun t d => ?_)
    split
    · exact Dev.sendJob_core ..
    · exact ite_keeps ((Dev.slotFrozen_core ..).trans (Dev.slotFail_core ..)) rfl
  · exact .idle

theorem execReceiveDescriptor_core (s : State) (n Q : Nat) (desc : Option Nat) (err : Nat) :
    Keeps Dev.core s (execReceiveDescriptor n Q desc err s) := by
  unfold execReceiveDescriptor
  split
  · refine .onMainIf (Dev.onSlot_core _ _ _ _ _ _ fun t d => ?_)
    split
    · exact (Dev.receiveDesc_core ..).trans (Dev.returnTag_core ..)
    · exact ite_keeps ((Dev.slotFrozen_core ..).trans (Dev.slotFail_core ..)) rfl
  · exact .idle

theorem execCompletionTimeout_core (s : State) (k tag : Nat) : Keeps Dev.core s (execCompletionTimeout k tag s) := by
  unfold execCompletionTimeout
  split
  · exact .onMain (Dev.ctoAct_core ..)
  · exact .idle

theorem execTagQuarantineEnd_core (s : State) (k tag : Nat) : Keeps Dev.core s (execTagQuarantineEnd k tag s) := by
  unfold execTagQuarantineEnd
  split
  · split
    · exact .onMainIf (Dev.returnTag_core ..)
    · exact .idle
  · exact .idle

theorem execLinkPowerStateChange_core (s : State) (k power width : Nat) : Keeps Dev.core s (execLinkPowerStateChange k power width s) :=
  .onMainIf (ite_keeps (Dev.setLink_core ..) ((Dev.emit_core ..).trans (Dev.setLink_core ..)))

theorem execPerstAssert_core (s : State) (h : Nat) : Keeps Dev.core s (execPerstAssert h s) := by
  refine .always (ite_keeps ?_ rfl)
  dsimp only
  split
  · exact ite_keeps ((Dev.dueReset_core ..).trans (Dev.setPerst_core ..)) (Dev.setPerst_core ..)
  · exact Dev.setPerst_core ..

theorem execPerstRelease_core (s : State) (h : Nat) : Keeps Dev.core s (execPerstRelease h s) := by
  refine .always (ite_keeps ?_ rfl)
  dsimp only
  split
  · exact ite_keeps ((Dev.leaveReset_core ..).trans (Dev.setPerst_core ..)) (Dev.setPerst_core ..)
  · exact Dev.setPerst_core ..

theorem execPcieRefclkReturn_core (s : State) (h : Nat) : Keeps Dev.core s (execPcieRefclkReturn h s) := by
  refine .onMainIf ?_
  dsimp only
  split
  · exact (Dev.leaveReset_core ..).trans (Dev.setObj_core ..)
  · exact Dev.setObj_core ..

theorem execWakeEvent_core (s : State) (frame : Option (List Nat)) : Keeps Dev.core s (execWakeEvent frame s) :=
  .always (ite_keeps (foldl_core _ (fun _ _ => Dev.emit_core ..) _ _) rfl)

theorem execCiDataRead_core (s : State) (n : Nat) : Keeps Dev.core s (execCiDataRead n s) :=
  .onMainIf ((Dev.emit_core ..).trans (Dev.ciData_core ..))

theorem execRegisterWrite_core (s : State) (n bar off size : Nat) (wr : Option Nat) : Keeps Dev.core s (execRegisterWrite n bar off size wr s) := by
  refine .onMainIf ?_
  split
  · exact Dev.barWrite_core ..
  · exact Dev.barRead_core ..

theorem execLbTokenRefill_core (s : State) (n : Nat) : Keeps Dev.core s (execLbTokenRefill n s) := by
  unfold execLbTokenRefill
  exact .onMainIf (Dev.setBox_core ..)

/-! ### Admin queues -/

theorem execResumeFunction_core (s : State) (n desc : Nat) : Keeps Dev.core s (execResumeFunction n desc s) :=
  adminRun_core _ _ _ _ _ fun t => ite_keeps (Dev.adminDone_core ..)
    (ite_keeps (Dev.adminBegin_core t n (.resume (adminArg desc))) (Dev.adminDone_core ..))

theorem execBureauRead_core (s : State) (n desc : Nat) (input : Option (List Nat)) : Keeps Dev.core s (execBureauRead n desc input s) := by
  refine adminRun_core _ _ _ _ _ fun t => ?_
  split
  · exact Dev.adminDone_core ..
  · exact Dev.withInput_core _ _ _ _ _ fun _ => Dev.bureauDone_core ..

theorem execBureauWrite_core (s : State) (n desc : Nat) (input : Option (List Nat)) : Keeps Dev.core s (execBureauWrite n desc input s) :=
  adminRun_core _ _ _ _ _ fun _ => ite_keeps (Dev.adminDone_core ..)
    (Dev.withInput_core _ _ _ _ _ fun _ => (Dev.bureauDone_core ..).trans ((Dev.writeRecs_core ..).trans (Dev.touchTxn_core ..)))

theorem execBureauCommit_core (s : State) (n desc : Nat) : Keeps Dev.core s (execBureauCommit n desc s) := by
  refine adminRun_core _ _ _ _ _ fun t => ite_keeps ((Dev.bureauDone_core ..).trans (Dev.abortReq_core ..)) ?_
  have hreq := Dev.commitReq_core t n (adminArg desc) 0
  split <;> rename_i heq <;> rw [heq] at hreq
  · exact (Dev.bureauDone_core ..).trans hreq
  · exact (Dev.adminBegin_core ..).trans hreq

theorem execSaveState_core (s : State) (n desc : Nat) (input : Option (List Nat)) (err : Option (Nat × Nat)) :
    Keeps Dev.core s (execSaveState n desc input err s) := by
  refine adminRun_core _ _ _ _ _ fun t => Dev.onVf_core _ _ _ _ _ fun v => ?_
  split
  · exact Dev.adminDone_core ..
  · have hread := Dev.lineRead_core t true 0xFFFF err
    exact ite_keeps ((Dev.saveState_core ..).trans hread)
      ((Dev.adminDone_core ..).trans ((Dev.setFstate_core ..).trans ((Dev.dropImage_core ..).trans hread)))

theorem execRestoreState_core (s : State) (n desc : Nat) (input : Option (List Nat)) : Keeps Dev.core s (execRestoreState n desc input s) := by
  refine adminRun_core _ _ _ _ _ fun _ => Dev.onVf_core _ _ _ _ _ fun _ => ?_
  split
  · exact Dev.adminDone_core ..
  · exact Dev.restoreBytes_core ..

theorem execRestoreImageApply_core (s : State) (n : Nat) : Keeps Dev.core s (execRestoreImageApply n s) := by
  unfold execRestoreImageApply
  split
  · exact .onMainIf ((Dev.restoreDone_core ..).trans (Dev.restoreApply_core ..))
  · exact .idle

/-! ### Parcels, cipher slices and the postmark unit -/

theorem execParcelFinish_core (s : State) (e : Nat) : Keeps Dev.core s (execParcelFinish e s) := by
  refine .onMainIf ?_
  split
  · exact Dev.parcelFinish_core ..
  · rfl

theorem execTransmitComplete_core (s : State) (P cap : Nat) : Keeps Dev.core s (execTransmitComplete P cap s) := by
  refine .onMainIf ?_
  split
  · exact Dev.transmit_core ..
  · rfl

theorem execRngWaitTimeout_core (s : State) (d i : Nat) : Keeps Dev.core s (execRngWaitTimeout d i s) := by
  unfold execRngWaitTimeout
  split
  · exact .onMainIf (Dev.rngTimeout_core ..)
  · exact .idle

theorem execPpsOutPulse_core (s : State) (agree : Bool) : Keeps Dev.core s (execPpsOutPulse agree s) := by
  unfold execPpsOutPulse
  split
  · exact .onMainIf (Dev.ppsPulse_core ..)
  · exact .idle

theorem Dev.refLose_core (s : Dev) : s.refLose.core = s.core :=
  (Dev.notify_core ..).trans ((Dev.setObj_core ..).trans (core_mk s))

/-! ### The Bureau's sessions -/

theorem execReadReq_core (s : State) (sess : Sess) (ver seq count : Nat) (body : List Nat) :
    Keeps Dev.core s (execReadReq sess ver seq count body s) :=
  .always (ite_keeps (Dev.request_core _ _ _ _ _ fun _ _ => Dev.bodyReq_core _ _ _ _ _ _ fun _ _ => Dev.readReq_core ..) rfl)

theorem execWriteReq_core (s : State) (sess : Sess) (ver seq count : Nat) (body : List Nat) :
    Keeps Dev.core s (execWriteReq sess ver seq count body s) :=
  .always (ite_keeps (Dev.request_core _ _ _ _ _ fun _ _ => Dev.bodyReq_core _ _ _ _ _ _ fun _ _ => Dev.writeReq_core ..) rfl)

theorem execCommitTxn_core (s : State) (sess : Sess) (ver seq txn : Nat) : Keeps Dev.core s (execCommitTxn sess ver seq txn s) := by
  refine .always (ite_keeps (Dev.request_core _ _ _ _ _ fun _ key => Dev.txnReq_core _ _ _ _ _ fun u => ?_) rfl)
  have hreq := Dev.commitReq_core u key txn seq
  split <;> rename_i heq <;> rw [heq] at hreq
  · exact (Dev.respond_core ..).trans hreq
  · exact hreq

theorem execAbortTxn_core (s : State) (sess : Sess) (ver seq txn : Nat) : Keeps Dev.core s (execAbortTxn sess ver seq txn s) :=
  .always (ite_keeps (Dev.request_core _ _ _ _ _ fun _ _ => Dev.txnReq_core _ _ _ _ _ fun _ =>
    (Dev.respond_core ..).trans (Dev.abortReq_core ..)) rfl)

theorem execNotifyAck_core (s : State) (sess : Sess) (seq : Nat) : Keeps Dev.core s (execNotifyAck sess seq s) := by
  refine .always ?_
  split
  · exact Dev.onPath_core _ _ _ fun _ => Dev.setSession_core ..
  · rfl

theorem execNotifyResend_core (s : State) (sess : Sess) (seq : Nat) : Keeps Dev.core s (execNotifyResend sess seq s) := by
  unfold execNotifyResend
  split
  · exact .idle
  · split
    · exact .idle
    · exact .onMainIf ((Dev.emit_core ..).trans (Dev.setSession_core ..))

theorem execAssociationClose_core (s : State) (a : Nat) (alert : Bool) : Keeps Dev.core s (execAssociationClose a alert s) := by
  unfold execAssociationClose
  split
  · exact .idle
  · exact .onMainIf (ite_keeps (Dev.endSession_core ..) (Dev.mgmtFrame_core _ _ fun _ => Dev.endSession_core ..))

theorem execStoreSaveDone_core (s : State) : Keeps Dev.core s (execStoreSaveDone s) := by
  unfold execStoreSaveDone
  split
  · exact .idle
  · exact .onMain ((Dev.setObj_core ..).trans (Dev.setStoreCopy_core ..))

/-! ### Fences, resets and boot -/

theorem execSelfcheck_core (s : State) (drawers cabinets : List Nat) (hub : Bool) : Keeps Dev.core s (execSelfcheck drawers cabinets hub s) := by
  have hfences (t : Dev) : (cabinets.foldl (fun t c => t.dueCabinet c 0x22) (drawers.foldl (fun t d => t.dueFence d 2) t)).core = t.core :=
    (foldl_core _ (fun _ _ => Dev.dueCabinet_core ..) _ _).trans (foldl_core _ (fun _ _ => Dev.dueFence_core ..) _ _)
  exact .onMainIf (ite_keeps ((Dev.dueFault_core ..).trans (hfences _)) (hfences _))

theorem execDrawerFence_core (s : State) (d : Nat) (storeError : Bool) : Keeps Dev.core s (execDrawerFence d storeError s) := by
  refine .onMain (ite_keeps (Dev.dueFence_core ..) ?_)
  split
  · exact ite_keeps ((Dev.fenceDrawer_core ..).trans (Dev.cabinetFirst_core ..)) rfl
  · rfl

theorem execCabinetFencing_core (s : State) (c : Nat) (storeError : Bool) : Keeps Dev.core s (execCabinetFencing c storeError s) := by
  refine .onMain (ite_keeps (Dev.dueCabinet_core ..) ?_)
  split
  · exact ite_keeps (Dev.fenceCabinet_core ..) rfl
  · rfl

theorem execMainDomainGood_core (s : State) : Keeps Dev.core s (execMainDomainGood s) := by
  refine .always (ite_keeps ?_ rfl)
  dsimp only
  split
  · exact Dev.coldReset_core ..
  · exact Dev.resetUnits_core ..

theorem execMainRailLoss_core (s : State) : Keeps Dev.core s (execMainRailLoss s) :=
  .always (ite_keeps ((core_mk _).trans (Dev.mainDown_core _)) rfl)

theorem execResetNAssert_core (s : State) : Keeps Dev.core s (execResetNAssert s) :=
  .always (ite_keeps ((core_mk _).trans ((Dev.warmReset_core ..).trans (core_mk _))) (core_mk _))

theorem execThermalTrip_core (s : State) : Keeps Dev.core s (execThermalTrip s) :=
  .always (ite_keeps ((core_mk _).trans ((Dev.setObj_core ..).trans ((Dev.setObj_core ..).trans (Dev.mainDown_core _)))) rfl)

theorem execDevrefRelock_core (s : State) (done : Bool) : Keeps Dev.core s (execDevrefRelock done s) :=
  .onMainIf (ite_keeps ((Dev.clockEvent_core ..).trans ((Dev.holdover_core ..).trans (Dev.setObj_core ..))) (Dev.setObj_core ..))

theorem Dev.etherBack_core (s : Dev) : s.etherBack.core = s.core :=
  (foldl_core _ (fun _ _ => ite_keeps (Dev.restartPort_core ..) rfl) _ _).trans (Dev.sideband_core ..)

theorem execEthrefAbsent_core (s : State) : Keeps Dev.core s (execEthrefAbsent s) :=
  .onMainIf ((Dev.setObj_core ..).trans ((core_mk _).trans ((foldl_core _ (fun _ _ => Dev.etherLost_core ..) _ _).trans
    ((Dev.notify_core ..).trans (Dev.sideband_core ..)))))

/-! ### Twin operation -/

theorem execTwinIdentityRecord_core (s : State) (serial part pair role seq digest : Nat) :
    Keeps Dev.core s (execTwinIdentityRecord serial part pair role seq digest s) :=
  .twinIf (ite_keeps ((Dev.twinLog_core ..).trans ((Dev.bump_core ..).trans ((Dev.setObj_core ..).trans (Dev.releaseSync_core _))))
    (Dev.identified_core ..))

theorem execMirrorAck_core (s : State) : Keeps Dev.core s (execMirrorAck s) := by
  refine .twinIf ?_
  split
  · exact Dev.syncDone_core ..
  · rfl

theorem execTwinPeriodSync_core (s : State) : Keeps Dev.core s (execTwinPeriodSync s) :=
  .twinIf ((foldl_core _ (fun _ _ => Dev.mirror_core ..) _ _).trans ((Dev.mirror_core ..).trans (core_mk _)))

theorem execIdentityAnnounce_core (s : State) : Keeps Dev.core s (execIdentityAnnounce s) := by
  unfold execIdentityAnnounce
  split
  · exact .twinIf ((Dev.announceAll_core ..).trans (core_mk _))
  · exact .idle

theorem execFenceNAssert_core (s : State) (stays : Bool) : Keeps Dev.core s (execFenceNAssert stays s) :=
  .always (ite_keeps ((Dev.enterFenced_core ..).trans (core_mk _)) (core_mk _))

end Sys2Proof.Machine
end

section
/-! The frame of every command: the part, the tick counter and the bytes of memory, command by command. -/
namespace Sys2Proof.Machine

/-- But for the commands that write memory, those that do the edge work of the Bureau and the lock of DCLK, every command keeps the part, the
tick counter and the bytes of memory. -/
theorem exec_core (c : Instr) (s : State) (hw : writesMemory c = false) (hb : runsBureau c = false) (hl : c ≠ .dclkLock) :
    Keeps Dev.core s (exec c s) := by
  cases c with unfold exec
  | isaInstruction | takeParcel | vauxLoss | sramWipeDone | memWipeDone | imageCheckDone => exact nomatch hw
  | tickEdge | bureauCommitApply | tableCommitApply | shaperCredit | calendarSlotOpen | coarseSlotEmpty | policerTokens | workSteal
  | latencySample | leaseCheck => exact nomatch hb
  | dclkLock => exact absurd rfl hl
  | snapshot => exact .edgeCmd (Dev.throughSnapshot_core _)
  | rwWriteApply => exact .onMainIf (Dev.rwApply_core ..)
  | devrefLoss => exact .onMainIf ((Dev.clockEvent_core ..).trans ((Dev.holdover_core ..).trans ((Dev.bump_core ..).trans (Dev.setObj_core ..))))
  | devrefRelock => exact execDevrefRelock_core ..
  | selfcheck => exact execSelfcheck_core ..
  | monitorWatchdog => exact .onMain (Dev.dueFence_core ..)
  | drawerFence => exact execDrawerFence_core ..
  | frameWriteStart => exact .onMainIf (Dev.frameStart_core ..)
  | frameEnd => exact .onMainIf (Dev.frameDone_core ..)
  | parcelCreate => exact .onMainIf (Dev.parcelCreate_core ..)
  | admissionHoldRelease => exact .onMainIf (Dev.holdRelease_core ..)
  | windowStallRelease => exact .onMainIf (Dev.windowRelease_core ..)
  | sorterTake => exact .onMainIf (Dev.sorterTake_core ..)
  | parseExtendResume => exact .onMainIf (Dev.parseResume_core ..)
  | gddr6LookupReturn => exact .onMainIf (Dev.lookupReturn_core ..)
  | lookupTimeout => exact .onMainIf (Dev.lookupTimeout_core ..)
  | patternScan => exact .onMainIf (Dev.patternScan_core ..)
  | matcherCacheMissReturn => exact .onMainIf (Dev.missReturn_core ..)
  | matcherSuspend => exact .onMainIf (Dev.matcherSuspend_core ..)
  | dmaMoverResume => exact .onMainIf (Dev.moverResume_core ..)
  | parcelFinish => exact execParcelFinish_core ..
  | threadOverrunTrap => exact .onMainIf (Dev.overrunTrap_core ..)
  | overrunDrop => exact .onMainIf (Dev.overrunDrop_core ..)
  | dequeue => exact .onMainIf (Dev.dequeueTo_core ..)
  | transmitComplete => exact execTransmitComplete_core ..
  | alloc => exact .onMainIf ((Dev.bufDone_core ..).trans (Dev.alloc_core ..))
  | freeChain => exact .onMainIf ((Dev.bufDone_core ..).trans (Dev.bufFree_core ..))
  | shareChain => exact .onMainIf ((Dev.bufDone_core ..).trans (Dev.bufShare_core ..))
  | detach => exact .onMainIf ((Dev.bufDone_core ..).trans (Dev.bufDetach_core ..))
  | handover => exact .onMainIf ((Dev.bufDone_core ..).trans (Dev.bufHandover_core ..))
  | trainingComplete => exact .onMainIf ((Dev.setPort_core ..).trans (Dev.setObj_core ..))
  | trainingFailure => exact .onMainIf (Dev.trainingFails_core ..)
  | linkRetry => exact .onMainIf (Dev.restartPort_core ..)
  | alignLock => exact .onMainIf (Dev.alignLock_core ..)
  | linkUp => exact .onMainIf (Dev.goUp_core ..)
  | alignTimeout => exact .onMainIf ((Dev.restartPort_core ..).trans (Dev.notify_core ..))
  | lockLoss => exact .onMainIf (Dev.lockLoss_core ..)
  | linkDown => exact .onMainIf (Dev.goDown_core ..)
  | polarityRetry => exact .onMainIf (Dev.polarityFlip_core ..)
  | fecDegrade => exact .onMainIf (Dev.fecCount_core ..)
  | pauseReceive => exact .onMainIf (Dev.pauseReceive_core ..)
  | pauseExpire => exact .onMainIf ((Dev.setPrio_core ..).trans (Dev.markTx_core ..))
  | xoffResend => exact .onMainIf ((Dev.setPrio_core ..).trans (Dev.sendPause_core ..))
  | pfcStorm => exact .onMainIf ((Dev.notify_core ..).trans ((Dev.setPrio_core ..).trans (Dev.markTx_core ..)))
  | pfcStormEnd => exact .onMainIf (Dev.setPrio_core ..)
  | mgmtFrameReceive => exact .onMainIf (Dev.mgmtReceive_core ..)
  | verifyDone => exact .onMainIf (Dev.verifyDone_core ..)
  | bankDrainDone | rngRecover => exact .onMainIf (Dev.setObj_core ..)
  | search | insert | delete | nextEntry | flushByPort => exact .onMainIf (Dev.emAccept_core ..)
  | sweep => exact .onMain (Dev.sweep_core ..)
  | xehiborHandshake => exact .onMainIf (Dev.mgmtFrame_core _ _ fun _ => Dev.setSession_core ..)
  | associationClose => exact execAssociationClose_core ..
  | readReq => exact execReadReq_core ..
  | writeReq => exact execWriteReq_core ..
  | commitTxn => exact execCommitTxn_core ..
  | abortTxn => exact execAbortTxn_core ..
  | txnIdleTimeout => exact .onMainIf (Dev.discardTxn_core ..)
  | notifyAck => exact execNotifyAck_core ..
  | notifyResend => exact execNotifyResend_core ..
  | storeSaveDone => exact execStoreSaveDone_core ..
  | perstAssert => exact execPerstAssert_core ..
  | perstRelease => exact execPerstRelease_core ..
  | hotReset | dlDown => exact .onMainIf (Dev.dueReset_core ..)
  | hostLinkReset => exact .onMainIf (Dev.linkReset_core ..)
  | dlActive => exact .onMainIf ((Dev.setObj_core ..).trans (Dev.setObj_core ..))
  | linkTrainingTimeout => exact .onMainIf ((Dev.bump_core ..).trans (Dev.train_core ..))
  | functionsReady => exact .onMainIf (Dev.functionsReady_core ..)
  | vfReady => exact .onMainIf ((Dev.emit_core ..).trans (Dev.setFn_core ..))
  | configRequest => exact .onMainIf (Dev.cfgServe_core ..)
  | bmeSet => exact .onMainIf (Dev.bmeSet_core ..)
  | bmeClear => exact .onMainIf (Dev.bmeClear_core ..)
  | initiateFlr => exact .onMainIf (Dev.initiateFlr_core ..)
  | flrComplete => exact .onMainIf (Dev.flrComplete_core ..)
  | vfEnableSet => exact .onMainIf (Dev.vfEnableSet_core ..)
  | vfEnableClear => exact .onMainIf (Dev.vfEnableClear_core ..)
  | dStateChange => exact .onMainIf (Dev.dState_core ..)
  | atsInvalidate => exact .onMainIf ((Dev.emit_core ..).trans (Dev.dropTranslations_core ..))
  | completionTlp => exact .onMainIf (Dev.completionTlp_core ..)
  | completionTimeout => exact execCompletionTimeout_core ..
  | tagQuarantineEnd => exact execTagQuarantineEnd_core ..
  | wakeEvent => exact execWakeEvent_core ..
  | ciDataRead => exact execCiDataRead_core ..
  | registerWrite => exact execRegisterWrite_core ..
  | doorbellValue | doorbellRefresh | doorbellReleaseArm => exact .onMainIf (Dev.doorbell_core ..)
  | sendJob => exact execSendJob_core ..
  | receiveDescriptor => exact execReceiveDescriptor_core ..
  | completionPost => exact .onMainIf (Dev.postAct_core ..)
  | hwIndexWrite => exact .onMainIf (Dev.hwWrite_core ..)
  | dirtyMark => exact .onMainIf (Dev.dirtyMark_core ..)
  | adminEnable => exact .onMainIf (Dev.setFn_core ..)
  | adminDisable => exact .onMainIf (Dev.adminDisable_core ..)
  | createQueue => exact adminRun_core _ _ _ _ _ fun _ => Dev.adminBegin_core ..
  | destroyQueue | queueReset => exact adminRun_core _ _ _ _ _ fun _ => Dev.stopBegin_core ..
  | bureauRead => exact execBureauRead_core ..
  | bureauWrite => exact execBureauWrite_core ..
  | bureauCommit => exact execBureauCommit_core ..
  | functionAbort => exact adminRun_core _ _ _ _ _ fun _ => Dev.abortBegin_core ..
  | functionAbortDone => exact .onMainIf (Dev.abortDone_core ..)
  | adminInvalidOpcode => exact .onMainIf (Dev.adminSlot_core _ _ _ _ fun _ => Dev.adminDone_core ..)
  | quiesceFunction => exact adminRun_core _ _ _ _ _ fun _ => Dev.quiesceBegin_core ..
  | quiesceComplete => exact .onMainIf (Dev.quiesceEnd_core ..)
  | quiesceBound => exact .onMainIf (Dev.quiesceForce_core ..)
  | resumeFunction => exact execResumeFunction_core ..
  | freezeState | thawState => exact adminRun_core _ _ _ _ _ fun _ => Dev.onVf_core _ _ _ _ _ fun _ => Dev.adminBegin_core ..
  | saveState => exact execSaveState_core ..
  | restoreState => exact execRestoreState_core ..
  | restoreImageApply => exact execRestoreImageApply_core ..
  | lbSend | lbAck => exact .onMainIf (Dev.boxControl_core ..)
  | lbTokenRefill => exact execLbTokenRefill_core ..
  | nvmeSqDoorbell => exact .onMainIf (Dev.sqDoorbell_core ..)
  | nvmeCqDoorbell => exact .onMainIf (Dev.cqDoorbell_core ..)
  | nvmeCommandFetch => exact .onMainIf (Dev.onSlot_core _ _ _ _ _ _ fun _ _ => (Dev.nvmFetch_core ..).trans (Dev.returnTag_core ..))
  | createIoSq => exact adminCmd_core _ _ _ _ fun _ _ => Dev.createSq_core ..
  | deleteIoSq => exact adminCmd_core _ _ _ _ fun _ _ => Dev.deleteSq_core ..
  | createIoCq => exact adminCmd_core _ _ _ _ fun _ _ => Dev.createCq_core ..
  | deleteIoCq => exact adminCmd_core _ _ _ _ fun _ _ => Dev.deleteCq_core ..
  | getLogPage => exact adminData_core _ _ _ _ _ _ fun _ _ _ => Dev.getLog_core ..
  | identify => exact adminData_core _ _ _ _ _ _ fun _ _ _ => Dev.identify_core ..
  | abortCmd => exact adminCmd_core _ _ _ _ fun _ _ => Dev.abortNvm_core ..
  | setFeatures => exact adminCmd_core _ _ _ _ fun _ _ => Dev.setFeature_core ..
  | getFeatures => exact adminCmd_core _ _ _ _ fun _ _ => Dev.getFeature_core ..
  | asyncEventRequest => exact adminCmd_core _ _ _ _ fun _ _ => Dev.aerCmd_core ..
  | namespaceManagement => exact adminData_core _ _ _ _ _ _ fun _ _ _ => Dev.nsManage_core ..
  | namespaceAttachment => exact adminData_core _ _ _ _ _ _ fun _ _ _ => Dev.nsAttach_core ..
  | thawSq => exact adminCmd_core _ _ _ _ fun _ _ => Dev.thawSq_core ..
  | thawSqComplete => exact .onMainIf (Dev.thawDone_core ..)
  | nvmeInvalidOpcode => exact execNvmeInvalidOpcode_core ..
  | flushCmd => exact ioCmd_core _ _ _ _ _ fun _ _ => Dev.nvmFlush_core ..
  | nvmWrite => exact ioCmd_core _ _ _ _ _ fun _ _ => Dev.nvmWrite_core ..
  | nvmRead => exact ioCmd_core _ _ _ _ _ fun _ _ => Dev.nvmRead_core ..
  | writeZeroes => exact ioCmd_core _ _ _ _ _ fun _ _ => Dev.writeZeroes_core ..
  | datasetManagement => exact ioCmd_core _ _ _ _ _ fun _ _ => Dev.datasetMgmt_core ..
  | backendCompletion => exact execBackendCompletion_core ..
  | backendPathLoss => exact execBackendPathLoss_core ..
  | backendLive => exact .onMainIf (Dev.backLive_core ..)
  | keepAlive => exact execKeepAlive_core ..
  | backendCmdTimeout => exact .onMainIf ((Dev.pathLost_core ..).trans (Dev.bump_core ..))
  | heldCommandTimeout => exact execHeldCommandTimeout_core ..
  | pieceSettle => exact .onMainIf (Dev.settlePieces_core ..)
  | sqFreeze => exact .onMainIf (Dev.sqFreeze_core ..)
  | resyncStart => exact .onMainIf ((Dev.ownSend_core ..).trans (Dev.setSync_core ..))
  | resyncDone => exact .onMainIf (Dev.resyncDone_core ..)
  | intentClear => exact execIntentClear_core ..
  | nsDeleteFree => exact execNsDeleteFree_core ..
  | controllerEnable => exact .onMainIf (Dev.ctrlEnable_core ..)
  | controllerDisable => exact .onMainIf (Dev.ctrlStop_core ..)
  | controllerShutdown => exact .onMainIf (Dev.ctrlShutdown_core ..)
  | controllerDisableDone => exact .onMainIf (Dev.ctrlEnd_core ..)
  | runCipher | release => exact .onMainIf (Dev.threadRun_core ..)
  | cipherParcelJob => exact .onMainIf (Dev.sliceRun_core ..)
  | cipherSuspend => exact .onMainIf (Dev.cipherSuspend_core ..)
  | keyCacheMissReturn => exact .onMainIf (Dev.keyReturn_core ..)
  | rngWaitTimeout => exact execRngWaitTimeout_core ..
  | drbgReseed => exact .onMainIf (Dev.reseed_core ..)
  | rngFault | ppsInLost => exact .onMainIf ((Dev.notify_core ..).trans (Dev.setObj_core ..))
  | alarmTrip => exact .onMainIf (Dev.alarmTrip_core ..)
  | katDone => exact .onMainIf (Dev.katDone_core ..)
  | setTime | adjFreq | adjPhase => exact corrCmd_core ..
  | ppsOutPulse => exact execPpsOutPulse_core ..
  | ppsInEdge => exact .onMainIf (Dev.ppsIn_core ..)
  | ref10mWindow => exact .onMainIf (Dev.refReport_core ..)
  | ref10mLost => exact .onMainIf (Dev.refLose_core _)
  | waitev => exact .onMainIf (Dev.ext_core _ _ _ _ fun _ _ _ _ => Dev.waitev_core ..)
  | sigev => exact .onMainIf (Dev.ext_core _ _ _ _ fun _ _ _ _ => Dev.sigev_core ..)
  | sigevArrive => exact .onMainIf (Dev.sigArrive_core ..)
  | chbind => exact .onMainIf (Dev.ext_core _ _ _ _ fun _ _ _ _ => Dev.chbind_core ..)
  | chput => exact .onMainIf (Dev.ext_core _ _ _ _ fun _ _ _ _ => Dev.chput_core ..)
  | chend => exact .onMainIf (Dev.ext_core _ _ _ _ fun _ _ _ _ => Dev.chend_core ..)
  | chget | chtok => exact .onMainIf (Dev.ext_core _ _ _ _ fun _ _ _ _ => Dev.receive_core ..)
  | channelTokenAccept => exact .onMain (Dev.tokenAccept_core ..)
  | channelTimeout => exact .onMainIf (Dev.channelTimeout_core ..)
  | interruptTake => exact .onMainIf (Dev.takeInt_core ..)
  | coreStall => exact .onMainIf (Dev.coreStall_core ..)
  | retire => exact .onMainIf (Dev.retireSlot_core ..)
  | yieldSlot => exact .onMainIf (Dev.yieldSlot_core ..)
  | debugHalt => exact .onMainIf (Dev.debugHalt_core ..)
  | debugResume => exact .onMainIf (Dev.setHart_core ..)
  | nchpoison => exact .onMainIf (Dev.poisonEnd_core ..)
  | coreRelease => exact .onMainIf (Dev.bootNext_core ..)
  | vauxGood => exact .always (ite_keeps rfl ((Dev.coldReset_core ..).trans (core_mk _)))
  | mainDomainGood => exact execMainDomainGood_core ..
  | mainRailLoss => exact execMainRailLoss_core ..
  | resetNAssert => exact execResetNAssert_core ..
  | resetNRelease => exact .ok (core_mk _)
  | earlySetApply => exact .onMainIf (Dev.earlySet_core ..)
  | memTrainingDone => exact .onMainIf (Dev.memTrained_core ..)
  | configLoading => exact .onMainIf ((Dev.bootNext_core ..).trans (core_mk _))
  | fullLoadDone => exact .onMainIf (Dev.fullLoad_core ..)
  | bootWatchdog => exact .onMainIf ((Dev.warmReset_core ..).trans ((Dev.diag_core ..).trans (core_mk _)))
  | imgEraseDone => exact .onMainIf ((Dev.setObj_core ..).trans (Dev.setFlash_core ..))
  | imgProgramDone => exact .onMainIf ((Dev.setObj_core ..).trans ((core_mk _).trans (Dev.setFlash_core ..)))
  | imgCheckDone => exact .onMainIf (Dev.imgChecked_core ..)
  | lcTransition => exact .always (ite_keeps (Dev.coldReset_core ..) rfl)
  | avsUpdate => exact .onMainIf (Dev.avsUpdate_core ..)
  | throttleUpdate => exact .onMain (Dev.readPower_core ..)
  | thermalTrip => exact execThermalTrip_core ..
  | memTempRead => exact .onMainIf (Dev.memTemp_core ..)
  | patrolScrub => exact .onMainIf (ite_keeps rfl (ite_keeps (Dev.memCorrected_core ..) (Dev.memLost_core ..)))
  | twinLinkUp => exact .twinIf ((Dev.sendIdentity_core _).trans ((Dev.setObj_core ..).trans (core_mk _)))
  | twinIdentityRecord => exact execTwinIdentityRecord_core ..
  | mirrorMessage => exact .twinIf (ite_keeps ((Dev.emit_core ..).trans (Dev.applyMirror_core ..)) (Dev.applyMirror_core ..))
  | mirrorAck => exact execMirrorAck_core ..
  | twinLinkLoss => exact .onMainIf (Dev.twinLost_core ..)
  | twinPeriodSync => exact execTwinPeriodSync_core ..
  | bulkCopyDone => exact .twinIf ((core_mk _).trans (Dev.setObj_core ..))
  | leaseRenew => exact .twinIf (Dev.renew_core ..)
  | leaseHello => exact .twinIf (Dev.hello_core ..)
  | leaseGrant => exact .onMainIf (Dev.onPath_core _ _ _ fun _ => (Dev.leaseGrant_core ..).trans (Dev.heard_core ..))
  | leaseTakeoverGrant => exact .onMainIf (Dev.onPath_core _ _ _ fun _ => (Dev.takeoverGrant_core ..).trans (Dev.heard_core ..))
  | takeoverStart => exact .twinIf (Dev.takeoverBegin_core ..)
  | takeoverActivate => exact .twinIf (Dev.takeoverEnd_core ..)
  | identityAnnounce => exact execIdentityAnnounce_core ..
  | fenceNAssert => exact execFenceNAssert_core ..
  | leaseRelease => exact .twinIf ((Dev.emit_core ..).trans (core_mk _))
  | openDrainStuck => exact .always (ite_keeps ((Dev.notify_core ..).trans ((Dev.bump_core ..).trans (Dev.sideband_core ..))) rfl)
  | ledTest => exact .always (ite_keeps (ite_keeps ((Dev.notify_core ..).trans (Dev.setObj_core ..)) (Dev.setObj_core ..)) rfl)
  | busStuck => exact .always (ite_keeps ((Dev.notify_core ..).trans (Dev.sideband_core ..)) rfl)
  | i3cTargetReset => exact .idle
  | ethrefAbsent => exact execEthrefAbsent_core ..
  | ethrefReturn => exact .onMainIf (Dev.etherBack_core _)
  | pcieRefclkAbsent => exact .onMainIf (Dev.refclkLost_core ..)
  | cabinetFencing => exact execCabinetFencing_core ..
  | deviceFault => exact .onMain (ite_keeps (Dev.dueFault_core ..) (ite_keeps (Dev.faultEdge_core _) rfl))
  | pcieRefclkReturn => exact execPcieRefclkReturn_core ..
  | hotPlugInsertion => exact execHotPlugInsertion_core ..
  | pmeTurnOff => exact .onMainIf ((Dev.emit_core ..).trans (Dev.setLink_core ..))
  | linkPowerStateChange => exact execLinkPowerStateChange_core ..
  | pmbAlert => exact .always (ite_keeps (Dev.setObj_core ..) rfl)
  | stuckOutputClear | busStuckClear => exact .always (ite_keeps (Dev.sideband_core ..) rfl)
  | interruptCoalescingTimer => exact .onMainIf (Dev.cqInterrupt_core ..)

end Sys2Proof.Machine
end

section
/-! The tick rule (R18): the counter moves at a tick edge and at the first lock of DCLK alone. -/
namespace Sys2Proof.Machine

/-! ### Commands that write memory keep the clock -/

theorem execVauxLoss_clock (s : State) : Keeps Dev.clock s (execVauxLoss s) := .ok rfl

/-- The wipe of the stores at the start of a boot touches memory and the boot's own state (R415). -/
theorem execSramWipeDone_clock (s : State) (puf : Bool) : Keeps Dev.clock s (execSramWipeDone puf s) :=
  .onMainIf (ite_keeps ((clock_of_core (Dev.bootFault_core _)).trans rfl) rfl)

/-- Every command but TICK_EDGE and DCLK_LOCK keeps the part and the tick counter. -/
theorem exec_clock (c : Instr) (s : State) (ht : ∀ b : Bool, c ≠ .tickEdge b) (hl : c ≠ .dclkLock) : Keeps Dev.clock s (exec c s) := by
  cases c with unfold exec
  | tickEdge b => exact absurd rfl (ht b)
  | vauxLoss => exact execVauxLoss_clock s
  | isaInstruction => exact .onMainIf (Dev.isa_clock ..)
  | takeParcel => exact .onMainIf (Dev.takeSlot_clock ..)
  | memWipeDone => exact .onMainIf (Dev.memWiped_clock _)
  | imageCheckDone => exact .onMainIf (Dev.imageCheck_clock _)
  | sramWipeDone puf => exact execSramWipeDone_clock s puf
  | bureauCommitApply | tableCommitApply | leaseCheck | policerTokens | shaperCredit | coarseSlotEmpty | calendarSlotOpen | workSteal
  | latencySample => exact .edgeCmd (Dev.through_clock ..)
  | _ => exact (exec_core _ s rfl rfl hl).clock

/-! ### The two commands that move the counter -/

/-- What TICK_EDGE does to the counter (R18). -/
theorem exec_tickEdge_tick {s t : State} {b : Bool} (h : exec (.tickEdge b) s = .next t) :
    t.tick = if s.power.main && s.power.dclk && (!s.power.up || s.finishEdge.power.up) then s.tick + 1 else s.tick := by
  cases h
  obtain ⟨-, htick, -, -⟩ := Dev.tickEdge_frame s.toDev b
  exact htick

theorem exec_tickEdge_part {s t : State} {b : Bool} (h : exec (.tickEdge b) s = .next t) : t.part = s.part := by
  cases h
  obtain ⟨hpart, -, -, -⟩ := Dev.tickEdge_frame s.toDev b
  exact hpart

/-- The first lock of DCLK sets the counter to zero, and another has no effect (R18). -/
theorem exec_dclkLock_tick {s t : State} (h : exec .dclkLock s = .next t) :
    t.tick = if s.power.main && !s.power.dclk then 0 else s.tick := by
  cases h
  exact apply_ite Dev.tick _ _ _

theorem exec_dclkLock_part {s t : State} (h : exec .dclkLock s = .next t) : t.part = s.part := by
  cases h
  exact ite_keeps (p := Dev.part) rfl rfl

/-! ### The rule -/

theorem exec_part {c : Instr} {s t : State} (h : exec c s = .next t) : t.part = s.part := by
  by_cases ht : ∃ b : Bool, c = .tickEdge b
  · obtain ⟨b, rfl⟩ := ht
    exact exec_tickEdge_part h
  · by_cases hl : c = .dclkLock
    · subst hl
      exact exec_dclkLock_part h
    · exact congrArg Prod.fst ((exec_clock c s (not_exists.mp ht) hl).next h)

/-- Settles O9: the tick edge and the lock of DCLK by what they do to the counter, and every other command by its frame. -/
theorem tickRule : Obligations.TickRule := by
  intro c s t h
  refine ⟨fun b hc => ?_, fun hc => ?_, fun ht hl => ?_, exec_part h⟩
  · subst hc
    exact exec_tickEdge_tick h
  · subst hc
    exact exec_dclkLock_tick h
  · exact congrArg Prod.snd ((exec_clock c s ht hl).next h)

end Sys2Proof.Machine
end

section
/-! Reading derived objects: TICK_COUNT and TB_NOW are served from the state of the present tick (R21, R358). -/
namespace Sys2Proof.Machine

/-- A derived object reads as its derived value, cut to the object's size in bytes (R62, R68). -/
theorem Dev.readObj_of_derived {s : Dev} {oid inst v : Nat} (size : Nat) (hsub : oid % 256 ≠ 0)
    (hsize : (objDef? oid).map (fun d => d.ty.size) = some size) (hv : s.derived oid inst = some v) :
    s.readObj oid inst = v % 2 ^ (8 * size) := by
  simp [Dev.readObj, hsub, hsize, hv]

theorem Dev.derived_tickCount (s : Dev) (inst : Nat) : s.derived Obj.TICK_COUNT inst = some s.tick := rfl

theorem Dev.derived_tbNow (s : Dev) (e : Nat) : s.derived Obj.TB_NOW e = some (time96 (s.tb e).val) := rfl

/-- Settles O12: both objects are derived, one of 8 bytes and one of 12. -/
theorem tickAndTimeAreReadAsServed : Obligations.TickAndTimeAreReadAsServed := fun s =>
  ⟨Dev.readObj_of_derived 8 (by decide) rfl (s.derived_tickCount 0), fun e => Dev.readObj_of_derived 12 (by decide) rfl (s.derived_tbNow e)⟩

end Sys2Proof.Machine
end

section
/-! Producer doorbells (R258): what the writes and interrupts of a state change leave of the queues' records, what a producer value does to
the queue it is applied to, and the doorbell that brings one to a READY queue. -/
namespace Sys2Proof.Machine

/-! ### Reading a queue's record -/

theorem Dev.queue?_setQueue (s : Dev) (qk j : Nat) (q : Queue) :
    (s.setQueue qk q).queue? j = if j = qk then some q else s.queue? j :=
  Tab.get?_ins qk j q s.hosts.queues

@[simp] theorem Dev.queue?_setQueue_same (s : Dev) (qk : Nat) (q : Queue) : (s.setQueue qk q).queue? qk = some q := by
  simp [Dev.queue?_setQueue]

@[simp] theorem Dev.queue?_bump (s : Dev) (oid i qk : Nat) : (s.bump oid i).queue? qk = s.queue? qk := by
  simp [Dev.queue?]

/-! ### Writes to a host, interrupts and mirror messages leave every queue's record alone -/

@[simp] theorem Dev.queue?_msix (s : Dev) (n v qk : Nat) : (s.msix n v).queue? qk = s.queue? qk := by
  unfold Dev.msix
  exact ite_keeps (p := (Dev.queue? · qk)) rfl rfl

@[simp] theorem Dev.queue?_intr (s : Dev) (n i qk : Nat) : (s.intr n i).queue? qk = s.queue? qk := by
  unfold Dev.intr
  exact ite_keeps (p := (Dev.queue? · qk)) (Dev.queue?_msix ..) rfl

@[simp] theorem Dev.queue?_translate (s : Dev) (n a qk : Nat) : (s.translate n a).queue? qk = s.queue? qk := by
  unfold Dev.translate
  exact ite_keeps (p := (Dev.queue? · qk)) rfl rfl

@[simp] theorem Dev.queue?_markDirty (s : Dev) (n a len qk : Nat) : (s.markDirty n a len).queue? qk = s.queue? qk := by
  unfold Dev.markDirty
  refine ite_keeps (p := (Dev.queue? · qk)) ?_ rfl
  refine List.foldlRecOn (motive := fun t : Dev => t.queue? qk = s.queue? qk) _ _ rfl ?_
  intro t ht page _
  exact ite_keeps (p := (Dev.queue? · qk)) (ite_keeps (p := (Dev.queue? · qk)) ht ht) ((t.queue?_bump ..).trans ht)

@[simp] theorem Dev.queue?_sendWrite (s : Dev) (n a : Nat) (data : List Nat) (ro : Bool) (qk : Nat) :
    (s.sendWrite n a data ro).queue? qk = s.queue? qk := by
  unfold Dev.sendWrite
  rw [Dev.queue?_markDirty]
  refine List.foldlRecOn (motive := fun t : Dev => t.queue? qk = s.queue? qk) _ _ rfl ?_
  intro t ht piece _
  exact (t.queue?_translate n piece.1 qk).trans ht

@[simp] theorem Dev.queue?_hostWrite (s : Dev) (n a : Nat) (data : List Nat) (ro : Bool) (qk : Nat) :
    (s.hostWrite n a data ro).queue? qk = s.queue? qk := by
  unfold Dev.hostWrite
  exact ite_keeps (p := (Dev.queue? · qk)) (Dev.queue?_sendWrite ..)
    (ite_keeps (p := (Dev.queue? · qk)) rfl (Dev.queue?_bump ..))

@[simp] theorem Dev.queue?_mirrorIndex (s : Dev) (qk j : Nat) : (s.mirrorIndex qk).queue? j = s.queue? j := by
  unfold Dev.mirrorIndex
  refine ite_keeps (p := (Dev.queue? · j)) ?_ rfl
  cases s.queue? qk with
  | none => rfl
  | some q => exact Dev.queue?_bump ..

/-! ### The record of a queue that enters a state -/

/-- The record of a queue that enters state st at a tick with a QSTATUS (R255). -/
def Queue.enter (q : Queue) (st status tick : Nat) : Queue := { q with st := st, status := status, stTick := tick }

theorem Dev.queue?_setQstate {s : Dev} {qk : Nat} {q : Queue} (hq : s.queue? qk = some q) (st status : Nat) (raise : Bool) :
    (s.setQstate qk st status raise).queue? qk = some (q.enter st status s.tick) := by
  have hset : (s.setQueue qk (q.enter st status s.tick)).queue? qk = some (q.enter st status s.tick) := Dev.queue?_setQueue_same ..
  have hwrite (c : Prop) [Decidable c] (n a : Nat) (data : List Nat) :
      (if c then s.setQueue qk (q.enter st status s.tick)
       else (s.setQueue qk (q.enter st status s.tick)).hostWrite n a data false).queue? qk = some (q.enter st status s.tick) :=
    ite_keeps (p := (Dev.queue? · qk)) hset ((Dev.queue?_hostWrite ..).trans hset)
  unfold Dev.setQstate
  rw [hq]
  exact ite_keeps (p := (Dev.queue? · qk)) ((Dev.queue?_intr ..).trans (hwrite ..)) (hwrite ..)

theorem Dev.queue?_freezeQueue {s : Dev} {qk : Nat} {q : Queue} (hq : s.queue? qk = some q) (status : Nat) :
    (s.freezeQueue qk status).queue? qk = some (q.enter 2 status s.tick) := by
  unfold Dev.freezeQueue
  simp only [hq]
  split
  · rw [Dev.queue?_setQstate ((Dev.queue?_bump ..).trans hq), Dev.bump_tick]
  · exact Dev.queue?_setQstate hq ..

/-! ### A producer value, good or an overrun (R258) -/

/-- The record of a work or admin queue to which producer value v has been applied: P moves to a good value, and an overrun freezes the
queue with QSTATUS 0x20 (R258, R276). -/
def Dev.produced (s : Dev) (q : Queue) (v : Nat) : Queue :=
  if s.goodProducer q v then { q with prod := q.prod + s.qsub q v q.prod } else q.enter 2 0x20 s.tick

theorem Dev.queue?_applyValue_producer {s : Dev} {qk : Nat} {q : Queue} (hq : s.queue? qk = some q) (htype : q.type ≠ 3) (v : Nat)
    (arm : Bool) : (s.applyValue qk v arm).queue? qk = some (s.produced q v) := by
  unfold Dev.applyValue Dev.produced
  simp only [hq, if_neg htype]
  split
  · exact (Dev.queue?_mirrorIndex ..).trans (Dev.queue?_setQueue_same ..)
  · exact Dev.queue?_freezeQueue hq 0x20

/-- At level 9 a producer value is good as R258 has it, in arithmetic modulo 2^32. -/
theorem Dev.goodProducer_of_level9 {s : Dev} (h : s.level7 = false) (q : Queue) (v : Nat) :
    s.goodProducer q v =
      decide ((v % 2 ^ 32 + 2 ^ 32 - q.prod % 2 ^ 32) % 2 ^ 32 ≤ q.size - (q.prod % 2 ^ 32 + 2 ^ 32 - q.cons % 2 ^ 32) % 2 ^ 32) := by
  simp [Dev.goodProducer, Dev.qsub, Dev.qmod, h]

/-- A free-running index that moves on by v − P reads v (R256). -/
theorem Dev.add_qsub_of_level9 {s : Dev} (h : s.level7 = false) (q : Queue) (v p : Nat) : (p + s.qsub q v p) % 2 ^ 32 = v % 2 ^ 32 := by
  simp only [Dev.qsub, Dev.qmod, h, Bool.false_eq_true, if_false]
  omega

/-! ### A doorbell on a READY queue -/

theorem Dev.level7_bump (s : Dev) (oid i : Nat) (h : oid < 2 ^ 32) (ho : Obj.COMPAT_LEVEL ≠ oid) : (s.bump oid i).level7 = s.level7 :=
  congrArg (· == 7) (s.compatLevel_setObj_ne oid i _ h ho)

/-- A doorbell that is not rejected is counted, and takes effect at once on a queue in READY that holds none back (R257, R472). -/
theorem Dev.doorbell_of_ready {s : Dev} {n page w : Nat} {q : Queue} (hbad : s.badBell n page w = false)
    (hq : s.queue? (qkey n (w % 16384)) = some q) (hst : q.st = 1) (hrefresh : q.refreshing = false) (hquiesce : (s.fn n).quiesce = none)
    (hready : s.obj Obj.READINESS = 3) : s.doorbell n page w = (s.bump Obj.DOORBELLS q.g).ring (qkey n (w % 16384)) w := by
  simp [Dev.doorbell, hbad, hq, hst, hrefresh, hquiesce, hready]

theorem Dev.ring_of_not_refresh (s : Dev) (qk : Nat) {w : Nat} (h : bits w 31 24 ≠ 2) :
    s.ring qk w = s.applyValue qk (w / 2 ^ 32 % 2 ^ 32) (bits w 31 24 == 3 && qk % 16384 != 1) :=
  if_neg h

/-- The record that a producer doorbell leaves of a READY queue: counting the doorbell does not touch it, and its value is applied. -/
theorem Dev.queue?_doorbell_producer {s : Dev} {n page w : Nat} {q : Queue} (hbell : bits w 31 24 = 1) (hbad : s.badBell n page w = false)
    (hq : s.queue? (qkey n (w % 16384)) = some q) (htype : q.type ≠ 3) (hst : q.st = 1) (hrefresh : q.refreshing = false)
    (hquiesce : (s.fn n).quiesce = none) (hready : s.obj Obj.READINESS = 3) :
    (s.doorbell n page w).queue? (qkey n (w % 16384)) = some ((s.bump Obj.DOORBELLS q.g).produced q (w / 2 ^ 32 % 2 ^ 32)) := by
  have hring : bits w 31 24 ≠ 2 := by simp [hbell]
  rw [Dev.doorbell_of_ready hbad hq hst hrefresh hquiesce hready, Dev.ring_of_not_refresh _ _ hring]
  exact Dev.queue?_applyValue_producer ((Dev.queue?_bump ..).trans hq) htype _ _

theorem exec_doorbellValue_of_up (s : State) {n page w : Nat} (hup : s.power.up = true) (hbar : s.barUp n = true) (hbell : bits w 31 24 = 1) :
    exec (.doorbellValue n page w) s = .next (s.after (s.doorbell n page w)) := by
  change execDoorbellValue n page w s = _
  exact onMainIf_up s _ _ hup (by simp [hbar, hbell])

/-- Settles O13: the doorbell's value is applied to the queue, and at level 9 it is good exactly as R258 says. -/
theorem producerDoorbellOutcomes : Obligations.ProducerDoorbellOutcomes := by
  intro s n page w q hup hbar hbell hbad hq htype hst hrefresh hquiesce hready hlevel
  have hlevel' : (s.bump Obj.DOORBELLS q.g).level7 = false := (s.level7_bump Obj.DOORBELLS q.g (by decide) (by decide)).trans hlevel
  refine ⟨_, exec_doorbellValue_of_up s hup hbar hbell, _,
    Dev.queue?_doorbell_producer hbell hbad hq htype hst hrefresh hquiesce hready, ?_⟩
  simp only [Dev.produced, Dev.goodProducer_of_level9 hlevel', decide_eq_true_eq, Nat.mod_mod]
  split
  · exact ⟨(Dev.add_qsub_of_level9 hlevel' q _ _).trans (Nat.mod_mod ..), hst, rfl⟩
  · exact ⟨rfl, rfl, rfl, rfl⟩

end Sys2Proof.Machine
end

section
/-! The end of a job that has waited too long for randomness (R335): how a slice's jobs and a thread's result record read once a job has
left, and RNG_WAIT_TIMEOUT as one job's departure. -/
namespace Sys2Proof.Machine

/-! ### Waking a thread leaves the cipher slices alone -/

@[simp] theorem Dev.wakeEval_cipher (s : Dev) (h : Nat) : (s.wakeEval h).cipher = s.cipher := by
  unfold Dev.wakeEval
  dsimp only
  split
  · exact ite_keeps (p := Dev.cipher) rfl (ite_keeps (p := Dev.cipher) rfl rfl)
  · rfl

@[simp] theorem Dev.portDone_cipher (s : Dev) (h : Nat) : (s.portDone h).cipher = s.cipher := by
  unfold Dev.portDone Dev.raise
  exact ite_keeps (p := Dev.cipher) (Dev.wakeEval_cipher ..) rfl

/-! ### The jobs of a slice -/

theorem Dev.sliceJobs_setSliceJobs (s : Dev) (d e : Nat) (l : List SliceJob) :
    (s.setSliceJobs d l).sliceJobs e = if e = d then l else s.sliceJobs e :=
  Tab.getD_put [] d e l s.cipher.jobs

/-- A job that leaves its slice leaves it one job shorter. -/
theorem Dev.length_sliceJobs_dropSliceJob {s : Dev} {d i : Nat} {j : SliceJob} (hj : (s.sliceJobs d)[i]? = some j) :
    ((s.dropSliceJob d i).sliceJobs d).length + 1 = (s.sliceJobs d).length := by
  obtain ⟨hi, -⟩ := List.getElem?_eq_some_iff.mp hj
  rw [Dev.dropSliceJob, Dev.sliceJobs_setSliceJobs, if_pos rfl, List.length_eraseIdx_of_lt hi]
  omega

@[simp] theorem Dev.dropSliceJob_work (s : Dev) (d i : Nat) : (s.dropSliceJob d i).work = s.work := rfl

/-! ### A parcel leaves its slice with a drop -/

theorem Dev.sliceJobs_parcelDropped (s : Dev) (d i : Nat) (c : SorterCtx) (status e : Nat) :
    (s.parcelDropped d i c status).sliceJobs e = (s.dropSliceJob d i).sliceJobs e := by
  simp [Dev.parcelDropped, Dev.toFins, Dev.sliceJobs]

theorem Dev.fins_parcelDropped (s : Dev) (d i : Nat) (c : SorterCtx) (status : Nat) :
    (s.parcelDropped d i c status).work.fins = s.work.fins ++ [{ c.dropped 5 status with eng := some (engineSlice d) }] := by
  simp [Dev.parcelDropped, Dev.toFins]

/-! ### A thread's job ends with a result record -/

theorem Dev.sliceJobs_jobEnd (s : Dev) (h i : Nat) (o : JobOut) (data e : Nat) :
    (s.jobEnd h i o data).sliceJobs e = (s.dropSliceJob (h / 32) i).sliceJobs e := by
  simp [Dev.jobEnd, Dev.updCipher, Dev.sliceJobs]

/-- The result record of thread k after a job of thread h has ended (R338). -/
theorem Dev.results_jobEnd (s : Dev) (h i : Nat) (o : JobOut) (data k : Nat) :
    Tab.get? (s.jobEnd h i o data).cipher.results k = if k = h then some o.word else Tab.get? s.cipher.results k := by
  have hdrop : (s.dropSliceJob (h / 32) i).cipher.results = s.cipher.results := rfl
  simp [Dev.jobEnd, Dev.updCipher, Tab.get?_ins, hdrop]

/-- STATUS of a result record (R338). -/
theorem JobOut.word_status (o : JobOut) (hs : o.status < 256) (hd : o.detail < 256) : bits o.word 31 24 = o.status := by
  simp only [bits, JobOut.word, Nat.shiftRight_eq_div_pow]
  omega

/-- DETAIL of a result record (R338). -/
theorem JobOut.word_detail (o : JobOut) (hd : o.detail < 256) : bits o.word 23 16 = o.detail := by
  simp only [bits, JobOut.word, Nat.shiftRight_eq_div_pow]
  omega

/-- DONE of a result record (R338). -/
theorem JobOut.word_done (o : JobOut) : bit o.word 0 = true := by
  simp only [bit, JobOut.word, Nat.shiftRight_zero, beq_iff_eq]
  omega

/-! ### RNG_WAIT_TIMEOUT -/

theorem SliceJob.starved_of_since {j : SliceJob} {t0 tick : Nat} (hsince : j.rngSince = some t0) (hwait : t0 + 2048 ≤ tick) :
    j.starved tick = true := by
  simp [SliceJob.starved, hsince, hwait]

theorem Dev.rngTimeout_of_parcel {j : SliceJob} {c : SorterCtx} {walk : Bool} (hwork : j.work = .parcel c walk) (s : Dev) (d i : Nat) :
    s.rngTimeout d i j = s.parcelDropped d i c 0x41 := by
  simp [Dev.rngTimeout, hwork]

theorem Dev.rngTimeout_of_thread {j : SliceJob} {h r : Nat} (hwork : j.work = .thread h r) (s : Dev) (d i : Nat) :
    s.rngTimeout d i j = s.jobEnd h i { status := 0x41, detail := 6 } 0 := by
  simp [Dev.rngTimeout, hwork]

theorem exec_rngWaitTimeout_of_starved (s : State) {d i : Nat} {j : SliceJob} (hup : s.power.up = true)
    (hj : (s.sliceJobs d)[i]? = some j) (hstarved : j.starved s.tick = true) :
    exec (.rngWaitTimeout d i) s = .next (s.after (s.rngTimeout d i j)) := by
  change execRngWaitTimeout d i s = _
  simp only [execRngWaitTimeout, hj]
  exact onMainIf_up s _ _ hup hstarved

/-- Settles O17: a starved parcel job is a parcel's drop, and a starved thread job ends with the record of 0x41 and DETAIL 6. -/
theorem randomnessStarvedJobsEnd : Obligations.RandomnessStarvedJobsEnd := by
  intro s d i t0 j hup hj hsince hwait
  refine ⟨_, exec_rngWaitTimeout_of_starved s hup hj (SliceJob.starved_of_since hsince hwait), ?_, ?_⟩
  · intro c walk hwork
    rw [State.after_toDev, Dev.rngTimeout_of_parcel hwork, Dev.sliceJobs_parcelDropped]
    exact ⟨Dev.length_sliceJobs_dropSliceJob hj, Dev.fins_parcelDropped ..⟩
  · intro h r hwork
    rw [State.after_toDev, Dev.rngTimeout_of_thread hwork]
    refine ⟨?_, _, (Dev.results_jobEnd ..).trans (if_pos rfl), JobOut.word_status _ (by decide) (by decide),
      JobOut.word_detail _ (by decide), JobOut.word_done _⟩
    rintro rfl
    rw [Dev.sliceJobs_jobEnd]
    exact Dev.length_sliceJobs_dropSliceJob hj

end Sys2Proof.Machine
end

section
/-! SET of a time base (R360): what a base reads once one is replaced, and the SET that an ARMED base takes or refuses by its tick alone. -/
namespace Sys2Proof.Machine

/-! ### Reading a time base -/

/-- The base replaced reads as written, and every other base as before. -/
theorem Dev.tb_setTb (s : Dev) (e x : Nat) (b : TimeBase) : (s.setTb e b).tb x = if x = e then b else s.tb x :=
  Tab.getD_put ({} : TimeBase) e x b s.postmark.bases

/-- Time bases are no objects of the store. -/
@[simp] theorem Dev.tb_setObj (s : Dev) (oid i v x : Nat) : (s.setObj oid i v).tb x = s.tb x := by
  simp [Dev.tb]

/-- TB_STATE holds every state of a time base that fits a byte. -/
theorem Dev.tbState_setObj (s : Dev) (e st : Nat) (hst : st < 256) : (s.setObj Obj.TB_STATE e st).obj Obj.TB_STATE e = st := by
  rw [Dev.obj_setObj s _ e e st _ rfl, if_pos rfl]
  exact Nat.mod_eq_of_lt hst

/-! ### SET of an ARMED base -/

/-- What a SET with value v makes of a time base at an edge: V advanced at the nominal rate from its tick to the edge, and no slew (R360). -/
def TimeBase.setAt (b : TimeBase) (tick v : Nat) : TimeBase :=
  { b with val := ofTime96 (v % 2 ^ 96) + (((tick - v / 2 ^ 96 % 2 ^ 64) * 512 * nsUnit : Nat) : Int), slew := 0 }

/-- A tick at most 2^20 edges old is taken, and the base enters FREQ_ONLY. -/
theorem Dev.tbSet_taken {s : Dev} {e v : Nat} (harmed : s.obj Obj.TB_STATE e = 0) (hpast : v / 2 ^ 96 % 2 ^ 64 ≤ s.tick)
    (hrecent : s.tick ≤ v / 2 ^ 96 % 2 ^ 64 + 2 ^ 20) :
    s.tbSet e v = (0, (s.setTb e ((s.tb e).setAt s.tick v)).setObj Obj.TB_STATE e 1) := by
  have hwindow : ¬ (s.tick < v / 2 ^ 96 % 2 ^ 64 ∨ v / 2 ^ 96 % 2 ^ 64 + 2 ^ 20 < s.tick) := by omega
  exact (if_neg (not_not_intro harmed)).trans (if_neg hwindow)

/-- A tick to come, or one more than 2^20 edges old, is refused with 0x01. -/
theorem Dev.tbSet_refused {s : Dev} {e v : Nat} (harmed : s.obj Obj.TB_STATE e = 0)
    (hout : s.tick < v / 2 ^ 96 % 2 ^ 64 ∨ v / 2 ^ 96 % 2 ^ 64 + 2 ^ 20 < s.tick) : s.tbSet e v = (1, s) :=
  (if_neg (not_not_intro harmed)).trans (if_pos hout)

/-- Settles O15: a SET within the window replaces the base it names and its state, and one outside the window answers 0x01 alone. -/
theorem setTimeBase : Obligations.SetTimeBase := by
  intro s e v harmed A
  refine ⟨fun hpast hrecent => ?_, Dev.tbSet_refused harmed⟩
  have hbase : (s.tbSet e v).2.tb e = (s.tb e).setAt s.tick v := by
    rw [Dev.tbSet_taken harmed hpast hrecent, Dev.tb_setObj, Dev.tb_setTb, if_pos rfl]
  have hothers : ∀ x : Nat, x ≠ e → (s.tbSet e v).2.tb x = s.tb x := by
    intro x hx
    rw [Dev.tbSet_taken harmed hpast hrecent, Dev.tb_setObj, Dev.tb_setTb, if_neg hx]
  have hstate : (s.tbSet e v).2.obj Obj.TB_STATE e = 1 := by
    rw [Dev.tbSet_taken harmed hpast hrecent]
    exact Dev.tbState_setObj _ e 1 (by decide)
  have hstatus : (s.tbSet e v).1 = 0 := congrArg Prod.fst (Dev.tbSet_taken harmed hpast hrecent)
  rw [hbase]
  exact ⟨hstatus, rfl, rfl, rfl, hstate, hothers⟩

end Sys2Proof.Machine
end

section
/-! The number of a thread (R383): a read of mhartid, and the fields of a word that is spelled as their sum. -/
namespace Sys2Proof.Machine

/-! ### A field of a word written out -/

/-- A word spelled as what stands above a field, the field f, and what stands below it, holds f in that field. -/
theorem bits_of_spelled {v hi lo f : Nat} (above below : Nat) (hv : v = 2 ^ lo * (2 ^ (hi + 1 - lo) * above + f) + below)
    (hbelow : below < 2 ^ lo) (hf : f < 2 ^ (hi + 1 - lo)) : bits v hi lo = f := by
  rw [bits, Nat.shiftRight_eq_div_pow, hv, Nat.mul_add_div (Nat.two_pow_pos lo), Nat.div_eq_of_lt hbelow, Nat.add_zero,
    Nat.mul_add_mod, Nat.mod_eq_of_lt hf]

/-- Bit i of a word below 2^i is zero. -/
theorem bit_of_lt {v i : Nat} (hv : v < 2 ^ i) : bit v i = false := by
  simp [bit, Nat.shiftRight_eq_zero v i hv]

/-! ### mhartid -/

/-- mhartid of thread h reads h, whatever the state, and the read changes nothing. -/
theorem Dev.csrRead_mhartid (s : Dev) {h : Nat} (hh : h < 2 ^ 64) : s.csrRead h 0xF14 = (some h, s) := by
  have hread : s.csrRead h 0xF14 = (some (h % 2 ^ 64), s) := rfl
  rw [hread, Nat.mod_eq_of_lt hh]

/-- Settles O18: the thread's number is the sum of its fields, each below the weight of the next, and mhartid reads that number. -/
theorem mhartidSpellsThePlace : Obligations.MhartidSpellsThePlace := by
  intro s c k j i hc hk hj hi
  have hread := congrArg Prod.fst (Dev.csrRead_mhartid s (h := 512 * c + 32 * k + 8 * j + i) (by omega))
  refine ⟨hread, by omega, fun v hv => ?_⟩
  have hsum : v = 512 * c + 32 * k + 8 * j + i := Option.some.inj (hv.symm.trans hread)
  have hcabinet : bits v 10 9 = c := bits_of_spelled 0 (32 * k + 8 * j + i) (by omega) (by omega) (by omega)
  have hdrawer : bits v 8 5 = k := bits_of_spelled c (8 * j + i) (by omega) (by omega) (by omega)
  have hcore : bits v 4 3 = j := bits_of_spelled (16 * c + k) i (by omega) (by omega) (by omega)
  have hthread : bits v 2 0 = i := bits_of_spelled (64 * c + 4 * k + j) 0 (by omega) (by omega) (by omega)
  have hrest : bits v 63 11 = 0 := bits_of_spelled 0 v (by omega) (by omega) (by omega)
  exact ⟨hcabinet, hdrawer, hcore, hthread, hrest, fun hik9c => bit_of_lt (hsum ▸ hik9c)⟩

end Sys2Proof.Machine
end

section
/-! What every command answers: a next state made from a device, whose memory is canonical where it was before. -/
namespace Sys2Proof.Machine

/-- A command from state s answers a next state made from a device with property P. -/
def Answers (s : State) (r : Res) (P : Dev → Prop) : Prop := ∃ d : Dev, r = ok s d ∧ P d

namespace Answers

variable {s : State} {r : Res} {P Q : Dev → Prop} {c : Bool} {f : Dev → Dev}

theorem ok {d : Dev} (h : P d) : Answers s (ok s d) P := ⟨d, rfl, h⟩

theorem onMainIf (h : P (f s.toDev)) (hidle : P s.toDev) : Answers s (onMainIf s c f) P := by
  refine .ok ?_
  split
  · exact h
  · exact hidle

theorem mono (h : Answers s r P) (hPQ : ∀ d, P d → Q d) : Answers s r Q := by
  obtain ⟨d, hr, hd⟩ := h
  exact ⟨d, hr, hPQ d hd⟩

/-- What holds of every device that a command may answer holds of the next state. -/
theorem next {t : State} (h : Answers s r P) (ht : r = .next t) : P t.toDev := by
  obtain ⟨d, rfl, hd⟩ := h
  cases ht
  exact hd

/-- The next state has the outputs that its device drives, and the commands that were waiting. -/
theorem next_eq {t : State} (h : Answers s r P) (ht : r = .next t) : t = s.after t.toDev := by
  obtain ⟨d, rfl, -⟩ := h
  cases ht
  rfl

end Answers

theorem Keeps.answers {α : Type} {p : Dev → α} {s : State} {r : Res} (h : Keeps p s r) : Answers s r (fun d => p d = p s.toDev) := h

/-! ### Memory -/

/-- The memory of d is canonical where that of s was. -/
def KeepsMemWf (s d : Dev) : Prop := Memory.wf s.mem = true → Memory.wf d.mem = true

/-- What edge work leaves of memory: its canonical form, and every byte outside the hand-over record (R410). -/
structure KeepsEdgeMem (s d : Dev) : Prop where
  wf : KeepsMemWf s d
  bytes : ∀ a : Nat, (a < stagingBase ∨ stagingBase + 64 ≤ a) → d.byte a = s.byte a

theorem KeepsEdgeMem.refl (s : Dev) : KeepsEdgeMem s s := ⟨id, fun _ _ => rfl⟩

theorem EdgeMem.keeps {s d : Dev} (h : EdgeMem s d) : KeepsEdgeMem s d := ⟨h.wf, h.bytes⟩

theorem Dev.tickEdge_keepsEdgeMem (s : Dev) (stepwise : Bool) : KeepsEdgeMem s (s.tickEdge stepwise) := by
  obtain ⟨-, -, hwf, hbytes⟩ := s.tickEdge_frame stepwise
  exact ⟨hwf, hbytes⟩

theorem edgeCmd_keepsEdgeMem (s : State) (p : EdgePiece) : Answers s (edgeCmd s p) (KeepsEdgeMem s.toDev) :=
  .onMainIf (s.through_edgeMem p).keeps (.refl _)

/-- The commands that do the edge work of the Bureau write at most the hand-over record (R24, R410). -/
theorem exec_keepsEdgeMem (c : Instr) (s : State) (hc : runsBureau c = true) : Answers s (exec c s) (KeepsEdgeMem s.toDev) := by
  cases c with unfold exec
  | tickEdge stepwise => exact .ok (s.tickEdge_keepsEdgeMem stepwise)
  | bureauCommitApply | tableCommitApply | leaseCheck | policerTokens | shaperCredit | coarseSlotEmpty | calendarSlotOpen | workSteal
  | latencySample => exact edgeCmd_keepsEdgeMem s _
  | _ => exact nomatch hc

theorem keepsMemWf_of_core {s d : Dev} (h : d.core = s.core) : KeepsMemWf s d := memWf_of_core h

/-- The wipe of the stores at the start of a boot drops cells, and the boot's own state lies outside memory (R415). -/
theorem execSramWipeDone_keepsMemWf (s : State) (puf : Bool) : Answers s (execSramWipeDone puf s) (KeepsMemWf s.toDev) := by
  have hwipe : KeepsMemWf s.toDev { s.toDev with mem := s.mem.filter (fun c => decide (gddrBase ≤ c.1)) } := memFilter_wf _
  refine .onMainIf (fun hw => ?_) id
  dsimp only
  split
  · exact memWf_of_core ((Dev.bootFault_core _).trans (Dev.bootNext_core _ (.enter 1))) (hwipe hw)
  · exact memWf_of_core (Dev.bootNext_core _ (.enter 1)) (hwipe hw)

/-- The commands that write memory keep its canonical form. -/
theorem exec_keepsMemWf_of_writes (c : Instr) (s : State) (hc : writesMemory c = true) : Answers s (exec c s) (KeepsMemWf s.toDev) := by
  cases c with unfold exec
  | isaInstruction => exact .onMainIf (Dev.isa_memWf s.toDev _ _ _) id
  | takeParcel => exact .onMainIf (Dev.takeSlot_memWf s.toDev _) id
  | memWipeDone => exact .onMainIf (Dev.memWiped_memWf _) id
  | imageCheckDone => exact .onMainIf (Dev.imageCheck_memWf _) id
  | vauxLoss => exact .ok fun _ => reset_memory_wf
  | sramWipeDone puf => exact execSramWipeDone_keepsMemWf s puf
  | _ => exact nomatch hc

theorem exec_dclkLock_keepsMemWf (s : State) : Answers s (exec .dclkLock s) (KeepsMemWf s.toDev) := by
  refine .ok ?_
  dsimp only
  split <;> exact id

/-- Every command answers a next state, and none spoils the canonical form of memory. -/
theorem exec_keepsMemWf (c : Instr) (s : State) : Answers s (exec c s) (KeepsMemWf s.toDev) := by
  by_cases hw : writesMemory c = true
  · exact exec_keepsMemWf_of_writes c s hw
  by_cases hb : runsBureau c = true
  · exact (exec_keepsEdgeMem c s hb).mono fun _ h => h.wf
  by_cases hl : c = .dclkLock
  · subst hl
    exact exec_dclkLock_keepsMemWf s
  · exact (exec_core c s (eq_false_of_ne_true hw) (eq_false_of_ne_true hb) hl).answers.mono fun _ h => keepsMemWf_of_core h

/-! ### A step, by the queue -/

theorem step_of_idle {s : State} (h : s.pending = []) : step s = .next s := by
  unfold step; rw [h]

theorem step_of_front {s : State} {c : Instr} {rest : List Instr} (h : s.pending = c :: rest) :
    step s = exec c { s with pending := rest } := by
  unfold step; rw [h]

/-- What a step can do: with no command waiting it idles, and otherwise the front command makes a device from which the next state follows. -/
theorem step_cases (s : State) :
    (s.pending = [] ∧ step s = .next s) ∨
    ∃ (c : Instr) (rest : List Instr) (d : Dev), s.pending = c :: rest ∧ step s = .next { s with toDev := d, outs := d.driven, pending := rest } ∧
      KeepsMemWf s.toDev d := by
  cases hq : s.pending with
  | nil => exact .inl ⟨rfl, step_of_idle hq⟩
  | cons c rest =>
    obtain ⟨d, hd, hwf⟩ := exec_keepsMemWf c { s with pending := rest }
    exact .inr ⟨c, rest, d, rfl, (step_of_front hq).trans hd, hwf⟩

/-! ### The obligations -/

/-- Settles O4: an idle step changes nothing; otherwise the outputs are made from the device, the queue is a part of the old one, and no
command spoils the form of memory. -/
theorem stepKeepsInv : Obligations.StepKeepsInv := by
  intro s t hinv ht
  obtain ⟨houts, hpending, hmem⟩ := hinv
  obtain ⟨-, hstep⟩ | ⟨c, rest, d, hq, hstep, hwf⟩ := step_cases s
  · cases hstep.symm.trans ht
    exact ⟨houts, hpending, hmem⟩
  · cases hstep.symm.trans ht
    refine ⟨rfl, fun x hx => hpending x ?_, hwf hmem⟩
    rw [hq]
    exact List.mem_cons_of_mem c hx

/-- Settles O10: every command outside both lists keeps memory itself, and the edge work of the Bureau keeps every byte outside the
hand-over record. -/
theorem memoryFrame : Obligations.MemoryFrame := by
  intro c s t ht
  refine ⟨fun hw hb => ?_, fun hb => ((exec_keepsEdgeMem c s hb).next ht).bytes⟩
  have hmem : t.mem = s.mem := by
    by_cases hl : c = .dclkLock
    · subst hl
      cases ht
      exact apply_ite Dev.mem _ _ _ |>.trans (ite_self _)
    · exact congrArg (fun x => x.2.2) ((exec_core c s hw hb hl).next ht)
  exact ⟨hmem, fun a => by rw [Dev.byte, Dev.byte, hmem]⟩

/-- Settles O5: both ways in which a step can go answer a next state with the front command taken. -/
theorem queueRunsFirstInFirstOut : Obligations.QueueRunsFirstInFirstOut := by
  intro s
  obtain ⟨hq, hstep⟩ | ⟨c, rest, d, hq, hstep, -⟩ := step_cases s
  · refine ⟨⟨_, hstep⟩, fun t ht => ?_⟩
    cases hstep.symm.trans ht
    rw [hq, List.drop_nil]
  · refine ⟨⟨_, hstep⟩, fun t ht => ?_⟩
    cases hstep.symm.trans ht
    rw [hq, List.drop_one, List.tail_cons]

/-- Settles O6: the device is the one that the command's frame speaks of. -/
theorem everyCommandCompletes : Obligations.EveryCommandCompletes := by
  intro c s
  obtain ⟨d, hd, -⟩ := exec_keepsMemWf c s
  exact ⟨d, hd⟩

/-- Settles O1: the step with a command at the front. -/
theorem stepRunsTheFrontCommand : Obligations.StepRunsTheFrontCommand := fun _ _ _ => step_of_front

/-- Settles O2: the step with no command waiting. -/
theorem emptyQueueIdles : Obligations.EmptyQueueIdles := fun _ => step_of_idle

/-- Settles O3: the outputs of the reset state are the driven ones, no command waits, and no byte of memory is listed. -/
theorem invHoldsAtReset : Obligations.InvHoldsAtReset := by
  refine ⟨?_, fun c hc => ?_, reset_memory_wf⟩
  · rfl
  · exact absurd hc List.not_mem_nil

end Sys2Proof.Machine
end

section
/-! The outputs after a command: what the device that it leaves drives (R97, R108, R469, R485, R500). -/
namespace Sys2Proof.Machine

theorem Dev.driven_leds_off {d : Dev} (h : d.obj Obj.READINESS < 2) : d.driven.leds = [0, 0, 0, 0] := by
  simp [Dev.driven, Dev.ledDrive, h, List.range_succ]

theorem Dev.driven_leds_on {d : Dev} (h : 2 ≤ d.obj Obj.READINESS) :
    d.driven.leds = [d.obj Obj.LED_MODE 0, d.obj Obj.LED_MODE 1, d.obj Obj.LED_MODE 2, d.obj Obj.LED_MODE 3] := by
  simp [Dev.driven, Dev.ledDrive, Nat.not_lt.mpr h, List.range_succ]

/-- Where no port's transmitter is on, all 32 are in electrical idle. -/
theorem Dev.driven_ethTx_idle {d : Dev} (h : ∀ p, d.ethOut p = false) : d.driven.ethTx = List.replicate 32 false := by
  have hall : d.ethOut = fun _ => false := funext h
  rw [Dev.driven, hall, List.map_const', List.length_range]

theorem Dev.driven_ethTx_get {d : Dev} {p : Nat} (hp : p < 32) : d.driven.ethTx[p]? = some (d.ethOut p) := by
  simp [Dev.driven, hp]

/-- Settles O8: the next state's outputs are those its device drives, and each clause reads one of them. -/
theorem outputsFollowTheState : Obligations.OutputsFollowTheState := by
  intro c s
  obtain ⟨d, hd, -⟩ := exec_keepsMemWf c s
  refine ⟨_, hd, Dev.driven_leds_off, Dev.driven_leds_on, rfl, fun hfault => ?_, fun hready => ?_, fun hfault hready p hp => ?_⟩
  · refine Dev.driven_ethTx_idle fun p => ?_
    have hfault' : d.obj Obj.DEVICE_FAULT ≠ 0 := hfault
    simp [Dev.ethOut, hfault']
  · refine Dev.driven_ethTx_idle fun p => ?_
    have hready' : d.obj Obj.READINESS ≠ 3 := hready
    simp [Dev.ethOut, hready']
  · have hfault' : d.obj Obj.DEVICE_FAULT = 0 := hfault
    have hready' : d.obj Obj.READINESS = 3 := hready
    refine (Dev.driven_ethTx_get hp).trans (congrArg some ?_)
    rw [Dev.ethOut, hfault', hready']
    exact (Bool.true_and _).trans (Bool.eq_iff_iff.mpr (bne_iff_ne.trans decide_eq_true_iff.symm))

end Sys2Proof.Machine
end

section
/-! The commands of the main domain: each leaves the device as it is while that domain is down (R465, R468, R470). -/
namespace Sys2Proof.Machine

/-- While the main domain is down the command leaves the device as it is. -/
structure MainOnly (s : State) (r : Res) : Prop where
  idle_of_down : s.power.up = false → r = ok s s.toDev

namespace MainOnly

variable {s : State} {c : Bool} {f : Dev → Dev}

theorem idle : MainOnly s (ok s s.toDev) := ⟨fun _ => rfl⟩

theorem onMain : MainOnly s (onMain s f) := ⟨onMain_down s f⟩

theorem onMainIf : MainOnly s (onMainIf s c f) := ⟨fun h => onMainIf_idle s c f (by simp [h])⟩

theorem twinIf : MainOnly s (twinIf s c f) := .onMainIf

theorem edgeCmd {p : EdgePiece} : MainOnly s (edgeCmd s p) := .onMainIf

theorem adminRun {n desc op : Nat} {manager : Bool} : MainOnly s (adminRun s n desc op manager f) := .onMainIf

theorem corrCmd {h op rec : Nat} : MainOnly s (corrCmd h op rec s) := .onMainIf

end MainOnly

theorem adminCmd_mainOnly (s : State) (c cid op : Nat) (f : Dev → NvmCmd → Dev) : MainOnly s (adminCmd s c cid op f) := by
  unfold adminCmd
  split
  · exact .onMain
  · exact .idle

theorem adminData_mainOnly (s : State) (c cid op : Nat) (d : Dev → NvmCmd → HostData) (come : Bool) (f : Dev → NvmCmd → List (Nat × Nat) → Dev) :
    MainOnly s (adminData s c cid op d come f) := by
  unfold adminData
  split
  · exact .onMain
  · exact .idle

theorem ioCmd_mainOnly (s : State) (c q cid op : Nat) (f : Dev → NvmCmd → Dev) : MainOnly s (ioCmd s c q cid op f) := by
  unfold ioCmd
  split
  · exact .onMain
  · exact .idle

theorem exec_mainOnly (c : Instr) (s : State) (hc : auxiliary c = false) : MainOnly s (exec c s) := by
  cases c with unfold exec
  | tickEdge | readReq | writeReq | commitTxn | abortTxn | notifyAck | perstAssert | perstRelease | wakeEvent | vauxGood | vauxLoss
  | mainDomainGood | mainRailLoss | resetNAssert | resetNRelease | dclkLock | lcTransition | thermalTrip | fenceNAssert | openDrainStuck
  | stuckOutputClear | ledTest | busStuck | busStuckClear | i3cTargetReset | pmbAlert => exact nomatch hc
  | monitorWatchdog | drawerFence | cabinetFencing | deviceFault | sweep | throttleUpdate | channelTokenAccept => exact .onMain
  | createIoSq | deleteIoSq | createIoCq | deleteIoCq | abortCmd | setFeatures | getFeatures | asyncEventRequest | thawSq =>
    exact adminCmd_mainOnly ..
  | getLogPage | identify | namespaceManagement | namespaceAttachment => exact adminData_mainOnly ..
  | flushCmd | nvmWrite | nvmRead | writeZeroes | datasetManagement => exact ioCmd_mainOnly ..
  | snapshot | bureauCommitApply | tableCommitApply | shaperCredit | calendarSlotOpen | coarseSlotEmpty | policerTokens | workSteal
  | latencySample | leaseCheck => exact .edgeCmd
  | createQueue | destroyQueue | queueReset | bureauRead | bureauWrite | bureauCommit | functionAbort | quiesceFunction | resumeFunction
  | freezeState | saveState | restoreState | thawState => exact .adminRun
  | setTime | adjFreq | adjPhase => exact .corrCmd
  | twinLinkUp | twinIdentityRecord | mirrorMessage | mirrorAck | twinPeriodSync | bulkCopyDone | leaseRenew | leaseHello | takeoverStart
  | takeoverActivate | leaseRelease => exact .twinIf
  | completionTimeout =>
    dsimp only [execCompletionTimeout]
    split
    · exact .onMain
    · exact .idle
  | sendJob | receiveDescriptor | intentClear | restoreImageApply | rngWaitTimeout | ppsOutPulse =>
    dsimp only [execSendJob, execReceiveDescriptor, execIntentClear, execRestoreImageApply, execRngWaitTimeout, execPpsOutPulse]
    split
    · exact .onMainIf
    · exact .idle
  | lbTokenRefill =>
    unfold execLbTokenRefill
    exact .onMainIf
  | identityAnnounce =>
    dsimp only [execIdentityAnnounce]
    split
    · exact .twinIf
    · exact .idle
  | associationClose =>
    dsimp only [execAssociationClose]
    split
    · exact .idle
    · exact .onMainIf
  | storeSaveDone =>
    dsimp only [execStoreSaveDone]
    split
    · exact .idle
    · exact .onMain
  | notifyResend =>
    dsimp only [execNotifyResend]
    split
    · exact .idle
    · split
      · exact .idle
      · exact .onMainIf
  | tagQuarantineEnd =>
    dsimp only [execTagQuarantineEnd]
    split
    · split
      · exact .onMainIf
      · exact .idle
    · exact .idle
  | nvmeInvalidOpcode =>
    dsimp only [execNvmeInvalidOpcode]
    split
    · split
      · exact .onMain
      · exact .idle
    · exact .idle
  | _ => exact .onMainIf

/-- Settles O7: no command outside the auxiliary domain has an effect of its own while the main domain is down. -/
theorem mainDomainDownNoEffect : Obligations.MainDomainDownNoEffect := fun c s hdown haux =>
  (exec_mainOnly c s haux).idle_of_down hdown

end Sys2Proof.Machine
end

section
/-! What reading an object gives after a counter's rise, a log record or a notification (R62, R501). -/
namespace Sys2Proof.Machine

/-- The object numbered oid holds 64 bits. -/
def isU64 (oid : Nat) : Prop := ∃ d : ObjDef, objDef? oid = some d ∧ d.ty.size = 8

/-- A counter of 64 bits rises by one, modulo its width. -/
theorem Dev.obj_bump_same (s : Dev) {oid : Nat} (i : Nat) (h : isU64 oid) : (s.bump oid i).obj oid i = (s.obj oid i + 1) % 2 ^ 64 := by
  obtain ⟨d, hd, hsize⟩ := h
  rw [Dev.bump, Dev.addObj, Dev.obj_setObj s oid i i _ d hd, if_pos rfl, hsize]

theorem Dev.obj_bump_ne (s : Dev) (oid oid' i j : Nat) (h : oid < 2 ^ 32) (h' : oid' < 2 ^ 32) (ho : oid' ≠ oid) :
    (s.bump oid i).obj oid' j = s.obj oid' j :=
  s.obj_setObj_ne oid oid' i j _ h h' ho

@[simp] theorem Dev.obj_notify (s : Dev) (code obj detail oid i : Nat) : (s.notify code obj detail).obj oid i = s.obj oid i := rfl

/-- A log's count rises by one with a record. -/
theorem Dev.obj_log_count (s : Dev) (oid ring rec : Nat) (h : isU64 (oid + 1)) :
    (s.log oid ring rec).obj (oid + 1) = (s.obj (oid + 1) + 1) % 2 ^ 64 := by
  obtain ⟨e, he, hsize⟩ := h
  rw [Dev.log, Dev.obj_setObj _ (oid + 1) 0 0 _ e he, if_pos rfl, hsize]

/-- Settles O23: the record's write and the count's are two, at instances whose store keys differ from every other. -/
theorem logRings : Obligations.LogRings := by
  intro s oid ring rec d e hd he hty hring hpos
  have hplace : s.obj (oid + 1) % ring < 2 ^ 32 := Nat.lt_of_lt_of_le (Nat.mod_lt _ hpos) hring
  have hrec (i : Nat) (hi : i < 2 ^ 32) : (s.log oid ring rec).obj oid i =
      if i = s.obj (oid + 1) % ring then rec % 2 ^ (8 * d.ty.size) else s.obj oid i :=
    (Dev.obj_setObj_other _ (oid + 1) oid 0 i _ (by decide) hi (by omega)).trans (s.obj_setObj oid _ i rec d hd)
  exact ⟨(hrec _ hplace).trans (if_pos rfl), s.obj_log_count oid ring rec ⟨e, he, by rw [hty]; rfl⟩,
    fun i hi hne => (hrec i hi).trans (if_neg hne), fun oid' i hi hne hne' =>
      (Dev.obj_setObj_other _ (oid + 1) oid' 0 i _ (by decide) hi hne').trans (s.obj_setObj_other oid oid' _ i rec hplace hi hne)⟩

end Sys2Proof.Machine
end

section
/-! The buffer shelves (R185, R191): which signals an operation leaves of the chains, the chain that an allocation makes, and the outcomes
of the operations on a chain that is held. -/
namespace Sys2Proof.Machine

/-! ### Signals and writes leave the shelves alone -/

theorem foldl_shelves {α : Type} {f : Dev → α → Dev} (h : ∀ t x, (f t x).shelves = t.shelves) (l : List α) (s : Dev) :
    (l.foldl f s).shelves = s.shelves :=
  List.foldlRecOn (motive := fun t : Dev => t.shelves = s.shelves) l f rfl fun t ht x _ => (h t x).trans ht

@[simp] theorem Dev.lowEvalOne_shelves (s : Dev) (f : Nat) : (s.lowEvalOne f).shelves = s.shelves := by
  unfold Dev.lowEvalOne
  exact ite_keeps (p := Dev.shelves) (by simp) (by simp)

@[simp] theorem Dev.sendPause_shelves (s : Dev) (k quanta : Nat) : (s.sendPause k quanta).shelves = s.shelves := by
  unfold Dev.sendPause
  exact ite_keeps (p := Dev.shelves) (by simp [Dev.emit]) (by simp [Dev.emit])

@[simp] theorem Dev.pauseOne_shelves (s : Dev) (k : Nat) : (s.pauseOne k).shelves = s.shelves := by
  unfold Dev.pauseOne
  refine ite_keeps (p := Dev.shelves) (ite_keeps (p := Dev.shelves) rfl ?_) (ite_keeps (p := Dev.shelves) ?_ (ite_keeps (p := Dev.shelves) rfl rfl))
  · exact s.sendPause_shelves ..
  · exact s.sendPause_shelves ..

@[simp] theorem Dev.pauseEval_shelves (s : Dev) : s.pauseEval.shelves = s.shelves := by
  unfold Dev.pauseEval
  exact ite_keeps (p := Dev.shelves) (foldl_shelves (fun _ _ => foldl_shelves (fun _ _ => Dev.pauseOne_shelves ..) _ _) _ _) rfl

/-- The low signals and XOFF and XON follow the shelves and change nothing of them (R103, R189). -/
@[simp] theorem Dev.lowEval_shelves (s : Dev) : s.lowEval.shelves = s.shelves := by
  unfold Dev.lowEval Dev.lowShelves
  exact (Dev.pauseEval_shelves _).trans (foldl_shelves (fun _ _ => Dev.lowEvalOne_shelves ..) _ _)

@[simp] theorem Dev.bufsWritten_shelves (s : Dev) (hs : List Nat) : (s.bufsWritten hs).shelves = s.shelves := by
  unfold Dev.bufsWritten
  refine foldl_shelves (fun t h => ?_) _ _
  dsimp only
  exact ite_keeps (p := Dev.shelves) rfl rfl

/-! ### Chains -/

theorem Dev.chain?_of_shelves {s d : Dev} (h : d.shelves = s.shelves) (k : Nat) : d.chain? k = s.chain? k := by
  rw [Dev.chain?, Dev.chain?, h]

@[simp] theorem Dev.chain?_setChain_same (s : Dev) (h : Nat) (c : Chain) : (s.setChain h c).chain? h = some c :=
  (Tab.get?_ins h h c s.shelves.chains).trans (if_pos rfl)

/-- A chain that has returned to free is no more (R188). -/
theorem Dev.chain?_returnChain (s : Dev) (h : Nat) : (s.returnChain h).chain? h = none := by
  unfold Dev.returnChain
  split
  · assumption
  · rw [Dev.chain?_of_shelves (Dev.lowEval_shelves _)]
    exact (Tab.get?_del h h s.shelves.chains).trans (if_pos rfl)

theorem Dev.length_pickBuffers (s : Dev) (f k : Nat) : (s.pickBuffers f k).1.length = k := by
  induction k with
  | zero => rfl
  | succ k ih => exact List.length_append.trans (congrArg (· + 1) ih)

/-- The chain that an allocation of k buffers of shelf f makes of them (R185). -/
def Dev.newChain (s : Dev) (owner f k : Nat) (data : List Nat) : Chain :=
  { bufs := (s.pickBuffers f k).1, owner := owner, allocTick := s.tick, data := data }

theorem Dev.takeChain_handle (s : Dev) (owner f k : Nat) (data : List Nat) :
    (s.takeChain owner f k data).1 = (s.pickBuffers f k).1.headD nullHandle := rfl

/-- The shelves after an allocation: the new chain is listed, and nothing else that the allocation does touches them. -/
theorem Dev.takeChain_shelves (s : Dev) (owner f k : Nat) (data : List Nat) :
    (s.takeChain owner f k data).2.shelves =
      ((s.pickBuffers f k).2.setChain ((s.pickBuffers f k).1.headD nullHandle) (s.newChain owner f k data)).shelves := by
  unfold Dev.takeChain
  dsimp only
  rw [Dev.lowEval_shelves, Dev.bump_shelves, Dev.bufsWritten_shelves, Dev.newChain]

theorem Dev.chain?_takeChain (s : Dev) (owner f k : Nat) (data : List Nat) :
    (s.takeChain owner f k data).2.chain? (s.takeChain owner f k data).1 = some (s.newChain owner f k data) := by
  rw [Dev.chain?_of_shelves (s.takeChain_shelves owner f k data), Dev.takeChain_handle, Dev.chain?_setChain_same]

/-! ### Allocation (R185) -/

@[simp] theorem Dev.allocFail_shelves (s : Dev) (f : Nat) (free : Bool) : (s.allocFail f free).shelves = s.shelves := by
  unfold Dev.allocFail
  exact ite_keeps (p := Dev.shelves) (Dev.bump_shelves ..) (Dev.bump_shelves ..)

theorem shelfSize_mono {f g : Nat} (hfg : f ≤ g) (hg : g ≤ 5) : shelfSize f ≤ shelfSize g := by
  have hall : ∀ b < 6, ∀ a < 6, a ≤ b → shelfSize a ≤ shelfSize b := by decide
  exact hall g (by omega) f (by omega) hfg

/-- Every shelf from the one that fits a request on has buffers that hold it (R185). -/
theorem le_shelfSize_of_fitShelf_le {n g : Nat} (hn : n ≤ 65536) (hfg : fitShelf n ≤ g) (hg : g ≤ 5) : n ≤ shelfSize g := by
  suffices hfit : n ≤ shelfSize (fitShelf n) from Nat.le_trans hfit (shelfSize_mono hfg hg)
  unfold fitShelf
  cases hfind : [0, 1, 2, 3, 4, 5].find? (fun f => decide (n ≤ shelfSize f)) with
  | none => exact hn
  | some f => exact of_decide_eq_true (List.find?_some (p := fun f => decide (n ≤ shelfSize f)) hfind)

/-- A shelf from which an allocation of n bytes may be served: enough free buffers above the owner's floor, and buffers that are large
enough, or shelf 5 for a chain (R185). -/
structure Dev.Serves (s : Dev) (owner n f : Nat) : Prop where
  le : f ≤ 5
  free : s.floorFor owner f + ceilDiv n 65536 ≤ s.shelfFree f
  fits : n ≤ 65536 → n ≤ shelfSize f
  chained : 65536 < n → f = 5

/-- What an allocation of a legal length can do: it takes a chain from a shelf that may serve it, or answers 0x41 and takes nothing. -/
theorem Dev.alloc_cases (s : Dev) (owner n : Nat) (hpos : 0 < n) (hmax : n ≤ 16777216) :
    (∃ (f : Nat) (t : Dev), s.Serves owner n f ∧
      s.alloc owner n = ({ status := 0, shelf := f, handle := (t.takeChain owner f (ceilDiv n 65536) []).1 },
        (t.takeChain owner f (ceilDiv n 65536) []).2)) ∨
    (∃ (f : Nat) (free : Bool), s.alloc owner n = ({ status := 0x41, shelf := f, handle := nullHandle }, s.allocFail f free)) := by
  have hlegal : ¬ (n = 0 ∨ 16777216 < n) := by omega
  unfold Dev.alloc
  rw [if_neg hlegal]
  by_cases hlong : 65536 < n
  · rw [if_pos hlong]
    dsimp only
    split
    next hfree => exact .inl ⟨5, s, ⟨Nat.le_refl 5, hfree, fun h => absurd h (by omega), fun _ => rfl⟩, rfl⟩
    next => exact .inr ⟨5, _, rfl⟩
  · rw [if_neg hlong]
    have hone : ceilDiv n 65536 = 1 := by
      unfold ceilDiv
      omega
    dsimp only
    split
    next g hg =>
      have hmem := List.mem_of_find?_eq_some hg
      have hfree := List.find?_some hg
      simp only [List.mem_filter, List.mem_range, decide_eq_true_eq] at hmem hfree
      obtain ⟨hlt, hfit, -⟩ := hmem
      refine .inl ⟨g, if g = fitShelf n then s else s.bump Obj.ESCALATIONS (fitShelf n), ⟨by omega, ?_, fun h => ?_, fun h => absurd h hlong⟩, ?_⟩
      · rw [hone]
        exact hfree
      · exact le_shelfSize_of_fitShelf_le h hfit (by omega)
      · rw [hone]
    next => exact .inr ⟨fitShelf n, _, rfl⟩

/-- Settles O20: an illegal length is refused at once, and a legal one is served from a shelf that may serve it or taken from none. -/
theorem allocationKeepsTheFloor : Obligations.AllocationKeepsTheFloor := by
  intro s owner n
  refine ⟨fun hillegal => if_pos hillegal, fun hpos hmax => ?_⟩
  obtain ⟨f, t, ⟨hle, hfree, hfits, hchained⟩, heq⟩ | ⟨f, free, heq⟩ := s.alloc_cases owner n hpos hmax
  · have hchain := t.chain?_takeChain owner f (ceilDiv n 65536) []
    generalize t.takeChain owner f (ceilDiv n 65536) [] = r at heq hchain
    simp only [heq]
    exact ⟨.inl trivial, fun _ => ⟨hle, hfree, hfits, hchained, _, hchain, rfl, rfl, t.length_pickBuffers f _⟩, fun h => absurd h (by decide)⟩
  · have hshelves := s.allocFail_shelves f free
    generalize s.allocFail f free = r at heq hshelves
    simp only [heq]
    exact ⟨.inr trivial, fun h => absurd h (by decide), fun _ => hshelves⟩

/-! ### Operations on a chain that is held (R191) -/

theorem bufRefused_bufRefuse {s t : Dev} (hshelves : t.shelves = s.shelves)
    (hcount : t.obj Obj.BUFFER_ERROR_COUNT = s.obj Obj.BUFFER_ERROR_COUNT) (handle issuer lastOwner opcode status shares : Nat) :
    bufRefused s status (t.bufRefuse handle issuer lastOwner opcode status shares) := by
  refine ⟨rfl, ?_, ?_⟩
  · simpa [Dev.bufRefuse, Dev.log] using hshelves
  · have hnext : Obj.BUFFER_ERROR_COUNT = Obj.BUFFER_ERROR_ENTRY + 1 := rfl
    rw [← hcount, hnext]
    exact t.obj_log_count _ _ _ ⟨_, rfl, rfl⟩

/-- A refusal that a counter other than the log's counts first. -/
theorem bufRefused_bump (s : Dev) (oid f handle issuer lastOwner opcode status shares : Nat) (h : oid < 2 ^ 32)
    (ho : Obj.BUFFER_ERROR_COUNT ≠ oid) : bufRefused s status ((s.bump oid f).bufRefuse handle issuer lastOwner opcode status shares) :=
  bufRefused_bufRefuse (Dev.bump_shelves ..) (s.obj_bump_ne oid Obj.BUFFER_ERROR_COUNT f 0 h (by decide) ho) ..

/-- The record in the buffer error log leaves every object but the log's own as it was. -/
theorem Dev.obj_bufRefuse (s : Dev) (handle issuer lastOwner opcode status shares oid i : Nat) (h : oid < 2 ^ 32)
    (hentry : oid ≠ Obj.BUFFER_ERROR_ENTRY) (hcount : oid ≠ Obj.BUFFER_ERROR_COUNT) :
    (s.bufRefuse handle issuer lastOwner opcode status shares).2.obj oid i = s.obj oid i :=
  (Dev.obj_setObj_ne _ Obj.BUFFER_ERROR_COUNT oid 0 i _ (by decide) h hcount).trans
    (s.obj_setObj_ne Obj.BUFFER_ERROR_ENTRY oid _ i _ (by decide) h hentry)

section Held

variable {s : Dev} {h : Nat} {c : Chain}

/-- FREE by the state of the chain (R191). -/
theorem Dev.bufFree_eq (hc : s.chain? h = some c) (o : Nat) : s.bufFree o h =
    if c.owner ≠ o then (s.bump Obj.REJECTED_FREES (shelfOf h)).bufRefuse h o c.owner 0x02 0x40 c.shares
    else if c.deferred then (s.bump Obj.REJECTED_FREES (shelfOf h)).bufRefuse h o c.owner 0x02 0x01 c.shares
    else if c.shares = 0 then ({ status := 0, handle := h }, s.returnChain h)
    else ({ status := 0, shares := c.shares, handle := h }, s.setChain h { c with deferred := true }) := by
  unfold Dev.bufFree
  rw [hc]

/-- SHARE by the state of the chain (R191). -/
theorem Dev.bufShare_eq (hc : s.chain? h = some c) (o n : Nat) : s.bufShare o h n =
    if c.owner ≠ o then s.bufRefuse h o c.owner 0x03 0x40 c.shares
    else if c.deferred then s.bufRefuse h o c.owner 0x03 0x01 c.shares
    else if n = 0 then s.bufRefuse h o c.owner 0x03 0x01 c.shares
    else if 65535 < c.shares + n then ({ status := 0x41, shares := c.shares, handle := h }, s)
    else ({ status := 0, shares := c.shares + n, handle := h }, s.setChain h { c with shares := c.shares + n }) := by
  unfold Dev.bufShare
  rw [hc]

/-- DETACH by the state of the chain (R191). -/
theorem Dev.bufDetach_eq (hc : s.chain? h = some c) (o : Nat) : s.bufDetach o h =
    if c.owner = o ∨ c.shares = 0 then (s.bump Obj.REJECTED_DETACHES (shelfOf h)).bufRefuse h o c.owner 0x04 0x01 c.shares
    else if c.shares = 1 ∧ c.deferred = true then ({ status := 0, handle := h }, (s.returnChain h).bump Obj.DEFERRED_FREES (shelfOf h))
    else ({ status := 0, shares := c.shares - 1, handle := h }, s.setChain h { c with shares := c.shares - 1 }) := by
  unfold Dev.bufDetach
  rw [hc]

/-- HANDOVER by the state of the chain (R191). -/
theorem Dev.bufHandover_eq (hc : s.chain? h = some c) (o w : Nat) : s.bufHandover o h w =
    if c.owner ≠ o then s.bufRefuse h o c.owner 0x05 0x40 c.shares
    else if c.deferred || !validOwner s.part w then s.bufRefuse h o c.owner 0x05 0x01 c.shares
    else ({ status := 0, shares := c.shares, handle := h }, s.setChain h { c with owner := w }) := by
  unfold Dev.bufHandover
  rw [hc]

end Held

/-- A refused FREE or DETACH is counted on the chain's shelf. -/
theorem obj_bump_bufRefuse (s : Dev) {oid : Nat} (f handle issuer lastOwner opcode status shares : Nat) (h64 : isU64 oid) (h : oid < 2 ^ 32)
    (hentry : oid ≠ Obj.BUFFER_ERROR_ENTRY) (hcount : oid ≠ Obj.BUFFER_ERROR_COUNT) :
    ((s.bump oid f).bufRefuse handle issuer lastOwner opcode status shares).2.obj oid f = (s.obj oid f + 1) % 2 ^ 64 :=
  (Dev.obj_bufRefuse _ _ _ _ _ _ _ oid f h hentry hcount).trans (s.obj_bump_same f h64)

/-- A refused FREE is counted on the chain's shelf, and its record follows. -/
theorem rejectedFree (s : Dev) (f handle issuer lastOwner opcode status shares : Nat) :
    bufRefused s status ((s.bump Obj.REJECTED_FREES f).bufRefuse handle issuer lastOwner opcode status shares) :=
  bufRefused_bump s Obj.REJECTED_FREES _ _ _ _ _ _ _ (by decide) (by decide)

theorem rejectedFree_count (s : Dev) (f handle issuer lastOwner opcode status shares : Nat) :
    ((s.bump Obj.REJECTED_FREES f).bufRefuse handle issuer lastOwner opcode status shares).2.obj Obj.REJECTED_FREES f =
      (s.obj Obj.REJECTED_FREES f + 1) % 2 ^ 64 :=
  obj_bump_bufRefuse s _ _ _ _ _ _ _ ⟨_, rfl, rfl⟩ (by decide) (by decide) (by decide)

/-- The last owner of a chain that is not deferred (R191). -/
theorem ownerOutcomes {s : Dev} {h : Nat} {c : Chain} (n w : Nat) (hc : s.chain? h = some c) (hdef : c.deferred = false) :
    (c.shares = 0 → (s.bufFree c.owner h).1.status = 0 ∧ (s.bufFree c.owner h).2.chain? h = none) ∧
    (0 < c.shares → (s.bufFree c.owner h).1.status = 0 ∧ (s.bufFree c.owner h).2.chain? h = some { c with deferred := true }) ∧
    (n = 0 → bufRefused s 0x01 (s.bufShare c.owner h n)) ∧
    (1 ≤ n → c.shares + n ≤ 65535 →
      (s.bufShare c.owner h n).1.status = 0 ∧ (s.bufShare c.owner h n).2.chain? h = some { c with shares := c.shares + n }) ∧
    (65535 < c.shares + n → 1 ≤ n → (s.bufShare c.owner h n).1.status = 0x41 ∧ (s.bufShare c.owner h n).2 = s) ∧
    (validOwner s.part w = true → (s.bufHandover c.owner h w).1.status = 0 ∧ (s.bufHandover c.owner h w).2.chain? h = some { c with owner := w }) ∧
    (validOwner s.part w = false → bufRefused s 0x01 (s.bufHandover c.owner h w)) := by
  rw [Dev.bufFree_eq hc, Dev.bufShare_eq hc, Dev.bufHandover_eq hc]
  refine ⟨fun h0 => ?_, fun hpos => ?_, fun hn => ?_, fun hn hfit => ?_, fun hover hn => ?_, fun hw => ?_, fun hw => ?_⟩
  · simp [hdef, h0, Dev.chain?_returnChain]
  · simp [hdef, Nat.pos_iff_ne_zero.mp hpos]
  · simpa [hdef, hn] using bufRefused_bufRefuse rfl rfl ..
  · simp [hdef, Nat.pos_iff_ne_zero.mp hn, Nat.not_lt.mpr hfit]
  · simp [hdef, Nat.pos_iff_ne_zero.mp hn, hover]
  · simp [hdef, hw]
  · simpa [hdef, hw] using bufRefused_bufRefuse rfl rfl ..

/-- The last owner of a chain whose free is deferred (R191). -/
theorem deferredOwnerOutcomes {s : Dev} {h : Nat} {c : Chain} (n w : Nat) (hc : s.chain? h = some c) (hdef : c.deferred = true) :
    bufRefused s 0x01 (s.bufFree c.owner h) ∧
    (s.bufFree c.owner h).2.obj Obj.REJECTED_FREES (shelfOf h) = (s.obj Obj.REJECTED_FREES (shelfOf h) + 1) % 2 ^ 64 ∧
    bufRefused s 0x01 (s.bufShare c.owner h n) ∧ bufRefused s 0x01 (s.bufHandover c.owner h w) := by
  have hfree := Dev.bufFree_eq hc c.owner
  have hshare := Dev.bufShare_eq hc c.owner n
  have hover := Dev.bufHandover_eq hc c.owner w
  rw [if_neg (not_not_intro rfl), if_pos hdef] at hfree hshare
  rw [if_neg (not_not_intro rfl), if_pos (by rw [hdef, Bool.true_or])] at hover
  rw [hfree, hshare, hover]
  exact ⟨rejectedFree s .., rejectedFree_count s .., bufRefused_bufRefuse rfl rfl .., bufRefused_bufRefuse rfl rfl ..⟩

/-- A DETACH by the last owner, or of a chain without shares, is refused and counted (R191). -/
theorem rejectedDetachOutcomes {s : Dev} {h : Nat} {c : Chain} (o : Nat) (hc : s.chain? h = some c) (hno : c.owner = o ∨ c.shares = 0) :
    bufRefused s 0x01 (s.bufDetach o h) ∧
    (s.bufDetach o h).2.obj Obj.REJECTED_DETACHES (shelfOf h) = (s.obj Obj.REJECTED_DETACHES (shelfOf h) + 1) % 2 ^ 64 := by
  rw [Dev.bufDetach_eq hc, if_pos hno]
  exact ⟨bufRefused_bump s Obj.REJECTED_DETACHES _ _ _ _ _ _ _ (by decide) (by decide),
    obj_bump_bufRefuse s _ _ _ _ _ _ _ ⟨_, rfl, rfl⟩ (by decide) (by decide) (by decide)⟩

/-- FREE, SHARE and HANDOVER by an owner that is not the last (R191). -/
theorem otherOwnerRefusals {s : Dev} {h : Nat} {c : Chain} {o : Nat} (n w : Nat) (hc : s.chain? h = some c) (ho : c.owner ≠ o) :
    bufRefused s 0x40 (s.bufFree o h) ∧
    (s.bufFree o h).2.obj Obj.REJECTED_FREES (shelfOf h) = (s.obj Obj.REJECTED_FREES (shelfOf h) + 1) % 2 ^ 64 ∧
    bufRefused s 0x40 (s.bufShare o h n) ∧ bufRefused s 0x40 (s.bufHandover o h w) := by
  rw [Dev.bufFree_eq hc, Dev.bufShare_eq hc, Dev.bufHandover_eq hc, if_pos ho, if_pos ho, if_pos ho]
  exact ⟨rejectedFree s .., rejectedFree_count s .., bufRefused_bufRefuse rfl rfl .., bufRefused_bufRefuse rfl rfl ..⟩

/-- DETACH by an owner that is not the last takes a share, and the last share of a deferred chain returns it to free (R191). -/
theorem otherOwnerDetaches {s : Dev} {h : Nat} {c : Chain} {o : Nat} (hc : s.chain? h = some c) (ho : c.owner ≠ o) :
    (1 < c.shares → (s.bufDetach o h).1.status = 0 ∧ (s.bufDetach o h).2.chain? h = some { c with shares := c.shares - 1 }) ∧
    (c.shares = 1 → c.deferred = false → (s.bufDetach o h).1.status = 0 ∧ (s.bufDetach o h).2.chain? h = some { c with shares := 0 }) ∧
    (c.shares = 1 → c.deferred = true → ((s.bufDetach o h).1.status = 0 ∧ (s.bufDetach o h).2.chain? h = none) ∧
      (s.bufDetach o h).2 = (s.returnChain h).bump Obj.DEFERRED_FREES (shelfOf h)) := by
  rw [Dev.bufDetach_eq hc]
  refine ⟨fun hmany => ?_, fun hone hdef => ?_, fun hone hdef => ?_⟩
  · have hno : ¬ (c.owner = o ∨ c.shares = 0) := by omega
    have hnot : ¬ (c.shares = 1 ∧ c.deferred = true) := by omega
    rw [if_neg hno, if_neg hnot]
    exact ⟨rfl, Dev.chain?_setChain_same ..⟩
  · have hno : ¬ (c.owner = o ∨ c.shares = 0) := by omega
    have hnot : ¬ (c.shares = 1 ∧ c.deferred = true) := fun hd => absurd hd.2 (by simp [hdef])
    rw [if_neg hno, if_neg hnot, hone]
    exact ⟨rfl, Dev.chain?_setChain_same ..⟩
  · have hno : ¬ (c.owner = o ∨ c.shares = 0) := by omega
    rw [if_neg hno, if_pos ⟨hone, hdef⟩]
    exact ⟨⟨rfl, (Dev.chain?_of_shelves (Dev.bump_shelves ..) h).trans (s.chain?_returnChain h)⟩, rfl⟩

/-- Settles O21: who asks and whether the free is deferred select the row of the table, and each row is a lemma above. -/
theorem chainOperationOutcomes : Obligations.ChainOperationOutcomes := by
  intro s o h n w c hc
  refine ⟨?_, ?_, fun ho => rejectedDetachOutcomes o hc (.inl ho), fun ho => ?_⟩
  · rintro rfl hdef
    exact ownerOutcomes n w hc hdef
  · rintro rfl hdef
    exact deferredOwnerOutcomes n w hc hdef
  · obtain ⟨hfree, hcount, hshare, hover⟩ := otherOwnerRefusals n w hc ho
    obtain ⟨hmany, hone, hlast⟩ := otherOwnerDetaches hc ho
    exact ⟨hfree, hcount, hshare, hover, hmany, hone, hlast, fun hzero => rejectedDetachOutcomes o hc (.inr hzero)⟩

end Sys2Proof.Machine
end

section
/-! CRC-32C (R507): the final inversion of one piece is undone by the seed of the next. -/
namespace Sys2Proof.Machine

/-- Settles O19: the inversions at the joint cancel, so the byte steps run through both lists as through one. -/
theorem crcOverPieces : Obligations.CrcOverPieces := by
  refine ⟨by simp [crc32c, crcByte, crcBit], fun seed a b => ?_⟩
  unfold crc32c
  rw [Nat.xor_assoc, Nat.xor_self, Nat.xor_zero, List.foldl_append]

end Sys2Proof.Machine
end

section
/-! Adjusting a time base (R361 to R363). -/
namespace Sys2Proof.Machine

/-- A refused operation leaves every time base as it is (R363). -/
theorem Dev.tb_tbRefuse (s : Dev) (e flagBit code v x : Nat) : (s.tbRefuse e flagBit code v).tb x = s.tb x :=
  by
  unfold Dev.tbRefuse Dev.bump Dev.addObj
  exact (Dev.tb_setObj ..).trans (Dev.tb_setObj ..)

theorem Dev.refusals_tbRefuse (s : Dev) (e flagBit code v : Nat) :
    (s.tbRefuse e flagBit code v).obj Obj.REFUSALS e = (s.obj Obj.REFUSALS e + 1) % 2 ^ 64 := by
  rw [Dev.tbRefuse, Dev.obj_notify, Dev.obj_bump_same _ e ⟨_, rfl, rfl⟩, Dev.obj_setObj_ne _ _ _ _ _ _ (by decide) (by decide) (by decide)]

/-- ADJ_FREQ replaces the rate alone, clamped or not (R361). -/
theorem Dev.tb_tbFreq (s : Dev) (e v : Nat) (c : Bool) : (s.tbFreq e v c).tb e = { s.tb e with freq := toSigned 64 v } := by
  have hset : (s.setTb e { s.tb e with freq := toSigned 64 v }).tb e = { s.tb e with freq := toSigned 64 v } :=
    (s.tb_setTb e e _).trans (if_pos rfl)
  unfold Dev.tbFreq
  exact ite_keeps (p := (Dev.tb · e)) ((Dev.tb_setObj ..).trans hset) hset

/-- Settles O16: ADJ_FREQ by its effect on the base, ADJ_PHASE by whether the remaining slew stays within JUMP_THRESHOLD. -/
theorem adjustTimeBase : Obligations.AdjustTimeBase := by
  intro s e v
  refine ⟨fun c => by simp [Dev.tb_tbFreq], ?_⟩
  dsimp only
  unfold Dev.tbPhase
  dsimp only
  split
  · exact ⟨rfl, s.tb_tbRefuse .., s.refusals_tbRefuse ..⟩
  · simp [Dev.tb_setTb]

end Sys2Proof.Machine
end

section
/-! Sessions of the Bureau (R73, R86): a transaction that is discarded, and the queue of notifications. -/
namespace Sys2Proof.Machine

/-- What discarding a transaction leaves: the session without it, and every other session (R73). -/
theorem Dev.session?_discardTxn {s : Dev} {key : Nat} {ss : Session} (hss : s.session? key = some ss) (htxn : ss.txn.isSome = true) (k : Nat) :
    (s.discardTxn key).session? k = if k = key then some { ss with txn := none } else s.session? k := by
  unfold Dev.discardTxn
  rw [show Tab.get? s.bureau.sessions key = some ss from hss]
  dsimp only
  rw [if_pos htxn, Dev.session?, Dev.bump_bureau]
  exact Tab.get?_ins key k _ s.bureau.sessions

theorem Dev.txnsDiscarded_discardTxn {s : Dev} {key : Nat} {ss : Session} (hss : s.session? key = some ss) (htxn : ss.txn.isSome = true) :
    (s.discardTxn key).obj Obj.TXNS_DISCARDED = (s.obj Obj.TXNS_DISCARDED + 1) % 2 ^ 64 := by
  unfold Dev.discardTxn
  rw [show Tab.get? s.bureau.sessions key = some ss from hss]
  dsimp only
  rw [if_pos htxn]
  exact Dev.obj_bump_same _ 0 ⟨_, rfl, rfl⟩

theorem Dev.accepted_discardTxn (s : Dev) (key : Nat) : (s.discardTxn key).bureau.accepted = s.bureau.accepted := by
  unfold Dev.discardTxn
  split
  · exact ite_keeps (p := fun t => t.bureau.accepted) (by rw [Dev.bump_bureau]) rfl
  · rfl

/-- TXN_IDLE_TIMEOUT on a transaction that has been idle for that long (R73). -/
theorem exec_txnIdleTimeout {s : State} {sess : Sess} {ss : Session} {x : Txn} (hup : s.power.up = true) (hss : s.session? (sessKey sess) = some ss)
    (htxn : ss.txn = some x) (hidle : x.last + s.obj Obj.TXN_IDLE_TIMEOUT ≤ s.tick) :
    exec (.txnIdleTimeout sess) s = .next (s.after (s.discardTxn (sessKey sess))) := by
  change execTxnIdleTimeout sess s = _
  exact onMainIf_up s _ _ hup (by simp [hss, htxn, hidle])

/-- Settles O22: the command's condition is the timeout, and its effect is to discard the transaction. -/
theorem idleTransactionIsDiscarded : Obligations.IdleTransactionIsDiscarded := by
  intro s sess ss x hup hss htxn hidle
  have hsome : ss.txn.isSome = true := by simp [htxn]
  refine ⟨_, exec_txnIdleTimeout hup hss htxn hidle, ?_, Dev.txnsDiscarded_discardTxn hss hsome, fun k hk => ?_, s.accepted_discardTxn _⟩
  · exact (Dev.session?_discardTxn hss hsome _).trans (if_pos rfl)
  · exact (Dev.session?_discardTxn hss hsome k).trans (if_neg hk)

/-- A notification to a full queue takes the place of the oldest, and says so (R86). -/
theorem Session.push_full {ss : Session} (h : ss.notifs.length = 256) (code obj tick detail : Nat) :
    (ss.push code obj tick detail).2.lost = true ∧
      (ss.push code obj tick detail).1.notifs = ss.notifs.drop 1 ++ [(ss.push code obj tick detail).2] := by
  simp [Session.push, h]

/-- A notification to a queue with room is appended, and reports an earlier loss (R86). -/
theorem Session.push_room {ss : Session} (h : ss.notifs.length < 256) (code obj tick detail : Nat) :
    (ss.push code obj tick detail).2.lost = ss.discardLost ∧
      (ss.push code obj tick detail).1.notifs = ss.notifs ++ [(ss.push code obj tick detail).2] := by
  simp [Session.push, Nat.not_le.mpr h]

/-- Settles O24: the queue is full or has room. -/
theorem notificationQueueBound : Obligations.NotificationQueueBound := by
  intro ss code obj tick detail hbound
  obtain hroom | hfull := Nat.lt_or_eq_of_le hbound
  · obtain ⟨hlost, hnotifs⟩ := Session.push_room hroom code obj tick detail
    refine ⟨?_, ?_, rfl, fun h => absurd h (Nat.ne_of_lt hroom), fun _ hnone => ⟨hlost.trans hnone, ?_⟩⟩
    · rw [hnotifs, List.length_append]
      exact hroom
    · simp [hnotifs]
    · simp [hnotifs]
  · obtain ⟨hlost, hnotifs⟩ := Session.push_full hfull code obj tick detail
    refine ⟨?_, ?_, rfl, fun _ => ⟨hlost, ?_⟩, fun h => absurd hfull (Nat.ne_of_lt h)⟩
    · simp [hnotifs, hfull]
    · simp [hnotifs]
    · simp [hnotifs]

end Sys2Proof.Machine
end

section
/-! The storm state of a priority (R105). -/
namespace Sys2Proof.Machine

theorem Dev.prio_setPrio (s : Dev) (k j : Nat) (x : Prio) : (s.setPrio k x).prio j = if j = k then x else s.prio j :=
  Tab.getD_put ({} : Prio) k j x s.eth.prios

@[simp] theorem Dev.prio_bump (s : Dev) (oid i k : Nat) : (s.bump oid i).prio k = s.prio k := by
  simp [Dev.prio]

@[simp] theorem Dev.prio_markTx (s : Dev) (P k : Nat) : (s.markTx P).prio k = s.prio k := by
  unfold Dev.markTx
  split
  · exact ite_keeps (p := (Dev.prio · k)) rfl rfl
  · rfl

/-- Priority k is in the storm state and not paused (R105). -/
def Dev.storms (s : Dev) (k : Nat) : Prop := (s.prio k).storm = true ∧ (s.prio k).pauseEnd = none

/-- A pause of any priority leaves a priority in the storm state unpaused. -/
theorem Dev.storms_pauseFor {s : Dev} {k : Nat} (h : s.storms k) (j n : Nat) : (s.pauseFor j n).storms k := by
  obtain ⟨hstorm, hend⟩ := h
  by_cases hj : k = j
  · subst hj
    simp [Dev.storms, Dev.pauseFor, hstorm, hend, Dev.prio_setPrio]
  · have hkeep : (s.pauseFor j n).prio k = s.prio k := by
      unfold Dev.pauseFor
      exact ite_keeps (p := (Dev.prio · k)) ((s.prio_setPrio j k _).trans (if_neg hj))
        (ite_keeps (p := (Dev.prio · k)) ((s.prio_setPrio j k _).trans (if_neg hj)) ((s.prio_setPrio j k _).trans (if_neg hj)))
    rw [Dev.storms, hkeep]
    exact ⟨hstorm, hend⟩

/-- A received pause frame leaves a priority in the storm state unpaused, whatever it names (R102, R105). -/
theorem Dev.storms_pauseReceive {s : Dev} {k : Nat} (h : s.storms k) (p mask : Nat) (quanta : List Nat) :
    (s.pauseReceive p mask quanta).storms k := by
  have hmark : (s.markTx p).storms k := by simpa [Dev.storms] using h
  have hbump {t : Dev} (ht : t.storms k) (oid i : Nat) : (t.bump oid i).storms k := by simpa [Dev.storms] using ht
  unfold Dev.pauseReceive
  dsimp only
  split
  · exact List.foldlRecOn (motive := fun t : Dev => t.storms k) _ _ (hbump hmark ..) fun t ht q _ => Dev.storms_pauseFor ht ..
  · split
    · exact List.foldlRecOn (motive := fun t : Dev => t.storms k) _ _ hmark fun t ht q _ => Dev.storms_pauseFor (hbump (hbump ht ..) ..) ..
    · exact hmark

/-- The state after PFC_STORM: the priority storms, and the sessions are told (R105). -/
def Dev.stormed (s : Dev) (p q : Nat) : Dev :=
  ((s.markTx p).setPrio (8 * p + q) { s.prio (8 * p + q) with storm := true, pauseEnd := none }).notify 0x2006 Obj.PFC_WATCHDOG p

theorem Dev.prio_stormed (s : Dev) (p q k : Nat) :
    (s.stormed p q).prio k = if k = 8 * p + q then { s.prio (8 * p + q) with storm := true, pauseEnd := none } else s.prio k := by
  rw [← s.prio_markTx p k]
  exact Dev.prio_setPrio ..

theorem Dev.storms_stormed (s : Dev) (p q : Nat) : (s.stormed p q).storms (8 * p + q) := by
  simp [Dev.storms, Dev.prio_stormed]

theorem exec_pfcStorm {s : State} {p q : Nat} (hup : s.power.up = true) (hq : q < 8) (hwatch : s.obj Obj.PFC_WATCHDOG p ≠ 0)
    (hpaused : (s.prio (8 * p + q)).pauseEnd.isSome = true) (hlong : (s.prio (8 * p + q)).pausedSince + s.obj Obj.PFC_WATCHDOG p ≤ s.tick) :
    exec (.pfcStorm p q) s = .next (s.after (s.stormed p q)) := by
  change execPfcStorm p q s = _
  exact onMainIf_up s _ _ hup (by simp [hq, hwatch, hpaused, hlong])

/-- Settles O25: the command writes the priority's record alone, and a pause keeps it in the storm state. -/
theorem stormIgnoresPause : Obligations.StormIgnoresPause := by
  intro s p q hup hq hwatch hpaused hlong
  obtain ⟨hstorm, hend⟩ := s.storms_stormed p q
  exact ⟨s.after (s.stormed p q), exec_pfcStorm hup hq hwatch hpaused hlong, hstorm, hend,
    fun k hk => (s.prio_stormed p q k).trans (if_neg hk), fun mask quanta => (Dev.storms_pauseReceive (s.storms_stormed p q) p mask quanta).2⟩

end Sys2Proof.Machine
end

section
/-! The boot watchdog (R413): what a warm reset leaves of the objects and of the boot record (R80, R413). -/
namespace Sys2Proof.Machine

/-- Reading a table of which only some keys are kept. -/
theorem Tab.get?_filter {α : Type} (p : Nat → Bool) (i : Nat) :
    ∀ t : Tab α, Tab.get? (t.filter (fun e => p e.1)) i = if p i = true then Tab.get? t i else none
  | [] => (ite_self _).symm
  | (k, v) :: t => by
    have ih := Tab.get?_filter p i t
    by_cases hik : i = k
    · subst hik
      by_cases hp : p i = true <;> simp_all [Tab.get?]
    · by_cases hp : p k = true <;> simp_all [Tab.get?]

/-- An object that a reset does not keep takes its default. -/
theorem objAt_filter_keptObj (p : Part) (o : Tab Nat) (cold : Bool) (oid i : Nat) (h : keptObj cold (okey oid i) = false) :
    objAt p (o.filter (fun e => keptObj cold e.1)) oid i = dfltOf p oid i := by
  rw [objAt, Tab.get?_filter, h]
  rfl

@[simp] theorem Dev.boot_holdover (s : Dev) (on : Bool) : (s.holdover on).boot = s.boot :=
  List.foldlRecOn (motive := fun t : Dev => t.boot = s.boot) _ _ rfl fun t ht _ _ => (t.setObj_boot ..).trans ht

/-- Holdover is a flag of the time bases. -/
theorem Dev.obj_holdover (s : Dev) (on : Bool) (oid i : Nat) (h : oid < 2 ^ 32) (ho : oid ≠ Obj.TB_FLAGS) :
    (s.holdover on).obj oid i = s.obj oid i :=
  List.foldlRecOn (motive := fun t : Dev => t.obj oid i = s.obj oid i) _ _ rfl fun t ht _ _ => (t.obj_setObj_ne _ _ _ _ _ (by decide) h ho).trans ht

@[simp] theorem Dev.boot_sampleStraps (s : Dev) : s.sampleStraps.boot = s.boot := by
  unfold Dev.sampleStraps
  exact ite_keeps (p := Dev.boot) (by simp) (by simp)

/-- READINESS is no strap. -/
theorem Dev.readiness_sampleStraps (s : Dev) : s.sampleStraps.obj Obj.READINESS = s.obj Obj.READINESS := by
  have hset (t : Dev) (oid v : Nat) (h : oid < 2 ^ 32) (ho : Obj.READINESS ≠ oid) : (t.setObj oid 0 v).obj Obj.READINESS = t.obj Obj.READINESS :=
    t.obj_setObj_ne oid Obj.READINESS 0 0 v h (by decide) ho
  have hstraps : ((((s.setObj Obj.STRAPS 0 (s.pins.straps % 16)).setObj Obj.COMPAT_STRAP 0 (if bit (s.pins.straps % 16) 0 then 7 else 9)).setObj
      Obj.COMPAT_LEVEL 0 (if bit (s.pins.straps % 16) 0 then 7 else 9)).setObj Obj.MCTP_ADDRESS 0 (0x68 + s.pins.straps % 16 / 4)).obj
      Obj.READINESS = s.obj Obj.READINESS := by
    rw [hset _ _ _ (by decide) (by decide), hset _ _ _ (by decide) (by decide), hset _ _ _ (by decide) (by decide),
      hset _ _ _ (by decide) (by decide)]
  unfold Dev.sampleStraps
  exact ite_keeps (p := fun t : Dev => t.obj Obj.READINESS) ((hset _ _ _ (by decide) (by decide)).trans hstraps) hstraps

@[simp] theorem Dev.boot_resetObjs (s : Dev) (cold : Bool) : (s.resetObjs cold).boot = s.boot := by
  unfold Dev.resetObjs
  exact ite_keeps (p := Dev.boot) (Dev.boot_sampleStraps _) ((Dev.boot_holdover ..).trans (Dev.boot_sampleStraps _))

/-- After a reset READINESS is AUX_ONLY. -/
theorem Dev.readiness_resetObjs (s : Dev) (cold : Bool) : (s.resetObjs cold).obj Obj.READINESS = 0 := by
  have hdflt : Dev.obj { s with objs := s.objs.filter (fun e => keptObj cold e.1) } Obj.READINESS = 0 := by
    have hkept : keptObj cold (okey Obj.READINESS 0) = false := by cases cold <;> decide
    refine (objAt_filter_keptObj s.part s.objs cold Obj.READINESS 0 hkept).trans ?_
    cases s.part <;> rfl
  have hsampled := (Dev.readiness_sampleStraps _).trans hdflt
  unfold Dev.resetObjs
  exact ite_keeps (p := fun t : Dev => t.obj Obj.READINESS) hsampled ((Dev.obj_holdover _ _ _ 0 (by decide) (by decide)).trans hsampled)

theorem Dev.readiness_warmReset (s : Dev) (cause : Nat) : (s.warmReset cause).obj Obj.READINESS = 0 :=
  (Dev.obj_setObj_ne _ Obj.LAST_RESET_CAUSE Obj.READINESS 0 0 cause (by decide) (by decide) (by decide)).trans (Dev.readiness_resetObjs ..)

theorem Dev.lastResetCause_warmReset (s : Dev) (cause : Nat) : (s.warmReset cause).obj Obj.LAST_RESET_CAUSE = cause % 2 ^ 8 :=
  (Dev.obj_setObj _ Obj.LAST_RESET_CAUSE 0 0 cause _ rfl).trans (if_pos rfl)

/-- A warm reset keeps which slots have failed (R413). -/
theorem Dev.failed_warmReset (s : Dev) (cause : Nat) : (s.warmReset cause).boot.failed = s.boot.failed := by
  unfold Dev.warmReset
  dsimp only
  rw [Dev.setObj_boot, Dev.boot_resetObjs]
  rfl

/-- The state at which the boot watchdog starts its reset: the booted slot has failed, and a diagnostics record says so. -/
def Dev.bootFailed (s : Dev) : Dev :=
  let i := s.boot.booted.getD 0
  Dev.diag { s with boot := { s.boot with failed := if s.boot.failed.contains i then s.boot.failed else s.boot.failed ++ [i] } } 0 0x10 i 0

theorem Dev.failed_bootFailed {s : Dev} {i : Nat} (h : s.boot.booted = some i) : s.bootFailed.boot.failed.contains i = true := by
  unfold Dev.bootFailed Dev.diag
  simp only [h, Option.getD_some, Dev.log_boot]
  split <;> simp_all

/-- BOOT_WATCHDOG while READY has not been reached (R413). -/
theorem exec_bootWatchdog {s : State} {t0 : Nat} (hup : s.power.up = true) (hreleased : s.boot.released = some t0) (hlate : t0 + 7812500 ≤ s.tick)
    (hready : s.obj Obj.READINESS = 1 ∨ s.obj Obj.READINESS = 2) :
    exec .bootWatchdog s = .next (s.after (s.bootFailed.warmReset 5)) := by
  change execBootWatchdog s = _
  exact onMainIf_up s _ _ hup (by simpa [hreleased, hlate] using hready)

/-- Settles O26: the reset keeps the failed slot's mark and the tick counter, and puts READINESS back. -/
theorem bootWatchdogFailsTheSlot : Obligations.BootWatchdogFailsTheSlot := by
  intro s i t0 hup hreleased hlate hready hbooted
  have hnext := exec_bootWatchdog hup hreleased hlate hready
  refine ⟨s.after (s.bootFailed.warmReset 5), hnext, ?_, Dev.readiness_warmReset .., Dev.lastResetCause_warmReset .., ?_⟩
  · exact (congrArg (fun l : List Nat => l.contains i) (Dev.failed_warmReset _ 5)).trans (Dev.failed_bootFailed hbooted)
  · exact congrArg Prod.snd ((exec_clock .bootWatchdog s (fun _ => nofun) nofun).next hnext)

end Sys2Proof.Machine
end

section
/-! Stuck open-drain outputs (R484), and what a notification puts out (R86). -/
namespace Sys2Proof.Machine

/-- What a notification does at one session: the queue, and the message put out. -/
def notifyStep (code obj tick detail : Nat) (acc : Tab Session × List Output) (e : Nat × Session) : Tab Session × List Output :=
  if e.2.notified e.1 then
    (acc.1 ++ [(e.1, (e.2.push code obj tick (detail % 2 ^ 256)).1)], .notify e.1 (e.2.push code obj tick (detail % 2 ^ 256)).2 :: acc.2)
  else (acc.1 ++ [e], acc.2)

theorem Dev.out_notify (s : Dev) (code obj detail : Nat) :
    (s.notify code obj detail).out = (s.bureau.sessions.foldl (notifyStep code obj s.tick detail) ([], [])).2 ++ s.out := rfl

theorem mem_notifyStep {code obj tick detail : Nat} {acc : Tab Session × List Output} {o : Output} (h : o ∈ acc.2) (e : Nat × Session) :
    o ∈ (notifyStep code obj tick detail acc e).2 := by
  unfold notifyStep
  split
  · exact List.mem_cons_of_mem _ h
  · exact h

theorem mem_foldl_notifyStep {code obj tick detail k : Nat} {ss : Session} (hn : ss.notified k = true) :
    ∀ (l : Tab Session) (acc : Tab Session × List Output), (k, ss) ∈ l →
      Output.notify k (ss.push code obj tick (detail % 2 ^ 256)).2 ∈ (l.foldl (notifyStep code obj tick detail) acc).2
  | e :: l, acc, h => by
    obtain heq | hl := List.mem_cons.mp h
    · subst heq
      refine List.foldlRecOn l
        (motive := fun acc : Tab Session × List Output => Output.notify k (ss.push code obj tick (detail % 2 ^ 256)).2 ∈ acc.2) (notifyStep code obj tick detail) ?_ fun acc hacc e _ => mem_notifyStep hacc e
      rw [notifyStep, if_pos hn]
      exact List.mem_cons_self
    · exact mem_foldl_notifyStep hn l _ hl

theorem Tab.mem_of_get? {α : Type} {i : Nat} {v : α} : ∀ {t : Tab α}, Tab.get? t i = some v → (i, v) ∈ t
  | (k, w) :: t, h => by
    unfold Tab.get? at h
    split at h
    next hik => simp_all
    next => exact List.mem_cons_of_mem _ (Tab.mem_of_get? h)

/-- A notification goes out to every session that is notified (R86). -/
theorem Dev.mem_out_notify {s : Dev} {k : Nat} {ss : Session} (hss : s.session? k = some ss) (hn : ss.notified k = true) (code obj detail : Nat) :
    Output.notify k (ss.push code obj s.tick (detail % 2 ^ 256)).2 ∈ (s.notify code obj detail).out := by
  rw [Dev.out_notify]
  exact List.mem_append_left _ (mem_foldl_notifyStep hn _ _ (Tab.mem_of_get? hss))

/-- The state after OPEN_DRAIN_STUCK of a line that is newly stuck (R484). -/
def Dev.stuckReported (s : Dev) (b : Nat) : Dev := ((s.sideband b true).bump Obj.SIDEBAND_EVENTS).notify 0x10B1 Obj.SIDEBAND_STATUS b

theorem exec_openDrainStuck {s : State} {b : Nat} (hvaux : s.power.vaux = true) (hline : openDrain s.part b = true)
    (hnew : bit (s.obj Obj.SIDEBAND_STATUS) b = false) (hfence : b = 0 → s.twin.peerFence = true) (htrip : b = 1 → s.pins.thermtrip = true) :
    exec (.openDrainStuck b) s = .next (s.after (s.stuckReported b)) := by
  have hfence' : (b != 0 || s.twin.peerFence) = true := by
    by_cases hb : b = 0
    · rw [hfence hb, Bool.or_true]
    · rw [bne_iff_ne.mpr hb, Bool.true_or]
  have htrip' : (b != 1 || s.pins.thermtrip) = true := by
    by_cases hb : b = 1
    · rw [htrip hb, Bool.or_true]
    · rw [bne_iff_ne.mpr hb, Bool.true_or]
  change execOpenDrainStuck b s = _
  unfold execOpenDrainStuck
  rw [always_eq, if_pos (by simp [hvaux, hline, Dev.sideOn, hnew, hfence', htrip'])]
  rfl

theorem exec_stuckOutputClear {s : State} {b : Nat} (hvaux : s.power.vaux = true) (hline : b ≤ 10) :
    exec (.stuckOutputClear b) s = .next (s.after (s.sideband b false)) := by
  change execStuckOutputClear b s = _
  unfold execStuckOutputClear
  rw [always_eq, if_pos (by simp [hvaux, hline])]

theorem Dev.sidebandStatus_sideband (s : Dev) (b : Nat) (on : Bool) : (s.sideband b on).obj Obj.SIDEBAND_STATUS =
    (if on then setBit (s.obj Obj.SIDEBAND_STATUS) b else clearBit (s.obj Obj.SIDEBAND_STATUS) b) % 2 ^ 32 :=
  (Dev.obj_setObj _ Obj.SIDEBAND_STATUS 0 0 _ _ rfl).trans (if_pos rfl)

theorem Dev.sidebandStatus_stuckReported (s : Dev) (b : Nat) :
    (s.stuckReported b).obj Obj.SIDEBAND_STATUS = setBit (s.obj Obj.SIDEBAND_STATUS) b % 2 ^ 32 := by
  rw [Dev.stuckReported, Dev.obj_notify, Dev.obj_bump_ne _ _ _ _ _ (by decide) (by decide) (by decide), Dev.sidebandStatus_sideband, if_pos rfl]

theorem Dev.sidebandEvents_stuckReported (s : Dev) (b : Nat) :
    (s.stuckReported b).obj Obj.SIDEBAND_EVENTS = (s.obj Obj.SIDEBAND_EVENTS + 1) % 2 ^ 64 := by
  rw [Dev.stuckReported, Dev.obj_notify, Dev.obj_bump_same _ 0 ⟨_, rfl, rfl⟩, Dev.sideband,
    Dev.obj_setObj_ne _ _ _ _ _ _ (by decide) (by decide) (by decide)]

/-- Settles O27: the report writes one object, counts and notifies, and the clear writes the same object. -/
theorem stuckOutputIsReported : Obligations.StuckOutputIsReported := by
  intro s b hvaux hline
  refine ⟨fun hnew hfence htrip => ⟨s.after (s.stuckReported b), exec_openDrainStuck hvaux hline hnew hfence htrip,
    s.sidebandStatus_stuckReported b, s.sidebandEvents_stuckReported b, by simp [Dev.stuckReported, Dev.sideband], by simp [Dev.stuckReported, Dev.sideband], fun k ss hss hn => ?_⟩,
    s.after (s.sideband b false), exec_stuckOutputClear hvaux ?_, s.sidebandStatus_sideband b false⟩
  · have hss' : ((s.sideband b true).bump Obj.SIDEBAND_EVENTS).session? k = some ss := by simpa [Dev.session?, Dev.sideband] using hss
    exact ⟨_, Dev.mem_out_notify hss' hn 0x10B1 Obj.SIDEBAND_STATUS b, rfl, rfl⟩
  · simp only [openDrain, Bool.and_eq_true, decide_eq_true_eq] at hline
    exact hline.1

end Sys2Proof.Machine
end

section
/-! The Letterbox (R279, R282): writes to a host and interrupts leave every Letterbox alone but for the note that a word has changed. -/
namespace Sys2Proof.Machine

theorem Dev.box_setBox (s : Dev) (n j : Nat) (b : Letterbox) : (s.setBox n b).box j = if j = n then b else s.box j :=
  Tab.getD_put ({} : Letterbox) n j b s.hosts.boxes

@[simp] theorem Dev.box_setBox_same (s : Dev) (n : Nat) (b : Letterbox) : (s.setBox n b).box n = b := by
  simp [Dev.box_setBox]

@[simp] theorem Dev.box_bump (s : Dev) (oid i n : Nat) : (s.bump oid i).box n = s.box n := by
  simp [Dev.box]

@[simp] theorem Dev.box_addObj (s : Dev) (oid i v n : Nat) : (s.addObj oid i v).box n = s.box n := by
  simp [Dev.box]

@[simp] theorem Dev.box_msix (s : Dev) (n v j : Nat) : (s.msix n v).box j = s.box j := by
  unfold Dev.msix
  exact ite_keeps (p := (Dev.box · j)) rfl rfl

@[simp] theorem Dev.box_intr (s : Dev) (n i j : Nat) : (s.intr n i).box j = s.box j := by
  unfold Dev.intr
  exact ite_keeps (p := (Dev.box · j)) (Dev.box_msix ..) rfl

@[simp] theorem Dev.box_translate (s : Dev) (n a j : Nat) : (s.translate n a).box j = s.box j := by
  unfold Dev.translate
  exact ite_keeps (p := (Dev.box · j)) rfl rfl

@[simp] theorem Dev.box_markDirty (s : Dev) (n a len j : Nat) : (s.markDirty n a len).box j = s.box j := by
  unfold Dev.markDirty
  refine ite_keeps (p := (Dev.box · j)) ?_ rfl
  refine List.foldlRecOn (motive := fun t : Dev => t.box j = s.box j) _ _ rfl ?_
  intro t ht page _
  exact ite_keeps (p := (Dev.box · j)) (ite_keeps (p := (Dev.box · j)) ht ht) ((t.box_bump ..).trans ht)

@[simp] theorem Dev.box_sendWrite (s : Dev) (n a : Nat) (data : List Nat) (ro : Bool) (j : Nat) : (s.sendWrite n a data ro).box j = s.box j := by
  unfold Dev.sendWrite
  rw [Dev.box_markDirty]
  refine List.foldlRecOn (motive := fun t : Dev => t.box j = s.box j) _ _ rfl ?_
  intro t ht piece _
  exact (t.box_translate n piece.1 j).trans ht

@[simp] theorem Dev.box_hostWrite (s : Dev) (n a : Nat) (data : List Nat) (ro : Bool) (j : Nat) : (s.hostWrite n a data ro).box j = s.box j := by
  unfold Dev.hostWrite
  exact ite_keeps (p := (Dev.box · j)) (Dev.box_sendWrite ..) (ite_keeps (p := (Dev.box · j)) rfl (Dev.box_bump ..))

/-- Sending a Letterbox's status word clears the note that it has changed, and nothing else of the Letterbox (R280, R283). -/
theorem Dev.box_boxStatus (s : Dev) (n : Nat) : (s.boxStatus n).box n = { s.box n with changed := false } := by
  unfold Dev.boxStatus
  exact ite_keeps (p := (Dev.box · n)) ((Dev.box_hostWrite ..).trans (s.box_setBox_same ..)) (s.box_setBox_same ..)

/-- A Letterbox after a Tenant's control write that it takes (R279). -/
def Letterbox.tenantSent (b : Letterbox) (send ack : Nat) : Letterbox :=
  { b with tmSent := (b.tmSent + send) % 256, ttAcked := (b.ttAcked + ack) % 256, tokens := b.tokens - send }

/-- LB_CONTROL by a VF with a legal SEND and ACK (R279, R282). -/
theorem Dev.boxControl_tenant {s : Dev} {f w : Nat} (hvf : isPf f = false) (hpresent : s.present f = true) (hhigh : w / 65536 = 0)
    (hsend : heldOf (s.box f).tmSent (s.box f).tmAcked + bits w 15 8 ≤ 8) (hack : bits w 7 0 ≤ heldOf (s.box f).ttSent (s.box f).ttAcked) :
    s.boxControl f w =
      if (s.box f).tokens < bits w 15 8 then
        (s.setBox f { s.box f with throttled := true, changed := (s.box f).changed || !(s.box f).throttled }).bump Obj.LB_THROTTLED f
      else
        let b1 := (s.box f).tenantSent (bits w 15 8) (bits w 7 0)
        let s1 := s.setBox f { b1 with changed := (s.box f).changed || b1.word != (s.box f).word }
        if bits w 15 8 = 0 then s1 else ((s1.addObj Obj.LB_SENT f (bits w 15 8)).boxStatus f).intr (s.parentPf f) 1 := by
  have hbox : s.boxOf f w = some f := by simp [Dev.boxOf, hvf, hpresent]
  unfold Dev.boxControl Letterbox.tenantSent
  simp [hvf, hbox, hhigh, Nat.not_lt.mpr hsend, Nat.not_lt.mpr hack]

/-- Settles O33: the Letterbox is written once, and what follows leaves its counts and tokens. -/
theorem letterboxSendNeedsTokens : Obligations.LetterboxSendNeedsTokens := by
  intro s f w hvf hpresent hhigh
  dsimp only
  intro hsend hack
  rw [Dev.boxControl_tenant hvf hpresent hhigh hsend hack]
  refine ⟨fun hfew => ?_, fun henough => ?_⟩
  · rw [if_pos hfew]
    exact ⟨(Dev.box_bump ..).trans (s.box_setBox_same ..), Dev.obj_bump_same _ f ⟨_, rfl, rfl⟩⟩
  · rw [if_neg (Nat.not_lt.mpr henough)]
    dsimp only
    split
    · simp [Letterbox.tenantSent]
    · simp [Letterbox.tenantSent, Dev.box_boxStatus]

end Sys2Proof.Machine
end

section
/-! Registers and instructions of the threads (R380, R381, R389): what a write of a register, a retired instruction and a store leave of the
threads and of memory. -/
namespace Sys2Proof.Machine

/-! ### Registers -/

/-- Settles O28: registers are a table with default 0, and x0 is never listed in it. -/
theorem x0ReadsZero : Obligations.X0ReadsZero := by
  intro t v
  refine ⟨rfl, rfl, fun x hx => ?_⟩
  have hset (y : Nat) (hy : y ≠ 0) : (t.setReg x v).reg y = if y = x then v % 2 ^ 64 else Tab.getD t.regs y 0 := by
    rw [Hart.setReg, if_neg hx, Hart.reg, if_neg hy]
    exact Tab.getD_put 0 x y _ t.regs
  refine ⟨(hset x hx).trans (if_pos rfl), fun y hy => ?_⟩
  by_cases hy0 : y = 0
  · subst hy0
    rfl
  · rw [hset y hy0, if_neg hy, Hart.reg, if_neg hy0]

theorem Hart.reg_setReg_same (t : Hart) (x v : Nat) : (t.setReg x v).reg x = if x = 0 then 0 else v % 2 ^ 64 := by
  by_cases hx : x = 0
  · subst hx
    rfl
  · rw [if_neg hx]
    exact ((x0ReadsZero t v).2.2 x hx).1

theorem Hart.reg_setReg_ne (t : Hart) {x y : Nat} (v : Nat) (h : y ≠ x) : (t.setReg x v).reg y = t.reg y := by
  by_cases hx : x = 0
  · subst hx
    rfl
  · exact ((x0ReadsZero t v).2.2 x hx).2 y h

@[simp] theorem Hart.pc_setReg (t : Hart) (x v : Nat) : (t.setReg x v).pc = t.pc := by
  unfold Hart.setReg
  split <;> rfl

theorem Hart.reg_of_regs {t u : Hart} (h : t.regs = u.regs) (x : Nat) : t.reg x = u.reg x := by
  rw [Hart.reg, Hart.reg, h]

/-! ### The threads' records -/

theorem Dev.hart_setHart (s : Dev) (h k : Nat) (x : Hart) : (s.setHart h x).hart k = if k = h then x else s.hart k :=
  Tab.getD_put ({} : Hart) h k x s.cores.harts

@[simp] theorem Dev.hart_setHart_same (s : Dev) (h : Nat) (x : Hart) : (s.setHart h x).hart h = x := by
  simp [Dev.hart_setHart]

theorem Dev.hart_retired_ne (s : Dev) {h k : Nat} (len : Nat) (hk : k ≠ h) : (s.retired h len).hart k = s.hart k :=
  (s.hart_setHart h k _).trans (if_neg hk)

@[simp] theorem Dev.pc_retired (s : Dev) (h len : Nat) : ((s.retired h len).hart h).pc = ((s.hart h).pc + len) % 2 ^ 64 := by
  simp [Dev.retired]

@[simp] theorem Dev.regs_retired (s : Dev) (h len : Nat) : ((s.retired h len).hart h).regs = (s.hart h).regs := by
  simp [Dev.retired]

/-- A write of rd: the threads' other registers and the other threads stay. -/
theorem Dev.writeRd_reg (s : Dev) (h rd v len x : Nat) : ((s.writeRd h rd v len).hart h).reg x = ((s.hart h).setReg rd v).reg x :=
  Hart.reg_of_regs (by simp [Dev.writeRd]) x

theorem Dev.writeRd_pc (s : Dev) (h rd v len : Nat) : ((s.writeRd h rd v len).hart h).pc = ((s.hart h).pc + len) % 2 ^ 64 := by
  simp [Dev.writeRd]

theorem Dev.hart_writeRd_ne (s : Dev) {h k : Nat} (rd v len : Nat) (hk : k ≠ h) : (s.writeRd h rd v len).hart k = s.hart k :=
  ((Dev.hart_retired_ne _ len hk).trans (s.hart_setHart h k _)).trans (if_neg hk)

/-! ### One instruction -/

theorem Dev.mem_of_fetch {s s1 : Dev} {h fe : Nat} {x : Fetched} (hfetch : s.fetch h fe = (x, s1)) : s1.mem = s.mem := by
  have hcore := s.fetch_core h fe
  rw [hfetch] at hcore
  exact congrArg (fun c => c.2.2) hcore

/-- A thread that issues a 32-bit word of the base set carries it out on the state after the fetch (R380). -/
theorem exec_isaInstruction {s : State} {h fe raw : Nat} {s1 : Dev} (de : Nat) (hup : s.power.up = true) (hissues : s.issues h = true)
    (htrig : s.trigFires h 2 (s.hart h).pc = false) (hfetch : s.fetch h fe = (.word raw 4, s1)) (hbase : extOp raw = none) :
    exec (.isaInstruction h fe de) s = .next (s.after (s1.baseOp h raw raw 4 de)) := by
  have hisa : s.isa h fe de = s1.baseOp h raw raw 4 de := by
    unfold Dev.isa
    simp [htrig, hfetch, hbase]
  change execIsaInstruction h fe de s = _
  rw [← hisa]
  exact onMainIf_up s _ _ hup hissues

theorem bits_opcode (raw : Nat) : bits raw 6 0 = raw % 128 := by
  simp [bits]

theorem extOp_of_opcode {raw : Nat} (h : raw % 128 ≠ 0x0B) : extOp raw = none := if_neg fun hx => h hx.1

theorem Dev.baseOp_op {s : Dev} {h w v : Nat} (raw len err : Nat) (hop : w % 128 = 0x33)
    (hv : rvOp (rvF7 w) (rvF3 w) ((s.hart h).reg (rvRs1 w)) ((s.hart h).reg (rvRs2 w)) = some v) :
    s.baseOp h w raw len err = s.writeRd h (rvRd w) v len := by
  unfold Dev.baseOp
  dsimp only
  rw [bits_opcode, hop]
  simp only [hv]
  rfl

/-- Settles O29: the instruction is one write of rd on the state after the fetch. -/
theorem integerOperationWritesItsRegister : Obligations.IntegerOperationWritesItsRegister := by
  intro s h fe de raw v s1 hup hissues htrig hfetch hop hv
  have hnext := exec_isaInstruction de hup hissues htrig hfetch (extOp_of_opcode (by omega))
  rw [Dev.baseOp_op raw 4 de hop hv] at hnext
  have hmem : s1.mem = s.mem := Dev.mem_of_fetch hfetch
  refine ⟨_, hnext, hmem, s1.writeRd_pc .., ?_, fun x hx => ?_, fun k hk => s1.hart_writeRd_ne _ _ _ hk⟩
  · exact (s1.writeRd_reg ..).trans (Hart.reg_setReg_same ..)
  · exact (s1.writeRd_reg ..).trans (Hart.reg_setReg_ne _ _ hx)

/-- Settles O31: ECALL is the trap of code 11, whose fields the model's trap spells. -/
theorem ecallTakesTheTrap : Obligations.EcallTakesTheTrap := by
  intro s h fe de s1 hup hissues htrig hfetch
  have hnext := exec_isaInstruction de hup hissues htrig hfetch (extOp_of_opcode (by decide))
  have hhart : (s1.baseOp h 0x73 0x73 4 de).hart h = (s1.hart h).trap false 11 0 (s1.hart h).pc s1.tick := Dev.hart_setHart_same ..
  have hmem : s1.mem = s.mem := Dev.mem_of_fetch hfetch
  refine ⟨_, hnext, hmem, ?_⟩
  simp only [State.after_toDev, hhart]
  exact ⟨rfl, rfl, rfl, rfl, rfl, rfl, rfl, rfl⟩

/-! ### Stores to the on-chip memories (R9, R33) -/

theorem Dev.le_regionBase (s : Dev) (r : Nat) : 0x001000000000 ≤ s.regionBase r := Nat.le_add_right ..

theorem Dev.le_shelfAddr (s : Dev) (f : Nat) : 0x000300000000 ≤ s.shelfAddr f := by
  have hbase := s.le_regionBase 7
  unfold Dev.shelfAddr
  split <;> omega

/-- Below the packet buffer there is no buffer and no buffer's record. -/
theorem Dev.chainAt_onChip (s : Dev) {a : Nat} (ha : a < 0x000300000000) : s.chainAt a = none := by
  have hbuf : s.bufAt a = none := by
    rw [Dev.bufAt, Option.map_eq_none_iff, List.find?_eq_none]
    intro f _
    have := s.le_shelfAddr f
    simp only [decide_eq_true_eq]
    omega
  rw [Dev.chainAt, hbuf]

theorem Dev.recordAt_onChip (s : Dev) {a : Nat} (ha : a < 0x000300000000) : s.recordAt a = none := by
  rw [Dev.recordAt, Option.map_eq_none_iff, List.find?_eq_none]
  intro f _
  have := s.le_shelfAddr f
  simp only [decide_eq_true_eq]
  omega

theorem Dev.inRegion_onChip (s : Dev) (r : Nat) {a : Nat} (ha : a < 0x000300000000) : s.inRegion r a = false := by
  have := s.le_regionBase r
  simp only [Dev.inRegion, decide_eq_false_iff_not]
  omega

theorem Dev.store1_onChip (s : Dev) {a : Nat} (b : Nat) (ha : a < 0x000300000000) : s.store1 a b = s.putByte a b := by
  simp [Dev.store1, s.recordAt_onChip ha, s.chainAt_onChip ha, s.inRegion_onChip _ ha]

theorem Dev.storeN_onChip : ∀ (bs : List Nat) (s : Dev) (a : Nat), a + bs.length ≤ 0x000300000000 → s.storeN a bs = s.putBytes a bs
  | [], _, _, _ => rfl
  | b :: bs, s, a, h => by
    rw [List.length_cons] at h
    rw [Dev.storeN, s.store1_onChip b (by omega), Dev.putBytes]
    exact Dev.storeN_onChip bs _ (a + 1) (by omega)

theorem Dev.byte_putBytes : ∀ (bs : List Nat) (s : Dev) (a x : Nat),
    (s.putBytes a bs).byte x = if a ≤ x ∧ x < a + bs.length then nth bs (x - a) % 256 else s.byte x
  | [], s, a, x => by
    rw [if_neg fun hin => absurd (Nat.lt_of_le_of_lt hin.1 hin.2) (Nat.lt_irrefl a)]
    rfl
  | b :: bs, s, a, x => by
    rw [Dev.putBytes, Dev.byte_putBytes bs, Dev.byte_putByte, List.length_cons]
    by_cases hx : x = a
    · subst hx
      rw [if_neg fun hin => absurd hin.1 (Nat.not_succ_le_self x), if_pos rfl, if_pos (by omega), Nat.sub_self]
      rfl
    · by_cases hin : a + 1 ≤ x ∧ x < a + 1 + bs.length
      · have hsucc : x - a = (x - (a + 1)) + 1 := by omega
        rw [if_pos hin, if_pos (by omega), hsucc]
        rfl
      · rw [if_neg hin, if_neg hx, if_neg (by omega)]

/-- The bytes of a number are its digits to base 256. -/
theorem nth_leBytes : ∀ (n v i : Nat), i < n → nth (leBytes n v) i = v / 2 ^ (8 * i) % 256
  | n + 1, v, 0, _ => by simp [nth, leBytes]
  | n + 1, v, i + 1, h => by
    have hdigit : v / 256 / 2 ^ (8 * i) = v / 2 ^ (8 * (i + 1)) := by
      rw [Nat.div_div_eq_div_mul, show 256 = 2 ^ 8 from rfl, ← Nat.pow_add]
      congr 2
      omega
    rw [← hdigit]
    exact nth_leBytes n (v / 256) i (by omega)

/-- A digit of the number's low bytes is the number's. -/
theorem digit_mod_two_pow {v n i : Nat} (h : i < n) : v % 2 ^ (8 * n) / 2 ^ (8 * i) % 256 = v / 2 ^ (8 * i) % 256 := by
  have hsplit : 2 ^ (8 * n) = 2 ^ (8 * i) * 2 ^ (8 * (n - i)) := by
    rw [← Nat.pow_add]
    congr 1
    omega
  have hdvd : 256 ∣ 2 ^ (8 * (n - i)) := ⟨2 ^ (8 * (n - i) - 8), by
    rw [show 256 = 2 ^ 8 from rfl, ← Nat.pow_add]
    congr 1
    omega⟩
  rw [hsplit, Nat.mod_mul_right_div_self, Nat.mod_mod_of_dvd _ hdvd]

theorem Tab.get?_map_fixed {α : Type} {f : Nat × α → Nat × α} {i : Nat} (hkey : ∀ e, (f e).1 = e.1) (hfix : ∀ v, f (i, v) = (i, v)) :
    ∀ t : Tab α, Tab.get? (t.map f) i = Tab.get? t i
  | [] => rfl
  | (k, v) :: t => by
    by_cases hik : i = k
    · subst hik
      simp [hfix, Tab.get?]
    · have hk : i ≠ (f (k, v)).1 := by rwa [hkey]
      rw [List.map_cons, Tab.get?, Tab.get?, if_neg hk, if_neg hik, Tab.get?_map_fixed hkey hfix t]

/-- A thread's own store keeps its record: it takes the reservations of other threads alone (R382). -/
@[simp] theorem Dev.hart_overwritten_self (s : Dev) (h lo hi : Nat) : (s.overwritten (some h) lo hi).hart h = s.hart h := by
  refine congrArg (fun o : Option Hart => o.getD {}) (Tab.get?_map_fixed (fun e => ?_) (fun t => ?_) s.cores.harts)
  · dsimp only
    split
    · split <;> rfl
    · rfl
  · dsimp only
    split
    · exact if_neg fun hne => hne.1 rfl
    · rfl

theorem Dev.hart_putBytes : ∀ (bs : List Nat) (s : Dev) (a h : Nat), (s.putBytes a bs).hart h = s.hart h
  | [], _, _, _ => rfl
  | b :: bs, s, a, h => (Dev.hart_putBytes bs (s.putByte a b) (a + 1) h).trans rfl

/-- The sizes of a store: bytes, halfwords, words and doublewords. -/
theorem size_cases {k : Nat} (hk : k < 4) : k = 0 ∨ k = 1 ∨ k = 2 ∨ k = 3 := by omega

/-- An aligned address of the on-chip memories is aligned in memory too: the windows begin at multiples of 8 (R33). -/
theorem Dev.coreWin_sram_aligned {s : Dev} {h a p k : Nat} (hk : k < 4) (ha : a % 2 ^ k = 0) (hwin : s.coreWin h a = some (.sram p)) :
    p % 2 ^ k = 0 := by
  have hplace : p = a ∨ p = 0x000100000000 + h / 32 * 0x200000 + a := by
    unfold Dev.coreWin at hwin
    repeat' split at hwin
    · exact .inr (CoreWin.sram.inj (Option.some.inj hwin)).symm
    · cases hwin
    · exact .inl (CoreWin.sram.inj (Option.some.inj hwin)).symm
    · exact .inl (CoreWin.sram.inj (Option.some.inj hwin)).symm
    · cases hwin
    · cases hwin
    · cases hwin
    · cases hwin
    · cases hwin
  obtain rfl | rfl | rfl | rfl := size_cases hk <;> omega

/-- A word that begins below the packet buffer and is aligned ends there. -/
theorem aligned_end {p k : Nat} (hk : k < 4) (halign : p % 2 ^ k = 0) (hp : p < 0x000300000000) : p + 2 ^ k ≤ 0x000300000000 := by
  obtain rfl | rfl | rfl | rfl := size_cases hk <;> omega

/-- The state after a store of the n low bytes of v at p in the on-chip memories (R381). -/
def Dev.sramStored (s : Dev) (h p n v : Nat) : Dev := ((s.putBytes p (leBytes n v)).overwritten (some h) p (p + n))

theorem Dev.storeOp_onChip {s : Dev} {h w p : Nat} (raw len : Nat) (hsize : rvF3 w < 4)
    (htrig : s.trigFires h 1 (((s.hart h).reg (rvRs1 w) + rvImmS w) % 2 ^ 64) = false)
    (halign : ((s.hart h).reg (rvRs1 w) + rvImmS w) % 2 ^ 64 % 2 ^ rvF3 w = 0)
    (hwin : s.coreWin h (((s.hart h).reg (rvRs1 w) + rvImmS w) % 2 ^ 64) = some (.sram p)) (hend : p + 2 ^ rvF3 w ≤ 0x000300000000) :
    s.storeOp h w raw len = (s.sramStored h p (2 ^ rvF3 w) ((s.hart h).reg (rvRs2 w) % 2 ^ (8 * 2 ^ rvF3 w))).retired h len := by
  have hbytes (v : Nat) : s.storeN p (leBytes (2 ^ rvF3 w) v) = s.putBytes p (leBytes (2 ^ rvF3 w) v) :=
    Dev.storeN_onChip _ s p (by rwa [leBytes_length])
  unfold Dev.storeOp
  dsimp only
  rw [if_neg (Nat.not_le.mpr hsize), if_neg (by rw [htrig]; exact Bool.false_ne_true), if_neg (not_not_intro halign),
    if_pos (by rw [Dev.storeOk, hwin]), Dev.storeMem, hwin]
  dsimp only
  rw [hbytes]
  rfl

theorem Dev.byte_sramStored (s : Dev) (h p n v x : Nat) :
    (s.sramStored h p n (v % 2 ^ (8 * n))).byte x = if p ≤ x ∧ x < p + n then v / 2 ^ (8 * (x - p)) % 256 else s.byte x := by
  refine (Dev.byte_putBytes _ s p x).trans ?_
  rw [leBytes_length]
  by_cases hin : p ≤ x ∧ x < p + n
  · have hlt : x - p < n := by omega
    rw [if_pos hin, if_pos hin, nth_leBytes _ _ _ hlt, Nat.mod_mod, digit_mod_two_pow hlt]
  · rw [if_neg hin, if_neg hin]

theorem Dev.hart_sramStored (s : Dev) (h p n v : Nat) : (s.sramStored h p n v).hart h = s.hart h := by
  rw [Dev.sramStored, Dev.hart_overwritten_self, Dev.hart_putBytes]

/-- Settles O30: the address is aligned in memory, so that all bytes lie below the packet buffer, and there a store is a write of bytes. -/
theorem storeWritesItsBytesAlone : Obligations.StoreWritesItsBytesAlone := by
  intro s h fe de raw p s1 hup hissues htrig hfetch hop hsize
  dsimp only
  intro hwatch halign hwin hp
  have hend : p + 2 ^ rvF3 raw ≤ 0x000300000000 := aligned_end hsize (Dev.coreWin_sram_aligned hsize halign hwin) hp
  have hmem : s1.mem = s.mem := Dev.mem_of_fetch hfetch
  have hnext := exec_isaInstruction de hup hissues htrig hfetch (extOp_of_opcode (by omega))
  have hstore : s1.baseOp h raw raw 4 de = s1.storeOp h raw raw 4 := by
    unfold Dev.baseOp
    rw [bits_opcode, hop]
    rfl
  rw [hstore, Dev.storeOp_onChip raw 4 hsize hwatch halign hwin hend] at hnext
  refine ⟨_, hnext, fun x => ?_, ?_, ?_⟩
  · have hbyte : s1.byte x = s.byte x := by rw [Dev.byte, hmem, Dev.byte]
    rw [← hbyte]
    exact s1.byte_sramStored h p _ _ x
  · exact (Dev.regs_retired ..).trans (congrArg Hart.regs (Dev.hart_sramStored ..))
  · exact (Dev.pc_retired ..).trans (congrArg (fun t : Hart => (t.pc + 4) % 2 ^ 64) (Dev.hart_sramStored ..))

end Sys2Proof.Machine
end

section
/-! Commands of the main domain answer their effect (R463): the forms that the completion statements below use, and the edge, the monitor,
admission, sorting and parcel work. A command's clause states its guard, and the guard follows from the clause's premises. -/
namespace Sys2Proof.Machine

/-- A guarded command of the main domain, with its effect on this state named. -/
theorem onMainIf_next {s : State} {c : Bool} {f : Dev → Dev} {d : Dev} (h : s.power.up = true) (hc : c = true) (hd : f s.toDev = d) :
    onMainIf s c f = .next (s.after d) :=
  hd ▸ onMainIf_up s c f h hc

/-- A command of the main domain, with its effect on this state named. -/
theorem onMain_next {s : State} {f : Dev → Dev} {d : Dev} (h : s.power.up = true) (hd : f s.toDev = d) : onMain s f = .next (s.after d) :=
  hd ▸ onMain_up s f h

/-- A command of every domain, with its effect on this state named. -/
theorem always_next {s : State} {f : Dev → Dev} {d : Dev} (hd : f s.toDev = d) : always s f = .next (s.after d) :=
  hd ▸ always_eq s f

/-! ### The edge and the monitor -/

/-- Settles O34: each piece's guard is that it is still to be done. -/
theorem completesEdgeWork : Obligations.CompletesEdgeWork := fun s =>
  ⟨fun hup =>
    ⟨edgeCmd_up s .snapshot hup, edgeCmd_up s .bureau hup,
      fun h => (onMainIf_up s _ _ hup h : execRwWriteApply s = _),
      edgeCmd_up s .table hup, edgeCmd_up s .shaper hup, edgeCmd_up s .calendar hup, edgeCmd_up s .coarse hup,
      edgeCmd_up s .policer hup, edgeCmd_up s .steal hup, edgeCmd_up s .sample hup, edgeCmd_up s .lease hup⟩,
    fun stepwise => (always_eq s _ : execTickEdge stepwise s = _)⟩

/-- DRAWER_FENCE at an edge, once the cause has been detected before it (R55). -/
theorem exec_drawerFence {s : State} {d : Nat} {cause : FenceCause} (hup : s.power.up = true) (hcause : Tab.get? s.work.fence d = some cause)
    (hbefore : cause.detect < s.tick) (hpiece : s.edgeTodo.contains .fences = true) :
    exec (.drawerFence d false) s = .next (s.after ((s.cabinetFirst (d / 16)).fenceDrawer d cause)) := by
  change execDrawerFence d false s = _
  have hnow : (s.edgeTodo.contains .fences && s.fenceNow cause) = true := by
    rw [hpiece, Dev.fenceNow, decide_eq_true hbefore, Bool.and_self]
  refine onMain_next hup ?_
  simp only [hcause, hnow, Bool.false_eq_true, if_true, if_false]

/-- CABINET_FENCING at an edge, once the cause has been detected before it (R497). -/
theorem exec_cabinetFencing {s : State} {c : Nat} {cause : FenceCause} (hup : s.power.up = true) (hcause : Tab.get? s.work.cabFence c = some cause)
    (hbefore : cause.detect < s.tick) (hpiece : s.edgeTodo.contains .fences = true) :
    exec (.cabinetFencing c false) s = .next (s.after (s.fenceCabinet c cause)) := by
  change execCabinetFencing c false s = _
  have hnow : (s.edgeTodo.contains .fences && s.fenceNow cause) = true := by
    rw [hpiece, Dev.fenceNow, decide_eq_true hbefore, Bool.and_self]
  refine onMain_next hup ?_
  simp only [hcause, hnow, Bool.false_eq_true, if_true, if_false]

/-- Settles O35: the causes that are only recorded need no guard, those carried out need their edge. -/
theorem completesClockAndMonitor : Obligations.CompletesClockAndMonitor := fun s hup =>
  ⟨fun h => (onMainIf_up s _ _ hup (bne_iff_ne.mpr h) : execDevrefLoss s = _),
    fun h => (onMainIf_up s _ _ hup (bne_iff_ne.mpr h) : execDevrefRelock true s = _),
    fun h => (onMainIf_up s _ _ hup (bne_iff_ne.mpr h) : execDevrefRelock false s = _),
    fun drawers cabinets hub h => (onMainIf_up s _ _ hup (beq_iff_eq.mpr h) : execSelfcheck drawers cabinets hub s = _),
    fun d => (onMain_up s _ hup : execMonitorWatchdog d s = _),
    fun d => (onMain_up s _ hup : execDrawerFence d true s = _),
    fun _ _ hcause hbefore hpiece => exec_drawerFence hup hcause hbefore hpiece,
    fun c => (onMain_up s _ hup : execCabinetFencing c true s = _),
    fun _ _ hcause hbefore hpiece => exec_cabinetFencing hup hcause hbefore hpiece,
    fun cause h => (onMain_next hup (if_pos h) : execDeviceFault cause s = _),
    fun h => (onMain_next hup ((if_neg (by decide)).trans (if_pos ⟨rfl, h⟩)) : execDeviceFault 0 s = _)⟩

/-! ### Admission -/

/-- Settles O36: the guards are the port's, the thread's, the drawer's and the group's. -/
theorem completesAdmission : Obligations.CompletesAdmission := fun s hup =>
  ⟨fun p length head cap hport hlink hrx hlength =>
      (onMainIf_up s _ _ hup (by simp [hport, hlink, hrx, hlength]) : execFrameWriteStart p length head cap s = _),
    fun p tail fcsOk h => (onMainIf_up s _ _ hup h : execFrameEnd p tail fcsOk s = _),
    fun h w hthread hserves => (onMainIf_up s _ _ hup (by simp [hthread, hserves]) : execParcelCreate h w s = _),
    fun d hserves hroom hfault => (onMainIf_up s _ _ hup (by simp [hserves, hroom, hfault]) : execAdmissionHoldRelease d s = _),
    fun g hopen hfault => (onMainIf_up s _ _ hup (by simp [hopen, hfault]) : execWindowStallRelease g s = _)⟩

/-! ### Sorting, lookups and pattern scans -/

/-- Settles O37: a parked context, a scan job or a bank's state is each command's guard. -/
theorem completesSorterAndMatcher : Obligations.CompletesSorterAndMatcher := fun s hup =>
  ⟨fun d i h => (onMainIf_up s _ _ hup h : execSorterTake d i s = _),
    fun d i more hi h => (onMainIf_up s _ _ hup (by simp [hi, h]) : execParseExtendResume d i more s = _),
    fun d i poison hi h => (onMainIf_up s _ _ hup (by simp [hi, h]) : execGddr6LookupReturn d i poison s = _),
    fun d i c hi hc hlate => (onMainIf_up s _ _ hup (by simp [hi, hc, hlate]) : execLookupTimeout d i s = _),
    fun d i miss j hj hready => (onMainIf_up s _ _ hup (by simp [hj, hready]) : execPatternScan d i miss s = _),
    fun d i poison j hj hparked => (onMainIf_up s _ _ hup (by simp [hj, hparked]) : execMatcherCacheMissReturn d i poison s = _),
    fun d i n hpiece hruns => (onMainIf_up s _ _ hup (by simp only [hpiece, hruns, Bool.and_self]) : execMatcherSuspend d i n s = _),
    fun S b hb hverify => (onMainIf_up s _ _ hup (by simp only [hb, hverify, decide_true, Bool.and_self]) : execVerifyDone S b s = _),
    fun S b hb hstate hidle =>
      (onMainIf_up s _ _ hup (by rw [decide_eq_true hb, hstate, hidle]; rfl) : execBankDrainDone S b s = _)⟩

/-! ### The work on a parcel -/

/-- PARCEL_FINISH of an engine's parcel that may leave (R51). -/
theorem exec_parcelFinish {s : State} {e : Nat} {c : SorterCtx} (hup : s.power.up = true) (hc : s.work.fins[e]? = some c)
    (hleaves : (c.hold && s.rxEnd c.p.handle == .arriving) = false) :
    exec (.parcelFinish e) s =
      .next (s.after (Dev.parcelFinish { s.toDev with work := { s.work with fins := s.work.fins.eraseIdx e } } c)) := by
  change execParcelFinish e s = _
  refine onMainIf_next hup ?_ ?_
  · simp only [hc, hleaves, Bool.not_false]
  · simp only [hc]

/-- TRANSMIT_COMPLETE of the frame that a port sends next (R190). -/
theorem exec_transmitComplete {s : State} {P : Nat} {x : TxFrame} (cap : Nat) (hup : s.power.up = true) (hx : s.nextTx P = some x)
    (harrived : (s.rxEnd x.f.chain != .arriving) = true) (hleaves : s.mayLeave P x = true) :
    exec (.transmitComplete P cap) s = .next (s.after (s.transmit P cap x)) := by
  change execTransmitComplete P cap s = _
  refine onMainIf_next hup ?_ ?_
  · simp only [hx, harrived, hleaves, Bool.and_self]
  · simp only [hx]

/-- Settles O38: each command names the parcel it works on, and the guard says that the parcel is there. -/
theorem completesParcelWork : Obligations.CompletesParcelWork := fun s hup =>
  ⟨fun d hserves hmoved hpick => (onMainIf_up s _ _ hup (by simp [hserves, hmoved, hpick]) : execDmaMoverResume d s = _),
    fun _ _ hc hleaves => exec_parcelFinish hup hc hleaves,
    fun h k hdue hk => (onMainIf_up s _ _ hup (by simp [hdue, hk]) : execThreadOverrunTrap h k s = _),
    fun h k hdue hk => (onMainIf_up s _ _ hup (by simp [hdue, hk]) : execOverrunDrop h k s = _),
    fun P h => (onMainIf_up s _ _ hup h : execDequeue P s = _),
    fun _ cap _ hx harrived hleaves => exec_transmitComplete cap hup hx harrived hleaves,
    fun h hport => (onMainIf_up s _ _ hup hport : execTakeParcel h s = _),
    fun h slot disp hport hslot => (onMainIf_up s _ _ hup (by simp [hport, hslot]) : execRetire h slot disp s = _),
    fun h slot hport hslot => (onMainIf_up s _ _ hup (by simp [hport, hslot]) : execYieldSlot h slot s = _)⟩

/-- Settles O39: an owner of this part is each operation's guard. -/
theorem completesBufferOperations : Obligations.CompletesBufferOperations := fun s hup =>
  ⟨fun owner length h => (onMainIf_up s _ _ hup h : execAlloc owner length s = _),
    fun owner handle h => (onMainIf_up s _ _ hup h : execFreeChain owner handle s = _),
    fun owner handle n h => (onMainIf_up s _ _ hup h : execShareChain owner handle n s = _),
    fun owner handle h => (onMainIf_up s _ _ hup h : execDetach owner handle s = _),
    fun owner handle newOwner h => (onMainIf_up s _ _ hup h : execHandover owner handle newOwner s = _)⟩

end Sys2Proof.Machine
end

section
/-! Ethernet ports, the exact-match unit and the Bureau's sessions: their commands answer their effect. -/
namespace Sys2Proof.Machine

/-! ### Ethernet ports -/

/-- Settles O40: the guards are the link's state, its times and, for LINK_UP and LINK_DOWN, the edge's piece. -/
theorem completesPortLink : Obligations.CompletesPortLink := fun s hup =>
  ⟨fun p hstate hretry href => (onMainIf_up s _ _ hup (by simp [hstate, hretry, href]) : execTrainingComplete p s = _),
    fun p hstate hretry => (onMainIf_up s _ _ hup (by simp [hstate, hretry]) : execTrainingFailure p s = _),
    fun p hstate hretry hlate => (onMainIf_up s _ _ hup (by simp [hstate, hretry, hlate]) : execLinkRetry p s = _),
    fun p order hstate href => (onMainIf_up s _ _ hup (by rw [hstate, href, Bool.and_self]) : execAlignLock p order s = _),
    fun p hpiece hdue => (onMainIf_up s _ _ hup (by rw [hpiece, hdue, Bool.and_self]) : execLinkUp p s = _),
    fun p mask hstate hlock hlate => (onMainIf_up s _ _ hup (by simp [hstate, hlock, hlate]) : execAlignTimeout p mask s = _),
    fun p lanes hstate => (onMainIf_up s _ _ hup hstate : execLockLoss p lanes s = _),
    fun p hpiece hdue => (onMainIf_up s _ _ hup (by rw [hpiece, hdue, Bool.and_self]) : execLinkDown p s = _),
    fun l hdue => (onMainIf_up s _ _ hup hdue : execPolarityRetry l s = _),
    fun p corrected uncorrected hport hstate => (onMainIf_up s _ _ hup (by simp [hport, hstate]) : execFecDegrade p corrected uncorrected s = _)⟩

/-- Settles O41: the guards are the port's and the priority's. -/
theorem completesPauseAndManagementPort : Obligations.CompletesPauseAndManagementPort := fun s hup =>
  ⟨fun p mask quanta hport hlink => (onMainIf_up s _ _ hup (by simp [hport, hlink]) : execPauseReceive p mask quanta s = _),
    fun p q t hq hend hdue => (onMainIf_up s _ _ hup (by simp [hq, hend, hdue]) : execPauseExpire p q s = _),
    fun p q t hq hlink hsends hprio hcause hxoff hdue =>
      (onMainIf_up s _ _ hup (by simp only [hq, hlink, hsends, hprio, hcause, hxoff, hdue, decide_true, Bool.and_self]) : execXoffResend p q s = _),
    fun _ _ hq hwatch hpaused hlong => exec_pfcStorm hup hq hwatch hpaused hlong,
    fun p q hq hstorm hlate => (onMainIf_up s _ _ hup (by simp [hq, hstorm, hlate]) : execPfcStormEnd p q s = _),
    fun data h => (onMainIf_up s _ _ hup h : execMgmtFrameReceive data s = _)⟩

/-! ### The exact-match unit -/

/-- Settles O42: a thread of the part is each command's guard, and SWEEP has none. -/
theorem completesExactMatch : Obligations.CompletesExactMatch := fun s hup =>
  ⟨fun h rec hthread => (onMainIf_up s _ _ hup (decide_eq_true hthread) : execSearch h rec s = _),
    fun h rec hthread => (onMainIf_up s _ _ hup (decide_eq_true hthread) : execInsert h rec s = _),
    fun h rec hthread => (onMainIf_up s _ _ hup (decide_eq_true hthread) : execDelete h rec s = _),
    fun h rec hthread => (onMainIf_up s _ _ hup (decide_eq_true hthread) : execNextEntry h rec s = _),
    fun h rec hthread => (onMainIf_up s _ _ hup (decide_eq_true hthread) : execFlushByPort h rec s = _),
    (onMain_up s _ hup : execSweep s = _)⟩

/-! ### Sessions of the Bureau -/

/-- ASSOCIATION_CLOSE of an association that has been silent for 60 seconds (R83). -/
theorem exec_associationClose_silent {s : State} {a : Nat} {ss : Session} (alert : Bool) (hup : s.power.up = true)
    (hss : s.session? (0x10000 + a) = some ss) (ha : a < 16) (hsilent : ss.lastRecord + sixtySeconds ≤ s.tick) :
    exec (.associationClose a alert) s = .next (s.after (s.endSession (0x10000 + a))) := by
  change execAssociationClose a alert s = _
  unfold execAssociationClose
  rw [hss]
  exact onMainIf_next hup (by simp [ha, hsilent]) (if_pos hsilent)

/-- ASSOCIATION_CLOSE by the peer's alert, before that (R83). -/
theorem exec_associationClose_alert {s : State} {a : Nat} {ss : Session} (hup : s.power.up = true) (hss : s.session? (0x10000 + a) = some ss)
    (ha : a < 16) (hheard : s.tick < ss.lastRecord + sixtySeconds) :
    exec (.associationClose a true) s = .next (s.after (s.mgmtFrame (fun t => t.endSession (0x10000 + a)))) := by
  change execAssociationClose a true s = _
  unfold execAssociationClose
  rw [hss]
  exact onMainIf_next hup (by simp [ha]) (if_neg (Nat.not_le.mpr hheard))

/-- NOTIFY_RESEND of a notification that waits for its acknowledgement (R86). -/
theorem exec_notifyResend {s : State} {sess : Sess} {seq : Nat} {ss : Session} {n : Notif} (hup : s.power.up = true)
    (hss : s.session? (sessKey sess) = some ss) (hn : ss.notifs.find? (fun n => n.seq == seq) = some n) (hlate : n.lastSend + tenMs ≤ s.tick)
    (hsends : n.sends ≤ 5) :
    exec (.notifyResend sess seq) s = .next (s.after (
      (s.setSession (sessKey sess) { ss with
        notifs := ss.notifs.map (fun m => if m.seq = seq then { n with sends := n.sends + 1, lastSend := s.tick } else m) }).emit
        (.notify (sessKey sess) { n with sends := n.sends + 1, lastSend := s.tick }))) := by
  change execNotifyResend sess seq s = _
  unfold execNotifyResend
  rw [hss]
  dsimp only
  rw [hn]
  exact onMainIf_up s _ _ hup (by simp [hlate, hsends])

/-- STORE_SAVE_DONE of a save that is under way (R79). -/
theorem exec_storeSaveDone {s : State} {v : Save} (hup : s.power.up = true) (hv : s.bureau.save = some v) :
    exec .storeSaveDone s = .next (s.after (
      let o := s.storeCopy (1 - v.copy)
      let t := s.setStoreCopy v.copy { valid := true, seq := if o.valid then o.seq + 1 else 1, vals := v.vals }
      ({ t with bureau := { t.bureau with save := none } }).setObj Obj.STORE_STATE 0 0)) := by
  change execStoreSaveDone s = _
  unfold execStoreSaveDone
  rw [hv]
  exact onMain_up s _ hup

/-- NOTIFY_ACK on an open session (R86). -/
theorem exec_notifyAck {s : State} {sess : Sess} {ss : Session} (seq : Nat) (hss : s.session? (sessKey sess) = some ss) :
    exec (.notifyAck sess seq) s = .next (s.after (
      s.onPath (sessKey sess) (fun t => t.setSession (sessKey sess)
        { ss with lastRecord := t.tick, notifs := ss.notifs.filter (fun n => n.seq != seq) }))) := by
  change execNotifyAck sess seq s = _
  refine always_next ?_
  rw [hss]

/-- Settles O43: the session that a command names is open, and requests need no main domain. -/
theorem completesBureauSessions : Obligations.CompletesBureauSessions := fun s =>
  ⟨fun hup =>
    ⟨fun a anchor hready ha hnone hanchor =>
        (onMainIf_up s _ _ hup (by simp only [hready, ha, hnone, hanchor, decide_true, Bool.and_self]) : execXehiborHandshake a anchor s = _),
      fun _ alert _ hss ha hsilent => exec_associationClose_silent alert hup hss ha hsilent,
      fun _ _ hss ha hheard => exec_associationClose_alert hup hss ha hheard,
      fun _ _ _ hss htxn hidle => exec_txnIdleTimeout hup hss htxn hidle,
      fun _ _ _ _ hss hn hlate hsends => exec_notifyResend hup hss hn hlate hsends,
      fun _ hv => exec_storeSaveDone hup hv⟩,
    fun sess ver seq count body h => (always_next (if_pos h) : execReadReq sess ver seq count body s = _),
    fun sess ver seq count body h => (always_next (if_pos h) : execWriteReq sess ver seq count body s = _),
    fun sess ver seq txn h => (always_next (if_pos h) : execCommitTxn sess ver seq txn s = _),
    fun sess ver seq txn h => (always_next (if_pos h) : execAbortTxn sess ver seq txn s = _),
    fun _ seq _ hss => exec_notifyAck seq hss⟩

end Sys2Proof.Machine
end

section
/-! Host links, functions and their queues: the commands answer their effect. -/
namespace Sys2Proof.Machine

/-! ### Host links -/

/-- HOST_LINK_RESET of a reset that is due (R229). -/
theorem exec_hostLinkReset {s : State} {k : Nat} {hot : Bool} {t : Nat} (hup : s.power.up = true) (hready : s.resetReady k = true)
    (hdue : (s.link k).resetDue = some (hot, t)) : exec (.hostLinkReset k) s = .next (s.after (s.linkReset k hot)) := by
  change execHostLinkReset k s = _
  refine onMainIf_next hup hready ?_
  rw [hdue]

/-- WAKE_EVENT while the auxiliary domain alone is up (R250). -/
theorem exec_wakeEvent {s : State} {frame : Option (List Nat)} (hvaux : s.power.vaux = true) (hmain : s.power.main = false)
    (hhit : frame.all s.wakeMatch = true) :
    exec (.wakeEvent frame) s =
      .next (s.after (((List.range (s.part.links / 2)).filter (fun h => bit (s.obj Obj.WAKE_PAIRS) h)).foldl
        (fun t h => t.emit (.wake h)) s.toDev)) := by
  change execWakeEvent frame s = _
  cases frame with
  | none => exact always_next (if_pos (by rw [hvaux, hmain]; rfl))
  | some f =>
    have hmatch : s.wakeMatch f = true := hhit
    exact always_next (if_pos (by simp only [hvaux, hmain, hmatch, Bool.not_false, Bool.and_self]))

/-- Settles O44: the guards are the link's state and its times, and the pins need no main domain. -/
theorem completesHostLink : Obligations.CompletesHostLink := fun s =>
  ⟨fun hup =>
    ⟨fun k hk hstate => (onMainIf_up s _ _ hup (by simp [hk, hstate]) : execHotReset k s = _),
      fun k hk hstate => (onMainIf_up s _ _ hup (by simp [hk, hstate]) : execDlDown k s = _),
      fun _ _ _ hready hdue => exec_hostLinkReset hup hready hdue,
      fun k status hk hstate htrained => (onMainIf_up s _ _ hup (by simp [hk, hstate, htrained]) : execDlActive k status s = _),
      fun k hk hstate hlate => (onMainIf_up s _ _ hup (by simp [hk, hstate, hlate]) : execLinkTrainingTimeout k s = _),
      fun k hk hstate => (onMainIf_up s _ _ hup (by simp [hk, hstate]) : execFunctionsReady k s = _),
      fun k hk hstate => (onMainIf_up s _ _ hup (by simp [hk, hstate]) : execPmeTurnOff k s = _),
      fun k power width hk hstate hpower => (onMainIf_up s _ _ hup (by simp [hk, hstate, hpower]) : execLinkPowerStateChange k power width s = _),
      fun h hh habsent => (onMainIf_up s _ _ hup (by simp [hh, habsent]) : execPcieRefclkAbsent h s = _),
      fun h hh habsent => (onMainIf_up s _ _ hup (by simp [hh, habsent]) : execPcieRefclkReturn h s = _),
      fun r hr => (onMainIf_up s _ _ hup hr : execHotPlugInsertion r false s = _),
      fun r hr => (onMainIf_up s _ _ hup hr : execHotPlugInsertion r true s = _)⟩,
    fun h hh => (always_next (if_pos hh) : execPerstAssert h s = _),
    fun h hh => (always_next (if_pos hh) : execPerstRelease h s = _),
    fun hvaux hmain => exec_wakeEvent hvaux hmain rfl,
    fun _ hvaux hmain hmatch => exec_wakeEvent hvaux hmain hmatch⟩

/-! ### Configuration and control of a function -/

/-- Settles O45: the guard is that the function answers configuration requests, and the state that the command changes. -/
theorem completesFunctionControl : Obligations.CompletesFunctionControl := fun s hup =>
  ⟨fun n hvf hpresent hsince => (onMainIf_up s _ _ hup (by simp [hvf, hpresent, hsince]) : execVfReady n s = _),
    fun n reg wr hpart hlink => (onMainIf_up s _ _ hup (by simp [hpart, hlink]) : execConfigRequest n reg wr s = _),
    fun n hcfg hbme => (onMainIf_up s _ _ hup (by simp [hcfg, hbme]) : execBmeSet n s = _),
    fun n hcfg hbme => (onMainIf_up s _ _ hup (by simp [hcfg, hbme]) : execBmeClear n s = _),
    fun n hcfg => (onMainIf_up s _ _ hup hcfg : execInitiateFlr n s = _),
    fun n hstate hpart => (onMainIf_up s _ _ hup (by simp [hstate, hpart]) : execFlrComplete n s = _),
    fun n hpf hcfg henable => (onMainIf_up s _ _ hup (by simp [hpf, hcfg, henable]) : execVfEnableSet n s = _),
    fun n hpf hcfg henable => (onMainIf_up s _ _ hup (by simp [hpf, hcfg, henable]) : execVfEnableClear n s = _),
    fun n d h => (onMainIf_up s _ _ hup h : execDStateChange n d s = _),
    fun r hcfg => (onMainIf_up s _ _ hup hcfg : execAtsInvalidate r s = _),
    fun n hcfg => (onMainIf_up s _ _ hup hcfg : execCiDataRead n s = _)⟩

/-! ### Completions, register writes and doorbells -/

/-- COMPLETION_TIMEOUT of a request that has waited for that long (R242). -/
theorem exec_completionTimeout {s : State} {k tag : Nat} {t : Tag} (hup : s.power.up = true) (ht : s.timedOut? k tag = some t) :
    exec (.completionTimeout k tag) s = .next (s.after (s.ctoAct k tag t)) := by
  change execCompletionTimeout k tag s = _
  unfold execCompletionTimeout
  rw [ht]
  exact onMain_up s _ hup

/-- TAG_QUARANTINE_END of a tag that has been in quarantine long enough (R244). -/
theorem exec_tagQuarantineEnd {s : State} {k tag q : Nat} {t : Tag} {e : Bool} (hup : s.power.up = true)
    (ht : Tab.get? (s.link k).tags tag = some t) (hquar : t.quar = some (q, e)) (hlate : q + 2 * s.ctoTicks t.req.fn ≤ s.tick) :
    exec (.tagQuarantineEnd k tag) s = .next (s.after (s.returnTag k tag)) := by
  change execTagQuarantineEnd k tag s = _
  unfold execTagQuarantineEnd
  rw [ht]
  dsimp only
  rw [hquar]
  exact onMainIf_up s _ _ hup (decide_eq_true hlate)

/-- The BARs that a register access may name (R231, R233). -/
theorem bar_decoded {bar : Nat} (h : bar = 0 ∨ bar = 2 ∨ bar = 6) : (bar == 0 || bar == 2 || bar == 6) = true := by
  obtain rfl | rfl | rfl := h <;> rfl

/-- Settles O46: a tag or a decoded BAR is each command's guard, and a doorbell's code selects the command. -/
theorem completesHostRequests : Obligations.CompletesHostRequests := fun s hup =>
  ⟨fun k tag bytes status data hk hstate => (onMainIf_up s _ _ hup (by simp [hk, hstate]) : execCompletionTlp k tag bytes status data s = _),
    fun _ _ _ ht => exec_completionTimeout hup ht,
    fun _ _ _ _ _ ht hquar hlate => exec_tagQuarantineEnd hup ht hquar hlate,
    fun n bar off size v hfn hbar =>
      (onMainIf_up s _ _ hup (by rw [hfn, bar_decoded hbar, Bool.and_self]) : execRegisterWrite n bar off size (some v) s = _),
    fun n bar off size hfn hbar =>
      (onMainIf_up s _ _ hup (by rw [hfn, bar_decoded hbar, Bool.and_self]) : execRegisterWrite n bar off size none s = _),
    fun n page w hbar h2 h3 => (onMainIf_up s _ _ hup (by simp [hbar, h2, h3]) : execDoorbellValue n page w s = _),
    fun n page w hbar h2 => (onMainIf_up s _ _ hup (by simp [hbar, h2]) : execDoorbellRefresh n page w s = _),
    fun n page w hbar h3 => (onMainIf_up s _ _ hup (by simp [hbar, h3]) : execDoorbellReleaseArm n page w s = _)⟩

/-! ### Descriptor queues -/

section Descriptors

variable {s : State} {n Q t : Nat} {q : Queue} {s1 : Dev}

/-- SEND_JOB of a queue that may send, once its descriptor's read has a tag (R240, R262). -/
theorem exec_sendJob (d err : Nat) (frags : Option (List Nat)) (hup : s.power.up = true) (hq : s.queue? (qkey n Q) = some q)
    (htype : q.type = 1) (hread : s.mayRead n q = true) (hheld : s.queueHeld n Q = false) (hlow : s.sendLow n q (some d) = false)
    (htag : s.slotAsk n (s.descAddr q) s.descBytes (.slot (qkey n Q)) = (some t, s1)) :
    exec (.sendJob n Q (some d) err frags) s = .next (s.after (s1.sendJob n Q t d frags)) := by
  change execSendJob n Q (some d) err frags s = _
  unfold execSendJob
  rw [hq]
  exact onMainIf_next hup (by simp [htype, hread, hheld, hlow]) (Dev.onSlot_some _ htag)

/-- SEND_JOB whose descriptor's read fails (R240, R262). -/
theorem exec_sendJob_failed (frags : Option (List Nat)) {err : Nat} (hup : s.power.up = true) (hq : s.queue? (qkey n Q) = some q)
    (htype : q.type = 1) (hread : s.mayRead n q = true) (hheld : s.queueHeld n Q = false) (hlow : s.sendLow n q none = false)
    (htag : s.slotAsk n (s.descAddr q) s.descBytes (.slot (qkey n Q)) = (some t, s1)) (hfail : s1.canFail n t err = true) :
    exec (.sendJob n Q none err frags) s = .next (s.after ((s1.slotFail n t err).slotFrozen (qkey n Q))) := by
  change execSendJob n Q none err frags s = _
  unfold execSendJob
  rw [hq]
  exact onMainIf_next hup (by simp [htype, hread, hheld, hlow]) ((Dev.onSlot_some _ htag).trans (if_pos hfail))

/-- RECEIVE_DESCRIPTOR of a queue that holds less than 31, once its descriptor's read has a tag (R240, R264). -/
theorem exec_receiveDescriptor (d err : Nat) (hup : s.power.up = true) (hq : s.queue? (qkey n Q) = some q) (htype : q.type = 2)
    (hread : s.mayRead n q = true) (hheld : q.held.length < 31)
    (htag : s.slotAsk n (s.descAddr q) s.descBytes (.slot (qkey n Q)) = (some t, s1)) :
    exec (.receiveDescriptor n Q (some d) err) s = .next (s.after ((s1.returnTag (s1.linkOf n) t).receiveDesc n Q d)) := by
  change execReceiveDescriptor n Q (some d) err s = _
  unfold execReceiveDescriptor
  rw [hq]
  exact onMainIf_next hup (by simp [htype, hread, hheld]) (Dev.onSlot_some _ htag)

/-- RECEIVE_DESCRIPTOR whose descriptor's read fails (R240, R264). -/
theorem exec_receiveDescriptor_failed {err : Nat} (hup : s.power.up = true) (hq : s.queue? (qkey n Q) = some q) (htype : q.type = 2)
    (hread : s.mayRead n q = true) (hheld : q.held.length < 31)
    (htag : s.slotAsk n (s.descAddr q) s.descBytes (.slot (qkey n Q)) = (some t, s1)) (hfail : s1.canFail n t err = true) :
    exec (.receiveDescriptor n Q none err) s = .next (s.after ((s1.slotFail n t err).slotFrozen (qkey n Q))) := by
  change execReceiveDescriptor n Q none err s = _
  unfold execReceiveDescriptor
  rw [hq]
  exact onMainIf_next hup (by simp [htype, hread, hheld]) ((Dev.onSlot_some _ htag).trans (if_pos hfail))

end Descriptors

/-- ADMIN_INVALID_OPCODE, once the descriptor's read has a tag (R270). -/
theorem exec_adminInvalidOpcode {s : State} {n desc : Nat} (hup : s.power.up = true) (hready : s.adminReady n = true)
    (hop : adminOpcodes.contains (adminOp desc) = false) (htag : (s.slotAsk n (s.adminAddr n) 32 (.slot (qkey n 0))).1.isSome = true) :
    exec (.adminInvalidOpcode n desc) s = .next (s.after ((s.adminTaken n desc).adminDone n 0x01 0)) := by
  change execAdminInvalidOpcode n desc s = _
  exact onMainIf_next hup (by rw [hready, hop]; rfl) (Dev.adminSlot_taken _ htag)

/-- Settles O47: a descriptor's read goes on with its tag, and then succeeds or fails. -/
theorem completesHostQueues : Obligations.CompletesHostQueues := fun s hup =>
  ⟨fun _ _ _ _ _ err d frags hq htype hread hheld hlow htag => exec_sendJob d err frags hup hq htype hread hheld hlow htag,
    fun _ _ _ _ _ _ frags hq htype hread hheld hlow htag hfail => exec_sendJob_failed frags hup hq htype hread hheld hlow htag hfail,
    fun _ _ _ err d _ _ hq htype hread hheld htag => exec_receiveDescriptor d err hup hq htype hread hheld htag,
    fun _ _ _ _ _ _ hq htype hread hheld htag hfail => exec_receiveDescriptor_failed hup hq htype hread hheld htag hfail,
    fun n Q h => (onMainIf_up s _ _ hup h : execCompletionPost n Q s = _),
    fun n Q h => (onMainIf_up s _ _ hup h : execHwIndexWrite n Q s = _),
    fun n hdirty hwrite => (onMainIf_up s _ _ hup (by rw [hdirty, hwrite, Bool.and_self]) : execDirtyMark n s = _),
    fun n hbar hen => (onMainIf_up s _ _ hup (by rw [hbar, hen]; rfl) : execAdminEnable n s = _),
    fun n hbar hen => (onMainIf_up s _ _ hup (by rw [hbar, hen, Bool.and_self]) : execAdminDisable n s = _),
    fun _ _ hready hop htag => exec_adminInvalidOpcode hup hready hop htag⟩

/-! ### Admin-queue commands -/

/-- An admin command that may start, with its effect named. -/
theorem adminRun_next {s : State} {n desc op : Nat} {manager : Bool} {f : Dev → Dev} {d : Dev} (h : adminStarts s n desc op manager)
    (hd : f (s.adminTaken n desc) = d) : adminRun s n desc op manager f = .next (s.after d) :=
  hd ▸ adminRun_starts f h

/-- An input buffer of object records that has been read whole (R273). -/
theorem Dev.withInput_parsed {s : Dev} {n desc : Nat} {input : List Nat} {rs : List ObjRec} (f : List ObjRec → Dev)
    (hrs : parseRecs input.length (input.take (bits desc 191 160)) = some rs) : s.withInput n desc (some input) f = f rs := by
  unfold Dev.withInput
  simp only [hrs]

/-- BUREAU_READ of a function that has a session (R82, R273). -/
theorem exec_bureauRead {s : State} {n desc : Nat} {input : List Nat} {ss : Session} {rs : List ObjRec} (h : adminStarts s n desc 0x10 false)
    (hss : (s.adminTaken n desc).session? n = some ss) (hrs : parseRecs input.length (input.take (bits desc 191 160)) = some rs) :
    exec (.bureauRead n desc (some input)) s = .next (s.after (
      let xs := (s.adminTaken n desc).readRecs n ss false (bits desc 95 64) rs
      (s.adminTaken n desc).bureauDone n desc (recsStatus xs) 0 0 xs xs.length)) := by
  change execBureauRead n desc (some input) s = _
  refine adminRun_next h ?_
  simp only [hss, Dev.withInput_parsed _ hrs]

/-- BUREAU_WRITE of a function that has a session (R82, R273). -/
theorem exec_bureauWrite {s : State} {n desc : Nat} {input : List Nat} {ss : Session} {rs : List ObjRec} (h : adminStarts s n desc 0x11 false)
    (hss : (s.adminTaken n desc).session? n = some ss) (hrs : parseRecs input.length (input.take (bits desc 191 160)) = some rs) :
    exec (.bureauWrite n desc (some input)) s = .next (s.after (
      let r := Dev.writeRecs n false (bits desc 95 64) ((s.adminTaken n desc).touchTxn n) rs
      r.1.bureauDone n desc (recsStatus r.2)
        (match (r.1.session? n).bind (fun ss => ss.txn) with | some t => t.id | none => 0) 0 r.2 r.2.length)) := by
  change execBureauWrite n desc (some input) s = _
  exact adminRun_next h ((if_neg (by simp [hss])).trans (Dev.withInput_parsed _ hrs))

/-- BUREAU_COMMIT of a transaction that is accepted (R82, R273). -/
theorem exec_bureauCommit {s : State} {n desc : Nat} {t : Dev} (h : adminStarts s n desc 0x12 false) (hcommit : bit desc 48 = false)
    (haccepted : (s.adminTaken n desc).commitReq n (adminArg desc) 0 = (none, t)) :
    exec (.bureauCommit n desc) s = .next (s.after (t.adminBegin n (.commit (bits desc 159 96) (bits desc 95 64)))) := by
  change execBureauCommit n desc s = _
  refine adminRun_next h ?_
  simp only [hcommit, haccepted, Bool.false_eq_true, if_false]

/-- BUREAU_COMMIT with the abort bit set (R82, R273). -/
theorem exec_bureauAbort {s : State} {n desc : Nat} (h : adminStarts s n desc 0x12 false) (habort : bit desc 48 = true) :
    exec (.bureauCommit n desc) s = .next (s.after (((s.adminTaken n desc).abortReq n (adminArg desc)).2.bureauDone n desc
      ((s.adminTaken n desc).abortReq n (adminArg desc)).1 (adminArg desc) 0 [] 0)) := by
  change execBureauCommit n desc s = _
  exact adminRun_next h (if_pos habort)

/-- Settles O48: an admin command that may start runs on the device that has taken it. -/
theorem completesAdminCommands : Obligations.CompletesAdminCommands := fun s =>
  ⟨fun hup n habort hstate => (onMainIf_up s _ _ hup (by rw [habort, hstate]; rfl) : execFunctionAbortDone n s = _),
    fun n desc h => (adminRun_starts _ h : execCreateQueue n desc s = _),
    fun n desc h => (adminRun_starts _ h : execDestroyQueue n desc s = _),
    fun n desc h => (adminRun_starts _ h : execQueueReset n desc s = _),
    fun _ _ _ _ _ h hss hrs => exec_bureauRead h hss hrs,
    fun _ _ _ _ _ h hss hrs => exec_bureauWrite h hss hrs,
    fun _ _ _ h hcommit haccepted => exec_bureauCommit h hcommit haccepted,
    fun _ _ h habort => exec_bureauAbort h habort,
    fun n desc h => (adminRun_starts _ h : execFunctionAbort n desc s = _)⟩

end Sys2Proof.Machine
end

section
/-! Tenants and storage: quiesce, migration and the Letterbox, NVMe controllers and commands, and the backends answer their effect. -/
namespace Sys2Proof.Machine

/-! ### Quiesce, migration and the Letterbox -/

/-- QUIESCE_COMPLETE of a VF that is idle, from the tick after the request on (R285). -/
theorem exec_quiesceComplete {s : State} {n x t : Nat} (hup : s.power.up = true) (hquiesce : (s.fn n).quiesce = some (x, t)) (hlater : t < s.tick)
    (hidle : s.vfIdle n = true) : exec (.quiesceComplete n) s = .next (s.after (s.quiesceEnd n 0)) := by
  change execQuiesceComplete n s = _
  exact onMainIf_up s _ _ hup (by simp [hquiesce, hlater, hidle])

/-- QUIESCE_BOUND of a VF that has not become idle in time (R286). -/
theorem exec_quiesceBound {s : State} {n x t : Nat} (hup : s.power.up = true) (hquiesce : (s.fn n).quiesce = some (x, t))
    (hlate : t + 3907 ≤ s.tick) : exec (.quiesceBound n) s = .next (s.after (s.quiesceForce n)) := by
  change execQuiesceBound n s = _
  exact onMainIf_up s _ _ hup (by simp [hquiesce, hlate])

/-- RESTORE_IMAGE_APPLY of an image that has come whole (R293). -/
theorem exec_restoreImageApply {s : State} {n t : Nat} (hup : s.power.up = true) (himage : Tab.get? s.hosts.admin n = some (.image t))
    (hpiece : s.edgeTodo.contains .bureau = true) : exec (.restoreImageApply n) s = .next (s.after ((s.restoreApply n t).restoreDone)) := by
  change execRestoreImageApply n s = _
  unfold execRestoreImageApply
  rw [himage]
  exact onMainIf_up s _ _ hup hpiece

/-- LB_TOKEN_REFILL of a VF at a tick of its interval, once a tick (R282). -/
theorem exec_lbTokenRefill {s : State} {n : Nat} (hup : s.power.up = true) (hvf : isPf n = false) (hpart : fnInPart s.part n = true)
    (htick : s.tick % max 1 (s.obj Obj.LB_INTERVAL n) = 0) (hnew : (s.box n).refilled ≠ s.tick) :
    exec (.lbTokenRefill n) s = .next (s.after (s.setBox n { s.box n with
      tokens := min 8 ((s.box n).tokens + 1), throttled := false, refilled := s.tick,
      changed := (s.box n).changed || (s.box n).throttled })) := by
  change execLbTokenRefill n s = _
  unfold execLbTokenRefill
  exact onMainIf_up s _ _ hup (by simp [hvf, hpart, htick, hnew])

/-- A migration command for a VF of the Manager, in a state that the command takes (R287, R291 to R294). -/
theorem Dev.onVf_good {s : Dev} {n desc : Nat} {good : Nat → Bool} (f : Nat → Dev) (hvf : (s.vfsOf n).contains (adminArg desc) = true)
    (hgood : good (adminArg desc) = true) : s.onVf n desc good f = f (adminArg desc) := by
  unfold Dev.onVf
  dsimp only
  rw [hvf, if_neg (by decide), if_pos hgood]

section Migration

variable {s : State} {n desc : Nat}

/-- RESUME_FUNCTION of a QUIESCED VF (R287). -/
theorem exec_resumeFunction (h : adminStarts s n desc 0x22 true) (hvf : ((s.adminTaken n desc).vfsOf n).contains (adminArg desc) = true)
    (hstate : (s.adminTaken n desc).fstate (adminArg desc) = 4) (hbme : ((s.adminTaken n desc).fn (adminArg desc)).bme = true) :
    exec (.resumeFunction n desc) s = .next (s.after ((s.adminTaken n desc).adminBegin n (.resume (adminArg desc)))) := by
  change execResumeFunction n desc s = _
  exact adminRun_next h ((if_neg (by rw [hvf]; decide)).trans (if_pos ⟨hstate, hbme⟩))

/-- FREEZE_STATE of a QUIESCED VF whose controller is not enabled (R291, R326). -/
theorem exec_freezeState (h : adminStarts s n desc 0x30 true) (hvf : ((s.adminTaken n desc).vfsOf n).contains (adminArg desc) = true)
    (hstate : (s.adminTaken n desc).fstate (adminArg desc) = 4)
    (hoff : ((s.adminTaken n desc).ctrlOfFn (adminArg desc)).any (fun c => ((s.adminTaken n desc).ctrl c).en) = false) :
    exec (.freezeState n desc) s = .next (s.after ((s.adminTaken n desc).adminBegin n (.freeze (adminArg desc)))) := by
  change execFreezeState n desc s = _
  exact adminRun_next h (Dev.onVf_good _ hvf (by rw [hstate, hoff]; rfl))

/-- SAVE_STATE of a SNAPSHOT, by how the read of its line in the image region went (R292, R456). -/
theorem exec_saveState {b : List Nat} (poison : Option (Nat × Nat)) (h : adminStarts s n desc 0x31 true)
    (hvf : ((s.adminTaken n desc).vfsOf n).contains (adminArg desc) = true) (hstate : (s.adminTaken n desc).fstate (adminArg desc) = 7)
    (hroom : 8 ≤ bits desc 191 160) :
    exec (.saveState n desc (some b) poison) s = .next (s.after (
      let t := (s.adminTaken n desc).lineRead true 0xFFFF poison
      if t.1 = true then t.2.saveState n (adminArg desc) desc (ofLE (b.take 8))
      else ((t.2.dropImage (adminArg desc)).setFstate (adminArg desc) 4).adminDone n 0x11 0)) := by
  change execSaveState n desc (some b) poison s = _
  exact adminRun_next h (Dev.onVf_good _ hvf (by rw [hstate, decide_eq_true hroom]; rfl))

/-- A line's read succeeds unless its error is one that ECC does not correct (R456). -/
theorem Dev.lineRead_good (d : Dev) (secure : Bool) (who k a : Nat) : (d.lineRead secure who (some (k, a))).1 = true ↔ k = 1 := by
  unfold Dev.lineRead
  dsimp only
  split
  next hk => simp [hk]
  next hk => simp [hk]

/-- SAVE_STATE whose line was read with an error of kind k (R292, R456). -/
theorem exec_saveState_read {b : List Nat} (k a : Nat) (h : adminStarts s n desc 0x31 true)
    (hvf : ((s.adminTaken n desc).vfsOf n).contains (adminArg desc) = true) (hstate : (s.adminTaken n desc).fstate (adminArg desc) = 7)
    (hroom : 8 ≤ bits desc 191 160) :
    exec (.saveState n desc (some b) (some (k, a))) s = .next (s.after (
      let t := (s.adminTaken n desc).lineRead true 0xFFFF (some (k, a))
      if k = 1 then t.2.saveState n (adminArg desc) desc (ofLE (b.take 8))
      else ((t.2.dropImage (adminArg desc)).setFstate (adminArg desc) 4).adminDone n 0x11 0)) := by
  rw [exec_saveState (some (k, a)) h hvf hstate hroom]
  simp only [Dev.lineRead_good]

/-- RESTORE_STATE of a VF that is DISABLED and has no queues (R293). -/
theorem exec_restoreState {b : List Nat} (h : adminStarts s n desc 0x32 true) (hvf : ((s.adminTaken n desc).vfsOf n).contains (adminArg desc) = true)
    (hstate : (s.adminTaken n desc).fstate (adminArg desc) = 1) (hqueues : ((s.adminTaken n desc).queuesOf (adminArg desc)).isEmpty = true)
    (hroom : 8 ≤ bits desc 191 160) :
    exec (.restoreState n desc (some b)) s =
      .next (s.after ((s.adminTaken n desc).restoreBytes n (adminArg desc) (b.take (bits desc 191 160)))) := by
  change execRestoreState n desc (some b) s = _
  exact adminRun_next h (Dev.onVf_good _ hvf (by rw [hstate, hqueues, decide_eq_true hroom]; rfl))

/-- THAW_STATE of a SNAPSHOT, or of a RESTORED VF with bus mastering (R294). -/
theorem exec_thawState (h : adminStarts s n desc 0x33 true) (hvf : ((s.adminTaken n desc).vfsOf n).contains (adminArg desc) = true)
    (hstate : (s.adminTaken n desc).fstate (adminArg desc) = 7 ∨
      ((s.adminTaken n desc).fstate (adminArg desc) = 8 ∧ ((s.adminTaken n desc).fn (adminArg desc)).bme = true)) :
    exec (.thawState n desc) s = .next (s.after ((s.adminTaken n desc).adminBegin n (.thaw (adminArg desc)))) := by
  change execThawState n desc s = _
  exact adminRun_next h (Dev.onVf_good _ hvf (by simpa using hstate))

end Migration

/-- Settles O49: a VF of the Manager in the state that the command takes, and the Letterbox by the SEND of the word. -/
theorem completesTenancy : Obligations.CompletesTenancy := fun s =>
  ⟨fun hup =>
    ⟨fun _ _ _ hquiesce hlater hidle => exec_quiesceComplete hup hquiesce hlater hidle,
      fun _ _ _ hquiesce hlate => exec_quiesceBound hup hquiesce hlate,
      fun _ _ himage hpiece => exec_restoreImageApply hup himage hpiece,
      fun n w hbar hsend => (onMainIf_up s _ _ hup (by simp [hbar, hsend]) : execLbSend n w s = _),
      fun n w hbar hsend => (onMainIf_up s _ _ hup (by simp [hbar, hsend]) : execLbAck n w s = _),
      fun _ hvf hpart htick hnew => exec_lbTokenRefill hup hvf hpart htick hnew⟩,
    fun n desc h => (adminRun_starts _ h : execQuiesceFunction n desc s = _),
    fun _ _ h hvf hstate hbme => exec_resumeFunction h hvf hstate hbme,
    fun _ _ h hvf hstate hoff => exec_freezeState h hvf hstate hoff,
    fun _ _ _ h hvf hstate hroom => ⟨exec_saveState none h hvf hstate hroom, fun k a => exec_saveState_read k a h hvf hstate hroom⟩,
    fun _ _ _ h hvf hstate hqueues hroom => exec_restoreState h hvf hstate hqueues hroom,
    fun _ _ h hvf hstate => exec_thawState h hvf hstate⟩

/-! ### NVMe controllers -/

/-- NVME_COMMAND_FETCH, once the read of the queue's slot has a tag (R240, R303). -/
theorem exec_nvmeCommandFetch {s : State} {c q t : Nat} {s1 : Dev} (sqe : Nat) (hup : s.power.up = true) (hfetch : s.mayFetch c q = true)
    (htag : s.slotAsk (s.ctrlFn c) (s.nvmAddr c q) 64 (.nvmSlot c q) = (some t, s1)) :
    exec (.nvmeCommandFetch c q sqe) s = .next (s.after ((s1.returnTag (s1.linkOf (s1.ctrlFn c)) t).nvmFetch c q sqe)) := by
  change execNvmeCommandFetch c q sqe s = _
  exact onMainIf_next hup hfetch (Dev.onSlot_some _ htag)

/-- NVME_INVALID_OPCODE of a command that waits in a queue that does not take its opcode (R304). -/
theorem exec_nvmeInvalidOpcode {s : State} {c q cid : Nat} {m : NvmCmd} (hup : s.power.up = true) (hm : s.cmd? c q cid = some m)
    (hstarted : m.started = false) (hfinal : m.final = false) (hop : (s.opcodes c (q == 0)).contains m.opcode = false) :
    exec (.nvmeInvalidOpcode c q cid) s = .next (s.after ((s.cmdDone c q m.seq 0x1 0).pump)) := by
  change execNvmeInvalidOpcode c q cid s = _
  unfold execNvmeInvalidOpcode
  rw [hm]
  dsimp only
  rw [if_pos (by rw [hstarted, hfinal, hop]; rfl)]
  exact onMain_up s _ hup

/-- INTERRUPT_COALESCING_TIMER of a completion queue whose oldest entry has waited for that long (R304). -/
theorem exec_interruptCoalescingTimer {s : State} {c q : Nat} {x : Cq} (hup : s.power.up = true) (hx : Tab.get? (s.ctrl c).cqs q = some x)
    (hpend : 0 < x.pend) (hlate : x.pendTick + aggTicks ((s.ctrl c).coalesce q).2 ≤ s.tick) :
    exec (.interruptCoalescingTimer c q) s = .next (s.after (s.cqInterrupt c q)) := by
  change execInterruptCoalescingTimer c q s = _
  exact onMainIf_up s _ _ hup (by simp [hx, hpend, hlate])

/-- Settles O50: the guards are the controller's state and its queues. -/
theorem completesNvmeController : Obligations.CompletesNvmeController := fun s hup =>
  ⟨fun c q v h => (onMainIf_up s _ _ hup h : execNvmeSqDoorbell c q v s = _),
    fun c q v h => (onMainIf_up s _ _ hup h : execNvmeCqDoorbell c q v s = _),
    fun _ _ sqe _ _ hfetch htag => exec_nvmeCommandFetch sqe hup hfetch htag,
    fun _ _ _ _ hm hstarted hfinal hop => exec_nvmeInvalidOpcode hup hm hstarted hfinal hop,
    fun c h => (onMainIf_up s _ _ hup h : execControllerEnable c s = _),
    fun c hen hending => (onMainIf_up s _ _ hup (by simp [hen, hending]) : execControllerDisable c s = _),
    fun c hen hending hshst => (onMainIf_up s _ _ hup (by rw [hen, hending, hshst]; rfl) : execControllerShutdown c s = _),
    fun c h => (onMainIf_up s _ _ hup h : execControllerDisableDone c s = _),
    fun _ _ _ hx hpend hlate => exec_interruptCoalescingTimer hup hx hpend hlate⟩

/-! ### NVMe admin commands -/

section AdminCommands

variable {s : State} {c cid op : Nat} {m : NvmCmd}

/-- An admin command that waits starts, and has its effect (R305). -/
theorem adminCmd_up (f : Dev → NvmCmd → Dev) (hup : s.power.up = true) (hm : s.adm? c cid op = some m) :
    adminCmd s c cid op f = .next (s.after ((f (s.updCmd c 0 m.seq (fun y => { y with started := true })) m).pump)) := by
  unfold adminCmd
  rw [hm]
  exact onMain_up s _ hup

/-- A command whose tables have been read goes on with the segments that they give (R240). -/
theorem Dev.withData_read {d d1 : Dev} {q : Nat} {x : HostData} {segs : List (Nat × Nat)} (f : List (Nat × Nat) → Dev → Dev)
    (hsegs : x.segs = .ok segs) (hread : d.readsAsk (d.ctrlFn c) x.tables (.nvmList c q m.seq) = (true, d1)) :
    d.withData c q m x true f = f segs (d1.readsGot (d.ctrlFn c) (.nvmList c q m.seq)) := by
  unfold Dev.withData Dev.onReads
  rw [hread, hsegs]
  rfl

/-- An admin command with data starts once its tables have been read (R240, R305). -/
theorem adminData_up {x : Dev → NvmCmd → HostData} {segs : List (Nat × Nat)} {s1 : Dev} (f : Dev → NvmCmd → List (Nat × Nat) → Dev)
    (hup : s.power.up = true) (hm : s.adm? c cid op = some m) (hsegs : (x s.toDev m).segs = .ok segs)
    (hread : s.readsAsk (s.ctrlFn c) (x s.toDev m).tables (.nvmList c 0 m.seq) = (true, s1)) :
    adminData s c cid op x true f = .next (s.after
      ((f ((s1.readsGot (s.ctrlFn c) (.nvmList c 0 m.seq)).updCmd c 0 m.seq (fun y => { y with started := true })) m segs).pump)) := by
  unfold adminData
  rw [hm]
  exact onMain_next hup (congrArg Dev.pump (Dev.withData_read _ hsegs hread))

end AdminCommands

/-- Settles O51: the commands without data start at once, the others with their tables' segments. -/
theorem completesNvmeAdmin : Obligations.CompletesNvmeAdmin := fun s hup =>
  ⟨fun c cid _ hm => (adminCmd_up _ hup hm : execCreateIoSq c cid s = _),
    fun c cid _ hm => (adminCmd_up _ hup hm : execDeleteIoSq c cid s = _),
    fun c cid _ hm => (adminCmd_up _ hup hm : execCreateIoCq c cid s = _),
    fun c cid _ hm => (adminCmd_up _ hup hm : execDeleteIoCq c cid s = _),
    fun c cid list _ _ _ hm hsegs hread => (adminData_up _ hup hm hsegs hread : execGetLogPage c cid (some list) s = _),
    fun c cid list _ _ _ hm hsegs hread => (adminData_up _ hup hm hsegs hread : execIdentify c cid (some list) s = _),
    fun c cid _ hm => (adminCmd_up _ hup hm : execAbortCmd c cid s = _),
    fun c cid _ hm => (adminCmd_up _ hup hm : execSetFeatures c cid s = _),
    fun c cid _ hm => (adminCmd_up _ hup hm : execGetFeatures c cid s = _),
    fun c cid _ hm => (adminCmd_up _ hup hm : execAsyncEventRequest c cid s = _),
    fun c cid data _ _ _ hm hsegs hread => (adminData_up _ hup hm hsegs hread : execNamespaceManagement c cid data s = _),
    fun c cid ids _ _ _ hm hsegs hread => (adminData_up _ hup hm hsegs hread : execNamespaceAttachment c cid ids s = _),
    fun c cid _ hm => (adminCmd_up _ hup hm : execThawSq c cid s = _),
    fun c q h => (onMainIf_up s _ _ hup h : execThawSqComplete c q s = _)⟩

/-! ### NVMe I/O commands -/

/-- An I/O command that waits has its effect (R305). -/
theorem ioCmd_up {s : State} {c q cid op : Nat} {m : NvmCmd} (f : Dev → NvmCmd → Dev) (hup : s.power.up = true) (hm : s.io? c q cid op = some m) :
    ioCmd s c q cid op f = .next (s.after ((f s.toDev m).pump)) := by
  unfold ioCmd
  rw [hm]
  exact onMain_up s _ hup

/-- HELD_COMMAND_TIMEOUT of a command held for too long (R311). -/
theorem exec_heldCommandTimeout {s : State} {c q cid : Nat} {m : NvmCmd} (hup : s.power.up = true) (hheld : s.heldOut c q cid = true)
    (hm : s.cmd? c q cid = some m) : exec (.heldCommandTimeout c q cid) s = .next (s.after ((s.cmdDone c q m.seq 0x300 0).pump)) := by
  change execHeldCommandTimeout c q cid s = _
  refine onMainIf_next hup hheld ?_
  rw [hm]

/-- SQ_FREEZE of a queue whose freeze is due (R321). -/
theorem exec_sqFreeze {s : State} {c q t : Nat} {x : Sq} (hup : s.power.up = true) (hx : s.sq? c q = some x) (hdue : x.freezeDue = some t)
    (hlater : t < s.tick) (hst : x.st = 0) : exec (.sqFreeze c q) s = .next (s.after (s.sqFreeze c q)) := by
  change execSqFreeze c q s = _
  exact onMainIf_up s _ _ hup (by simp [hx, hdue, hlater, hst])

/-- Settles O52: the command that waits in the queue is each command's guard. -/
theorem completesNvmeIo : Obligations.CompletesNvmeIo := fun s hup =>
  ⟨fun c q cid _ hm => (ioCmd_up _ hup hm : execFlushCmd c q cid s = _),
    fun c q cid list _ hm => (ioCmd_up _ hup hm : execNvmWrite c q cid list s = _),
    fun c q cid list _ hm => (ioCmd_up _ hup hm : execNvmRead c q cid list s = _),
    fun c q cid _ hm => (ioCmd_up _ hup hm : execWriteZeroes c q cid s = _),
    fun c q cid x _ hm => (ioCmd_up _ hup hm : execDatasetManagement c q cid x s = _),
    fun _ _ _ _ hheld hm => exec_heldCommandTimeout hup hheld hm,
    fun _ _ _ _ hx hdue hlater hst => exec_sqFreeze hup hx hdue hlater hst⟩

/-! ### Backends -/

/-- BACKEND_COMPLETION of a piece that its backend serves (R312). -/
theorem exec_backendCompletion_piece {s : State} {b c q m j : Nat} {sec : Bool} {y : NvmCmd} {p : Piece} (status : Nat) (data : List Nat)
    (hup : s.power.up = true) (hlive : s.live b = true) (hy : s.cmdBy? c q m = some y) (hp : y.pieces[j]? = some p)
    (hside : (if sec then p.secBk else p.priBk) = b) :
    exec (.backendCompletion b (.piece c q m j sec) status data) s = .next (s.after (s.pieceEnd c q m j sec status data)) := by
  change execBackendCompletion b (.piece c q m j sec) status data s = _
  refine onMainIf_next hup hlive ?_
  simp only [hy, Option.bind_some, hp]
  exact if_pos hside

section KeepAlive

variable {s : State} {b : Nat}

/-- KEEP_ALIVE answered in time (R310). -/
theorem exec_keepAlive_answered (hup : s.power.up = true) (hlive : s.live b = true) (hkind : 2 ≤ s.obj Obj.BK_KIND b) (hrole : s.obj Obj.ROLE ≠ 4)
    (hdue : (s.back b).kaSent + s.obj Obj.KATO / 2 ≤ s.tick) (hkato : 0 < s.obj Obj.KATO) :
    exec (.keepAlive b true) s = .next (s.after ((s.setBack b { s.back b with kaSent := s.tick, kaSeen := s.tick }).emit (.keepAlive b))) := by
  change execKeepAlive b true s = _
  exact onMainIf_next hup (by simp [hlive, hkind, hrole, hdue]) (if_neg (by simp; omega))

/-- KEEP_ALIVE not answered for KATO (R310). -/
theorem exec_keepAlive_lost (hup : s.power.up = true) (hlive : s.live b = true) (hkind : 2 ≤ s.obj Obj.BK_KIND b) (hrole : s.obj Obj.ROLE ≠ 4)
    (hdue : (s.back b).kaSent + s.obj Obj.KATO / 2 ≤ s.tick) (hlost : (s.back b).kaSeen + s.obj Obj.KATO ≤ s.tick) :
    exec (.keepAlive b false) s = .next (s.after (s.pathLost b false)) := by
  change execKeepAlive b false s = _
  exact onMainIf_next hup (by simp [hlive, hkind, hrole, hdue]) (if_pos hlost)

/-- BACKEND_LIVE of a backend that connects, a drive behind its root port if it is one (R310). -/
theorem exec_backendLive (dataBytes metaBytes blocks : Nat) (cache : Bool) (atomicBytes boundary : Nat) (hup : s.power.up = true)
    (hkind : s.obj Obj.BK_KIND b ≠ 0) (hstate : (s.obj Obj.BK_STATE b == 1 || s.obj Obj.BK_STATE b == 3) = true)
    (hdrive : s.obj Obj.BK_KIND b = 1 → Tab.get? s.storage.drives (s.obj Obj.BK_ROOT_PORT b) = some true) :
    exec (.backendLive b dataBytes metaBytes blocks cache atomicBytes boundary) s =
      .next (s.after (s.backLive b dataBytes metaBytes blocks cache atomicBytes boundary)) := by
  have hthere : (s.obj Obj.BK_KIND b != 1 || Tab.get? s.storage.drives (s.obj Obj.BK_ROOT_PORT b) == some true) = true := by
    by_cases hk : s.obj Obj.BK_KIND b = 1
    · rw [hdrive hk]
      simp
    · simp [hk]
  change execBackendLive b dataBytes metaBytes blocks cache atomicBytes boundary s = _
  exact onMainIf_up s _ _ hup (by rw [bne_iff_ne.mpr hkind, hstate, hthere]; rfl)

end KeepAlive

/-- RESYNC_DONE of an extent that is being copied (R313). -/
theorem exec_resyncDone {s : State} {x : Nat} {good : Bool} (hup : s.power.up = true) (hsync : s.sync x = 2)
    (hwrote : good = true → s.storage.own.any (fun o => o.op == .copy x && o.writing) = true) :
    exec (.resyncDone x good) s = .next (s.after (s.resyncDone x good)) := by
  change execResyncDone x good s = _
  refine onMainIf_up s _ _ hup ?_
  cases good with
  | false => simp [hsync]
  | true => rw [hsync, hwrote rfl]; rfl

/-- INTENT_CLEAR of a slot whose intent is old (R314). -/
theorem exec_intentClear {s : State} {x i : Nat} (hup : s.power.up = true) (hns : s.nsOfSlot x = some i) (hold : s.intentOld i x = true) :
    exec (.intentClear x) s = .next (s.after (
      s.ownSend { op := .intent i (intentBlock (x - s.obj Obj.EXTENT_BASE i)), backend := s.obj Obj.INTENT_BACKEND i, clears := [x] })) := by
  change execIntentClear x s = _
  unfold execIntentClear
  rw [hns]
  exact onMainIf_up s _ _ hup hold

/-- Settles O53: a live backend, or the extent's or namespace's state, is each command's guard. -/
theorem completesBackends : Obligations.CompletesBackends := fun s hup =>
  ⟨fun _ _ _ _ _ status _ data _ _ hlive hy hp hside => exec_backendCompletion_piece status data hup hlive hy hp hside,
    fun b c q m status data hlive => (onMainIf_up s _ _ hup hlive : execBackendCompletion b (.flush c q m) status data s = _),
    fun b x status data hlive => (onMainIf_up s _ _ hup hlive : execBackendCompletion b (.copy x) status data s = _),
    fun b i k status data hlive => (onMainIf_up s _ _ hup hlive : execBackendCompletion b (.intent i k) status data s = _),
    fun b h => (onMainIf_up s _ _ hup h : execBackendPathLoss b s = _),
    fun _ dataBytes metaBytes blocks cache atomicBytes boundary hkind hstate hdrive =>
      exec_backendLive dataBytes metaBytes blocks cache atomicBytes boundary hup hkind hstate hdrive,
    fun _ hlive hkind hrole hdue hkato => exec_keepAlive_answered hup hlive hkind hrole hdue hkato,
    fun _ hlive hkind hrole hdue hlost => exec_keepAlive_lost hup hlive hkind hrole hdue hlost,
    fun b hlive hlate => (onMainIf_up s _ _ hup (by rw [hlive, hlate, Bool.and_self]) : execBackendCmdTimeout b s = _),
    fun h => (onMainIf_up s _ _ hup h : execPieceSettle s = _),
    fun x h => (onMainIf_up s _ _ hup h : execResyncStart x s = _),
    fun _ _ hsync hwrote => exec_resyncDone hup hsync hwrote,
    fun _ _ hns hold => exec_intentClear hup hns hold,
    fun i hdeleting hfree => (onMainIf_up s _ _ hup (by rw [hdeleting, hfree, Bool.and_self]) : execNsDeleteFree i s = _)⟩

end Sys2Proof.Machine
end

section
/-! The cipher slices, the postmark unit, the threads, boot and power, the twin and the sideband signals: the commands answer their effect. -/
namespace Sys2Proof.Machine

/-! ### The cipher slices -/

/-- RNG_WAIT_TIMEOUT of a job that has waited too long for randomness (R335). -/
theorem exec_rngWaitTimeout {s : State} {d i : Nat} {j : SliceJob} (hup : s.power.up = true) (hj : (s.sliceJobs d)[i]? = some j)
    (hstarved : j.starved s.tick = true) : exec (.rngWaitTimeout d i) s = .next (s.after (s.rngTimeout d i j)) := by
  change execRngWaitTimeout d i s = _
  unfold execRngWaitTimeout
  rw [hj]
  exact onMainIf_up s _ _ hup hstarved

/-- Settles O54: the guards are the drawer's, the slice's job and the state of the cabinet's random source. -/
theorem completesCipher : Obligations.CompletesCipher := fun s hup =>
  ⟨fun h rec fin hthread hserves => (onMainIf_up s _ _ hup (by simp [hthread, hserves]) : execRunCipher h rec fin s = _),
    fun h rec hthread hserves => (onMainIf_up s _ _ hup (by simp [hthread, hserves]) : execRelease h rec s = _),
    fun d i fin hjob hgo => (onMainIf_up s _ _ hup (by rw [hjob, hgo, Bool.and_self]) : execCipherParcelJob d i fin s = _),
    fun d hpiece hserves => (onMainIf_up s _ _ hup (by rw [hpiece, hserves, Bool.and_self]) : execCipherSuspend d s = _),
    fun d i poison j hserves hj hmiss => (onMainIf_up s _ _ hup (by simp [hserves, hj, hmiss]) : execKeyCacheMissReturn d i poison s = _),
    fun _ _ _ hj hstarved => exec_rngWaitTimeout hup hj hstarved,
    fun d hserves hgood => (onMainIf_up s _ _ hup (by simp [hserves, hgood]) : execDrbgReseed d s = _),
    fun c hc hgood => (onMainIf_up s _ _ hup (by simp [hc, hgood]) : execRngFault c s = _),
    fun c hc hfault => (onMainIf_up s _ _ hup (by simp [hc, hfault]) : execRngRecover c s = _),
    fun d sensor value hserves hsensor => (onMainIf_up s _ _ hup (by simp [hserves, hsensor]) : execAlarmTrip d sensor value s = _),
    fun d pass hserves hstate => (onMainIf_up s _ _ hup (by simp [hserves, hstate]) : execKatDone d pass s = _)⟩

/-! ### The postmark unit -/

/-- A correction by a thread in service (R359). -/
theorem corrCmd_up {s : State} {h : Nat} (op rec : Nat) (hup : s.power.up = true) (hthread : h < s.part.threads)
    (hserves : s.inService (h / 32) = true) : corrCmd h op rec s = .next (s.after (s.correction h op rec)) :=
  onMainIf_up s _ _ hup (by simp [hthread, hserves])

/-- PPS_OUT_PULSE of a second that is due (R374). -/
theorem exec_ppsOutPulse {s : State} {k : Int} (agree : Bool) (hup : s.power.up = true) (hdue : s.ppsDue = some k)
    (hopen : bit (s.obj Obj.PPS_STATUS) 2 = false) : exec (.ppsOutPulse agree) s = .next (s.after (s.ppsPulse agree k)) := by
  change execPpsOutPulse agree s = _
  unfold execPpsOutPulse
  rw [hdue]
  exact onMainIf_up s _ _ hup (by rw [hopen]; rfl)

/-- Settles O55: a thread in service corrects, and the pins' events are guarded by the status and the tick. -/
theorem completesPostmark : Obligations.CompletesPostmark := fun s hup =>
  ⟨fun h rec hthread hserves => (corrCmd_up 1 rec hup hthread hserves : execSetTime h rec s = _),
    fun h rec hthread hserves => (corrCmd_up 2 rec hup hthread hserves : execAdjFreq h rec s = _),
    fun h rec hthread hserves => (corrCmd_up 3 rec hup hthread hserves : execAdjPhase h rec s = _),
    fun agree _ hdue hopen => exec_ppsOutPulse agree hup hdue hopen,
    fun cap hcap => (onMainIf_up s _ _ hup (beq_iff_eq.mpr hcap) : execPpsInEdge cap s = _),
    fun hin hlate => (onMainIf_up s _ _ hup (by simp [hin, hlate]) : execPpsInLost s = _),
    fun edges htick hnew => (onMainIf_up s _ _ hup (by rw [htick, bne_iff_ne.mpr hnew]; rfl) : execRef10mWindow edges s = _),
    fun hstate hsilent => (onMainIf_up s _ _ hup (by simp [hstate, hsilent]) : execRef10mLost s = _)⟩

/-! ### The threads -/

/-- Settles O56: a thread that issues, waits or is halted is each command's guard. -/
theorem completesThreads : Obligations.CompletesThreads := fun s hup =>
  ⟨fun h fetchErr err hissues => (onMainIf_up s _ _ hup hissues : execIsaInstruction h fetchErr err s = _),
    fun h hissues => (onMainIf_up s _ _ hup hissues : execWaitev h s = _),
    fun h hissues => (onMainIf_up s _ _ hup hissues : execSigev h s = _),
    fun h target hsig => (onMainIf_up s _ _ hup hsig : execSigevArrive h target s = _),
    fun h hissues => (onMainIf_up s _ _ hup hissues : execChbind h s = _),
    fun h hissues => (onMainIf_up s _ _ hup hissues : execChput h s = _),
    fun h hissues => (onMainIf_up s _ _ hup hissues : execChend h s = _),
    fun h hissues => (onMainIf_up s _ _ hup hissues : execChget h s = _),
    fun h hissues => (onMainIf_up s _ _ hup hissues : execChtok h s = _),
    fun E => (onMain_up s _ hup : execChannelTokenAccept E s = _),
    fun h hlate => (onMainIf_up s _ _ hup hlate : execChannelTimeout h s = _),
    fun h hruns hwait hint => (onMainIf_up s _ _ hup (by rw [hruns, hwait, hint]; rfl) : execInterruptTake h s = _),
    fun n hpiece hstalled => (onMainIf_up s _ _ hup (by rw [hpiece, hstalled, Bool.and_self]) : execCoreStall n s = _),
    fun h hdebug hruns => (onMainIf_up s _ _ hup (by rw [hdebug, hruns, Bool.and_self]) : execDebugHalt h s = _),
    fun h hdebug => (onMainIf_up s _ _ hup hdebug : execDebugResume h s = _),
    fun h E hdebug hend => (onMainIf_up s _ _ hup (by simp [hdebug, hend]) : execNchpoison h E s = _)⟩

/-! ### Boot and image installation -/

/-- Settles O57: READINESS, MEM_STATE and IMG_STATE, with the boot's progress, are the guards. -/
theorem completesBoot : Obligations.CompletesBoot := fun s =>
  ⟨fun hup =>
    ⟨fun puf hboot => (onMainIf_up s _ _ hup hboot : execSramWipeDone puf s = _),
      fun hboot hearly => (onMainIf_up s _ _ hup (by rw [hboot, hearly]; rfl) : execEarlySetApply s = _),
      fun density vddq good ch hmem hdensity hvddq =>
        (onMainIf_up s _ _ hup (by rw [hmem, hdensity, decide_eq_true hvddq]; rfl) : execMemTrainingDone density vddq good ch s = _),
      fun hmem => (onMainIf_up s _ _ hup (beq_iff_eq.mpr hmem) : execMemWipeDone s = _),
      fun hboot hearly hbooted => (onMainIf_up s _ _ hup (by rw [hboot, hearly, hbooted]; rfl) : execImageCheckDone s = _),
      fun failed hboot hbooted hmem hreleased =>
        (onMainIf_up s _ _ hup (by rw [hboot, hbooted, hmem, hreleased]; rfl) : execCoreRelease failed s = _),
      fun hboot hreleased => (onMainIf_up s _ _ hup (by rw [hboot, hreleased, Bool.and_self]) : execConfigLoading s = _),
      fun hboot => (onMainIf_up s _ _ hup hboot : execFullLoadDone s = _),
      fun _ hreleased hlate hready => exec_bootWatchdog hup hreleased hlate hready,
      fun himg => (onMainIf_up s _ _ hup (beq_iff_eq.mpr himg) : execImgEraseDone s = _),
      fun himg => (onMainIf_up s _ _ hup (beq_iff_eq.mpr himg) : execImgProgramDone s = _),
      fun himg => (onMainIf_up s _ _ hup (beq_iff_eq.mpr himg) : execImgCheckDone s = _)⟩,
    fun hvaux haccepted => (always_next (if_pos (by rw [hvaux, haccepted, Bool.and_self])) : execLcTransition s = _)⟩

/-! ### Power, resets and temperature -/

/-- PATROL_SCRUB of a line in a trained memory, by what it found (R449, R450). -/
theorem exec_patrolScrub {s : State} {addr found : Nat} {d : Dev} (hup : s.power.up = true) (hmem : s.obj Obj.MEM_STATE = 3)
    (hregion : (s.regionOf addr).isSome = true)
    (hd : (if found = 0 then s.toDev else if found = 1 then s.memCorrected addr 0xFFFF else s.memLost addr 0xFFFF) = d) :
    exec (.patrolScrub addr found) s = .next (s.after d) := by
  change execPatrolScrub addr found s = _
  exact onMainIf_next hup (by simp [hmem, hregion]) hd

/-- Settles O58: the supplies and resets need no main domain, and the sensors and memory need it. -/
theorem completesPower : Obligations.CompletesPower := fun s =>
  ⟨fun hup =>
    ⟨fun target ack hready hlate hrail => (onMainIf_up s _ _ hup (by simp [hready, hlate, hrail]) : execAvsUpdate target ack s = _),
      fun temps power => (onMain_up s _ hup : execThrottleUpdate temps power s = _),
      fun c t0 t1 hc hmem => (onMainIf_up s _ _ hup (by simp [hc, hmem]) : execMemTempRead c t0 t1 s = _),
      fun _ hmem hregion => exec_patrolScrub hup hmem hregion (if_pos rfl),
      fun _ hmem hregion => exec_patrolScrub hup hmem hregion ((if_neg (by decide)).trans (if_pos rfl)),
      fun _ _ hmem hregion hfound => exec_patrolScrub hup hmem hregion ((if_neg (by omega)).trans (if_neg (by omega)))⟩,
    fun straps high hvaux => (always_next (if_neg (by rw [hvaux]; decide)) : execVauxGood straps high s = _),
    rfl,
    fun hvaux hmain => (always_next (if_pos (by rw [hvaux, hmain]; rfl)) : execMainDomainGood s = _),
    fun hmain => (always_next (if_pos hmain) : execMainRailLoss s = _),
    fun hvaux hmain => (always_next (if_pos (by dsimp only; rw [hvaux, hmain, Bool.and_self])) : execResetNAssert s = _),
    rfl,
    fun hmain hdclk => (always_next (if_pos (by rw [hmain, hdclk]; rfl)) : execDclkLock s = _),
    fun hmain htrip => (always_next (if_pos (by rw [hmain, htrip]; rfl)) : execThermalTrip s = _)⟩

/-! ### The twin -/

/-- A command of a device with a twin, with its effect on this state named. -/
theorem twinIf_next {s : State} {c : Bool} {f : Dev → Dev} {d : Dev} (hup : s.power.up = true) (htwin : s.flag Obj.TWIN_ENABLE = true)
    (hc : c = true) (hd : f s.toDev = d) : twinIf s c f = .next (s.after d) :=
  hd ▸ twinIf_up s c f hup htwin hc

section Twin

variable {s : State}

/-- TWIN_IDENTITY_RECORD on a link that is up (R428), with its effect named. -/
theorem exec_twinIdentityRecord {serial part pair role seq digest : Nat} {d : Dev} (hup : s.power.up = true)
    (htwin : s.flag Obj.TWIN_ENABLE = true) (hdown : s.twin.downSince.isNone = true)
    (hstate : s.obj Obj.TWIN_LINK_STATE = 1 ∨ s.obj Obj.TWIN_LINK_STATE = 2)
    (hd : (if serial ≠ s.obj Obj.PEER_SERIAL ∨ part ≠ s.obj Obj.PART_CODE ∨ pair ≠ s.obj Obj.PAIR_ID then
        ((s.releaseSync.setObj Obj.TWIN_LINK_STATE 0 3).bump Obj.WRONG_PEER).twinLog 4 (s.obj Obj.ROLE)
      else s.identified role seq (digest == s.twinDigest)) = d) :
    exec (.twinIdentityRecord serial part pair role seq digest) s = .next (s.after d) := by
  change execTwinIdentityRecord serial part pair role seq digest s = _
  refine twinIf_next hup htwin ?_ hd
  obtain h1 | h2 := hstate
  · rw [hdown, h1]
    rfl
  · rw [hdown, h2]
    rfl

/-- MIRROR_MESSAGE at a device that takes its twin's state (R430). -/
theorem exec_mirrorMessage (m : MirrorMsg) (hup : s.power.up = true) (htwin : s.flag Obj.TWIN_ENABLE = true)
    (hrole : s.obj Obj.ROLE = 2 ∨ s.obj Obj.ROLE = 3) (hlink : s.obj Obj.TWIN_LINK_STATE = 2) :
    exec (.mirrorMessage m) s = .next (s.after (if mirrorAcked m then (s.applyMirror m).emit .mirrorAck else s.applyMirror m)) := by
  change execMirrorMessage m s = _
  refine twinIf_up s _ _ hup htwin ?_
  obtain h2 | h3 := hrole
  · rw [h2, hlink]
    rfl
  · rw [h3, hlink]
    rfl

/-- MIRROR_ACK of the oldest message that waits for one (R427). -/
theorem exec_mirrorAck {n : Nat} {op : SyncOp} {rest : List (Nat × SyncOp)} (hup : s.power.up = true) (htwin : s.flag Obj.TWIN_ENABLE = true)
    (hsent : s.twin.sent = (n, op) :: rest) :
    exec .mirrorAck s = .next (s.after (Dev.syncDone { s.toDev with twin := { s.twin with sent := rest } } op)) := by
  change execMirrorAck s = _
  refine twinIf_next hup htwin ?_ ?_
  · rw [hsent]
    rfl
  · simp only [hsent]

/-- TAKEOVER_START of a take-over that is due (R439). -/
theorem exec_takeoverStart {e seq term : Nat} (hup : s.power.up = true) (htwin : s.flag Obj.TWIN_ENABLE = true)
    (hpiece : s.edgeTodo.contains .lease = true) (htake : s.twin.takeover = some (e, seq, term, false)) (hrole : s.obj Obj.ROLE = 2)
    (hdue : e ≤ s.tick) : exec .takeoverStart s = .next (s.after (s.takeoverStart e seq term)) := by
  have hbegin : s.takeoverBegin = s.takeoverStart e seq term := by
    unfold Dev.takeoverBegin
    rw [htake]
    exact if_pos ⟨hrole, hdue⟩
  change execTakeoverStart s = _
  exact twinIf_next hup htwin hpiece hbegin

/-- TAKEOVER_ACTIVATE of a take-over whose guard time has passed (R439). -/
theorem exec_takeoverActivate {e seq term : Nat} (hup : s.power.up = true) (htwin : s.flag Obj.TWIN_ENABLE = true)
    (hpiece : s.edgeTodo.contains .lease = true) (htake : s.twin.takeover = some (e, seq, term, true)) (hrole : s.obj Obj.ROLE = 2)
    (hdue : e + s.obj Obj.FENCE_GUARD ≤ s.tick) : exec .takeoverActivate s = .next (s.after (s.takeoverActivate e)) := by
  have hend : s.takeoverEnd = s.takeoverActivate e := by
    unfold Dev.takeoverEnd
    rw [htake]
    exact if_pos ⟨hrole, hdue⟩
  change execTakeoverActivate s = _
  exact twinIf_next hup htwin hpiece hend

/-- IDENTITY_ANNOUNCE of an announcement that is due (R439). -/
theorem exec_identityAnnounce {t k : Nat} (hup : s.power.up = true) (htwin : s.flag Obj.TWIN_ENABLE = true)
    (hannounce : s.twin.announce = some (t, k)) (hrole : s.obj Obj.ROLE = 1) (hdue : t + 2048 * (3 - k) ≤ s.tick) :
    exec .identityAnnounce s =
      .next (s.after (Dev.announceAll { s.toDev with twin := { s.twin with announce := if k ≤ 1 then none else some (t, k - 1) } })) := by
  change execIdentityAnnounce s = _
  unfold execIdentityAnnounce
  rw [hannounce]
  exact twinIf_up s _ _ hup htwin (by simp [hrole, hdue])

end Twin

section Lease

variable {u : Dev}

/-- A lease's answer that is awaited, of this pair (R436), is taken in or dropped by the role. -/
theorem Dev.leaseGrant_awaited {t : Nat} (seq term : Nat) (htwin : u.flag Obj.TWIN_ENABLE = true) (hready : u.obj Obj.READINESS = 3)
    (hawaited : u.twin.renews.contains t = true) : u.leaseGrant t seq term (u.obj Obj.PAIR_ID) =
      if u.obj Obj.ROLE = 0 then Dev.goActive { u with twin := { u.twin with renews := u.twin.renews.filter (fun x => decide (t < x)) } } t seq term
      else if u.obj Obj.ROLE = 1 ∧ u.twin.released = false ∧ seq = u.obj Obj.LEASE_SEQ ∧ u.tick < u.obj Obj.LEASE_DEADLINE then
        (Dev.setObj { u with twin := { u.twin with renews := u.twin.renews.filter (fun x => decide (t < x)) } } Obj.LEASE_DEADLINE 0
          (u.deadline t term)).bump Obj.RENEWALS
      else u := by
  unfold Dev.leaseGrant
  rw [htwin, hready, hawaited]
  exact if_neg (by simp)

/-- A TAKEOVER grant that is not refused is answered with GRANT, and starts the take-over or makes the device active (R436, R439). -/
theorem Dev.takeoverGrant_good {pair seq : Nat} (key rs term : Nat) (hready : u.obj Obj.READINESS = 3) (hgood : u.grantBad pair seq = false) :
    u.takeoverGrant key rs pair seq term =
      let t : Dev := Dev.emit { u with twin := { u.twin with seqSeen := max u.twin.seqSeen seq } } (.lease (u.leaseBody 2 u.tick seq false false))
      if u.obj Obj.ROLE = 2 then { t with twin := { t.twin with takeover := some (u.tick + 1, seq, term, false) } }
      else t.goActive u.tick seq term := by
  unfold Dev.takeoverGrant
  rw [if_neg (not_not_intro hready), hgood]
  rfl

/-- A TAKEOVER grant that is refused is counted, and answered with REFUSE (R436). -/
theorem Dev.takeoverGrant_bad {pair seq : Nat} (key rs term : Nat) (hready : u.obj Obj.READINESS = 3) (hbad : u.grantBad pair seq = true) :
    u.takeoverGrant key rs pair seq term = (u.bump Obj.LEASE_REFUSED).emit (.lease (u.leaseBody 5 u.tick seq false false)) := by
  unfold Dev.takeoverGrant
  rw [if_neg (not_not_intro hready), if_pos hbad]

end Lease

/-- Settles O59: TWIN_ENABLE with the role, the link and the lease's times are the guards, and a lease's answers are taken by the role. -/
theorem completesTwin : Obligations.CompletesTwin := fun s hup =>
  ⟨fun htwin hready hdown href => (twinIf_up s _ _ hup htwin (by simp [hready, hdown, href]) : execTwinLinkUp s = _),
    fun _ _ _ _ _ _ htwin hdown hstate hother => exec_twinIdentityRecord hup htwin hdown hstate (if_pos hother),
    fun _ _ _ htwin hdown hstate => exec_twinIdentityRecord hup htwin hdown hstate (if_neg (by simp)),
    fun m htwin hrole hlink => exec_mirrorMessage m hup htwin hrole hlink,
    fun _ _ _ htwin hsent => exec_mirrorAck hup htwin hsent,
    fun down hpiece hloss => (onMainIf_up s _ _ hup (by rw [hpiece, hloss, Bool.and_self]) : execTwinLinkLoss down s = _),
    fun htwin hmirrors hdue => (twinIf_up s _ _ hup htwin (by simp [hmirrors, hdue]) : execTwinPeriodSync s = _),
    fun htwin hsync => (twinIf_up s _ _ hup htwin hsync : execBulkCopyDone s = _),
    fun htwin hrole hreleased htime => (twinIf_up s _ _ hup htwin (by simp [hrole, hreleased, htime]) : execLeaseRenew s = _),
    fun htwin hrole htime => (twinIf_up s _ _ hup htwin (by simp [hrole, htime]) : execLeaseHello s = _),
    fun sess t seq term pair hwitness => (onMainIf_up s _ _ hup hwitness : execLeaseGrant sess t seq term pair s = _),
    fun _ _ seq term htwin hready hawaited hrole => (Dev.leaseGrant_awaited seq term htwin hready hawaited).trans (if_pos hrole),
    fun u _ term htwin hready hawaited hrole hreleased hbefore =>
      ((Dev.leaseGrant_awaited (u.obj Obj.LEASE_SEQ) term htwin hready hawaited).trans (if_neg (by omega))).trans
        (if_pos ⟨hrole, hreleased, rfl, hbefore⟩),
    fun sess rs pair seq term hwitness => (onMainIf_up s _ _ hup hwitness : execLeaseTakeoverGrant sess rs pair seq term s = _),
    fun _ key rs _ _ term hready hgood hrole => (Dev.takeoverGrant_good key rs term hready hgood).trans (if_pos hrole),
    fun _ key rs _ _ term hready hbad => Dev.takeoverGrant_bad key rs term hready hbad,
    fun _ key rs _ _ term hready hgood hrole => (Dev.takeoverGrant_good key rs term hready hgood).trans (if_neg (by omega)),
    fun _ _ _ htwin hpiece htake hrole hdue => exec_takeoverStart hup htwin hpiece htake hrole hdue,
    fun _ _ _ htwin hpiece htake hrole hdue => exec_takeoverActivate hup htwin hpiece htake hrole hdue,
    fun _ _ htwin hannounce hrole hdue => exec_identityAnnounce hup htwin hannounce hrole hdue,
    fun stays htwin hrole => (always_next (if_pos (by rw [hup, htwin, bne_iff_ne.mpr hrole]; rfl)) : execFenceNAssert stays s = _),
    fun htwin hrole hswitching hreleased hsent =>
      (twinIf_up s _ _ hup htwin (by rw [hrole, hswitching, hreleased, hsent]; rfl) : execLeaseRelease s = _)⟩

/-! ### Sideband signals -/

/-- LED_TEST of one of the four LEDs (R485). -/
theorem exec_ledTest {s : State} {i : Nat} (level : Nat) (phase held : Bool) (hvaux : s.power.vaux = true) (hi : i < 4) :
    exec (.ledTest i level phase held) s = .next (s.after (
      if ledResult (s.ledOn i phase) level ≠ 0 ∧ held = true then
        (s.setObj Obj.LED_STATUS i (ledResult (s.ledOn i phase) level)).notify 0x10B2 Obj.LED_STATUS i
      else s.setObj Obj.LED_STATUS i (ledResult (s.ledOn i phase) level))) := by
  change execLedTest i level phase held s = _
  exact always_next (if_pos (by rw [hvaux, decide_eq_true hi, Bool.and_self]))

/-- Settles O60: the auxiliary supply is the guard of the pins, and the main domain that of the Ethernet reference. -/
theorem completesSignals : Obligations.CompletesSignals := fun s =>
  ⟨fun hup =>
    ⟨fun hoff => (onMainIf_up s _ _ hup (by rw [hoff]; rfl) : execEthrefAbsent s = _),
      fun hon => (onMainIf_up s _ _ hup hon : execEthrefReturn s = _)⟩,
    fun _ hvaux hline hnew hfence htrip => exec_openDrainStuck hvaux hline hnew hfence htrip,
    fun _ hvaux hline => exec_stuckOutputClear hvaux hline,
    fun _ level phase held hvaux hi => exec_ledTest level phase held hvaux hi,
    fun pmb hvaux hnew => (always_next (if_pos (by rw [hvaux, hnew]; rfl)) : execBusStuck pmb s = _),
    fun pmb hvaux => (always_next (if_pos hvaux) : execBusStuckClear pmb s = _),
    rfl,
    fun hvaux => (always_next (if_pos hvaux) : execPmbAlert s = _)⟩

end Sys2Proof.Machine
end
